-- ==== Sys2Proof/Word.lean ====
section
/-! DEFINITION. The word types of the hub: bytes of frames and tanks, 32-bit register words, 64-bit Windlass registers. -/
namespace Sys2Proof

/-- One byte of a frame, a tank, or a request. -/
abbrev Byte := BitVec 8
/-- One register word (R12). -/
abbrev W32 := BitVec 32
/-- One Windlass general register (R210). -/
abbrev W64 := BitVec 64
/-- A byte string, first byte first. -/
abbrev Bytes := List Byte

end Sys2Proof
end

