-- ==== Sys2Proof/Syntax.lean ====
section
/-! DEFINITION. The commands of the hub: one constructor for each row of the opcode table, with the row's operands. -/
namespace Sys2Proof

/-- The levels of the strap pins sampled in start-up step 2 (R1, R514). -/
structure Straps where
  dock : Bool
  casId : Nat
  bootSrc : Nat
deriving DecidableEq, Repr

/-- What the boot ROM finds when it reads one image of the boot flash (R515). -/
structure Image where
  sigOk : Bool
  fits : Bool
  secVer : Nat
  version : Nat
  build : Nat
  barSlot : Nat
  /-- Programs for tank 1 pages 0 to 31, from tank 1 offset 0 (R28, R196). -/
  sysProg : Bytes
  /-- System contexts that the image starts, with their entries (R28). -/
  sysCtx : List (Nat × Nat)
deriving DecidableEq, Repr

/-- Wake sources from Dry (R506). -/
inductive WakeSrc where
  | wakeN | timer | light | tamper
deriving DecidableEq, Repr

/-- A training-set record (R63), its fields as received. -/
structure TrainRec where
  lane : Nat := 0
  lmask : Nat := 0
  maxr : Nat := 0
  fec : Nat := 0
  role : Nat := 0
  rate : Nat := 0
  res : Nat := 0
  eqMode : Nat := 0
  eqPre : Nat := 0
  eqMain : Nat := 0
  eqPost : Nat := 0
  stepAt : Nat := 0
  round : Nat := 0
deriving DecidableEq, Repr

/-- Why a receive lane is faulted (R74, R77). -/
inductive LaneFaultKind where
  | los | lol | burst | exit
deriving DecidableEq, Repr

/-- A slice record of the dock hub, as reconciliation carries it (R298). -/
structure SliceRec where
  slice : Nat
  bound : Bool
  pasid : Nat
  gen : Nat
deriving DecidableEq, Repr

/-- What the unit behind an executing bucket command has answered when the command ends (R36): nothing is needed, the unit
does not answer, it answers with bytes, or it says no. -/
inductive BktIo where
  | done | noAnswer | refused
  | bytes (b : Bytes)
deriving DecidableEq, Repr

/-- How a fabric request ended at its target (R277, R285). -/
inductive CplStatus where
  | ok | unsupported | abort
deriving DecidableEq, Repr

/-- The data of a write as it arrives, and whether it is poisoned. -/
structure WriteData where
  bytes : Bytes
  poisoned : Bool := false
deriving DecidableEq, Repr

/-- A delayed request as it arrives at its target member (R283): its target is host memory, or a hub and a space as a window's
descriptor names them, hub 0 being the member itself (R273). -/
structure DelayedReq where
  requester : Nat
  tag : Nat
  toHost : Bool
  hub : Nat
  space : Nat
  slice : Nat
  gen : Nat
  write : Bool
  addr : Nat
  len : Nat
  data : Bytes
  /-- The requester sends it again. -/
  again : Bool := false
deriving DecidableEq, Repr

/-- What a partner presents on the CC lines of a spout (R321, R322, R324). -/
structure CcState where
  /-- The partner's termination: none, Rd, or Rp with its advertisement 1 to 3. -/
  rd : Bool
  rp : Nat
  /-- Ra is seen on the other CC line. -/
  ra : Bool
  /-- The termination is on CC2. -/
  cc2 : Bool
deriving DecidableEq, Repr

/-- The discovery messages of Structured VDM (R331, R340). -/
inductive DiscKind where
  | identity | cableIdentity | svids | modes
deriving DecidableEq, Repr

/-- How one USB transaction of an endpoint ended (R377 to R380). -/
inductive UsbResult where
  | inData (d : Bytes) (short : Bool)
  | ack | nak | nyet | pingAck | pingNak | stall | babble | error | missed
  | splitAck | splitNyet
deriving DecidableEq, Repr

/-- How training of a display output ended (R424). -/
inductive TrainEnd where
  | active | linkFail | noEdid | sink
deriving DecidableEq, Repr

/-- The tamper sources of R457. -/
inductive TamperSrc where
  | mesh (k : Nat) | encl | supply | temp | refclk
deriving DecidableEq, Repr

/-- The function-field modifiers S and W of an ALU instruction (R218). -/
structure AluMod where
  setFlags : Bool
  w32 : Bool
deriving DecidableEq, Repr

/-- A command to the hub: one row of the opcode table. In a bucket command `ch` is the channel, `seq` the sequence number and
`args` the request bytes 4 to 63. In a register write `sl` is the slice the access acts for and `v` the word written. In a
Windlass instruction `p` and `t` name the pump and the thread that issues it; the other operands are the instruction's fields. -/
inductive Instr where
  -- power, clocks, start-up (19)
  | porstNRelease (straps : Straps)
  | rootPllLock
  | firmwareAuthenticated (primary secondary : Option Image)
  | systemContextStart
  | porstNAssert
  | powerFail
  | powerRestore (straps : Straps)
  | watchdogExpiry
  | clkWarmReset (ch seq : Nat) (args : Bytes)
  | clkDryEnter (ch seq : Nat) (args : Bytes)
  | dryDischargeDone
  | wakeSource (src : WakeSrc)
  | dryWake (straps : Straps) (drySec : Nat)
  | drowseEnWrite (sl : Nat) (v : W32)
  | domainIdleGate (d : Nat)
  | domainWakeDone (d : Nat)
  | lpoTrim (errPpm : Int)
  | pllLockLost (inst : Nat)
  | refclkLost (rootPll : Bool)
  | flashCopyDone (slot0Blank slot1Blank : Bool)
  | endpointReset (hold : Bool)
  -- the hub as a whole (01)
  | echo (ch seq : Nat) (args : Bytes)
  | fwInfo (ch seq : Nat) (args : Bytes)
  | bucketComplete (io : BktIo)
  | registerWrite (sl addr width : Nat) (v : W64)
  | lowWordReadLatch (sl addr : Nat)
  -- trunk lanes and priming (02)
  | laneSignalDetect (n : Nat)
  | primingStateTimeout
  | primingTimeout
  | primingRestartTimer
  | trkPrime (sl : Nat) (v : W32)
  | laneLock (n : Nat) (inverted : Bool)
  | ts1 (n : Nat) (r : TrainRec)
  | ts2 (n : Nat) (r : TrainRec)
  | eqReq (n : Nat) (r : TrainRec)
  | eqAck (n : Nat) (r : TrainRec)
  | stepRec (r : TrainRec)
  | rateChange
  | result (r : TrainRec)
  | stepCheckComplete (failMask : Nat)
  | ready (dockRecs : List SliceRec)
  | trkOeEnWrite (sl : Nat) (v : W32)
  | oeFault
  | oeLos
  | l0qIdleTimeout
  | trkL2dReqWrite (sl : Nat) (v : W32)
  | l2dReq
  | l2dAck (refused : Bool)
  | prbsError (n : Nat)
  | laneQualified (n : Nat)
  | laneFault (n : Nat) (kind : LaneFaultKind)
  | trkLaneReadmit (ch seq : Nat) (args : Bytes)
  | trkOeRead (ch seq : Nat) (args : Bytes)
  | trkOeWrite (ch seq : Nat) (args : Bytes)
  | prbsClr (sl n : Nat) (v : W32)
  | injPrbsErr (sl n : Nat) (v : W32)
  -- Conduit protocol (03); port 0 is the trunk, 1 to 3 the cascade links
  -- FLIT_RECEIVE: a flit's header and body, and what the decoder made of the codeword that it begins (R87)
  | flitReceive (port : Nat) (header body : Bytes) (uncorrectable : Bool) (symbols : Nat)
  | nak (port : Nat) (raw : Bytes)
  | flitSlot (port : Nat)
  | replayTimeout (port : Nat)
  | nakHoldExpiry (port : Nat)
  | packWindowExpiry (port : Nat)
  | aseqIdleTimeout
  | laneDrop (epoch lane mask : Nat)
  | fallbackAnn (epoch lanes tbl cycle : Nat)
  | swapRec (tbl lanes cycle : Nat)
  | creditSync (port ctl spo : Nat)
  -- STBY_STATE_RECEIVE: used and taken are of CTL and of SPO
  | stbyStateReceive (e next ctl spo : Nat) (used taken : Nat × Nat)
  | stbyFlitForward (lseq : Nat) (cls : Nat) (body : Bytes) (ftype segn : Nat)
  | stbyTake (e next ctl spo : Nat)
  | cntClr (sl : Nat) (v : W32)
  | injHcrc (sl : Nat) (v : W32)
  | injUncorr (sl : Nat) (v : W32)
  -- allotment (04)
  | cycleBoundary
  | altCalCommit (ch seq : Nat) (args : Bytes)
  | altSwap (ch seq : Nat) (args : Bytes)
  | altProfile (ch seq : Nat) (args : Bytes)
  | altCalEntWrite (sl bank lanes slot : Nat) (v : W32)
  | altCalPhaseWrite (sl : Nat) (v : W32)
  | refillTick
  | shaperShadowWrite (sl n off : Nat) (v : W32)
  | portSchedule (port : Nat)
  | frameTransmitDone (port : Nat)
  | gateTransition (n : Nat)
  | cfgChange (sl n : Nat) (v : W32)
  | gclChangeTime (n : Nat)
  -- cistern and wells (05)
  | frameIngress (port : Nat) (data : Bytes)
  | welCfgWrite (sl n : Nat) (v : W32)
  | welMarkWrite (sl n : Nat) (low : Bool) (v : W32)
  | ageSweep
  | welFlush (ch seq : Nat) (args : Bytes)
  | dipperEnable (sl : Nat) (v : W32)
  | dipperRecordWritten
  -- pumps and contexts (06)
  | chainDispatch (p t : Nat)
  | icacheFillDone (p t : Nat)
  | longOperationDone (p t : Nat)
  | ctxStateWrite (sl c : Nat) (v : W32)
  | ctxRecordWrite (sl c off : Nat) (v : W32)
  | loadWindowWrite (sl win word : Nat) (v : W32)
  | pmpPageAssign (ch seq : Nat) (args : Bytes)
  | pmpPageOpen (ch seq : Nat) (args : Bytes)
  | pmpPageSeal (ch seq : Nat) (args : Bytes)
  | pmpPageFree (ch seq : Nat) (args : Bytes)
  | contextTimerExpiry (c k : Nat)
  | parkTimeReached (p t : Nat)
  -- Windlass core (07)
  | wIll (p t : Nat) (word : W32)
  | wAdd (p t : Nat) (gd ga gb : BitVec 4) (m : AluMod)
  | wSub (p t : Nat) (gd ga gb : BitVec 4) (m : AluMod)
  | wAnd (p t : Nat) (gd ga gb : BitVec 4) (m : AluMod)
  | wOr (p t : Nat) (gd ga gb : BitVec 4) (m : AluMod)
  | wXor (p t : Nat) (gd ga gb : BitVec 4) (m : AluMod)
  | wAndn (p t : Nat) (gd ga gb : BitVec 4) (m : AluMod)
  | wSll (p t : Nat) (gd ga gb : BitVec 4) (m : AluMod)
  | wSrl (p t : Nat) (gd ga gb : BitVec 4) (m : AluMod)
  | wSra (p t : Nat) (gd ga gb : BitVec 4) (m : AluMod)
  | wRol (p t : Nat) (gd ga gb : BitVec 4) (m : AluMod)
  | wRor (p t : Nat) (gd ga gb : BitVec 4) (m : AluMod)
  | wMul (p t : Nat) (gd ga gb : BitVec 4) (m : AluMod)
  | wMulhu (p t : Nat) (gd ga gb : BitVec 4) (m : AluMod)
  | wMin (p t : Nat) (gd ga gb : BitVec 4) (m : AluMod)
  | wMax (p t : Nat) (gd ga gb : BitVec 4) (m : AluMod)
  | wMinu (p t : Nat) (gd ga gb : BitVec 4) (m : AluMod)
  | wMaxu (p t : Nat) (gd ga gb : BitVec 4) (m : AluMod)
  | wClz (p t : Nat) (gd ga : BitVec 4) (m : AluMod)
  | wCtz (p t : Nat) (gd ga : BitVec 4) (m : AluMod)
  | wPopc (p t : Nat) (gd ga : BitVec 4) (m : AluMod)
  | wBswap (p t : Nat) (gd ga : BitVec 4) (m : AluMod)
  | wCsel (p t : Nat) (gd ga gb cond : BitVec 4) (m : AluMod)
  | wAddc (p t : Nat) (gd ga gb : BitVec 4) (m : AluMod)
  | wSubb (p t : Nat) (gd ga gb : BitVec 4) (m : AluMod)
  | wBfx (p t : Nat) (gd ga : BitVec 4) (pos wm1 : BitVec 6) (sx : Bool)
  | wBfi (p t : Nat) (gd ga : BitVec 4) (pos wm1 : BitVec 6)
  | wAddi (p t : Nat) (gd ga : BitVec 4) (imm : BitVec 18)
  | wAndi (p t : Nat) (gd ga : BitVec 4) (imm : BitVec 18)
  | wOri (p t : Nat) (gd ga : BitVec 4) (imm : BitVec 18)
  | wXori (p t : Nat) (gd ga : BitVec 4) (imm : BitVec 18)
  | wShor (p t : Nat) (gd ga : BitVec 4) (imm : BitVec 18)
  | wSlli (p t : Nat) (gd ga : BitVec 4) (imm : BitVec 18)
  | wSrli (p t : Nat) (gd ga : BitVec 4) (imm : BitVec 18)
  | wSrai (p t : Nat) (gd ga : BitVec 4) (imm : BitVec 18)
  | wCmpi (p t : Nat) (ga : BitVec 4) (imm : BitVec 18)
  | wBeq (p t : Nat) (ga gb : BitVec 4) (off : BitVec 18)
  | wBne (p t : Nat) (ga gb : BitVec 4) (off : BitVec 18)
  | wBlt (p t : Nat) (ga gb : BitVec 4) (off : BitVec 18)
  | wBge (p t : Nat) (ga gb : BitVec 4) (off : BitVec 18)
  | wBltu (p t : Nat) (ga gb : BitVec 4) (off : BitVec 18)
  | wBgeu (p t : Nat) (ga gb : BitVec 4) (off : BitVec 18)
  | wBc (p t : Nat) (cond : BitVec 4) (off : BitVec 18)
  | wJ (p t : Nat) (off : BitVec 26)
  | wJl (p t : Nat) (gd : BitVec 4) (off : BitVec 18)
  | wJalr (p t : Nat) (gd ga : BitVec 4)
  | wMfs (p t : Nat) (gd : BitVec 4) (sel : BitVec 14)
  | wMts (p t : Nat) (ga : BitVec 4) (sel : BitVec 14)
  | wLd8 (p t : Nat) (gd ga : BitVec 4) (imm : BitVec 18)
  | wLd16 (p t : Nat) (gd ga : BitVec 4) (imm : BitVec 18)
  | wLd32 (p t : Nat) (gd ga : BitVec 4) (imm : BitVec 18)
  | wLd64 (p t : Nat) (gd ga : BitVec 4) (imm : BitVec 18)
  | wLd8s (p t : Nat) (gd ga : BitVec 4) (imm : BitVec 18)
  | wLd16s (p t : Nat) (gd ga : BitVec 4) (imm : BitVec 18)
  | wLd32s (p t : Nat) (gd ga : BitVec 4) (imm : BitVec 18)
  | wSt8 (p t : Nat) (gd ga : BitVec 4) (imm : BitVec 18)
  | wSt16 (p t : Nat) (gd ga : BitVec 4) (imm : BitVec 18)
  | wSt32 (p t : Nat) (gd ga : BitVec 4) (imm : BitVec 18)
  | wSt64 (p t : Nat) (gd ga : BitVec 4) (imm : BitVec 18)
  | wWld (p t : Nat) (gd : BitVec 4) (off : BitVec 8) (size : BitVec 3) (gx : BitVec 4)
  | wWlds (p t : Nat) (gd : BitVec 4) (off : BitVec 8) (size : BitVec 3) (gx : BitVec 4)
  | wWst (p t : Nat) (gd : BitVec 4) (off : BitVec 8) (size : BitVec 3) (gx : BitVec 4)
  | wWcmp (p t : Nat) (gd : BitVec 4) (off : BitVec 8) (size : BitVec 3) (gx : BitVec 4)
  -- Windlass tunnel operations (08)
  | wFetch (p t : Nat) (gd ga gb : BitVec 4) (nm1 : BitVec 8)
  | wPut (p t : Nat) (gd ga gb : BitVec 4) (nm1 : BitVec 8)
  | wTrim (p t : Nat) (gd ga : BitVec 4)
  | wPrep (p t : Nat) (gd ga : BitVec 4)
  | wApnd (p t : Nat) (gd ga : BitVec 4) (nm1 : BitVec 8)
  | wCut (p t : Nat) (gd ga : BitVec 4)
  | wLen (p t : Nat) (gd : BitVec 4)
  | wLkpx (p t : Nat) (gd ga gb : BitVec 4) (k : BitVec 4)
  | wLkpd (p t : Nat) (gd ga gb : BitVec 4) (k : BitVec 4)
  | wHash (p t : Nat) (gd ga gb : BitVec 4)
  | wCrc32c (p t : Nat) (gd ga gb : BitVec 4) (fin : Bool)
  | wCrc16 (p t : Nat) (gd ga gb : BitVec 4) (fin : Bool)
  | wSeal (p t : Nat) (gd ga gb : BitVec 4)
  | wOpen (p t : Nat) (gd ga gb : BitVec 4)
  | wEnq (p t : Nat) (ga gb : BitVec 4) (d l c : Bool)
  | wFwd (p t : Nat) (ga gb : BitVec 4) (c : Bool)
  | wMsg (p t : Nat) (gd ga gb : BitVec 4)
  | wCld (p t : Nat) (gd ga : BitVec 4) (self : Bool) (w : BitVec 3)
  | wCst (p t : Nat) (gd ga gb : BitVec 4) (self : Bool) (w : BitVec 3)
  | wCadd (p t : Nat) (gd ga gb : BitVec 4) (self : Bool) (w : BitVec 3)
  | wCand (p t : Nat) (gd ga gb : BitVec 4) (self : Bool) (w : BitVec 3)
  | wCor (p t : Nat) (gd ga gb : BitVec 4) (self : Bool) (w : BitVec 3)
  | wCxch (p t : Nat) (gd ga gb : BitVec 4) (self : Bool) (w : BitVec 3)
  | wCcas (p t : Nat) (gd ga gb : BitVec 4) (self : Bool) (w : BitVec 3)
  | wTset (p t : Nat) (ga gb : BitVec 4) (k : BitVec 2)
  | wTseta (p t : Nat) (ga gb : BitVec 4) (k : BitVec 2)
  | wTclr (p t : Nat) (gd : BitVec 4) (k : BitVec 2)
  | wYld (p t : Nat) (ga : BitVec 4) (cond : BitVec 2)
  | wEnd (p t : Nat)
  | wDrop (p t : Nat)
  | wTrap (p t : Nat)
  -- host bridge and message routing (09); window none is BAR0
  | hostRead (win : Option Nat) (off len : Nat)
  | hostWrite (win : Option Nat) (off : Nat) (data : WriteData)
  | completionReceive (up : Bool) (tag gen : Nat) (st : CplStatus) (data : Bytes)
  | readTimeout (tag : Nat)
  | abandonedTagExpiry (up : Bool) (tag : Nat)
  | delayedRequestReceive (r : DelayedReq)
  | retryAnswer (tag : Nat)
  | delayedResend (tag : Nat)
  | drdTimeout (slot : Nat)
  | orderingModeChange
  | lateFaultReport (cause win slice gen tag addr : Nat)
  | lfPop (sl : Nat) (v : W32)
  | brgWinCfgWrite (sl n off : Nat) (v : W32)
  | compatWrite (sl : Nat) (v : W32)
  | messageDelivery
  | remoteMessageReceive (src : Nat) (body : Bytes)
  | msixUnmask (sl vec : Nat) (v : W32)
  | msgRtWrite (sl i : Nat) (v : W32)
  | msgRtSet (ch seq : Nat) (args : Bytes)
  | msgRtGet (ch seq : Nat) (args : Bytes)
  -- slices (10)
  | slcBind (ch seq : Nat) (args : Bytes)
  | slcReset (ch seq : Nat) (args : Bytes)
  | slcRemove (ch seq : Nat) (args : Bytes)
  | sliceResetNotice (remove : Bool) (slice : Nat)
  | sliceResetReport (hub : Nat)
  | sliceResetBound
  -- spouts (11)
  | drpToggle (n : Nat)
  | ccTerminationChange (n : Nat) (cc : CcState)
  | attachDebounceExpiry (n : Nat)
  | detachDebounceExpiry (n : Nat)
  | moistureCheckDue (n : Nat)
  | moistureCheckDone (n : Nat) (yx g : List Nat)
  | leakLogDay (n : Nat)
  | request (n objpos iop : Nat)
  | voutSettled (n : Nat)
  | contractSettleTimeout (n : Nat)
  | prSwap (n : Nat)
  | drSwap (n : Nat)
  | vconnSwap (n : Nat)
  | accept (n : Nat)
  | reject (n : Nat)
  | waitAnswer (n : Nat)
  | psRdy (n : Nat)
  | hardReset (n : Nat)
  | softReset (n : Nat)
  | getSourceCap (n : Nat)
  | getStatus (n : Nat)
  | notSupportedAnswer (n : Nat)
  | discoverResponse (n : Nat) (kind : DiscKind) (vdos : List Nat)
  | enterModeAck (n : Nat)
  | enterModeNak (n : Nat)
  | attention (n : Nat) (hpd irqLinkLost : Bool)
  | swapRetryTimer (n : Nat)
  | sptPolicyWrite (sl n : Nat) (v : W32)
  | sptPdoWrite (sl n i : Nat) (v : W32)
  | sptCfgWrite (sl n : Nat) (v : W32)
  | sptMode (ch seq : Nat) (args : Bytes)
  | sptHardReset (ch seq : Nat) (args : Bytes)
  | sptDiscRead (ch seq : Nat) (args : Bytes)
  | samLinkUp (n : Nat)
  | samFrameReceive (n : Nat) (raw : Bytes)
  -- spout power path (12); voltages in 10 mV, currents in mA
  | hswSample (n vin vout : Nat) (cur : Int) (senseOpen : Bool)
  | insertionDelayElapsed (n : Nat)
  | prechargeTimeout (n : Nat)
  | settleTimeout (n : Nat)
  | vselWindowTimeout (n : Nat)
  | overcurrentClear (n : Nat)
  | faultTimerExpiry (n : Nat)
  | shortCircuitTrip (n : Nat)
  | retryTimerExpiry (n : Nat)
  | powerGoodSecond (n : Nat)
  | retryMaxWrite (sl n : Nat) (v : W32)
  | clrLatch (sl n : Nat) (v : W32)
  | injSc (sl n : Nat) (v : W32)
  | ccOvpDetect (n : Nat)
  | senseOkRestore (n : Nat)
  | cabinetReversed
  | pfwAssert
  | pfwClear
  -- USB (13)
  | doorbellPoll (k : Nat) (arr : Bytes)
  | descriptorFetchDone (k ring : Nat) (descs : List Bytes)
  | epConfig (k slot : Nat) (rec : Bytes)
  | epDisable (k slot : Nat)
  | epReset (k slot : Nat)
  | epStop (k slot : Nat)
  | setDeq (k slot param : Nat)
  | portReset (k port : Nat)
  | portSuspend (k port : Nat)
  | portResume (k port : Nat)
  | busSuspend (k : Nat)
  | busResume (k : Nat)
  | ttClear (k slot port : Nat)
  | busReset (k : Nat)
  | ringErr (k ring : Nat)
  | usbTransactionResult (k slot : Nat) (r : UsbResult)
  | portResetEnd (k port speed : Nat)
  | resumeEnd (k port : Nat)
  | suspendIdle (k port : Nat)
  | remoteWake (k port : Nat)
  | usbConnectChange (k port : Nat) (conn : Bool) (speed : Nat)
  | usbBusCfgWrite (sl k : Nat) (v : W32)
  | usbSptMapWrite (sl n : Nat) (v : W32)
  | injXact (sl k : Nat) (v : W32)
  -- Ethernet and storage (14)
  | ethFrameReceive (n : Nat) (data : Bytes) (fcsOk : Bool)
  | pauseFrameReceive (n : Nat) (pfc : Bool) (vector : Nat) (quanta : List Nat)
  | pauseHoldExpiry (n : Nat)
  | flowControlRepeat (n : Nat)
  | ethLinkChange (n : Nat) (up : Bool) (speed : Nat)
  | ethPhyInterrupt (n : Nat)
  | mdioGo (sl : Nat) (v : W32)
  | mdioDone (data : Nat)
  | txtsPop (sl n : Nat) (v : W32)
  | hubTimeStep (newTime : Nat) (offset : Int)
  | deviceRequest (m : Nat) (write : Bool) (addr len : Nat) (data : WriteData)
  | rootPortErrorMessage (m : Nat)
  | rootPortLinkChange (m : Nat) (up : Bool) (gen width : Nat)
  | configAccess (m fn off : Nat) (write : Bool) (v : W32)
  | configCompletion (m : Nat) (st : CplStatus) (data : W32)
  -- display engine (15)
  | lineRecordReceive (sl : Nat) (rec : Bytes)
  | lineStart
  | commit (sl : Nat) (v : W32)
  | dspLayerEnable (sl layer : Nat) (v : W32)
  | dspOutCfgWrite (sl n : Nat) (v : W32)
  | outputTrainDone (n : Nat) (e : TrainEnd)
  -- cascade (16)
  | casPortStart (port : Nat)
  | casLockTimeout (port : Nat)
  | casRestartTimer (port : Nat)
  | hello (port casId role links trunk : Nat) (dockRecs : List SliceRec)
  | casLinkFault (port : Nat)
  | casSilenceTimeout (port : Nat)
  | linkState (port casId role links trunk : Nat)
  | memberDownTimeout (m : Nat)
  | casGrpSwap (ch seq : Nat) (args : Bytes)
  | casGrpInfo (ch seq : Nat) (args : Bytes)
  | gswapPrep (port req bank time : Nat)
  | gswapAck (port req : Nat) (refuse : Bool)
  | gswapCommit (port req : Nat)
  | gswapAbort (port req : Nat)
  | gswapTimeout
  | gswapPrepDiscard
  | injDownWrite (sl port : Nat) (v : W32)
  -- vault (17)
  | tamper (src : TamperSrc)
  | tamperInject (sl : Nat) (v : W32)
  | remaskPass
  | trngHealthFail
  | nonceExpiry
  | secInfo (ch seq : Nat) (args : Bytes)
  | secOwnerSet (ch seq : Nat) (args : Bytes)
  | secRootGen (ch seq : Nat) (args : Bytes)
  | secLcChallenge (ch seq : Nat) (args : Bytes)
  | secTokenPut (ch seq : Nat) (args : Bytes)
  | secLcChange (ch seq : Nat) (args : Bytes)
  | secDebugClose (ch seq : Nat) (args : Bytes)
  | secKeyAssign (ch seq : Nat) (args : Bytes)
  | secKeyLoad (ch seq : Nat) (args : Bytes)
  | secKeyDerive (ch seq : Nat) (args : Bytes)
  | secKeyWrap (ch seq : Nat) (args : Bytes)
  | secKeyUnwrap (ch seq : Nat) (args : Bytes)
  | secKeyZero (ch seq : Nat) (args : Bytes)
  | secKeyInfo (ch seq : Nat) (args : Bytes)
  | secureWipeDone
  -- tanks and the bailer port (18)
  | bailReadStatus
  | bailReadId
  | bailRead (addr len : Nat) (collide : List Nat)
  | bailWrite (addr : Nat) (data : Bytes)
  | bailDoorbell (data : Bytes)
  | tnkInfo (ch seq : Nat) (args : Bytes)
  -- faults and diagnostics (20)
  | faultHandlingDone
  | fabricTimeout (block : Nat)
  | junctionTempCrossing (temp : Int)
  | fltInjGo (sl : Nat) (v : W32)
  | fltRecover (ch seq : Nat) (args : Bytes)
  | fltInputRearm (ch seq : Nat) (args : Bytes)
  | fltBistRun (ch seq : Nat) (args : Bytes)
  | fltLogThaw (ch seq : Nat) (args : Bytes)
  | bistSectorDone (sig : W32) (golden : W32)
  | bistSectorTimeout
  | inputActiveEdge (i : Nat)
  | inputStuck (i : Nat)
  | inputUnstuck (i : Nat)
  -- events that the table lists last
  | sourceCapabilities (n : Nat)
  | getSinkCap (n : Nat)
  | exitModeAck (n : Nat)
  | hardResetVbusRestore (n : Nat)
  | tryTimeout (n : Nat)
  | errorRecoveryTimeout (n : Nat)
  | vbusSenseChange (n : Nat) (above : Bool)
  | oeLosFall
  | peerSignalDetected
  | upstreamCompletionTimeout (tag : Nat)
  -- ENDPOINT_LINK_CHANGE: the rate and width at which the link comes up; none: it goes down
  | endpointLinkChange (up : Option (Nat × Nat))
  | trngHealthRestored
  | alignmentMarker (order : List Nat)
deriving DecidableEq, Repr

end Sys2Proof
end

