-- ==== Sys2Proof/Decode.lean ====
section
/-! DEFINITION. The opcode table gives no row any bits: its rows are commands from outside the hub, not coded words. -/
namespace Sys2Proof

/-- The command that a word spells by the table's bits: none, since no row of the table has bits. (DEDUCED, log 3) -/
def decodeTableWord (nbits w : Nat) : Option Instr :=
  match nbits, w with
  | _, _ => none

end Sys2Proof
end

