-- ==== Sys2Proof/Config.lean ====
section
/-! DEFINITION. The free values of the model: what the spec leaves open although the hub goes on. None has a body, so a claim holds whatever they are. -/
namespace Sys2Proof.Config

/-- The n-th free value drawn: the model's counter gives each draw its own argument (entropy, choices of firmware, readings that
no command carries). -/
opaque freeNat : Nat → Nat

/-- R84. The 300 parity bits of the RS(544,514) codeword with a 5,140-bit message: the spec gives neither the field's polynomial
nor the generator. -/
opaque fecParity : Nat → Nat

/-- R72. Byte k of the PRBS31 continuation of a transmit lane: the spec gives neither its polynomial nor its start. -/
opaque prbsByte : Nat → Nat → Byte

/-- R158. Byte i of a cistern cell before anything has landed in it. -/
opaque cellByte : Nat → Nat → Byte

/-- R470. The fixed 256-bit test root in ROM. (DESIGN CHOICE, log 7) -/
opaque testRoot : Nat

/-- R414. The pixel x, as RGB, of a DSC line decoded at draw n: the decoder is an outside standard. -/
opaque dscPixel : Nat → Nat → Nat

/-- R414. A pixel of a YCbCr 4:2:2 pair of four bytes, as RGB: the spec gives neither byte order nor rounding. -/
opaque yccPixel : Bytes → Bool → Nat

/-- R414. An RGB565 pixel widened to RGB888. -/
opaque widen565 : Nat → Nat

end Sys2Proof.Config
end

