-- ==== Sys2Proof/Machine/Fields.lean ====
section
/-! DEFINITION. What a register field is: an address, a place in the word and a reset value (R12, R17); the access codes of R14; the rows of the register table; the reset values that depend on an array index; keyed stores in canonical form. -/
namespace Sys2Proof.Machine

/-- One register field: the word's internal address, its lowest bit, its width and its reset value. -/
structure Fld where
  addr : Nat
  lo : Nat
  w : Nat
  rst : Nat
deriving DecidableEq, Repr

/-- The key of a field in the register store: no two fields of the map share one. -/
def Fld.key (f : Fld) : Nat := f.addr * 32 + f.lo

/-- Access codes (R14). `rwc lo hi` clamps a write to `lo` to `hi`; `clr` is a read-only count that a write of any value
clears. -/
inductive Acc where
  | rw | ro | w1c | w1s | wo | clr
  | rwc (lo hi : Nat)
deriving DecidableEq, Repr

/-- One row of the register index (R552): the base address, the (stride, count) of each array index, and the fields of the
word at given indices. -/
structure RegRow where
  base : Nat
  dims : List (Nat × Nat)
  fields : (Nat → Nat) → List (Fld × Acc)

/-- The quota table of R162: the reset quota of internal port p, in cells. -/
def portQuotaReset (p : Nat) : Nat :=
  if p = 0 then 49152
  else if p ≤ 3 then 8192
  else if p ≤ 11 then 2048
  else if p ≤ 15 then 512
  else if p ≤ 27 then 0
  else if p ≤ 29 then 4096
  else if p = 30 then 0
  else if p ≤ 32 then 4096
  else if p ≤ 34 then 1024
  else 0

/-- The default level of detector d (R533). -/
def detectorDefault (d : Nat) : Nat :=
  if d ∈ [0x01, 0x02, 0x05, 0x07, 0x09, 0x0A, 0x0B, 0x0E, 0x0F, 0x18] then 5
  else if d = 0x08 then 6
  else if d ∈ [0x03, 0x13] then 4
  else if d ∈ [0x10, 0x14, 0x15, 0x16, 0x29, 0x30, 0x31, 0x32, 0x33, 0x34, 0x38] then 3
  else if d ∈ [0x0D, 0x11, 0x17, 0x19, 0x1A, 0x1B, 0x1D, 0x1E, 0x22, 0x24, 0x26, 0x2A, 0x2B, 0x36, 0x3E, 0x3F, 0x40, 0x41,
      0x42, 0x43] then 2
  else if 0 < d ∧ d ≤ 0x46 then 1
  else 0

/-- A store with default `d`, as a list of (key, value) with strictly rising keys and no value equal to the default: reading
a key. -/
def assocGet {α : Type} (d : α) : List (Nat × α) → Nat → α
  | [], _ => d
  | (k', v) :: l, k => if k = k' then v else assocGet d l k

/-- Removing a key. -/
def assocDel {α : Type} (k : Nat) : List (Nat × α) → List (Nat × α)
  | [] => []
  | (k', v) :: l => if k = k' then assocDel k l else (k', v) :: assocDel k l

/-- Placing a value at a key, in key order. -/
def assocPut {α : Type} (k : Nat) (v : α) : List (Nat × α) → List (Nat × α)
  | [] => [(k, v)]
  | (k', v') :: l =>
    if k = k' then (k, v) :: l
    else if k < k' then (k, v) :: (k', v') :: l
    else (k', v') :: assocPut k v l

/-- Writing a key: the default value removes the entry, so that equal stores are equal lists. -/
def assocSet {α : Type} [DecidableEq α] (d : α) (k : Nat) (v : α) (l : List (Nat × α)) : List (Nat × α) :=
  if v = d then assocDel k l else assocPut k v l

/-- The canonical form: keys strictly rise and no entry holds its default. -/
def assocWf {α : Type} [DecidableEq α] (d : Nat → α) : List (Nat × α) → Bool
  | [] => true
  | [(k, v)] => decide (v ≠ d k)
  | (k, v) :: (k', v') :: l => decide (v ≠ d k) && decide (k < k') && assocWf d ((k', v') :: l)

end Sys2Proof.Machine
end

