-- ==== Sys2Proof/Machine/RegNames.lean ====
section
/-! DEFINITION. The named register fields of the hub, from the register tables of the spec: address, low bit, width and reset value of each. -/
namespace Sys2Proof.Machine

def GLB_BKT_REQ_DATA (ch i : Nat) : Fld := ⟨0x10004000 + ch * 0x100 + i * 0x4, 0, 32, 0⟩
def GLB_BKT_RSP_DATA (ch i : Nat) : Fld := ⟨0x10004040 + ch * 0x100 + i * 0x4, 0, 32, 0⟩
def GLB_BKT_CTRL_IRQ_EN (ch : Nat) : Fld := ⟨0x10004080 + ch * 0x100, 1, 1, 0⟩
def GLB_BKT_CTRL_GO (ch : Nat) : Fld := ⟨0x10004080 + ch * 0x100, 0, 1, 0⟩
def GLB_BKT_STAT_LAST_SEQ (ch : Nat) : Fld := ⟨0x10004084 + ch * 0x100, 16, 16, 0⟩
def GLB_BKT_STAT_REJ (ch : Nat) : Fld := ⟨0x10004084 + ch * 0x100, 2, 1, 0⟩
def GLB_BKT_STAT_DONE (ch : Nat) : Fld := ⟨0x10004084 + ch * 0x100, 1, 1, 0⟩
def GLB_BKT_STAT_BUSY (ch : Nat) : Fld := ⟨0x10004084 + ch * 0x100, 0, 1, 0⟩
def GLB_HUB_STAT_STBY_ACT : Fld := ⟨0x10000100, 5, 1, 0⟩
def GLB_HUB_STAT_STBY_HELD : Fld := ⟨0x10000100, 4, 1, 0⟩
def GLB_HUB_STAT_ISLAND : Fld := ⟨0x10000100, 3, 1, 0⟩
def GLB_HUB_STAT_TRK_UP : Fld := ⟨0x10000100, 2, 1, 0⟩
def GLB_HUB_STAT_SYS_RUN : Fld := ⟨0x10000100, 1, 1, 0⟩
def GLB_HUB_STAT_ROLE : Fld := ⟨0x10000100, 0, 1, 0⟩
def TRK_CTRL_LANE_EN : Fld := ⟨0x10020000, 8, 4, 15⟩
def TRK_CTRL_PRESET : Fld := ⟨0x10020000, 4, 3, 1⟩
def TRK_CTRL_MAX_RATE : Fld := ⟨0x10020000, 2, 2, 3⟩
def TRK_CTRL_AUTO : Fld := ⟨0x10020000, 1, 1, 1⟩
def TRK_CTRL_PRIME : Fld := ⟨0x10020000, 0, 1, 0⟩
def TRK_PRIME_STAT_ATTEMPTS : Fld := ⟨0x10020004, 24, 8, 0⟩
def TRK_PRIME_STAT_CAUSE : Fld := ⟨0x10020004, 16, 4, 0⟩
def TRK_PRIME_STAT_RX_LANES : Fld := ⟨0x10020004, 12, 4, 0⟩
def TRK_PRIME_STAT_TX_LANES : Fld := ⟨0x10020004, 8, 4, 0⟩
def TRK_PRIME_STAT_RATE : Fld := ⟨0x10020004, 4, 2, 0⟩
def TRK_PRIME_STAT_STATE : Fld := ⟨0x10020004, 0, 4, 0⟩
def TRK_PRIME_TIME_TIME : Fld := ⟨0x10020008, 0, 32, 0⟩
def TRK_PWR_RX_STATE : Fld := ⟨0x1002000C, 18, 2, 0⟩
def TRK_PWR_TX_STATE : Fld := ⟨0x1002000C, 16, 2, 0⟩
def TRK_PWR_IDLE : Fld := ⟨0x1002000C, 2, 10, 10⟩
def TRK_PWR_L2D_REQ : Fld := ⟨0x1002000C, 1, 1, 0⟩
def TRK_PWR_L0Q_EN : Fld := ⟨0x1002000C, 0, 1, 0⟩
def TRK_OE_LOS_LATCH : Fld := ⟨0x10020010, 4, 1, 0⟩
def TRK_OE_FLT_LATCH : Fld := ⟨0x10020010, 3, 1, 0⟩
def TRK_OE_LOS : Fld := ⟨0x10020010, 2, 1, 0⟩
def TRK_OE_FLT : Fld := ⟨0x10020010, 1, 1, 0⟩
def TRK_OE_EN : Fld := ⟨0x10020010, 0, 1, 0⟩
def TRK_LANE_CTRL_PRBS_CLR (n : Nat) : Fld := ⟨0x10020100 + n * 0x40, 8, 1, 0⟩
def TRK_LANE_CTRL_ADAPT_HOLD (n : Nat) : Fld := ⟨0x10020100 + n * 0x40, 5, 1, 0⟩
def TRK_LANE_CTRL_EQ_OVR (n : Nat) : Fld := ⟨0x10020100 + n * 0x40, 4, 1, 0⟩
def TRK_LANE_CTRL_SQ_MODE (n : Nat) : Fld := ⟨0x10020100 + n * 0x40, 0, 2, 0⟩
def TRK_LANE_EQ_POST (n : Nat) : Fld := ⟨0x10020104 + n * 0x40, 16, 6, 10⟩
def TRK_LANE_EQ_MAIN (n : Nat) : Fld := ⟨0x10020104 + n * 0x40, 8, 6, 53⟩
def TRK_LANE_EQ_PRE (n : Nat) : Fld := ⟨0x10020104 + n * 0x40, 0, 6, 0⟩
def TRK_LANE_RXEQ0_DFE4 (n : Nat) : Fld := ⟨0x10020108 + n * 0x40, 23, 6, 0⟩
def TRK_LANE_RXEQ0_DFE3 (n : Nat) : Fld := ⟨0x10020108 + n * 0x40, 17, 6, 0⟩
def TRK_LANE_RXEQ0_DFE2 (n : Nat) : Fld := ⟨0x10020108 + n * 0x40, 11, 6, 0⟩
def TRK_LANE_RXEQ0_DFE1 (n : Nat) : Fld := ⟨0x10020108 + n * 0x40, 4, 7, 0⟩
def TRK_LANE_RXEQ0_CTLE (n : Nat) : Fld := ⟨0x10020108 + n * 0x40, 0, 4, 0⟩
def TRK_LANE_RXEQ1_DFE5 (n : Nat) : Fld := ⟨0x1002010C + n * 0x40, 0, 6, 0⟩
def TRK_LANE_STAT_REMOVED (n : Nat) : Fld := ⟨0x10020110 + n * 0x40, 17, 1, 0⟩
def TRK_LANE_STAT_PRBS_ERR (n : Nat) : Fld := ⟨0x10020110 + n * 0x40, 16, 1, 0⟩
def TRK_LANE_STAT_PSTATE (n : Nat) : Fld := ⟨0x10020110 + n * 0x40, 8, 2, 3⟩
def TRK_LANE_STAT_QUAL (n : Nat) : Fld := ⟨0x10020110 + n * 0x40, 6, 1, 0⟩
def TRK_LANE_STAT_LOGICAL (n : Nat) : Fld := ⟨0x10020110 + n * 0x40, 4, 2, 0⟩
def TRK_LANE_STAT_POL_INV (n : Nat) : Fld := ⟨0x10020110 + n * 0x40, 3, 1, 0⟩
def TRK_LANE_STAT_IN_SVC (n : Nat) : Fld := ⟨0x10020110 + n * 0x40, 2, 1, 0⟩
def TRK_LANE_STAT_LOL (n : Nat) : Fld := ⟨0x10020110 + n * 0x40, 1, 1, 0⟩
def TRK_LANE_STAT_LOS (n : Nat) : Fld := ⟨0x10020110 + n * 0x40, 0, 1, 0⟩
def TRK_LANE_THR_BURST_MAX (n : Nat) : Fld := ⟨0x10020114 + n * 0x40, 16, 8, 64⟩
def TRK_LANE_THR_LOL_SLIPS (n : Nat) : Fld := ⟨0x10020114 + n * 0x40, 12, 4, 4⟩
def TRK_LANE_THR_LOS_TIME (n : Nat) : Fld := ⟨0x10020114 + n * 0x40, 4, 5, 4⟩
def TRK_LANE_THR_LOS_LVL (n : Nat) : Fld := ⟨0x10020114 + n * 0x40, 0, 3, 2⟩
def TRK_LANE_INJ_PRBS_ERR (n : Nat) : Fld := ⟨0x10020118 + n * 0x40, 3, 1, 0⟩
def TRK_LANE_INJ_BURST (n : Nat) : Fld := ⟨0x10020118 + n * 0x40, 2, 1, 0⟩
def TRK_LANE_INJ_LOL (n : Nat) : Fld := ⟨0x10020118 + n * 0x40, 1, 1, 0⟩
def TRK_LANE_INJ_LOS (n : Nat) : Fld := ⟨0x10020118 + n * 0x40, 0, 1, 0⟩
def TRK_LANE_BITS_LO_BITS (n : Nat) : Fld := ⟨0x10020120 + n * 0x40, 0, 32, 0⟩
def TRK_LANE_BITS_HI_BITS (n : Nat) : Fld := ⟨0x10020124 + n * 0x40, 0, 32, 0⟩
def TRK_LANE_ERRS_ERRS (n : Nat) : Fld := ⟨0x10020128 + n * 0x40, 0, 32, 0⟩
def CND_CTRL_CNT_CLR : Fld := ⟨0x10030000, 31, 1, 0⟩
def CND_CTRL_PACK_WIN : Fld := ⟨0x10030000, 0, 8, 0⟩
def CND_RETRY_REPLAY_MAX : Fld := ⟨0x10030004, 24, 4, 8⟩
def CND_RETRY_NAK_HOLD : Fld := ⟨0x10030004, 12, 12, 120⟩
def CND_RETRY_TIMEOUT : Fld := ⟨0x10030004, 0, 12, 150⟩
def CND_CRED_INIT_SPO : Fld := ⟨0x10030008, 16, 16, 2048⟩
def CND_CRED_INIT_CTL : Fld := ⟨0x10030008, 0, 16, 512⟩
def CND_SEQ_TX_NEXT : Fld := ⟨0x1003000C, 16, 12, 0⟩
def CND_SEQ_RX_EXPECT : Fld := ⟨0x1003000C, 0, 12, 0⟩
def CND_REPLAY_STAT_OLD_TX : Fld := ⟨0x10030010, 24, 8, 0⟩
def CND_REPLAY_STAT_REPLAYING : Fld := ⟨0x10030010, 16, 1, 0⟩
def CND_REPLAY_STAT_HELD : Fld := ⟨0x10030010, 0, 13, 0⟩
def CND_CRED_STAT_SPO_AVAIL : Fld := ⟨0x10030014, 16, 16, 0⟩
def CND_CRED_STAT_CTL_AVAIL : Fld := ⟨0x10030014, 0, 16, 0⟩
def CND_INJ_ACK_HOLD : Fld := ⟨0x10030020, 3, 1, 0⟩
def CND_INJ_NAK_DROP : Fld := ⟨0x10030020, 2, 1, 0⟩
def CND_INJ_UNCORR : Fld := ⟨0x10030020, 1, 1, 0⟩
def CND_INJ_HCRC : Fld := ⟨0x10030020, 0, 1, 0⟩
def CND_CNT_COUNT (i : Nat) : Fld := ⟨0x10030100 + i * 0x4, 0, 32, 0⟩
def ALT_CTRL_SLEW : Fld := ⟨0x10040000, 8, 5, 16⟩
def ALT_CTRL_DEGRADE : Fld := ⟨0x10040000, 0, 1, 0⟩
def ALT_CAL_STAT_BASE : Fld := ⟨0x10040004, 24, 3, 0⟩
def ALT_CAL_STAT_VALID_B : Fld := ⟨0x10040004, 20, 4, 0⟩
def ALT_CAL_STAT_VALID_A : Fld := ⟨0x10040004, 16, 4, 0⟩
def ALT_CAL_STAT_PROFILE : Fld := ⟨0x10040004, 8, 2, 0⟩
def ALT_CAL_STAT_ALIGNED : Fld := ⟨0x10040004, 6, 1, 0⟩
def ALT_CAL_STAT_FAILOVER : Fld := ⟨0x10040004, 5, 1, 0⟩
def ALT_CAL_STAT_SWAP_ARMED : Fld := ⟨0x10040004, 4, 1, 0⟩
def ALT_CAL_STAT_TBL : Fld := ⟨0x10040004, 3, 1, 0⟩
def ALT_CAL_STAT_LANES : Fld := ⟨0x10040004, 0, 3, 0⟩
def ALT_CYCLE_CYCLE : Fld := ⟨0x10040008, 0, 32, 0⟩
def ALT_SWAP_AT_CYCLE : Fld := ⟨0x1004000C, 0, 32, 0⟩
def ALT_CAL_PHASE_PHASE : Fld := ⟨0x10040010, 0, 32, 0⟩
def ALT_PHASE_ERR_ERR : Fld := ⟨0x10040014, 0, 32, 0⟩
def ALT_CNT_COUNT (i : Nat) : Fld := ⟨0x10040020 + i * 0x4, 0, 32, 0⟩
def ALT_ALLOT_RATE_RATE (k : Nat) : Fld := ⟨0x10040100 + k * 0x10, 0, 18, 0⟩
def ALT_ALLOT_CFG_EN (k : Nat) : Fld := ⟨0x10040104 + k * 0x10, 31, 1, 0⟩
def ALT_ALLOT_CFG_SLICE (k : Nat) : Fld := ⟨0x10040104 + k * 0x10, 24, 6, 0⟩
def ALT_ALLOT_CFG_SCHED (k : Nat) : Fld := ⟨0x10040104 + k * 0x10, 16, 1, 0⟩
def ALT_ALLOT_CFG_MAXSEG (k : Nat) : Fld := ⟨0x10040104 + k * 0x10, 8, 4, 1⟩
def ALT_ALLOT_STAT_SPAN (k : Nat) : Fld := ⟨0x10040108 + k * 0x10, 16, 16, 0⟩
def ALT_ALLOT_STAT_SLOTS (k : Nat) : Fld := ⟨0x10040108 + k * 0x10, 0, 11, 0⟩
def ALT_CAL_ENT_OWN (bank ln slot : Nat) : Fld := ⟨0x10060000 + bank * 0x4000 + ln * 0x1000 + slot * 0x4, 31, 1, 0⟩
def ALT_CAL_ENT_ALLOT (bank ln slot : Nat) : Fld := ⟨0x10060000 + bank * 0x4000 + ln * 0x1000 + slot * 0x4, 0, 8, 0⟩
def ALT_GCL_CTRL_CFG_CHANGE (p : Nat) : Fld := ⟨0x10050000 + p * 0x2000, 31, 1, 0⟩
def ALT_GCL_CTRL_ENABLE (p : Nat) : Fld := ⟨0x10050000 + p * 0x2000, 30, 1, 0⟩
def ALT_GCL_CTRL_PENDING (p : Nat) : Fld := ⟨0x10050000 + p * 0x2000, 29, 1, 0⟩
def ALT_GCL_CTRL_LEN (p : Nat) : Fld := ⟨0x10050000 + p * 0x2000, 16, 9, 1⟩
def ALT_GCL_CTRL_INIT (p : Nat) : Fld := ⟨0x10050000 + p * 0x2000, 0, 8, 255⟩
def ALT_GCL_BASE_LO_BASE (p : Nat) : Fld := ⟨0x10050008 + p * 0x2000, 0, 32, 0⟩
def ALT_GCL_BASE_HI_BASE (p : Nat) : Fld := ⟨0x1005000C + p * 0x2000, 0, 32, 0⟩
def ALT_GCL_CYCLE_CYCLE (p : Nat) : Fld := ⟨0x10050010 + p * 0x2000, 0, 32, 1000000⟩
def ALT_GCL_EXT_EXT (p : Nat) : Fld := ⟨0x10050014 + p * 0x2000, 0, 32, 0⟩
def ALT_GCL_STAT_OPER_LEN (p : Nat) : Fld := ⟨0x10050018 + p * 0x2000, 16, 9, 0⟩
def ALT_GCL_STAT_CUR (p : Nat) : Fld := ⟨0x10050018 + p * 0x2000, 0, 8, 0⟩
def ALT_GCL_OVR_COUNT (p : Nat) : Fld := ⟨0x1005001C + p * 0x2000, 0, 32, 0⟩
def ALT_GCL_AS_STATES (p i : Nat) : Fld := ⟨0x10050800 + p * 0x2000 + i * 0x8, 0, 8, 0⟩
def ALT_GCL_AT_INTERVAL (p i : Nat) : Fld := ⟨0x10050804 + p * 0x2000 + i * 0x8, 0, 32, 10⟩
def ALT_POL_RATE_RATE (c : Nat) : Fld := ⟨0x10070000 + c * 0x10, 0, 24, 100000⟩
def ALT_POL_BURST_BURST (c : Nat) : Fld := ⟨0x10070004 + c * 0x10, 0, 24, 65536⟩
def ALT_POL_DROP_COUNT (c : Nat) : Fld := ⟨0x10070008 + c * 0x10, 0, 32, 0⟩
def ALT_POL_CTRL_EN (c : Nat) : Fld := ⟨0x1007000C + c * 0x10, 0, 1, 0⟩
def WEL_SCHED_CLASS (n : Nat) : Fld := ⟨0x10090020 + n * 0x40, 30, 2, 2⟩
def WEL_SCHED_ALLOT_ERR (n : Nat) : Fld := ⟨0x10090020 + n * 0x40, 29, 1, 0⟩
def WEL_SCHED_ALLOT (n : Nat) : Fld := ⟨0x10090020 + n * 0x40, 16, 8, 0⟩
def WEL_SCHED_PRIO (n : Nat) : Fld := ⟨0x10090020 + n * 0x40, 12, 3, 0⟩
def WEL_SCHED_WEIGHT (n : Nat) : Fld := ⟨0x10090020 + n * 0x40, 0, 12, 1⟩
def WEL_SHAPER_EN (n : Nat) : Fld := ⟨0x10090024 + n * 0x40, 31, 1, 0⟩
def WEL_SHAPER_OVH (n : Nat) : Fld := ⟨0x10090024 + n * 0x40, 0, 9, 0⟩
def WEL_IDLE_IDLE (n : Nat) : Fld := ⟨0x10090028 + n * 0x40, 0, 18, 0⟩
def WEL_SEND_SEND (n : Nat) : Fld := ⟨0x1009002C + n * 0x40, 0, 18, 0⟩
def WEL_HICRED_HICRED (n : Nat) : Fld := ⟨0x10090030 + n * 0x40, 0, 32, 0⟩
def WEL_LOCRED_LOCRED (n : Nat) : Fld := ⟨0x10090034 + n * 0x40, 0, 32, 0⟩
def WEL_CREDIT_CREDIT (n : Nat) : Fld := ⟨0x10090038 + n * 0x40, 0, 32, 0⟩
def WEL_CIS_STAT_GRES : Fld := ⟨0x10080000, 31, 1, 0⟩
def WEL_CIS_STAT_FREE_CELLS : Fld := ⟨0x10080000, 0, 18, 131072⟩
def WEL_CIS_FD_FREE_FD : Fld := ⟨0x10080004, 0, 18, 131072⟩
def WEL_TRK_ISO_RSV : Fld := ⟨0x10080008, 0, 16, 2048⟩
def WEL_PORT_Q_HDRM (p : Nat) : Fld := ⟨0x10080100 + p * 0x8, 20, 12, 64⟩
def WEL_PORT_Q_QUOTA (p : Nat) : Fld := ⟨0x10080100 + p * 0x8, 0, 17, portQuotaReset p⟩
def WEL_PORT_USE_BP (p : Nat) : Fld := ⟨0x10080104 + p * 0x8, 31, 1, 0⟩
def WEL_PORT_USE_USE (p : Nat) : Fld := ⟨0x10080104 + p * 0x8, 0, 18, 0⟩
def WEL_SUMP_CNT_COUNT (c : Nat) : Fld := ⟨0x10080400 + c * 0x4, 0, 32, 0⟩
def WEL_DIP_CTRL_EN : Fld := ⟨0x10080800, 31, 1, 0⟩
def WEL_DIP_CTRL_STOP : Fld := ⟨0x10080800, 30, 1, 0⟩
def WEL_DIP_CTRL_FULL : Fld := ⟨0x10080800, 29, 1, 0⟩
def WEL_DIP_CTRL_POINTS : Fld := ⟨0x10080800, 16, 4, 0⟩
def WEL_DIP_CTRL_CAUSES : Fld := ⟨0x10080800, 0, 16, 65535⟩
def WEL_DIP_RING_SIZE : Fld := ⟨0x10080804, 16, 14, 8192⟩
def WEL_DIP_RING_BASE : Fld := ⟨0x10080804, 0, 8, 0⟩
def WEL_DIP_MATCH0_PORT_MASK : Fld := ⟨0x10080808, 24, 6, 0⟩
def WEL_DIP_MATCH0_PORT : Fld := ⟨0x10080808, 18, 6, 0⟩
def WEL_DIP_MATCH0_WELL_MASK : Fld := ⟨0x10080808, 9, 9, 0⟩
def WEL_DIP_MATCH0_WELL : Fld := ⟨0x10080808, 0, 9, 0⟩
def WEL_DIP_MATCH1_CTX_MASK : Fld := ⟨0x1008080C, 16, 10, 0⟩
def WEL_DIP_MATCH1_CTX : Fld := ⟨0x1008080C, 0, 10, 0⟩
def WEL_DIP_SAMPLE_N_M1 : Fld := ⟨0x10080810, 0, 16, 0⟩
def WEL_DIP_WPTR_WRAPS : Fld := ⟨0x10080814, 16, 16, 0⟩
def WEL_DIP_WPTR_INDEX : Fld := ⟨0x10080814, 0, 13, 0⟩
def WEL_DIP_MISS_COUNT : Fld := ⟨0x10080818, 0, 32, 0⟩
def WEL_CFG_EN (n : Nat) : Fld := ⟨0x10090000 + n * 0x40, 31, 1, 0⟩
def WEL_CFG_ISL_MODE (n : Nat) : Fld := ⟨0x10090000 + n * 0x40, 30, 1, 0⟩
def WEL_CFG_BP_PRI (n : Nat) : Fld := ⟨0x10090000 + n * 0x40, 27, 3, 0⟩
def WEL_CFG_SLICE (n : Nat) : Fld := ⟨0x10090000 + n * 0x40, 16, 6, 0⟩
def WEL_CFG_PORT (n : Nat) : Fld := ⟨0x10090000 + n * 0x40, 0, 6, 0⟩
def WEL_HIMARK_HIGH (n : Nat) : Fld := ⟨0x10090004 + n * 0x40, 0, 17, 4096⟩
def WEL_LOMARK_LOW (n : Nat) : Fld := ⟨0x10090008 + n * 0x40, 0, 17, 3072⟩
def WEL_AGE_LIMIT (n : Nat) : Fld := ⟨0x1009000C + n * 0x40, 0, 20, 10000⟩
def WEL_DEPTH_CONG (n : Nat) : Fld := ⟨0x10090010 + n * 0x40, 31, 1, 0⟩
def WEL_DEPTH_CELLS (n : Nat) : Fld := ⟨0x10090010 + n * 0x40, 0, 17, 0⟩
def WEL_FEED_HIGHPORTS (n : Nat) : Fld := ⟨0x10090014 + n * 0x40, 16, 6, 0⟩
def WEL_FEED_PORTS (n : Nat) : Fld := ⟨0x10090014 + n * 0x40, 0, 16, 0⟩
def WEL_AGED_COUNT (n : Nat) : Fld := ⟨0x10090018 + n * 0x40, 0, 32, 0⟩
def WEL_SHED_COUNT (n : Nat) : Fld := ⟨0x1009001C + n * 0x40, 0, 32, 0⟩
def PMP_STAT_GATED (p : Nat) : Fld := ⟨0x10100000 + p * 0x1000, 31, 1, 0⟩
def PMP_STAT_SUBST (p : Nat) : Fld := ⟨0x10100000 + p * 0x1000, 30, 1, 0⟩
def PMP_STAT_ACTIVE (p : Nat) : Fld := ⟨0x10100000 + p * 0x1000, 0, 6, 0⟩
def PMP_ISSUE_LO_COUNT (p : Nat) : Fld := ⟨0x10100008 + p * 0x1000, 0, 32, 0⟩
def PMP_ISSUE_HI_COUNT (p : Nat) : Fld := ⟨0x1010000C + p * 0x1000, 0, 32, 0⟩
def PMP_IC_MISS_COUNT (p : Nat) : Fld := ⟨0x10100010 + p * 0x1000, 0, 32, 0⟩
def PMP_THR_STATE (p t : Nat) : Fld := ⟨0x10100100 + p * 0x1000 + t * 0x4, 28, 4, 0⟩
def PMP_THR_STEPS (p t : Nat) : Fld := ⟨0x10100100 + p * 0x1000 + t * 0x4, 10, 16, 0⟩
def PMP_THR_CTX (p t : Nat) : Fld := ⟨0x10100100 + p * 0x1000 + t * 0x4, 0, 10, 0⟩
def PMP_PAGE_STATE (g : Nat) : Fld := ⟨0x10180000 + g * 0x4, 30, 2, if g < 32 then 3 else 0⟩
def PMP_PAGE_SLICE (g : Nat) : Fld := ⟨0x10180000 + g * 0x4, 0, 6, 0⟩
def PMP_LDSEL_PAGE (sl : Nat) : Fld := ⟨0x10190000 + sl * 0x4, 0, 8, 0⟩
def PMP_LDWIN_DATA (sl wd : Nat) : Fld := ⟨0x101C0000 + sl * 0x1000 + wd * 0x4, 0, 32, 0⟩
def CTX_STATE_TRAP (c : Nat) : Fld := ⟨0x10200000 + c * 0x100, 24, 8, 0⟩
def CTX_STATE_ACTIVE (c : Nat) : Fld := ⟨0x10200000 + c * 0x100, 8, 6, 0⟩
def CTX_STATE_CHK (c : Nat) : Fld := ⟨0x10200000 + c * 0x100, 4, 4, 0⟩
def CTX_STATE_STATE (c : Nat) : Fld := ⟨0x10200000 + c * 0x100, 0, 3, 0⟩
def CTX_CFG_ORDER (c : Nat) : Fld := ⟨0x10200004 + c * 0x100, 31, 1, 1⟩
def CTX_CFG_EARLY (c : Nat) : Fld := ⟨0x10200004 + c * 0x100, 30, 1, 0⟩
def CTX_CFG_PRI (c : Nat) : Fld := ⟨0x10200004 + c * 0x100, 29, 1, 0⟩
def CTX_CFG_STOP (c : Nat) : Fld := ⟨0x10200004 + c * 0x100, 21, 7, 23⟩
def CTX_CFG_MAXTHR (c : Nat) : Fld := ⟨0x10200004 + c * 0x100, 16, 5, 8⟩
def CTX_CFG_PUMP (c : Nat) : Fld := ⟨0x10200004 + c * 0x100, 0, 5, 0⟩
def CTX_ENTRY_ENTRY (c : Nat) : Fld := ⟨0x10200008 + c * 0x100, 2, 18, 0⟩
def CTX_OWNER_SLICE (c : Nat) : Fld := ⟨0x1020000C + c * 0x100, 8, 6, 0⟩
def CTX_OWNER_GEN (c : Nat) : Fld := ⟨0x1020000C + c * 0x100, 0, 8, 0⟩
def CTX_KEY_KEN (c : Nat) : Fld := ⟨0x10200010 + c * 0x100, 31, 1, 0⟩
def CTX_KEY_SLOT (c : Nat) : Fld := ⟨0x10200010 + c * 0x100, 0, 7, 0⟩
def CTX_WELL_WELL (c : Nat) : Fld := ⟨0x10200014 + c * 0x100, 0, 9, 0⟩
def CTX_BUDGET_STEPS (c : Nat) : Fld := ⟨0x10200018 + c * 0x100, 0, 16, 4096⟩
def CTX_FAULT_CODE (c : Nat) : Fld := ⟨0x1020001C + c * 0x100, 24, 8, 0⟩
def CTX_FAULT_PC (c : Nat) : Fld := ⟨0x1020001C + c * 0x100, 2, 18, 0⟩
def CTX_POL_TOK_TOKENS (c : Nat) : Fld := ⟨0x10200020 + c * 0x100, 0, 24, 65536⟩
def CTX_DISP_COUNT (c : Nat) : Fld := ⟨0x10200024 + c * 0x100, 0, 32, 0⟩
def CTX_INSTR_LO_COUNT (c : Nat) : Fld := ⟨0x10200028 + c * 0x100, 0, 32, 0⟩
def CTX_INSTR_HI_COUNT (c : Nat) : Fld := ⟨0x1020002C + c * 0x100, 0, 32, 0⟩
def CTX_FAULTS_COUNT (c : Nat) : Fld := ⟨0x10200030 + c * 0x100, 0, 32, 0⟩
def CTX_DROPS_COUNT (c : Nat) : Fld := ⟨0x10200034 + c * 0x100, 0, 32, 0⟩
def CTX_USER_LO_DATA (c i : Nat) : Fld := ⟨0x10200040 + c * 0x100 + i * 0x8, 0, 32, 0⟩
def CTX_USER_HI_DATA (c i : Nat) : Fld := ⟨0x10200044 + c * 0x100 + i * 0x8, 0, 32, 0⟩
def CTX_PORT_DEF_EN (p : Nat) : Fld := ⟨0x10240000 + p * 0x4, 31, 1, 0⟩
def CTX_PORT_DEF_CTX (p : Nat) : Fld := ⟨0x10240000 + p * 0x4, 0, 10, 0⟩
def CTX_ETH_CLS0_EN (e i : Nat) : Fld := ⟨0x10241000 + e * 0x100 + i * 0x8, 31, 1, 0⟩
def CTX_ETH_CLS0_M_VID (e i : Nat) : Fld := ⟨0x10241000 + e * 0x100 + i * 0x8, 30, 1, 0⟩
def CTX_ETH_CLS0_M_PCP (e i : Nat) : Fld := ⟨0x10241000 + e * 0x100 + i * 0x8, 29, 1, 0⟩
def CTX_ETH_CLS0_M_ETYPE (e i : Nat) : Fld := ⟨0x10241000 + e * 0x100 + i * 0x8, 28, 1, 0⟩
def CTX_ETH_CLS0_VID (e i : Nat) : Fld := ⟨0x10241000 + e * 0x100 + i * 0x8, 16, 12, 0⟩
def CTX_ETH_CLS0_PCP (e i : Nat) : Fld := ⟨0x10241000 + e * 0x100 + i * 0x8, 13, 3, 0⟩
def CTX_ETH_CLS0_PCP_MASK (e i : Nat) : Fld := ⟨0x10241000 + e * 0x100 + i * 0x8, 10, 3, 7⟩
def CTX_ETH_CLS0_CTX (e i : Nat) : Fld := ⟨0x10241000 + e * 0x100 + i * 0x8, 0, 10, 0⟩
def CTX_ETH_CLS1_ETYPE (e i : Nat) : Fld := ⟨0x10241004 + e * 0x100 + i * 0x8, 0, 16, 0⟩
def BRG_CTRL_LF_POP : Fld := ⟨0x10600000, 31, 1, 0⟩
def BRG_CTRL_COMPAT : Fld := ⟨0x10600000, 0, 1, 0⟩
def BRG_ORD_MODE : Fld := ⟨0x10600004, 31, 1, 0⟩
def BRG_ORD_DRAIN : Fld := ⟨0x10600004, 30, 1, 0⟩
def BRG_ORD_SLOTS : Fld := ⟨0x10600004, 16, 7, 0⟩
def BRG_ORD_DRD_TO : Fld := ⟨0x10600004, 0, 14, 1000⟩
def BRG_TIMERS_RD_TO : Fld := ⟨0x10600008, 0, 13, 500⟩
def BRG_TAG_STAT_UP_USED : Fld := ⟨0x1060000C, 16, 11, 0⟩
def BRG_TAG_STAT_DN_USED : Fld := ⟨0x1060000C, 0, 11, 0⟩
def BRG_BAR2_SLOT : Fld := ⟨0x10600010, 0, 5, 24⟩
def BRG_LATE_FAULT0_ADDR : Fld := ⟨0x10600020, 0, 32, 0⟩
def BRG_LATE_FAULT1_ADDR : Fld := ⟨0x10600024, 0, 32, 0⟩
def BRG_LATE_FAULT2_GEN : Fld := ⟨0x10600028, 24, 8, 0⟩
def BRG_LATE_FAULT2_SLICE : Fld := ⟨0x10600028, 16, 6, 0⟩
def BRG_LATE_FAULT2_TAG : Fld := ⟨0x10600028, 0, 10, 0⟩
def BRG_LATE_FAULT3_CAUSE : Fld := ⟨0x1060002C, 28, 4, 0⟩
def BRG_LATE_FAULT3_WIN : Fld := ⟨0x1060002C, 16, 6, 0⟩
def BRG_LATE_FAULT3_DEPTH : Fld := ⟨0x1060002C, 8, 5, 0⟩
def BRG_LATE_FAULT3_VALID : Fld := ⟨0x1060002C, 0, 1, 0⟩
def BRG_LATE_FAULT4_TIME : Fld := ⟨0x10600030, 0, 32, 0⟩
def BRG_LATE_FAULT5_TIME : Fld := ⟨0x10600034, 0, 32, 0⟩
def BRG_CNT_COUNT (i : Nat) : Fld := ⟨0x10600040 + i * 0x4, 0, 32, 0⟩
def BRG_WIN_CFG_EN (n : Nat) : Fld := ⟨0x10601000 + n * 0x10, 31, 1, 0⟩
def BRG_WIN_CFG_WMODE (n : Nat) : Fld := ⟨0x10601000 + n * 0x10, 30, 1, 0⟩
def BRG_WIN_CFG_SLICE (n : Nat) : Fld := ⟨0x10601000 + n * 0x10, 24, 6, 0⟩
def BRG_WIN_CFG_HUB (n : Nat) : Fld := ⟨0x10601000 + n * 0x10, 20, 3, 0⟩
def BRG_WIN_CFG_SPACE (n : Nat) : Fld := ⟨0x10601000 + n * 0x10, 18, 2, 0⟩
def BRG_WIN_CFG_SIZE (n : Nat) : Fld := ⟨0x10601000 + n * 0x10, 8, 5, 12⟩
def BRG_WIN_TGT_LO_BASE (n : Nat) : Fld := ⟨0x10601004 + n * 0x10, 0, 32, 0⟩
def BRG_WIN_TGT_HI_BASE (n : Nat) : Fld := ⟨0x10601008 + n * 0x10, 0, 32, 0⟩
def BRG_WIN_STAT_WERR (n : Nat) : Fld := ⟨0x1060100C + n * 0x10, 1, 1, 0⟩
def BRG_WIN_STAT_BUSY (n : Nat) : Fld := ⟨0x1060100C + n * 0x10, 0, 1, 0⟩
def MSG_RT_EN (i : Nat) : Fld := ⟨0x11100000 + i * 0x4, 31, 1, 0⟩
def MSG_RT_SLICE (i : Nat) : Fld := ⟨0x11100000 + i * 0x4, 24, 6, 0⟩
def MSG_RT_PORT (i : Nat) : Fld := ⟨0x11100000 + i * 0x4, 16, 6, 0⟩
def MSG_RT_TARGET (i : Nat) : Fld := ⟨0x11100000 + i * 0x4, 0, 16, 0⟩
def MSG_EVT_MAP_EN (b e : Nat) : Fld := ⟨0x11110000 + b * 0x80 + e * 0x4, 31, 1, 0⟩
def MSG_EVT_MAP_INST (b e : Nat) : Fld := ⟨0x11110000 + b * 0x80 + e * 0x4, 30, 1, 0⟩
def MSG_EVT_MAP_BASE (b e : Nat) : Fld := ⟨0x11110000 + b * 0x80 + e * 0x4, 0, 12, 0⟩
def MSG_VEC_RANGE_COUNT (sl : Nat) : Fld := ⟨0x11120000 + sl * 0x4, 16, 12, 0⟩
def MSG_VEC_RANGE_BASE (sl : Nat) : Fld := ⟨0x11120000 + sl * 0x4, 0, 11, 0⟩
def MSG_CNT_COUNT (i : Nat) : Fld := ⟨0x11121000 + i * 0x4, 0, 32, 0⟩
def SLC_BIND_BOUND (sl : Nat) : Fld := ⟨0x10700000 + sl * 0x400, 31, 1, if sl = 0 then 1 else 0⟩
def SLC_BIND_PASID (sl : Nat) : Fld := ⟨0x10700000 + sl * 0x400, 0, 20, 0⟩
def SLC_STAT_RESETTING (sl : Nat) : Fld := ⟨0x10700004 + sl * 0x400, 31, 1, 0⟩
def SLC_STAT_REMOVING (sl : Nat) : Fld := ⟨0x10700004 + sl * 0x400, 30, 1, 0⟩
def SLC_STAT_RESETS (sl : Nat) : Fld := ⟨0x10700004 + sl * 0x400, 16, 8, 0⟩
def SLC_STAT_GEN (sl : Nat) : Fld := ⟨0x10700004 + sl * 0x400, 0, 8, 0⟩
def SLC_PORTS_PORTS (sl : Nat) : Fld := ⟨0x10700008 + sl * 0x400, 0, 32, if sl = 0 then 0xFFFFFFFF else 0⟩
def SLC_RCTX_COUNT (sl : Nat) : Fld := ⟨0x1070000C + sl * 0x400, 16, 11, if sl = 0 then 992 else 0⟩
def SLC_RCTX_BASE (sl : Nat) : Fld := ⟨0x1070000C + sl * 0x400, 0, 10, 32⟩
def SLC_GEN_DROP_COUNT (sl : Nat) : Fld := ⟨0x10700010 + sl * 0x400, 0, 32, 0⟩
def SLC_DENY_COUNT (sl : Nat) : Fld := ⟨0x10700014 + sl * 0x400, 0, 32, 0⟩
def SPT_CFG_TRY (n : Nat) : Fld := ⟨0x10800000 + n * 0x1000, 10, 2, 0⟩
def SPT_CFG_RP (n : Nat) : Fld := ⟨0x10800000 + n * 0x1000, 8, 2, 2⟩
def SPT_CFG_MODE (n : Nat) : Fld := ⟨0x10800000 + n * 0x1000, 0, 2, 3⟩
def SPT_POLICY_SWAP_EN (n : Nat) : Fld := ⟨0x10800004 + n * 0x1000, 8, 1, 1⟩
def SPT_POLICY_AUTO_ALT (n : Nat) : Fld := ⟨0x10800004 + n * 0x1000, 7, 1, 1⟩
def SPT_POLICY_VCS_ACC (n : Nat) : Fld := ⟨0x10800004 + n * 0x1000, 6, 1, 1⟩
def SPT_POLICY_DR_WANT (n : Nat) : Fld := ⟨0x10800004 + n * 0x1000, 5, 1, 0⟩
def SPT_POLICY_DRS_ACC (n : Nat) : Fld := ⟨0x10800004 + n * 0x1000, 4, 1, 1⟩
def SPT_POLICY_PR_WANT (n : Nat) : Fld := ⟨0x10800004 + n * 0x1000, 3, 1, 0⟩
def SPT_POLICY_PRS_ACC (n : Nat) : Fld := ⟨0x10800004 + n * 0x1000, 2, 1, 1⟩
def SPT_STAT_STATE (n : Nat) : Fld := ⟨0x10800008 + n * 0x1000, 28, 4, 0⟩
def SPT_STAT_ORIENT (n : Nat) : Fld := ⟨0x10800008 + n * 0x1000, 27, 1, 0⟩
def SPT_STAT_PWR_ROLE (n : Nat) : Fld := ⟨0x10800008 + n * 0x1000, 26, 1, 0⟩
def SPT_STAT_DATA_ROLE (n : Nat) : Fld := ⟨0x10800008 + n * 0x1000, 25, 1, 0⟩
def SPT_STAT_VCONN (n : Nat) : Fld := ⟨0x10800008 + n * 0x1000, 24, 1, 0⟩
def SPT_STAT_PD (n : Nat) : Fld := ⟨0x10800008 + n * 0x1000, 23, 1, 0⟩
def SPT_STAT_WET (n : Nat) : Fld := ⟨0x10800008 + n * 0x1000, 22, 1, 0⟩
def SPT_STAT_PARTNER_RP (n : Nat) : Fld := ⟨0x10800008 + n * 0x1000, 20, 2, 0⟩
def SPT_PDO_EN (n i : Nat) : Fld := ⟨0x10800010 + n * 0x1000 + i * 0x4, 31, 1, if i = 0 then 1 else 0⟩
def SPT_PDO_VSEL (n i : Nat) : Fld := ⟨0x10800010 + n * 0x1000 + i * 0x4, 16, 2, 0⟩
def SPT_PDO_IMAX (n i : Nat) : Fld := ⟨0x10800010 + n * 0x1000 + i * 0x4, 0, 10, if i = 0 then 300 else 0⟩
def SPT_CONTRACT_VALID (n : Nat) : Fld := ⟨0x10800020 + n * 0x1000, 31, 1, 0⟩
def SPT_CONTRACT_OBJPOS (n : Nat) : Fld := ⟨0x10800020 + n * 0x1000, 24, 3, 0⟩
def SPT_CONTRACT_VSEL (n : Nat) : Fld := ⟨0x10800020 + n * 0x1000, 16, 2, 0⟩
def SPT_CONTRACT_IOP (n : Nat) : Fld := ⟨0x10800020 + n * 0x1000, 0, 10, 0⟩
def SPT_SWAP_STAT_KIND (n : Nat) : Fld := ⟨0x10800024 + n * 0x1000, 28, 4, 0⟩
def SPT_SWAP_STAT_RESULT (n : Nat) : Fld := ⟨0x10800024 + n * 0x1000, 24, 4, 0⟩
def SPT_SWAP_STAT_RETRIES (n : Nat) : Fld := ⟨0x10800024 + n * 0x1000, 16, 4, 0⟩
def SPT_SWAP_STAT_COUNT (n : Nat) : Fld := ⟨0x10800024 + n * 0x1000, 0, 16, 0⟩
def SPT_ALT_CFG_SAM_EN (n : Nat) : Fld := ⟨0x10800030 + n * 0x1000, 3, 1, 0⟩
def SPT_ALT_CFG_DP_EN (n : Nat) : Fld := ⟨0x10800030 + n * 0x1000, 2, 1, 0⟩
def SPT_ALT_CFG_AUTO_MODE (n : Nat) : Fld := ⟨0x10800030 + n * 0x1000, 0, 2, 0⟩
def SPT_ALT_STAT_MUX (n : Nat) : Fld := ⟨0x10800034 + n * 0x1000, 30, 2, 0⟩
def SPT_ALT_STAT_HPD (n : Nat) : Fld := ⟨0x10800034 + n * 0x1000, 29, 1, 0⟩
def SPT_ALT_STAT_SAM_UP (n : Nat) : Fld := ⟨0x10800034 + n * 0x1000, 28, 1, 0⟩
def SPT_ALT_STAT_CRC_ERR (n : Nat) : Fld := ⟨0x10800034 + n * 0x1000, 0, 16, 0⟩
def SPT_WET_CFG_WET_THR (n : Nat) : Fld := ⟨0x10800040 + n * 0x1000, 16, 8, 50⟩
def SPT_WET_CFG_CORR_THR (n : Nat) : Fld := ⟨0x10800040 + n * 0x1000, 8, 8, 10⟩
def SPT_WET_CFG_DRY_THR (n : Nat) : Fld := ⟨0x10800040 + n * 0x1000, 0, 8, 20⟩
def SPT_WET_STAT_LAST_YX (n : Nat) : Fld := ⟨0x10800044 + n * 0x1000, 24, 8, 0⟩
def SPT_WET_STAT_DRY_CNT (n : Nat) : Fld := ⟨0x10800044 + n * 0x1000, 22, 2, 0⟩
def SPT_WET_STAT_WET (n : Nat) : Fld := ⟨0x10800044 + n * 0x1000, 21, 1, 0⟩
def SPT_WET_STAT_MEAS_SKIP (n : Nat) : Fld := ⟨0x10800044 + n * 0x1000, 20, 1, 0⟩
def SPT_WET_STAT_WET_COUNT (n : Nat) : Fld := ⟨0x10800044 + n * 0x1000, 0, 16, 0⟩
def SPT_LEAK_IDX_NEWEST (n : Nat) : Fld := ⟨0x10800048 + n * 0x1000, 0, 5, 0⟩
def SPT_INJ_WET (n : Nat) : Fld := ⟨0x10800050 + n * 0x1000, 0, 1, 0⟩
def SPT_STREAM_EN (n k : Nat) : Fld := ⟨0x10800080 + n * 0x1000 + k * 0x4, 31, 1, 0⟩
def SPT_STREAM_CTX (n k : Nat) : Fld := ⟨0x10800080 + n * 0x1000 + k * 0x4, 0, 10, 0⟩
def SPT_LEAK_LOG_VALID (n i : Nat) : Fld := ⟨0x10800100 + n * 0x1000 + i * 0x4, 31, 1, 0⟩
def SPT_LEAK_LOG_G (n i : Nat) : Fld := ⟨0x10800100 + n * 0x1000 + i * 0x4, 0, 16, 0⟩
def HSW_CFG_EN (n : Nat) : Fld := ⟨0x10900000 + n * 0x100, 31, 1, 1⟩
def HSW_CFG_ILIM_PCT (n : Nat) : Fld := ⟨0x10900000 + n * 0x100, 16, 8, 125⟩
def HSW_CFG_OC_MAX (n : Nat) : Fld := ⟨0x10900000 + n * 0x100, 8, 8, 110⟩
def HSW_CFG_SHUNT (n : Nat) : Fld := ⟨0x10900000 + n * 0x100, 0, 6, 10⟩
def HSW_WIN_OV_PCT (n : Nat) : Fld := ⟨0x10900004 + n * 0x100, 8, 8, 110⟩
def HSW_WIN_UV_PCT (n : Nat) : Fld := ⟨0x10900004 + n * 0x100, 0, 8, 90⟩
def HSW_TIMERS_PRE_TO (n : Nat) : Fld := ⟨0x10900008 + n * 0x100, 20, 9, 50⟩
def HSW_TIMERS_RETRY (n : Nat) : Fld := ⟨0x10900008 + n * 0x100, 10, 10, 50⟩
def HSW_TIMERS_INS_DLY (n : Nat) : Fld := ⟨0x10900008 + n * 0x100, 0, 10, 50⟩
def HSW_FLT_CFG_RETRY_MAX (n : Nat) : Fld := ⟨0x1090000C + n * 0x100, 28, 4, 0⟩
def HSW_FLT_CFG_SC_LIM (n : Nat) : Fld := ⟨0x1090000C + n * 0x100, 16, 6, 24⟩
def HSW_FLT_CFG_FLT_T (n : Nat) : Fld := ⟨0x1090000C + n * 0x100, 0, 9, 100⟩
def HSW_STAT_STATE (n : Nat) : Fld := ⟨0x10900010 + n * 0x100, 28, 4, 0⟩
def HSW_STAT_PG (n : Nat) : Fld := ⟨0x10900010 + n * 0x100, 27, 1, 0⟩
def HSW_STAT_FWARN (n : Nat) : Fld := ⟨0x10900010 + n * 0x100, 26, 1, 0⟩
def HSW_STAT_GATE (n : Nat) : Fld := ⟨0x10900010 + n * 0x100, 25, 1, 0⟩
def HSW_STAT_PRE (n : Nat) : Fld := ⟨0x10900010 + n * 0x100, 24, 1, 0⟩
def HSW_STAT_BLEED (n : Nat) : Fld := ⟨0x10900010 + n * 0x100, 23, 1, 0⟩
def HSW_STAT_VIN_OK (n : Nat) : Fld := ⟨0x10900010 + n * 0x100, 22, 1, 0⟩
def HSW_STAT_SENSE_OK (n : Nat) : Fld := ⟨0x10900010 + n * 0x100, 21, 1, 0⟩
def HSW_STAT_REQ (n : Nat) : Fld := ⟨0x10900010 + n * 0x100, 20, 1, 0⟩
def HSW_STAT_CAUSE (n : Nat) : Fld := ⟨0x10900010 + n * 0x100, 16, 4, 0⟩
def HSW_STAT_TRIPS (n : Nat) : Fld := ⟨0x10900010 + n * 0x100, 8, 8, 0⟩
def HSW_MEAS_VOUT (n : Nat) : Fld := ⟨0x10900014 + n * 0x100, 16, 16, 0⟩
def HSW_MEAS_VIN (n : Nat) : Fld := ⟨0x10900014 + n * 0x100, 0, 16, 0⟩
def HSW_IMEAS_I (n : Nat) : Fld := ⟨0x10900018 + n * 0x100, 0, 16, 0⟩
def HSW_TRIP_CNT_COUNT (n : Nat) : Fld := ⟨0x1090001C + n * 0x100, 0, 32, 0⟩
def HSW_CTRL_CLR_LATCH (n : Nat) : Fld := ⟨0x10900020 + n * 0x100, 0, 1, 0⟩
def HSW_INJ_CC_OVP (n : Nat) : Fld := ⟨0x10900024 + n * 0x100, 3, 1, 0⟩
def HSW_INJ_SENSE_OPEN (n : Nat) : Fld := ⟨0x10900024 + n * 0x100, 2, 1, 0⟩
def HSW_INJ_SC (n : Nat) : Fld := ⟨0x10900024 + n * 0x100, 1, 1, 0⟩
def HSW_INJ_OC (n : Nat) : Fld := ⟨0x10900024 + n * 0x100, 0, 1, 0⟩
def HSW_BUS_CFG_NOM : Fld := ⟨0x10902000, 8, 1, 0⟩
def HSW_BUS_CFG_WARN_PCT : Fld := ⟨0x10902000, 0, 8, 85⟩
def HSW_BUS_STAT_PFW : Fld := ⟨0x10902004, 31, 1, 0⟩
def HSW_BUS_STAT_REV : Fld := ⟨0x10902004, 30, 1, 0⟩
def HSW_BUS_STAT_PFW_LATCH : Fld := ⟨0x10902004, 29, 1, 0⟩
def HSW_BUS_STAT_VCAB : Fld := ⟨0x10902004, 0, 16, 0⟩
def USB_BUS_CFG_EN (k : Nat) : Fld := ⟨0x10A00000 + k * 0x4000, 31, 1, 0⟩
def USB_BUS_CFG_SLICE (k : Nat) : Fld := ⟨0x10A00000 + k * 0x4000, 24, 6, 0⟩
def USB_BUS_STAT_RUN (k : Nat) : Fld := ⟨0x10A00004 + k * 0x4000, 31, 1, 0⟩
def USB_BUS_STAT_SUSP (k : Nat) : Fld := ⟨0x10A00004 + k * 0x4000, 30, 1, 0⟩
def USB_BUS_STAT_GATED (k : Nat) : Fld := ⟨0x10A00004 + k * 0x4000, 29, 1, 0⟩
def USB_BUS_STAT_ISL_STOP (k : Nat) : Fld := ⟨0x10A00004 + k * 0x4000, 28, 1, 0⟩
def USB_BUS_STAT_FRINDEX (k : Nat) : Fld := ⟨0x10A00004 + k * 0x4000, 0, 14, 0⟩
def USB_DB_LO_ADDR (k : Nat) : Fld := ⟨0x10A00008 + k * 0x4000, 0, 32, 0⟩
def USB_DB_HI_ADDR (k : Nat) : Fld := ⟨0x10A0000C + k * 0x4000, 0, 32, 0⟩
def USB_CMD_LO_ADDR (k : Nat) : Fld := ⟨0x10A00010 + k * 0x4000, 0, 32, 0⟩
def USB_CMD_HI_ADDR (k : Nat) : Fld := ⟨0x10A00014 + k * 0x4000, 0, 32, 0⟩
def USB_EVR_LO_ADDR (k : Nat) : Fld := ⟨0x10A00018 + k * 0x4000, 0, 32, 0⟩
def USB_EVR_HI_ADDR (k : Nat) : Fld := ⟨0x10A0001C + k * 0x4000, 0, 32, 0⟩
def USB_EVR_SIZE_SIZE (k : Nat) : Fld := ⟨0x10A00020 + k * 0x4000, 0, 17, 256⟩
def USB_INJ_XACT (k : Nat) : Fld := ⟨0x10A00024 + k * 0x4000, 0, 1, 0⟩
def USB_CNT_COUNT (k i : Nat) : Fld := ⟨0x10A00040 + k * 0x4000 + i * 0x4, 0, 32, 0⟩
def USB_PORTSC_STATUS (k p : Nat) : Fld := ⟨0x10A00100 + k * 0x4000 + p * 0x4, 0, 32, 0⟩
def USB_EP_STAT_STATE (k e : Nat) : Fld := ⟨0x10A01000 + k * 0x4000 + e * 0x4, 28, 4, 0⟩
def USB_EP_STAT_LAST (k e : Nat) : Fld := ⟨0x10A01000 + k * 0x4000 + e * 0x4, 16, 8, 0⟩
def USB_EP_STAT_MODE (k e : Nat) : Fld := ⟨0x10A01000 + k * 0x4000 + e * 0x4, 15, 1, 0⟩
def USB_EP_STAT_ADDR (k e : Nat) : Fld := ⟨0x10A01000 + k * 0x4000 + e * 0x4, 8, 7, 0⟩
def USB_EP_STAT_EPNUM (k e : Nat) : Fld := ⟨0x10A01000 + k * 0x4000 + e * 0x4, 4, 4, 0⟩
def USB_EP_STAT_PORT (k e : Nat) : Fld := ⟨0x10A01000 + k * 0x4000 + e * 0x4, 0, 4, 0⟩
def USB_SPT_MAP_EN (n : Nat) : Fld := ⟨0x10A10000 + n * 0x4, 31, 1, 0⟩
def USB_SPT_MAP_PEND (n : Nat) : Fld := ⟨0x10A10000 + n * 0x4, 30, 1, 0⟩
def USB_SPT_MAP_BUS (n : Nat) : Fld := ⟨0x10A10000 + n * 0x4, 0, 2, 0⟩
def ETH_CFG_EN (n : Nat) : Fld := ⟨0x10B00000 + n * 0x1000, 31, 1, 0⟩
def ETH_CFG_IF (n : Nat) : Fld := ⟨0x10B00000 + n * 0x1000, 30, 1, 0⟩
def ETH_CFG_TSCAP (n : Nat) : Fld := ⟨0x10B00000 + n * 0x1000, 29, 1, 0⟩
def ETH_CFG_FORCE (n : Nat) : Fld := ⟨0x10B00000 + n * 0x1000, 24, 3, 0⟩
def ETH_CFG_MAXLEN (n : Nat) : Fld := ⟨0x10B00000 + n * 0x1000, 0, 14, 1522⟩
def ETH_STAT_LINK (n : Nat) : Fld := ⟨0x10B00004 + n * 0x1000, 31, 1, 0⟩
def ETH_STAT_SPEED (n : Nat) : Fld := ⟨0x10B00004 + n * 0x1000, 28, 3, 0⟩
def ETH_STAT_PAUSED (n : Nat) : Fld := ⟨0x10B00004 + n * 0x1000, 27, 1, 0⟩
def ETH_STAT_RX_HELD (n : Nat) : Fld := ⟨0x10B00004 + n * 0x1000, 16, 8, 0⟩
def ETH_STAT_TX_XOFF (n : Nat) : Fld := ⟨0x10B00004 + n * 0x1000, 0, 8, 0⟩
def ETH_FC_CFG_MODE (n : Nat) : Fld := ⟨0x10B00008 + n * 0x1000, 30, 2, 0⟩
def ETH_FC_CFG_HONOUR (n : Nat) : Fld := ⟨0x10B00008 + n * 0x1000, 29, 1, 0⟩
def ETH_FC_CFG_QUANTA (n : Nat) : Fld := ⟨0x10B00008 + n * 0x1000, 0, 16, 65535⟩
def ETH_TS_LAT_TX (n : Nat) : Fld := ⟨0x10B0000C + n * 0x1000, 16, 16, 0⟩
def ETH_TS_LAT_RX (n : Nat) : Fld := ⟨0x10B0000C + n * 0x1000, 0, 16, 0⟩
def ETH_TXTS_LO_TIME (n : Nat) : Fld := ⟨0x10B00010 + n * 0x1000, 0, 32, 0⟩
def ETH_TXTS_HI_TIME (n : Nat) : Fld := ⟨0x10B00014 + n * 0x1000, 0, 32, 0⟩
def ETH_TXTS_ID_VALID (n : Nat) : Fld := ⟨0x10B00018 + n * 0x1000, 31, 1, 0⟩
def ETH_TXTS_ID_POP (n : Nat) : Fld := ⟨0x10B00018 + n * 0x1000, 30, 1, 0⟩
def ETH_TXTS_ID_MTYPE (n : Nat) : Fld := ⟨0x10B00018 + n * 0x1000, 24, 4, 0⟩
def ETH_TXTS_ID_SEQ (n : Nat) : Fld := ⟨0x10B00018 + n * 0x1000, 0, 16, 0⟩
def ETH_CNT_COUNT (n i : Nat) : Fld := ⟨0x10B00040 + n * 0x1000 + i * 0x4, 0, 32, 0⟩
def ETH_MDIO_CMD_GO : Fld := ⟨0x10B08000, 31, 1, 0⟩
def ETH_MDIO_CMD_BUSY : Fld := ⟨0x10B08000, 30, 1, 0⟩
def ETH_MDIO_CMD_CL45 : Fld := ⟨0x10B08000, 29, 1, 0⟩
def ETH_MDIO_CMD_READ : Fld := ⟨0x10B08000, 28, 1, 0⟩
def ETH_MDIO_CMD_PHYAD : Fld := ⟨0x10B08000, 21, 5, 0⟩
def ETH_MDIO_CMD_DEV : Fld := ⟨0x10B08000, 16, 5, 0⟩
def ETH_MDIO_CMD_REG : Fld := ⟨0x10B08000, 0, 16, 0⟩
def ETH_MDIO_DATA_DATA : Fld := ⟨0x10B08004, 0, 16, 0⟩
def ETH_PTP_CFG_EN : Fld := ⟨0x10B08010, 31, 1, 1⟩
def ETH_PTP_CFG_DOMAIN : Fld := ⟨0x10B08010, 24, 7, 0⟩
def ETH_PTP_CFG_PRIO1 : Fld := ⟨0x10B08010, 16, 8, 248⟩
def ETH_PTP_CFG_SLEW_MAX : Fld := ⟨0x10B08010, 0, 9, 100⟩
def ETH_PTP_STEP_THR : Fld := ⟨0x10B08014, 0, 32, 100000⟩
def ETH_PTP_STAT_LOCKED : Fld := ⟨0x10B08018, 31, 1, 0⟩
def ETH_PTP_STAT_SLAVE_VALID : Fld := ⟨0x10B08018, 30, 1, 0⟩
def ETH_PTP_STAT_SLAVE_PORT : Fld := ⟨0x10B08018, 24, 6, 0⟩
def ETH_PTP_STAT_STEPS : Fld := ⟨0x10B08018, 16, 8, 0⟩
def ETH_PTP_STAT_OFFSET : Fld := ⟨0x10B08018, 0, 16, 0⟩
def PCI_RP_CTRL_EN (m : Nat) : Fld := ⟨0x10C00000 + m * 0x10000, 31, 1, 0⟩
def PCI_RP_CTRL_PERST (m : Nat) : Fld := ⟨0x10C00000 + m * 0x10000, 30, 1, 1⟩
def PCI_RP_CTRL_MAX_GEN (m : Nat) : Fld := ⟨0x10C00000 + m * 0x10000, 0, 3, 5⟩
def PCI_RP_STAT_LINK (m : Nat) : Fld := ⟨0x10C00004 + m * 0x10000, 31, 1, 0⟩
def PCI_RP_STAT_GEN (m : Nat) : Fld := ⟨0x10C00004 + m * 0x10000, 28, 3, 0⟩
def PCI_RP_STAT_WIDTH (m : Nat) : Fld := ⟨0x10C00004 + m * 0x10000, 24, 4, 0⟩
def PCI_RP_STAT_ERRS (m : Nat) : Fld := ⟨0x10C00004 + m * 0x10000, 16, 8, 0⟩
def PCI_RP_STAT_SHORT (m : Nat) : Fld := ⟨0x10C00004 + m * 0x10000, 8, 8, 0⟩
def PCI_RP_STAT_ISL_DROP (m : Nat) : Fld := ⟨0x10C00004 + m * 0x10000, 0, 8, 0⟩
def PCI_RP_MSI_LO_BASE (m : Nat) : Fld := ⟨0x10C00040 + m * 0x10000, 0, 32, 0⟩
def PCI_RP_MSI_HI_BASE (m : Nat) : Fld := ⟨0x10C00044 + m * 0x10000, 0, 32, 0⟩
def PCI_RP_IWIN_LO_BASE (m w : Nat) : Fld := ⟨0x10C00100 + m * 0x10000 + w * 0x10, 0, 32, 0⟩
def PCI_RP_IWIN_HI_BASE (m w : Nat) : Fld := ⟨0x10C00104 + m * 0x10000 + w * 0x10, 0, 32, 0⟩
def PCI_RP_IWIN_CFG_EN (m w : Nat) : Fld := ⟨0x10C00108 + m * 0x10000 + w * 0x10, 31, 1, 0⟩
def PCI_RP_IWIN_CFG_TARGET (m w : Nat) : Fld := ⟨0x10C00108 + m * 0x10000 + w * 0x10, 30, 1, 0⟩
def PCI_RP_IWIN_CFG_SLICE (m w : Nat) : Fld := ⟨0x10C00108 + m * 0x10000 + w * 0x10, 24, 6, 0⟩
def PCI_RP_IWIN_CFG_CTX (m w : Nat) : Fld := ⟨0x10C00108 + m * 0x10000 + w * 0x10, 12, 10, 0⟩
def PCI_RP_IWIN_CFG_SIZE (m w : Nat) : Fld := ⟨0x10C00108 + m * 0x10000 + w * 0x10, 0, 5, 12⟩
def DSP_CTRL_EN : Fld := ⟨0x10D00000, 31, 1, 0⟩
def DSP_CTRL_COMMIT : Fld := ⟨0x10D00000, 30, 1, 0⟩
def DSP_CTRL_PENDING : Fld := ⟨0x10D00000, 29, 1, 0⟩
def DSP_CTRL_CERR : Fld := ⟨0x10D00000, 28, 1, 0⟩
def DSP_CTRL_RATE : Fld := ⟨0x10D00000, 8, 2, 3⟩
def DSP_CTRL_LEAD : Fld := ⟨0x10D00000, 0, 3, 2⟩
def DSP_HTIM_HTOTAL : Fld := ⟨0x10D00004, 16, 16, 2200⟩
def DSP_HTIM_HACT : Fld := ⟨0x10D00004, 0, 16, 1920⟩
def DSP_VTIM_VTOTAL : Fld := ⟨0x10D00008, 16, 16, 1125⟩
def DSP_VTIM_VACT : Fld := ⟨0x10D00008, 0, 16, 1080⟩
def DSP_HSYNC_POL : Fld := ⟨0x10D0000C, 31, 1, 1⟩
def DSP_HSYNC_SW : Fld := ⟨0x10D0000C, 16, 13, 44⟩
def DSP_HSYNC_FP : Fld := ⟨0x10D0000C, 0, 13, 88⟩
def DSP_VSYNC_POL : Fld := ⟨0x10D00010, 31, 1, 1⟩
def DSP_VSYNC_SW : Fld := ⟨0x10D00010, 16, 13, 5⟩
def DSP_VSYNC_FP : Fld := ⟨0x10D00010, 0, 13, 4⟩
def DSP_PCLK_PCLK : Fld := ⟨0x10D00014, 0, 21, 148500⟩
def DSP_MVID_MVID : Fld := ⟨0x10D00018, 0, 24, 0⟩
def DSP_BG_RGB : Fld := ⟨0x10D0001C, 0, 24, 0⟩
def DSP_STAT_VBLANK : Fld := ⟨0x10D00020, 31, 1, 0⟩
def DSP_STAT_LINE : Fld := ⟨0x10D00020, 16, 12, 0⟩
def DSP_STAT_FRAMES : Fld := ⟨0x10D00020, 0, 16, 0⟩
def DSP_LCMP0_EN : Fld := ⟨0x10D00024, 31, 1, 0⟩
def DSP_LCMP0_LINE : Fld := ⟨0x10D00024, 0, 12, 0⟩
def DSP_LCMP1_EN : Fld := ⟨0x10D00028, 31, 1, 0⟩
def DSP_LCMP1_LINE : Fld := ⟨0x10D00028, 0, 12, 0⟩
def DSP_LYR_CFG_EN (l : Nat) : Fld := ⟨0x10D00100 + l * 0x20, 31, 1, 0⟩
def DSP_LYR_CFG_STATIC (l : Nat) : Fld := ⟨0x10D00100 + l * 0x20, 30, 1, 0⟩
def DSP_LYR_CFG_SLICE (l : Nat) : Fld := ⟨0x10D00100 + l * 0x20, 24, 6, 0⟩
def DSP_LYR_CFG_FMT (l : Nat) : Fld := ⟨0x10D00100 + l * 0x20, 20, 3, 0⟩
def DSP_LYR_CFG_HSCL (l : Nat) : Fld := ⟨0x10D00100 + l * 0x20, 18, 2, 0⟩
def DSP_LYR_CFG_VSCL (l : Nat) : Fld := ⟨0x10D00100 + l * 0x20, 16, 2, 0⟩
def DSP_LYR_CFG_ISL (l : Nat) : Fld := ⟨0x10D00100 + l * 0x20, 14, 2, 0⟩
def DSP_LYR_CFG_ALPHA (l : Nat) : Fld := ⟨0x10D00100 + l * 0x20, 0, 8, 255⟩
def DSP_LYR_POS_Y (l : Nat) : Fld := ⟨0x10D00104 + l * 0x20, 16, 13, 0⟩
def DSP_LYR_POS_X (l : Nat) : Fld := ⟨0x10D00104 + l * 0x20, 0, 13, 0⟩
def DSP_LYR_SIZE_H (l : Nat) : Fld := ⟨0x10D00108 + l * 0x20, 16, 13, 0⟩
def DSP_LYR_SIZE_W (l : Nat) : Fld := ⟨0x10D00108 + l * 0x20, 0, 13, 0⟩
def DSP_LYR_RING_BASE (l : Nat) : Fld := ⟨0x10D0010C + l * 0x20, 16, 14, 0⟩
def DSP_LYR_RING_LINES (l : Nat) : Fld := ⟨0x10D0010C + l * 0x20, 0, 13, 0⟩
def DSP_LYR_STRIDE_STRIDE (l : Nat) : Fld := ⟨0x10D00110 + l * 0x20, 0, 16, 0⟩
def DSP_LYR_AUX_AUX (l : Nat) : Fld := ⟨0x10D00114 + l * 0x20, 0, 14, 0⟩
def DSP_LYR_STAT_ON (l : Nat) : Fld := ⟨0x10D00118 + l * 0x20, 31, 1, 0⟩
def DSP_LYR_STAT_SWAP_UR (l : Nat) : Fld := ⟨0x10D00118 + l * 0x20, 30, 1, 0⟩
def DSP_LYR_STAT_CFGERR (l : Nat) : Fld := ⟨0x10D00118 + l * 0x20, 29, 1, 0⟩
def DSP_LYR_STAT_DROPS (l : Nat) : Fld := ⟨0x10D00118 + l * 0x20, 0, 16, 0⟩
def DSP_LYR_CNT_OVERRUN (l : Nat) : Fld := ⟨0x10D0011C + l * 0x20, 16, 16, 0⟩
def DSP_LYR_CNT_UNDERRUN (l : Nat) : Fld := ⟨0x10D0011C + l * 0x20, 0, 16, 0⟩
def DSP_OUT_CFG_EN (n : Nat) : Fld := ⟨0x10D00200 + n * 0x10, 31, 1, 0⟩
def DSP_OUT_STAT_STATE (n : Nat) : Fld := ⟨0x10D00204 + n * 0x10, 28, 4, 0⟩
def DSP_OUT_STAT_REASON (n : Nat) : Fld := ⟨0x10D00204 + n * 0x10, 24, 4, 0⟩
def DSP_OUT_STAT_RETRAINS (n : Nat) : Fld := ⟨0x10D00204 + n * 0x10, 0, 8, 0⟩
def CAS_CTRL_STBY_EN : Fld := ⟨0x10E00000, 2, 1, 0⟩
def CAS_CTRL_ACT_EN : Fld := ⟨0x10E00000, 1, 1, 1⟩
def CAS_CTRL_EN : Fld := ⟨0x10E00000, 0, 1, 1⟩
def CAS_GRP_STAT_ACT_V : Fld := ⟨0x10E00004, 31, 1, 0⟩
def CAS_GRP_STAT_ACT : Fld := ⟨0x10E00004, 28, 2, 0⟩
def CAS_GRP_STAT_STBY_V : Fld := ⟨0x10E00004, 27, 1, 0⟩
def CAS_GRP_STAT_STBY : Fld := ⟨0x10E00004, 24, 2, 0⟩
def CAS_GRP_STAT_MEMBERS : Fld := ⟨0x10E00004, 20, 4, 0⟩
def CAS_GRP_STAT_DIRECT : Fld := ⟨0x10E00004, 16, 4, 0⟩
def CAS_GRP_STAT_GSWAP : Fld := ⟨0x10E00004, 4, 1, 0⟩
def CAS_GRP_STAT_SELF : Fld := ⟨0x10E00004, 0, 2, 0⟩
def CAS_PORT_CTRL_INJ_DOWN (p : Nat) : Fld := ⟨0x10E00100 + p * 0x100, 8, 1, 0⟩
def CAS_PORT_CTRL_EN (p : Nat) : Fld := ⟨0x10E00100 + p * 0x100, 4, 1, 1⟩
def CAS_PORT_CTRL_PRESET (p : Nat) : Fld := ⟨0x10E00100 + p * 0x100, 0, 3, 1⟩
def CAS_PORT_STAT_STATE (p : Nat) : Fld := ⟨0x10E00104 + p * 0x100, 28, 4, 0⟩
def CAS_PORT_STAT_CAUSE (p : Nat) : Fld := ⟨0x10E00104 + p * 0x100, 24, 4, 0⟩
def CAS_PORT_STAT_PEER_ID (p : Nat) : Fld := ⟨0x10E00104 + p * 0x100, 16, 2, 0⟩
def CAS_PORT_STAT_DOWNS (p : Nat) : Fld := ⟨0x10E00104 + p * 0x100, 0, 16, 0⟩
def CAS_PORT_CNT_COUNT (p i : Nat) : Fld := ⟨0x10E00110 + p * 0x100 + i * 0x4, 0, 32, 0⟩
def SEC_STAT_LC : Fld := ⟨0x10F00000, 28, 4, 0⟩
def SEC_STAT_DEBUG : Fld := ⟨0x10F00000, 27, 1, 0⟩
def SEC_STAT_ROOT_VALID : Fld := ⟨0x10F00000, 26, 1, 0⟩
def SEC_STAT_TEST_ROOT : Fld := ⟨0x10F00000, 25, 1, 0⟩
def SEC_STAT_JTAG : Fld := ⟨0x10F00000, 23, 2, 0⟩
def SEC_STAT_OWNER_SET : Fld := ⟨0x10F00000, 22, 1, 0⟩
def SEC_STAT_TRNG_FAIL : Fld := ⟨0x10F00000, 21, 1, 0⟩
def SEC_STAT_PASSES : Fld := ⟨0x10F00000, 0, 16, 0⟩
def SEC_CFG_FAIL_THR : Fld := ⟨0x10F00004, 16, 8, 16⟩
def SEC_CFG_MASK : Fld := ⟨0x10F00004, 0, 8, 8⟩
def SEC_TMP_CFG_ENCL_EN : Fld := ⟨0x10F00008, 4, 1, 1⟩
def SEC_TMP_CFG_MESH_EN : Fld := ⟨0x10F00008, 0, 4, 15⟩
def SEC_TMP_STAT_COUNT : Fld := ⟨0x10F0000C, 24, 8, 0⟩
def SEC_TMP_STAT_REFCLK : Fld := ⟨0x10F0000C, 7, 1, 0⟩
def SEC_TMP_STAT_TEMP : Fld := ⟨0x10F0000C, 6, 1, 0⟩
def SEC_TMP_STAT_SUPPLY : Fld := ⟨0x10F0000C, 5, 1, 0⟩
def SEC_TMP_STAT_ENCL : Fld := ⟨0x10F0000C, 4, 1, 0⟩
def SEC_TMP_STAT_MESH : Fld := ⟨0x10F0000C, 0, 4, 0⟩
def SEC_TMP_TIME_SECONDS : Fld := ⟨0x10F00010, 0, 32, 0⟩
def SEC_VTIME_SECONDS : Fld := ⟨0x10F00014, 0, 32, 0⟩
def SEC_TMP_INJ_SRC : Fld := ⟨0x10F00018, 0, 8, 0⟩
def SEC_DEVID_ID (i : Nat) : Fld := ⟨0x10F00020 + i * 0x4, 0, 32, 0⟩
def SEC_SLOT_ATTR_ATTR (k : Nat) : Fld := ⟨0x10F01000 + k * 0x10, 0, 32, 0⟩
def SEC_SLOT_FAIL_THR_HIT (k : Nat) : Fld := ⟨0x10F01004 + k * 0x10, 31, 1, 0⟩
def SEC_SLOT_FAIL_COUNT (k : Nat) : Fld := ⟨0x10F01004 + k * 0x10, 0, 16, 0⟩
def CLK_PWR_CTRL_DROWSE_EN : Fld := ⟨0x10010000, 31, 1, 0⟩
def CLK_PWR_CTRL_IDLE : Fld := ⟨0x10010000, 0, 16, 100⟩
def CLK_PWR_STAT_STATE : Fld := ⟨0x10010004, 30, 2, 0⟩
def CLK_PWR_STAT_ENTERING_DRY : Fld := ⟨0x10010004, 29, 1, 0⟩
def CLK_GATE_GATED : Fld := ⟨0x10010008, 0, 27, 0⟩
def CLK_KEEP_KEEP : Fld := ⟨0x1001000C, 0, 27, 0⟩
def CLK_STALL_COUNT : Fld := ⟨0x10010010, 0, 32, 0⟩
def CLK_PLL_STAT_REFCLK_OK : Fld := ⟨0x10010014, 31, 1, 0⟩
def CLK_PLL_STAT_ROOT_LOCK : Fld := ⟨0x10010014, 30, 1, 0⟩
def CLK_PLL_STAT_SERDES_LOCK : Fld := ⟨0x10010014, 25, 5, 0⟩
def CLK_PLL_STAT_LPO_TRIM : Fld := ⟨0x10010014, 24, 1, 0⟩
def CLK_PLL_STAT_LPO_ERR : Fld := ⟨0x10010014, 0, 16, 0⟩
def CLK_STRAP_BOOT_SRC : Fld := ⟨0x10010018, 4, 2, 0⟩
def CLK_STRAP_CAS_ID : Fld := ⟨0x10010018, 1, 2, 0⟩
def CLK_STRAP_ROLE : Fld := ⟨0x10010018, 0, 1, 0⟩
def CLK_RST_CAUSE_IMAGE : Fld := ⟨0x1001001C, 16, 2, 0⟩
def CLK_RST_CAUSE_RESETS : Fld := ⟨0x1001001C, 8, 8, 0⟩
def CLK_RST_CAUSE_LAST : Fld := ⟨0x1001001C, 0, 4, 1⟩
def CLK_WAKE_CFG_TIMER_EN : Fld := ⟨0x10010020, 31, 1, 0⟩
def CLK_WAKE_CFG_LIGHT_EN : Fld := ⟨0x10010020, 30, 1, 0⟩
def CLK_WAKE_CFG_TAMPER_EN : Fld := ⟨0x10010020, 29, 1, 0⟩
def CLK_WAKE_CFG_TIMER : Fld := ⟨0x10010020, 0, 24, 0⟩
def GLB_WAKE_SRC_WOKE : Fld := ⟨0x10000110, 31, 1, 0⟩
def GLB_WAKE_SRC_ENTRY : Fld := ⟨0x10000110, 28, 1, 0⟩
def GLB_WAKE_SRC_SRC : Fld := ⟨0x10000110, 24, 4, 0⟩
def GLB_WAKE_SRC_DRY_SEC : Fld := ⟨0x10000110, 0, 24, 0⟩
def FLT_STAT_LEVEL : Fld := ⟨0x11000000, 28, 4, 0⟩
def FLT_STAT_HALT : Fld := ⟨0x11000000, 27, 1, 0⟩
def FLT_STAT_FROZEN : Fld := ⟨0x11000000, 26, 1, 0⟩
def FLT_STAT_COPIED : Fld := ⟨0x11000000, 25, 1, 0⟩
def FLT_STAT_COPY_FAIL : Fld := ⟨0x11000000, 24, 1, 0⟩
def FLT_STAT_QDEPTH : Fld := ⟨0x11000000, 16, 5, 0⟩
def FLT_CTRL_FLASH_COPY : Fld := ⟨0x11000004, 0, 1, 0⟩
def FLT_LOG_IDX_WRAPS : Fld := ⟨0x11000008, 16, 16, 0⟩
def FLT_LOG_IDX_NEXT : Fld := ⟨0x11000008, 0, 12, 0⟩
def FLT_OVF_COUNT : Fld := ⟨0x1100000C, 0, 32, 0⟩
def FLT_TEMP_WARN : Fld := ⟨0x11000010, 16, 8, 100⟩
def FLT_TEMP_CRIT : Fld := ⟨0x11000010, 8, 8, 110⟩
def FLT_TEMP_NOW : Fld := ⟨0x11000010, 0, 8, 0⟩
def FLT_INJ_CMD_GO : Fld := ⟨0x11000014, 31, 1, 0⟩
def FLT_INJ_CMD_DET : Fld := ⟨0x11000014, 16, 8, 0⟩
def FLT_INJ_CMD_INST : Fld := ⟨0x11000014, 0, 16, 0⟩
def FLT_BIST_CFG_BUDGET : Fld := ⟨0x11000020, 0, 8, 20⟩
def FLT_BIST_RES_RESULT : Fld := ⟨0x11000024, 28, 4, 0⟩
def FLT_BIST_RES_SECTOR : Fld := ⟨0x11000024, 24, 4, 0⟩
def FLT_BIST_RES_RAN : Fld := ⟨0x11000024, 0, 10, 0⟩
def FLT_BIST_MISR_SIG (i : Nat) : Fld := ⟨0x11000040 + i * 0x4, 0, 32, 0⟩
def FLT_IN_STAT_CHAT : Fld := ⟨0x11000080, 16, 12, 0⟩
def FLT_IN_STAT_STUCK : Fld := ⟨0x11000080, 0, 12, 0⟩
def FLT_IN_CFG_CHAT_THR : Fld := ⟨0x11000084, 0, 16, 64⟩
def FLT_IN_CNT_COUNT (i : Nat) : Fld := ⟨0x110000C0 + i * 0x4, 0, 16, 0⟩
def FLT_DET_CFG_DEFAULT (d : Nat) : Fld := ⟨0x11000400 + d * 0x4, 28, 4, detectorDefault d⟩
def FLT_DET_CFG_LEVEL (d : Nat) : Fld := ⟨0x11000400 + d * 0x4, 24, 4, detectorDefault d⟩
def FLT_DET_CFG_COUNT (d : Nat) : Fld := ⟨0x11000400 + d * 0x4, 0, 16, 0⟩
def GLB_ID_PART : Fld := ⟨0x10000000, 16, 16, 0⟩
def GLB_ID_MAJOR : Fld := ⟨0x10000000, 12, 4, 0⟩
def GLB_ID_MINOR : Fld := ⟨0x10000000, 8, 4, 0⟩
def GLB_CAP0_PUMPS : Fld := ⟨0x10000008, 0, 32, 0⟩
def GLB_CAP1_CTX_HI : Fld := ⟨0x1000000C, 31, 1, 0⟩
def GLB_CAP1_DISPLAY : Fld := ⟨0x1000000C, 30, 1, 0⟩
def GLB_CAP1_CASCADE : Fld := ⟨0x1000000C, 27, 3, 0⟩
def GLB_CAP1_WIDE : Fld := ⟨0x1000000C, 16, 4, 0⟩
def GLB_CAP1_SPOUTS : Fld := ⟨0x1000000C, 0, 16, 0⟩
def GLB_TIME_LO_TIME : Fld := ⟨0x10000010, 0, 32, 0⟩
def GLB_TIME_HI_TIME : Fld := ⟨0x10000014, 0, 32, 0⟩
def GLB_SCRATCH_DATA : Fld := ⟨0x10000020, 0, 32, 0⟩

end Sys2Proof.Machine
end

