-- ==== Sys2Proof/Machine/State.lean ====
section
/-! DEFINITION. The state of the hub as plain data, the reasons a step can stop, and the state right after reset. -/
namespace Sys2Proof.Machine

/-! ## The outside of the hub -/

/-- What the hub sends out or reports, newest first in `State.outs`: the model's own record of the hub's outputs. -/
inductive Out where
  /-- An event raised (R18): code, instance, payload. -/
  | event (code inst payload : Nat)
  /-- A flit sent on a link: port 0 the trunk, 1 to 3 the cascade links. -/
  | flit (port : Nat) (bytes : Bytes)
  /-- A codeword sent on a lane of a link (R84, R85): port, logical lane, its 5,440 bits. -/
  | codeword (port lane word : Nat)
  /-- An alignment marker sent on a lane of a link (R68, R85). -/
  | marker (port lane : Nat)
  /-- Pad rounds sent on every trunk lane in service ahead of a slot 0 (R125). -/
  | pads (rounds : Nat)
  /-- A training flit sent on a trunk lane (R63, R93). -/
  | train (lane : Nat) (bytes : Bytes)
  /-- A frame sent by an output port other than a link. -/
  | frame (port : Nat) (bytes : Bytes)
  /-- A PAUSE or PFC frame sent on an Ethernet port (R403): priority mask and quanta; mask 0x100 is a PAUSE frame. -/
  | pause (port mask quanta : Nat)
  /-- A USB Power Delivery message sent on spout n (R319): message code of the model and a parameter. -/
  | pd (n msg arg : Nat)
  /-- An MSI-X write (R291). -/
  | msix (vec addr data : Nat)
  /-- A completion towards the host (R277): tag, status 0 Successful, 1 Unsupported Request, 2 Completer Abort, data. -/
  | hostCpl (tag status : Nat) (data : Bytes)
  /-- A request sent down a root port of this hub (R273): port, write, address, length, data, tag. -/
  | rootReq (port : Nat) (write : Bool) (addr len : Nat) (data : Bytes) (tag : Nat)
  /-- A request sent upstream to host memory (R271): slice, PASID, write, address, length, data, tag. -/
  | upstream (slice pasid : Nat) (write : Bool) (addr len : Nat) (data : Bytes) (tag : Nat)
  /-- A completion returned to a unit of this hub: unit, tag, status, data. -/
  | cpl (unit tag status : Nat) (data : Bytes)
  /-- Data driven on the bailer port, and the level of BAIL_BUSY (R492). -/
  | bail (data : Bytes) (busy : Bool)
  /-- An I2C transfer to an optical engine (R82): write, engine, register, data. -/
  | i2c (write : Bool) (engine reg : Nat) (data : Bytes)
  /-- An MDIO transaction (R393): the command word and the data. -/
  | mdio (cmd data : Nat)
  /-- A record sent on a cascade link (R431 to R446): port, record type, its arguments. -/
  | cascade (port type a b c : Nat)
  /-- A pixel line of an output (R420): the line and its packed pixels. -/
  | line (n : Nat) (px : List Nat)
  /-- A data packet sent on a USB bus, or a signal driven on a standpipe port: bus; kind 0 data of a slot, 1 SE0, 2 K, 3 idle on a port;
  the slot or port; data. -/
  | usb (k kind slot : Nat) (data : Bytes)
  /-- A configuration request to a device (R406). -/
  | config (m fn off : Nat) (write : Bool) (v : Nat)
  /-- The frozen state of a lost trunk, sent to the standby holder (R119): port, E, next LSEQ, grants made, credits consumed and data flits
  accepted, CTL and SPO. -/
  | stbyState (port e next ctl spo uctl uspo tctl tspo : Nat)
  /-- An unacknowledged flit forwarded to the standby holder (R119): port, LSEQ, type, class, SEGN, body. -/
  | stbyFlit (port lseq ftype cls segn : Nat) (body : Bytes)
  /-- A write of a blank slot of the boot flash (R536): the slot and what is written. -/
  | flash (slot : Nat) (data : Bytes)
deriving DecidableEq, Repr

/-! ## Start-up and power (19) -/

/-- Where the hub stands in start-up and in the power states (R499, R500, R515, R519, R539). -/
inductive Phase where
  /-- Held in reset by PORST_N. -/
  | held
  /-- Step 2: the root PLL is locking. -/
  | pll
  /-- Step 3: power-on BIST runs. -/
  | bist
  /-- Step 4: firmware is loaded and authenticated. -/
  | auth
  /-- Step 4 for good: no image was accepted (R515). -/
  | authFail
  /-- Step 5 done; step 6 waits for priming (R519). -/
  | priming
  /-- Step 6 done. -/
  | run
  /-- Commanded BIST holds the hub (R540). -/
  | bistHold
  /-- A BIST failure holds the hub in the reset-safe state (R539). -/
  | bistFail
  /-- The core is held in reset after a power failure (R499). -/
  | powerFail
  /-- The core rail is off (R508). -/
  | dry
  /-- Scrapped: the hub stopped after step 4 (R478). -/
  | scrapped
deriving DecidableEq, Repr

/-- eFuses and what is fixed at manufacture (R4, R472, R476, R480, R538). -/
structure Fuses where
  /-- R4. 0: TG-5120, 1: TG-5116, 2: TG-5108. -/
  variant : Nat := 0
  /-- R553. Silicon stepping, major and minor. -/
  stepping : Nat := 0
  /-- R472. Fuses blown in the group of Provisioned, Field, Return and Scrapped, 0 to 3 each. -/
  provisioned : Nat := 0
  field : Nat := 0
  ret : Nat := 0
  scrapped : Nat := 0
  /-- R475. The 16 bytes of the device identifier. -/
  devid : Nat := 0
  /-- R476. The SHA-384 of the owner public key, once fused. -/
  ownerHash : Option Bytes := none
  /-- R538. Sectors that power-on BIST runs. -/
  bistSectors : Nat := 0
  /-- R515. The least security version that the boot ROM accepts. -/
  secVerMin : Nat := 0
deriving DecidableEq, Repr

/-- The firmware image in tank 0 (R40, R515). -/
structure Fw where
  version : Nat := 0
  build : Nat := 0
  secVer : Nat := 0
  sysCtx : List (Nat × Nat) := []
  sysProg : Bytes := []
deriving DecidableEq, Repr

/-- Start-up, reset and power state outside the registers (R499 to R519). -/
structure Power where
  phase : Phase := .held
  /-- R516. The start-up under way follows a release of PORST_N or a wake, not a warm, watchdog or forced reset. -/
  cold : Bool := true
  /-- R499. PWR_CORE_EN. -/
  coreEn : Bool := false
  /-- R524. FAULT_N is driven low. -/
  faultLow : Bool := true
  /-- R508. Steps 1 to 5 of Dry entry are under way: every GO is refused. -/
  dryEntry : Bool := false
  /-- R506, R509. The first wake source seen, and whether it came during Dry entry. -/
  wake : Option WakeSrc := none
  wakeAtEntry : Bool := false
  /-- R512. The last good trim. -/
  trim : Int := 0
  /-- R532. The core clocks have stopped. -/
  clockStopped : Bool := false
  /-- R458, R507, R522, R540. Events that the next start-up step 6 raises: code and instance. -/
  atStep6 : List (Nat × Nat) := []
  /-- R518. The dock endpoint is held in reset. -/
  epReset : Bool := false
  /-- R533. The dock endpoint's link is up. -/
  epLink : Bool := false
  /-- R40, R515. The image in tank 0. -/
  fw : Fw := {}
deriving DecidableEq, Repr

/-! ## The bucket (01) -/

/-- A bucket command as the controller holds it: channel, opcode, sequence, request bytes 4 to 63. -/
structure BktCmd where
  ch : Nat
  op : Nat
  seq : Nat
  args : Bytes
deriving DecidableEq, Repr

/-- How far the executing command is: its effect still waits for the end of its execution, or for another row, or its status
and result bytes 8 to 63 stand ready. -/
inductive BktStage where
  | atEnd
  | waiting
  | ready (status : Nat) (res : Bytes)
deriving DecidableEq, Repr

/-- The wellhead controller's command queue (R36, R38): accepted commands, the first of them executing. -/
structure Bucket where
  queue : List BktCmd := []
  stage : BktStage := .atEnd
  /-- R38. Channels whose running command loses its response. -/
  discard : List Nat := []
  /-- R460. A tamper fell on the executing key command. -/
  tampered : Bool := false
  /-- R311. The generation of the target's slice when the executing key derivation started. -/
  keyGen : Nat := 0
deriving DecidableEq, Repr

/-! ## Messages (09) -/

/-- A message between its raise and its delivery (R287, R290). -/
structure Msg where
  time : Nat
  event : Nat
  inst : Nat
  src : Nat
  hops : Nat
  origin : Nat
  /-- The slice that first routed it; none before the first routing. -/
  slice : Option Nat
  /-- R287. The payload. -/
  payload : Nat
  /-- The routing entry it has come to at this hub. -/
  entry : Nat
  /-- R260. The pump that raised it, for the pump's message queue. -/
  pump : Option Nat
deriving DecidableEq, Repr

/-- One MSI-X vector (R268, R291): address, data, mask, pending. -/
structure Vec where
  addr : Nat := 0
  data : Nat := 0
  masked : Bool := true
  pend : Bool := false
deriving DecidableEq, Repr

/-! ## The bridge (09) -/

/-- The states of a tag other than FREE (R277). -/
inductive TagSt where
  | issued | done | abandoned
deriving DecidableEq, Repr

/-- A request that waits for a tag, or the request of a tag (R277). -/
structure BrReq where
  /-- The window, none for BAR0; upstream, the unit that owns the request. -/
  win : Option Nat
  /-- The unit that waits for the completion: 0 the host, 1 context 0, 16 + m root port m, 32 + k USB engine k, 1024 + 256 * k + e
  endpoint slot e of bus k, 4096 + i delayed-read slot i, from 65,536 on a requester on another hub. -/
  unit : Nat
  /-- R304, R307. The slice that the request acts for and its generation when it was made. -/
  slice : Nat
  gen : Nat
  /-- R277. A write; the hub, the space and the address it names, its length, and the data of a write. -/
  write : Bool
  hub : Nat
  space : Nat
  addr : Nat
  len : Nat
  data : Bytes
deriving DecidableEq, Repr

/-- A tag in use. -/
structure Tag where
  st : TagSt
  req : BrReq
  /-- R275. Tags of earlier non-posted writes of the window that this read waits for. -/
  after : List Nat
  /-- R275. One of those writes failed. -/
  poisoned : Bool
  /-- The completion, once it has arrived. -/
  ans : Option (CplStatus × Bytes)
  /-- R277. Hub time of the issue or of the abandonment. -/
  since : Nat
  /-- The request has left the hub; one for the hub's own space has been carried out. -/
  gone : Bool := false
deriving DecidableEq, Repr

/-- A delayed-read slot at the target member (R283). -/
structure DrdSlot where
  requester : Nat
  tag : Nat
  slice : Nat
  gen : Nat
  write : Bool
  addr : Nat
  len : Nat
  data : Bytes
  ans : Option (CplStatus × Bytes)
  since : Nat
deriving DecidableEq, Repr

/-- A request that this hub resends as its delayed requester (R283). -/
structure DrdReq where
  port : Nat
  req : BrReq
  stopped : Bool
deriving DecidableEq, Repr

/-- A late-fault record (R285, R286). -/
structure LateFault where
  addr : Nat
  gen : Nat
  slice : Nat
  tag : Nat
  cause : Nat
  win : Nat
  time : Nat
deriving DecidableEq, Repr

/-- The dock endpoint's configuration space, as far as the hub's behaviour rests on it (R268, R277). (PRESUMED, log 185) -/
structure Endpoint where
  /-- Device Control: the payload and read request sizes in bytes. -/
  mps : Nat := 128
  mrrs : Nat := 512
  /-- Device Control 2: the code of the Completion Timeout value. -/
  cto : Nat := 0
  /-- PASID, MSI-X Enable and Function Mask. -/
  pasid : Bool := false
  msix : Bool := false
  mask : Bool := false
  /-- Advanced Error Reporting: the uncorrectable error status. -/
  aer : Nat := 0
  /-- The link's rate and width; 0 while it is down. -/
  rate : Nat := 0
  width : Nat := 0
deriving DecidableEq, Repr

/-- Bridge state outside the registers. -/
structure Bridge where
  /-- R277. Downstream tags not FREE. -/
  dn : List (Nat × Tag) := []
  /-- R277. Upstream tags not FREE. -/
  up : List (Nat × Tag) := []
  /-- R277. Requests that wait for a downstream and for an upstream tag, oldest first. -/
  dnWait : List BrReq := []
  upWait : List BrReq := []
  /-- R283. Delayed-read slots in use. -/
  slots : List (Nat × DrdSlot) := []
  /-- R283. Delayed requests of this hub, by tag. -/
  reqs : List (Nat × DrdReq) := []
  /-- R284. Delayed requests discarded for want of collection: requester × 65,536 + tag, and when. -/
  gone : List (Nat × Nat) := []
  /-- R276. The legacy words of windows 1 to 16 in compatibility mode: BRG_WIN_CFG at 2 n, BRG_WIN_TGT_LO at 2 n + 1. -/
  legacy : List (Nat × Nat) := []
  /-- R286. Late-fault queue, head first. -/
  late : List LateFault := []
  /-- R286. Event 0x0802 was raised since the last pop. -/
  lateOvf : Bool := false
  /-- R286. Next write tag of each stream: window n, 64 BAR0, 128 + s upstream of slice s, 256 + m root port m. -/
  wtag : List (Nat × Nat) := []
  /-- R281. The size of the group on the peer's side, as last told. -/
  peerGroup : Nat := 0
  /-- R268. The endpoint's configuration space. -/
  ep : Endpoint := {}
deriving DecidableEq, Repr

/-! ## Slices (10) -/

/-- A reset or removal that the dock hub propagates, or a hub at the far end of its trunk carries on (R310). -/
structure SliceReset where
  slice : Nat
  remove : Bool
  /-- The bucket channel that waits. -/
  ch : Nat
  /-- Hubs that have not reported: bit 0 the peer, bits 4 to 7 members 0 to 3. -/
  waiting : Nat
  /-- Hubs that could not be reached. -/
  unreached : Nat
  /-- The hub that a hub which carries the notice on to its group reports to; none on the dock hub. -/
  report : Option Nat := none
deriving DecidableEq, Repr

/-! ## Faults (20) -/

/-- A fault on the ladder (R528, R530, R535). -/
structure FaultEnt where
  det : Nat
  inst : Nat
  lvl : Nat
  inj : Bool
  detail : Nat
  time : Nat
  qd : Nat
  recorded : Bool
deriving DecidableEq, Repr

/-- The fault ladder (R528 to R536). -/
structure Ladder where
  cur : Option FaultEnt := none
  queue : List FaultEnt := []
  /-- R530. Faults lost since the queue was last empty, and the highest level lost. -/
  lost : Nat := 0
  lostMax : Nat := 0
  /-- R535. Records written since release of PORST_N. -/
  seq : Nat := 0
  /-- R524, R544. Faults contained until FLT_RECOVER: detector and instance. -/
  contained : List (Nat × Nat) := []
  /-- R529. Handling of the Halt has ended. -/
  haltDone : Bool := false
  /-- R536. TIME and SEQ of the Halt record. -/
  haltTime : Nat := 0
  haltSeq : Nat := 0
  /-- R534. The detector whose injected detection is being carried out. -/
  injecting : Option Nat := none
deriving DecidableEq, Repr

/-- A BIST run (R537 to R540). -/
structure Bist where
  running : Bool := false
  /-- Power-on BIST of start-up step 3. -/
  powerOn : Bool := false
  /-- Sectors still to run, the first of them running. -/
  todo : List Nat := []
deriving DecidableEq, Repr

/-- A monitored input (R541, R542): hub time of the previous active edge. -/
structure InputMon where
  last : Option Nat := none
deriving DecidableEq, Repr

/-! ## The vault (17) -/

/-- Vault state outside the registers (R453 to R475). -/
structure Vault where
  /-- R454. The root, 256 bits. -/
  root : Nat := 0
  /-- R461. The keys of the slots, 256 bits each. -/
  keys : List (Nat × Nat) := []
  /-- R472. The lifecycle as the vault holds it: Field-Debug is held here only. -/
  fieldDebug : Bool := false
  /-- R456. The TRNG health tests fail at present. -/
  trngBad : Bool := false
  /-- R475. The nonce of the last challenge. -/
  nonce : Option Bytes := none
  /-- R475. Staged token parts. -/
  parts : List (Nat × Bytes) := []
  /-- R474. The target of a lifecycle change under way. -/
  change : Option Nat := none
  /-- R495. A wipe of the secure tank is running; whether its completion raises event 0x1404. -/
  wiping : Bool := false
  /-- R455. The draw from which the masks of the latest re-mask pass come, one for the root and one for each slot. -/
  mask : Nat := 0
  /-- R482. ns of the vault's own clock since the seconds counter last moved. -/
  ns : Nat := 0
deriving DecidableEq, Repr

/-! ## The tanks and the bailer port (18) -/

/-- The tanks, each a memory in canonical form: addresses strictly rise and no listed byte is zero. -/
structure Tanks where
  t0 : List Host.Cell := []
  t1 : List Host.Cell := []
  t2 : List Host.Cell := []
  t3 : List Host.Cell := []
  sec : List Host.Cell := []
  /-- R497. Bailer collisions, refusals, doorbells, secure-tank wipes, shared-port read repeats. -/
  collisions : Nat := 0
  refusals : Nat := 0
  doorbells : Nat := 0
  wipes : Nat := 0
  repeats : Nat := 0
deriving DecidableEq, Repr

/-! ## Trunk lanes and priming (02) -/

/-- Three transmit coefficients: pre-cursor, main, post-cursor (R64). -/
structure Coef where
  pre : Nat
  main : Nat
  post : Nat
deriving DecidableEq, Repr

/-- The trunk outside the registers (R54 to R80). -/
structure Trunk where
  /-- R54. Hub time at which the priming timer started. -/
  timer : Option Nat := none
  /-- R60. Priming has returned to DETECT after the last lane of a direction was lost. -/
  returned : Bool := false
  /-- R58. The agreed maximum rate code. -/
  maxRate : Nat := 0
  /-- R57. The rate to fall back to, and the coefficients that passed at it, by lane. -/
  goodRate : Nat := 0
  goodEq : List (Nat × Coef) := []
  /-- R55. A STEP or EQ or CHECK has failed: priming ends at the rate of FALLBACK. -/
  fellBack : Bool := false
  /-- Receive lanes locked since the rate last changed. -/
  relock : Nat := 0
  /-- R56, R63. The results of the step check under way at this hub and at the peer. -/
  own : Option Bool := none
  peer : Option Bool := none
  /-- R63. The rate change agreed: target rate and the count of further training flits. -/
  step : Option (Nat × Nat) := none
  /-- R55. The EQ round asked for, the receive lanes on which it was acknowledged, and the coefficients that the peer reported. -/
  round : Nat := 0
  acked : Nat := 0
  peerEq : List (Nat × Coef) := []
  /-- R55, R63. CONFIG: the receive lanes on which a TS1 has come, and whether the hub's own TS2 is out; the last TS2 received. -/
  heard : Nat := 0
  confirmed : Bool := false
  ts2 : Option TrainRec := none
  /-- R54. Receive lanes on which a signal has been seen since LOS last asserted there. -/
  light : Nat := 0
  /-- R74. Receive lanes whose LOS and LOL conditions hold, apart from injection. -/
  losNow : Nat := 0
  lolNow : Nat := 0
  /-- R74, R87. Corrected symbols of the last µs: receive lane, hub time, how many. -/
  bursts : List (Nat × Nat × Nat) := []
  /-- R67. Receive lanes whose adaptation has moved since their settings were last read. -/
  adapted : Nat := 0
  /-- R80. The lane being re-admitted: direction, 0 receive or 1 transmit, and physical lane. -/
  readmit : Option (Nat × Nat) := none
  /-- R80. Its step check has passed: it rejoins at the calendar swap; for a receive lane, the received cycle of that swap. -/
  joining : Bool := false
  joinAt : Option Nat := none
  /-- R80. The peer commanded the re-admission: no command of this hub waits for it. -/
  byPeer : Bool := false
  /-- R132. The rate code of the last trunk-up since the release of PORST_N. -/
  lastRate : Option Nat := none
  /-- R83. Lanes whose next PRBS31 word has a bit inverted. -/
  prbsInj : Nat := 0
  /-- R72. Bytes of the PRBS31 continuation sent so far, by transmit lane. -/
  prbsSent : List (Nat × Nat) := []
  /-- R72. The source of each receive lane's checker in force, and hub time up to which its bits out of service are counted. -/
  sq : List (Nat × Nat) := []
  sqTime : List (Nat × Nat) := []
  /-- R73. Bits checked without error since UP or the last error, by receive lane. -/
  clean : List (Nat × Nat) := []
  /-- R70. An L2D_REQ of this hub is out; the hub has accepted the peer's and enters L2d once its answer is sent. -/
  l2dAsked : Bool := false
  l2dEnter : Bool := false
  /-- R438. The trunk's assignment: 0 none, 1 active, 2 standby, 3 spare. -/
  role : Nat := 0
  /-- R46. The calendar waits for hub time to be disciplined again. -/
  calWait : Bool := false
  /-- R85. The dealing orders of the receive and of the transmit direction, as logical lanes. -/
  dealing : List Nat := []
  txOrder : List Nat := []
deriving DecidableEq, Repr

/-! ## Conduit links (03, 16) -/

/-- A retriable flit in the replay buffer (R99): its number, type, class, SEGN and body, the times it was sent and when last. -/
structure Held where
  lseq : Nat
  ftype : Nat
  cls : Nat
  segn : Nat
  body : Bytes
  tx : Nat
  time : Nat
deriving DecidableEq, Repr

/-- A frame in transmission on a link: how many of its segments have been placed in flits, and how many of them were sent. -/
structure Cur where
  frame : Nat
  well : Option Nat
  seg : Nat
  sent : Nat
deriving DecidableEq, Repr

/-- A data flit being packed (R96): its class, its records, the frames that end in it. -/
structure Pack where
  cls : Nat
  segn : Nat
  body : Bytes
  since : Nat
  done : List Cur
  full : Bool
deriving DecidableEq, Repr

/-- A posted write on its way over a link (R117, R442). -/
structure Posted where
  lseq : Nat
  win : Nat
  slice : Nat
  gen : Nat
  tag : Nat
  addr : Nat
  /-- The hub that accepted it from its initiator (R285, R442). -/
  src : Nat
deriving DecidableEq, Repr

/-- What the hub's own transport sends over a link (R27, R280, R288): the far context, the bytes still to go, whether none has gone, and
the posted write that it carries. -/
structure Parcel where
  ctx : Nat
  data : Bytes
  first : Bool := true
  write : Option Posted := none
deriving DecidableEq, Repr

/-- One Conduit link: the trunk, or a cascade link (R88 to R122, R433). -/
structure Link where
  up : Bool := false
  /-- R84, R85. Flit bytes that wait for the rest of their codeword, and the turn of the next codeword in the dealing order. -/
  coded : Bytes := []
  txTurn : Nat := 0
  /-- R85, R87. The position of the next received flit in its pair of codewords, the turn of the next codeword received, and
  whether the codeword under way is uncorrectable. -/
  rxPhase : Nat := 0
  rxTurn : Nat := 0
  rxBad : Bool := false
  /-- R69. Hub time of the last flit sent that was not idle; R68: of the last flit received. -/
  lastBusy : Nat := 0
  lastRx : Nat := 0
  /-- R99. LSEQ of the next new retriable flit, and whether one has been sent. -/
  txNext : Nat := 0
  sent : Bool := false
  /-- R89. The LSEQ of the retriable flit sent last. -/
  echo : Nat := 0xFFF
  /-- R99. The replay buffer, oldest flit first. -/
  held : List Held := []
  /-- R103. LSEQs still to be replayed, and the starting point of the replay in progress. -/
  replay : List Nat := []
  replayFrom : Option Nat := none
  /-- R99. Event 0x0305 has been raised since the buffer was last below its limit. -/
  fullSeen : Bool := false
  /-- R114. Swap-marker flits to send: copies left and body. -/
  markers : List (Nat × Bytes) := []
  /-- R112. Control records to send, as kind and content. -/
  ctl : List (Nat × Bytes) := []
  /-- R109. A CREDIT_SYNC is due, and when the last one went. -/
  syncDue : Bool := false
  lastSync : Nat := 0
  /-- R110. Estimates of the cumulative grants, credits consumed, by class 1 CTL and 2 SPO, and whether a CREDIT_SYNC came. -/
  est : List (Nat × Nat) := []
  used : List (Nat × Nat) := []
  synced : Bool := false
  /-- R109. Cumulative grants made and data flits accepted, by class. -/
  grant : List (Nat × Nat) := []
  taken : List (Nat × Nat) := []
  /-- R96. The data flit being packed. -/
  pack : Option Pack := none
  /-- The sporadic flit being packed, while an ISO flit is built. -/
  aside : Option Pack := none
  /-- Frames partly placed: 1 CTL, 2 SPO, 16 + k ISO of allotment k, 0 ISO of a cascade link. -/
  cur : List (Nat × Cur) := []
  /-- R101. The next expected LSEQ, whether a retriable flit has been accepted, and losses already seen since. -/
  expect : Nat := 0
  got : Bool := false
  gap : Nat := 0
  /-- R102. A NAK is due; a NAK has gone and none follows until E arrives or NAK_HOLD ends. -/
  nakDue : Bool := false
  nakHeld : Bool := false
  /-- R88, R93. Next SLOT to send (1024 when the boundary is due), SLOT expected, TBL and number of the received cycle. -/
  txSlot : Nat := 0
  rxSlot : Nat := 0
  rxTbl : Bool := false
  /-- R426. The received cycle of the last change of TBL. -/
  tblAt : Option Nat := none
  rxCycle : Nat := 0
  /-- Event 0x0306 has been raised in this cycle. -/
  isoSeen : Bool := false
  /-- R113. Lane epoch of the transmit direction; lane and announcement epochs of the receive direction. -/
  laneTx : Nat := 0
  laneRx : Nat := 0
  annRx : Nat := 0
  /-- R114. Table changes announced for received cycles: cycle and TBL. -/
  announced : List (Nat × Bool) := []
  /-- R97. Open chains by context × 4 + class: the frame, or none while the rest of a chain is discarded. -/
  chains : List (Nat × Option Nat) := []
  /-- Parcels that wait, and the posted writes whose last flit is held. -/
  parcels : List Parcel := []
  /-- Chains of the transport that have arrived whole. -/
  arrived : List Bytes := []
  /-- R117, R442. Posted writes on their way over the link. -/
  posted : List Posted := []
  /-- R107. The ASEQ last sent; R122: the ASEQ frozen by ACK_HOLD. -/
  aseqSent : Nat := 0xFFF
  aseqFrozen : Option Nat := none
  /-- R122. The next flit carries a wrong HCRC; the next codeword is corrupted. -/
  injHcrc : Bool := false
  injUncorr : Bool := false
  /-- R119. Numbers frozen for a switchover: this hub's trunk was lost and a standby takes over. -/
  frozen : Bool := false
  /-- R119. At the standby: the lost trunk's state has come, with the LSEQ that it would have sent next; the peer's STBY_TAKE has come,
  with its E. -/
  stbyState : Option Nat := none
  stbyTake : Option Nat := none
  /-- R443. The switchover has been completed without a restart. -/
  tookOver : Bool := false
deriving DecidableEq, Repr

/-! ## Allotment (04) -/

/-- A gate-control list in operation or pending (R147): entries (states, interval), cycle, extension, base. -/
structure GclCfg where
  list : List (Nat × Nat)
  cycle : Nat
  ext : Nat
  base : Nat
deriving DecidableEq, Repr

/-- The gates of one Ethernet port outside the registers (R145 to R147). -/
structure Gcl where
  oper : Option GclCfg := none
  /-- Hub time at which the present cycle of the operational list started. -/
  start : Nat := 0
  /-- The pending configuration and its change time. -/
  pend : Option (GclCfg × Nat) := none
deriving DecidableEq, Repr

/-- Allotment outside the registers (R123 to R149). -/
structure Allot where
  /-- R149. The armed profile change: code and effect cycle. -/
  profile : Option (Nat × Nat) := none
  /-- R137. The pending fallback: effect cycle, lane count. -/
  fallback : Option (Nat × Nat) := none
  /-- R133. The table in use lost admission: no owned slots until a swap. -/
  noOwned : Bool := false
  /-- Hub time at which the present transmit cycle started. -/
  cycleStart : Nat := 0
  /-- R126. The sender slews towards the grid. -/
  slewing : Bool := false
  /-- R46. The calendar runs: owned slots carry their allotments' segments. -/
  calOn : Bool := false
  /-- R119. The calendar starts at no boundary before this hub time. -/
  calFrom : Nat := 0
  /-- R142. Hub time of the last refill tick. -/
  tick : Nat := 0
  /-- R136, R138. The lane count that the table in use was selected for, and that table's own lane count. -/
  lanes : Nat := 0
  tableN : Nat := 0
  /-- R444. The armed swap belongs to a group swap with this effect time. -/
  groupSwap : Option Nat := none
  /-- R145. The gates of the Ethernet ports, by port. -/
  gates : List (Nat × Gcl) := []
  /-- R144. Shadowed policer registers: context × 4 + register, and word. -/
  polShadow : List (Nat × Nat) := []
  /-- R144. Contexts whose policer has raised event 0x0409 since the last tick. -/
  polSeen : List Nat := []
  /-- R144. The tokens that each context's policer lacks to its BURST, in units of 1/375 byte. -/
  polLow : List (Nat × Nat) := []
deriving DecidableEq, Repr

/-! ## The cascade group (16) -/

/-- What a member last reported (R434): its up links, its trunk, and whether it is present. -/
structure Member where
  links : Nat := 0
  trunk : Nat := 0
  present : Bool := false
  /-- R441. This hub's link to the member was declared down and the member is not yet marked: the other members that still
  have to report, and the hub time of the declaration. -/
  awaited : Option (Nat × Nat) := none
deriving DecidableEq, Repr

/-- A group swap (R444): request number, bank, effect time, answers outstanding, port it came from, hub time. -/
structure GroupSwap where
  req : Nat
  bank : Nat
  time : Nat
  waiting : Nat
  port : Nat
  since : Nat
deriving DecidableEq, Repr

/-- The cascade group outside the registers. -/
structure Cascade where
  members : List (Nat × Member) := []
  /-- The coordinator's swap in progress, and the swap prepared at this member. -/
  swap : Option GroupSwap := none
  prep : Option GroupSwap := none
  nextReq : Nat := 0
  /-- R119, R120. The active trunk is lost and a standby is taking over. -/
  switching : Bool := false
deriving DecidableEq, Repr

/-! ## The cistern and the wells (05, 04) -/

/-- A cell of the cistern in use: the port it is charged to and how many extents it holds (R154 to R156). -/
structure Cell where
  port : Nat
  refs : Nat
  /-- R109. The class of the flit that landed in it when its release makes a credit due: 1 CTL, 2 SPO, else 0. -/
  credit : Nat := 0
deriving DecidableEq, Repr

/-- An extent of a frame (R154): the cell, how many bytes, and where in the cell they stand. -/
structure Ext where
  cell : Nat
  len : Nat
  off : Nat
deriving DecidableEq, Repr

/-- A frame descriptor: a frame's bytes, extents, stamp, source, context and flags (R154 to R157, R191). -/
structure Frame where
  /-- The bytes landed and not removed. -/
  data : Bytes := []
  /-- The extents in order. -/
  exts : List Ext := []
  /-- R157. Ingress stamp. -/
  stamp : Nat := 0
  /-- R156. The port the frame's cells are charged to. -/
  src : Nat := 32
  /-- R191. PORT as the metadata shows it. -/
  port : Nat := 0xFF
  /-- R191. The context, as CTX of the metadata. -/
  ctx : Nat := 0
  /-- LAST has landed. -/
  closed : Bool := true
  /-- R98. -/
  loss : Bool := false
  /-- R191. The flags RECIRC, MSG, TIMER and EARLY of the metadata. -/
  recirc : Bool := false
  msg : Bool := false
  timer : Bool := false
  early : Bool := false
  /-- R191. Trunk class. -/
  tcls : Nat := 0
  /-- R191. Segment records landed. -/
  segs : Nat := 0
  /-- R191. Ethernet class entry, 0xFF for none. -/
  cls : Nat := 0xFF
  /-- R191. ARG of the metadata. -/
  arg : Nat := 0
  /-- R19, R97. The generation that the segment records carried. -/
  gen : Nat := 0
  /-- R256. Remote context and generation of a frame bound for another hub. -/
  rctx : Nat := 0
  rgen : Nat := 0
  /-- R257, R375. The argument word a frame was forwarded with, and the slice that sent it. -/
  word : Nat := 0
  slice : Nat := 0
  /-- R400. A system context sent the frame. -/
  sys : Bool := false
  /-- R146. The frame has been counted in ALT_GCL_OVR. -/
  ovr : Bool := false
deriving DecidableEq, Repr

/-- A well: its frames, head first, and the scheduler's tags (R140), in units of the scheduler. -/
structure Well where
  q : List Nat := []
  /-- R140. Start and finish tag; none for an empty well. -/
  tags : Option (Nat × Nat) := none
  /-- R142. The credit's fraction of a byte, in units of 1/75,000,000. -/
  frac : Nat := 0
  /-- R142. Since the last tick, if it changed: the ns during which the well was non-empty, not sending and gate-open, up to the hub
  time that follows. -/
  part : Option (Nat × Nat) := none
  /-- R143. Shadowed writes of RATE registers until the next tick: offset in the set and word. -/
  shadow : List (Nat × Nat) := []
deriving DecidableEq, Repr

/-- A frame in transmission on a port: the frame, the well it came from, none for a direct queue. -/
structure Tx where
  frame : Nat
  well : Option Nat
  /-- R399. Hub time at its start. -/
  time : Nat
deriving DecidableEq, Repr

/-- The cistern, the wells, the direct queues and the dipper outside the registers. -/
structure Cistern where
  /-- R154, R156. The cells in use, by number. -/
  cells : List (Nat × Cell) := []
  /-- R155. Where the search for a free cell begins. -/
  nextCell : Nat := 0
  /-- R158. The bytes that stand in cells, for every cell in which something has landed. -/
  stored : List (Nat × Bytes) := []
  /-- R183. WEL_FLUSH waits for a frame of the well whose transmission has started: the well, and the frames flushed. -/
  flush : Option (Nat × Nat) := none
  /-- R527. Cells retired from the free list until release of PORST_N. -/
  retired : List Nat := []
  /-- R154. The frames that stand in the cistern, by the number the model gives each, and the next number. -/
  frames : List (Nat × Frame) := []
  nextFrame : Nat := 0
  /-- R162, R170. The wells, by number. -/
  wells : List (Nat × Well) := []
  /-- R140. Virtual times: of a port's level by port × 8 + level, of allotment k by 4096 + k. -/
  vtime : List (Nat × Nat) := []
  /-- R109, R162. Credits due, by release order: the link's port and the class, 1 CTL, 2 SPO. -/
  due : List (Nat × Nat) := []
  /-- R258. Direct queues by port. -/
  direct : List (Nat × List Nat) := []
  /-- R141, R146. The frame in transmission, by port. -/
  tx : List (Nat × Tx) := []
  /-- R173. Wells whose first shed of this islanded period has been reported. -/
  shedSeen : List Nat := []
  /-- R181. Records that wait for a write into tank 3, oldest first. -/
  dipBuf : List Bytes := []
  /-- R178. Matches since EN was set. -/
  dipMatch : Nat := 0
deriving DecidableEq, Repr

/-! ## Pumps and contexts (06, 07, 08) -/

/-- Thread states (R186). -/
inductive ThSt where
  | idle | ready | wait | order | blocked | park
deriving DecidableEq, Repr

/-- The flags N, Z, C, V (R211). -/
structure Flags where
  n : Bool := false
  z : Bool := false
  c : Bool := false
  v : Bool := false
deriving DecidableEq, Repr

/-- Long operations (R187, R242). -/
inductive LOp where
  | fetch | put | trim | prep | apnd | cut | lkpx | lkpd | crc32c | crc16 | seal | unseal
  | cld | cst | cadd | cand | cor | cxch | ccas
deriving DecidableEq, Repr

/-- A long operation outstanding: what it is, its result register, and the operand values taken at issue. -/
structure LongOp where
  op : LOp
  gd : Nat
  d : Nat
  a : Nat
  b : Nat
  k : Nat
deriving DecidableEq, Repr

/-- Why a thread waits in WAIT (R187, R189). -/
inductive Waiting where
  | fill (line : Nat)
  | long (o : LongOp)
deriving DecidableEq, Repr

/-- An instruction at an ordering point or under back-pressure (R202, R255, R257): its operands as taken at issue. -/
inductive Tail where
  | enq (well len rctx rgen : Nat) (copy : Bool)
  | fwd (port : Nat) (b : Nat) (copy : Bool)
  | endOp
  | drop
  | trap (code : Nat)
deriving DecidableEq, Repr

/-- A pump thread (R186, R190, R210 to R212, R230). -/
structure Thread where
  /-- R186. The state. -/
  st : ThSt := .idle
  /-- R211. The context of the dispatch. -/
  ctx : Nat := 0
  /-- R202. Its place in the order of dispatches of its context, and whether its ordering point is passed. -/
  seq : Nat := 0
  passed : Bool := false
  /-- R210. g1 to g15, by number. -/
  g : List (Nat × W64) := []
  /-- R211. The flags. -/
  flg : Flags := {}
  /-- R211. Byte offset in tank 1 of the next instruction. -/
  pc : Nat := 0
  /-- R203. Instructions issued in this dispatch, and how many it may issue. -/
  steps : Nat := 0
  budget : Nat := 0
  /-- The chain the thread holds. -/
  chain : Option Nat := none
  /-- R211. The generation recorded with the chain at dispatch. -/
  gen : Nat := 0
  /-- R190. The private area of 2 KiB, by address, and the slice of the previous dispatch. -/
  mem : List Host.Cell := []
  lastSlice : Option Nat := none
  /-- R187. The long operation or the cache fill that it waits for. -/
  waiting : Option Waiting := none
  /-- R166, R202. The instruction that waits for its ordering point or under back-pressure. -/
  tail : Option Tail := none
  /-- R168, R254. Its place among stalled threads and among the operations issued to the crypto engines. -/
  stall : Nat := 0
  /-- R205, R309. The thread stops at its next issue, and the cause its chain goes to the sump with. -/
  stop : Option Nat := none
  /-- R265. What a parked thread waits for: the condition, the hub time or the number of bytes, and the threads of its pump, as
  bits, that have yet to issue. -/
  park : Nat := 0
  parkTime : Nat := 0
  parkSet : Nat := 0
deriving DecidableEq, Repr

/-- A pending chain: its frame, its context and the pump it is pending on (R201). -/
structure Pend where
  frame : Nat
  ctx : Nat
  pump : Nat
deriving DecidableEq, Repr

/-- An armed context timer (R263, R264). -/
structure Timer where
  time : Nat
  arg : Nat
deriving DecidableEq, Repr

/-- Pumps outside the registers. -/
structure Pumps where
  /-- Threads by pump × 32 + thread. -/
  threads : List (Nat × Thread) := []
  /-- Pending chains, the one pending longest first. -/
  pend : List Pend := []
  /-- R202. Dispatches made, by context. -/
  seq : List (Nat × Nat) := []
  /-- R168. Stalls numbered so far. -/
  stalls : Nat := 0
  /-- R263. Armed timers by context × 4 + timer. -/
  timers : List (Nat × Timer) := []
  /-- R189. Instruction-cache lines held, by pump, newest first. -/
  icache : List (Nat × List Nat) := []
  /-- R185. The thread that issued last, by pump, where it is not thread 31. -/
  last : List (Nat × Nat) := []
deriving DecidableEq, Repr

/-! ## Spouts and their power path (11, 12) -/

/-- What a spout's policy holds outside the registers (R321 to R340). -/
structure Spout where
  /-- The partner's terminations as last seen. -/
  cc : CcState := ⟨false, 0, false, false⟩
  /-- R322. The termination, or VBUS as Sink, is absent: the detach debounce runs. -/
  absent : Bool := false
  /-- R324. The spout attached as Source. -/
  asSource : Bool := false
  /-- R369. SPT<n>_VBUS_S reads above 4.4 V. -/
  vbus : Bool := false
  /-- R335, R336. A moisture check is due at the next toggle boundary; a check is running. -/
  checkDue : Bool := false
  checking : Bool := false
  /-- R338. The largest G of the present day; whether a day under way held a check; consecutive rises of more than 10 %. -/
  dayG : Option Nat := none
  rises : Nat := 0
  /-- R326. The capabilities last sent: voltage code and current in 10 mA, in object order. -/
  offered : List (Nat × Nat) := []
  /-- R327. A contract accepted and not yet settled: object position, current, voltage code. -/
  asked : Option (Nat × Nat × Nat) := none
  /-- R352. The current of the PDO that the accepted Request names, in 10 mA. -/
  askedCur : Nat := 0
  /-- R320. As Sink: 1 the hub's Request is out, 2 it is accepted. -/
  sinkReq : Nat := 0
  /-- R352. The current of the contracted PDO in 10 mA. -/
  pdoCur : Nat := 0
  /-- R329. The hub's own swap request that awaits an answer, and the swap under way: 0 none, 1 PR, 2 DR, 3 VCONN. -/
  mine : Nat := 0
  swapping : Nat := 0
  /-- R359. The swap under way waits for power-good before the hub, the new Source, sends PS_RDY. -/
  toSource : Bool := false
  /-- R330. The swap that is repeated 100 ms after a Wait. -/
  again : Nat := 0
  /-- R329, R330. The hub does not repeat its PR_Swap, its DR_Swap. -/
  noPr : Bool := false
  noDr : Bool := false
  /-- R331. A contract has held since the attach; the step of discovery under way, 0 none, 1 identity, 2 SVIDs, 3 modes. -/
  hadContract : Bool := false
  disc : Nat := 0
  partnerVdos : List Nat := []
  cableVdos : List Nat := []
  /-- R332. The mode whose Enter Mode awaits its answer, 1 DP or 2 SAM; an Exit Mode awaits its answer. -/
  entering : Nat := 0
  exiting : Bool := false
  /-- R340. The answer is that of a SPT_MODE command. -/
  byCommand : Bool := false
  /-- R330. VBUS is to return after a Hard Reset. -/
  restoring : Bool := false
  /-- R325. A Hard Reset received while the policy is paused. -/
  hrPaused : Bool := false
  /-- R333. SAM credits held towards the partner, and credits granted to it and not used. -/
  samTx : Nat := 0
  samOut : Nat := 0
deriving DecidableEq, Repr

/-- A hot-insertion controller outside the registers (R346 to R360). -/
structure Hsw where
  /-- R347. The spout holds a partner; the insertion delay has elapsed. -/
  inserted : Bool := false
  elapsed : Bool := false
  /-- R355, R358. The retry timer runs. -/
  retryRun : Bool := false
  /-- SPT<n>_VSEL, and the previous code while R348's change of window is under way. -/
  vsel : Nat := 0
  oldVsel : Option Nat := none
  /-- R360. The sense was out of range in the last sample. -/
  senseBad : Bool := false
deriving DecidableEq, Repr

/-! ## USB (13) -/

/-- A fetched ring descriptor (R372): its address and its three fields. -/
structure Desc where
  addr : Nat
  param : Nat
  len : Nat
  ctrl : Nat
deriving DecidableEq, Repr

/-- An endpoint slot outside the registers (R372 to R380). -/
structure UsbSlot where
  /-- The next descriptor to fetch, the cycle state, and whether a fetch is under way. -/
  deq : Nat := 0
  cyc : Bool := false
  fetching : Bool := false
  /-- R372. Descriptors fetched, the head first. -/
  q : List Desc := []
  /-- Bytes of the head descriptor that have moved, and whether the transfer has begun. -/
  moved : Nat := 0
  begun : Bool := false
  /-- R375. RING OUT: the data of the next packet once fetched from the buffer, a fetch of it under way, and a fetch that failed. -/
  buf : Option Bytes := none
  asked : Bool := false
  bad : Bool := false
  /-- R375. LOCAL IN: data gathered. -/
  gather : Bytes := []
  /-- R157. Hub time of the first byte gathered. -/
  since : Nat := 0
  /-- R375. LOCAL OUT: the frame in transfer, and that a zero-length packet is still due. -/
  out : Option Nat := none
  zlp : Bool := false
  /-- R373. The endpoint's record: direction, type, packet size, additional transactions, speed, interval, translator
  hub and port, context, well and frame length. -/
  dirIn : Bool := false
  kind : Nat := 0
  mps : Nat := 0
  addl : Nat := 0
  speed : Nat := 0
  interval : Nat := 0
  ttHub : Nat := 0
  ttPort : Nat := 0
  ctx : Nat := 0
  well : Nat := 0
  maxlen : Nat := 0
  /-- R377. The data toggle, and transaction errors in a row. -/
  toggle : Bool := false
  errs : Nat := 0
  /-- R378. PING goes before the next OUT data packet. -/
  ping : Bool := false
  /-- R379. A start-split has been accepted and its result is awaited. -/
  split : Bool := false
  /-- R385. 1 stopped for islanding, 2 abandoned mid-transfer or overtaken. -/
  isl : Nat := 0
deriving DecidableEq, Repr

/-- A bus outside the registers (R366 to R387). -/
structure UsbBus where
  /-- The doorbell bytes last read, by number; the consumer index. -/
  db : List (Nat × Nat) := []
  cons : Nat := 0
  /-- The producer index of the event ring, its cycle bit, and the records held while it is full, each with whether it tells the host. -/
  prod : Nat := 0
  evCyc : Bool := true
  held : List (Bytes × Bool) := []
  /-- R374. Event 0x0C01 has been raised in this microframe. -/
  told : Bool := false
  /-- The command ring: next address, cycle state, fetch under way, commands fetched, the head under way, halted. -/
  cmdDeq : Nat := 0
  cmdCyc : Bool := false
  cmdFetching : Bool := false
  cmds : List Desc := []
  cmdBusy : Bool := false
  cmdHalt : Bool := false
  /-- R373. The endpoint slots, by number. -/
  slots : List (Nat × UsbSlot) := []
  /-- R389. The next data packet received is corrupted. -/
  inj : Bool := false
  /-- R383. Ports on their way to suspend, ports in a host resume and in a remote-wake resume, and the ports that BUS_SUSPEND
  suspended, as bits. -/
  suspending : Nat := 0
  hostResume : Nat := 0
  wakeResume : Nat := 0
  byBus : Nat := 0
deriving DecidableEq, Repr

/-! ## Ethernet and storage (14) -/

/-- A transmit time-stamp capture (R400): time, message type, sequence. -/
structure TxTs where
  time : Nat
  mtype : Nat
  seq : Nat
deriving DecidableEq, Repr

/-- An Ethernet port outside the registers (R391 to R404). -/
structure Eth where
  /-- R400. Transmit time stamps captured, the oldest first. -/
  caps : List TxTs := []
  /-- R404. Held by PAUSE until; held by PFC until, by priority. -/
  pauseTo : Nat := 0
  pfcTo : List (Nat × Nat) := []
  /-- R404. PAUSE and PFC frames that came during a transmission, whose holds start at its end: PFC or not, vector and quanta. -/
  waits : List (Bool × Nat × List Nat) := []
  /-- R403. PAUSE has been sent and not ended. -/
  paused : Bool := false
deriving DecidableEq, Repr

/-- A timing sample of a gPTP message on the trunk (R398): the LSEQ of the flit that carried its first segment, that flit's time at the
serialiser, and the message's sequence. -/
structure PtpSample where
  lseq : Nat
  time : Nat
  seq : Nat
deriving DecidableEq, Repr

/-- 802.1AS on the trunk (R398): the last samples sent and received by message type; 0 while the servo runs, 1 from a lane removal on,
2 behind the fallback boundary; the received cycle of that boundary; a Pdelay request has gone out behind it. -/
structure Ptp where
  sent : List (Nat × PtpSample) := []
  got : List (Nat × PtpSample) := []
  hold : Nat := 0
  boundary : Option Nat := none
  asked : Bool := false
deriving DecidableEq, Repr

/-- A configuration access under way on a root port (R406). -/
structure CfgAcc where
  fn : Nat
  off : Nat
  write : Bool
  v : Nat
  /-- The downstream tag that its answer completes. -/
  tag : Option Nat := none
deriving DecidableEq, Repr

/-! ## The display engine (15) -/

/-- A display timing (R422): what a commit takes from the shadow registers. -/
structure Timing where
  htotal : Nat
  hact : Nat
  vtotal : Nat
  vact : Nat
  pclk : Nat
  rate : Nat
deriving DecidableEq, Repr

/-- A slot of a layer's ring (R418, R419): its line, the bytes landed, whether the line has been complete, and the count of a
rewrite. -/
structure LineSlot where
  line : Nat
  landed : Nat
  whole : Bool
  redo : Option Nat
deriving DecidableEq, Repr

/-- A layer outside the registers (R419 to R421, R426). -/
structure Layer where
  slots : List (Nat × LineSlot) := []
  /-- Off for the rest of the frame; on the way back after a frame with an underrun; hidden in this frame. -/
  off : Bool := false
  resync : Bool := false
  hidden : Bool := false
deriving DecidableEq, Repr

/-- The display engine outside the registers. -/
structure Dsp where
  /-- R422. The timing in use and the one that waits for vertical blanking. -/
  use : Option Timing := none
  pend : Option Timing := none
  /-- R422. No video stream until the end of the frame. -/
  quiet : Bool := false
  /-- R419. The layers, by number. -/
  layers : List (Nat × Layer) := []
deriving DecidableEq, Repr

/-! ## The whole -/

/-- The state of the hub. Registers stand in `regs`, one entry for each field that does not hold its reset value. -/
structure State where
  /-- The commands that wait, first in, first out: the model's queue. -/
  pending : List Instr := []
  /-- What the hub has sent out and reported, newest first: the model's record. -/
  outs : List Out := []
  /-- Register fields that differ from their reset values: (key of the field, value), keys rising (R12 to R17, R552). -/
  regs : List (Nat × Nat) := []
  /-- R13. Latched high words, by the address of the high word. -/
  latch : List (Nat × Nat) := []
  /-- R10. Hub time in ns. -/
  hubTime : Nat := 0
  /-- R513. Hub time runs. -/
  timeRuns : Bool := false
  /-- The model's count of free values drawn: the argument of the next one. -/
  free : Nat := 0
  /-- R293, R305, R491, R492. Hub time of the last raise of each rate-limited event, by the model's key. -/
  limited : List (Nat × Nat) := []
  /-- R472, R475. The fuses of this part. -/
  fuses : Fuses := {}
  /-- R499, R519. Start-up, reset and power state. -/
  power : Power := {}
  /-- R36. The bucket's command queue. -/
  bkt : Bucket := {}
  /-- R287. Messages raised and not yet delivered, oldest first. -/
  msgs : List Msg := []
  /-- R268, R296. The MSI-X table. -/
  msix : List (Nat × Vec) := []
  /-- R269, R277. The host bridge. -/
  brg : Bridge := {}
  /-- R310. Slice resets in propagation. -/
  resets : List SliceReset := []
  /-- R528. The fault ladder. -/
  ladder : Ladder := {}
  /-- R537. The BIST run. -/
  bist : Bist := {}
  /-- R541. The monitored inputs, by index. -/
  inputs : List (Nat × InputMon) := []
  /-- R453, R454. The vault. -/
  vault : Vault := {}
  /-- R483. The tanks. -/
  tanks : Tanks := {}
  /-- R154. The cistern, the wells and the ports. -/
  cis : Cistern := {}
  /-- R185. The pumps. -/
  pumps : Pumps := {}
  /-- R55. The trunk's lanes and priming. -/
  trunk : Trunk := {}
  /-- R99, R430. Links by port: 0 the trunk, 1 to 3 the cascade. -/
  links : List (Nat × Link) := []
  /-- R124. The calendar, the shapers and the gates. -/
  allot : Allot := {}
  /-- R429. The cascade group. -/
  cas : Cascade := {}
  /-- R321. The spouts, by number. -/
  spouts : List (Nat × Spout) := []
  /-- R347. The hot-swap controllers, by spout. -/
  hsw : List (Nat × Hsw) := []
  /-- R366. The USB buses, by number. -/
  usb : List (Nat × UsbBus) := []
  /-- R391. The Ethernet ports, by port. -/
  eth : List (Nat × Eth) := []
  /-- R398. 802.1AS on the trunk. -/
  ptp : Ptp := {}
  /-- R406. Configuration accesses under way, by root port. -/
  cfgs : List (Nat × CfgAcc) := []
  /-- R413, R422. The display engine. -/
  dsp : Dsp := {}
deriving DecidableEq, Repr

/-- Why a step can stop with a fault: no command of this hub does (the spec gives every row an effect). -/
inductive Fault where
  /-- Raised by nothing: the machine has no stop that the manual reports outside its own state. Safe. -/
  | none
deriving DecidableEq, Repr

/-- Why a step can be refused. -/
inductive Refusal where
  /-- Raised by the dispatch for a command without a meaning, by its mnemonic. Safe. -/
  | notModelled (mnemonic : String)
deriving DecidableEq, Repr

/-- The hub held in reset by PORST_N, every register at its reset value (R17, R516). (DESIGN CHOICE, log 5) -/
def State.reset : State := {}

end Sys2Proof.Machine
end

