-- ==== Sys2Proof/Machine/Ops.lean ====
section
/-! DEFINITION. The named operations every command uses: register fields, counters, the output record, which units are present (R4 to R8), byte strings, and the tanks' bytes. -/
namespace Sys2Proof.Machine

/-! ## Register fields -/

/-- The value of a field. -/
def State.get (s : State) (f : Fld) : Nat := assocGet f.rst s.regs f.key

/-- A one-bit field read as a flag. -/
def State.is (s : State) (f : Fld) : Bool := s.get f == 1

/-- Writing a field: the value is cut to the field's width. -/
def State.put (s : State) (f : Fld) (v : Nat) : State :=
  { s with regs := assocSet f.rst f.key (v % 2 ^ f.w) s.regs }

/-- Writing a one-bit field from a flag. -/
def State.putB (s : State) (f : Fld) (b : Bool) : State := s.put f (if b then 1 else 0)

/-- Adding to a counter that saturates at its widest value. -/
def State.addSat (s : State) (f : Fld) (k : Nat) : State := s.put f (min (s.get f + k) (2 ^ f.w - 1))

/-- Counting one. -/
def State.bump (s : State) (f : Fld) : State := s.addSat f 1

/-- Adding to a counter that wraps. -/
def State.addWrap (s : State) (f : Fld) (k : Nat) : State := s.put f (s.get f + k)

/-- Returning a field to its reset value. -/
def State.unput (s : State) (f : Fld) : State := s.put f f.rst

/-- Dropping every stored register entry whose word address the test keeps out: those fields return to reset. -/
def State.keepRegs (s : State) (p : Nat → Bool) : State := { s with regs := s.regs.filter (fun e => p e.1) }

/-- A field value as a signed number. -/
def signed (w v : Nat) : Int := if v < 2 ^ (w - 1) then (v : Int) else (v : Int) - 2 ^ w

/-- A signed number as a field value. -/
def unsigned (w : Nat) (i : Int) : Nat := (i % (2 ^ w : Nat)).toNat

/-- Clamping (R14). -/
def clampNat (lo hi v : Nat) : Nat := if v < lo then lo else if hi < v then hi else v

/-- Clamping a signed number. -/
def clampInt (lo hi v : Int) : Int := if v < lo then lo else if hi < v then hi else v

/-- Bit i of a number. -/
def bit (v i : Nat) : Bool := v.testBit i

/-- The field [hi:lo] of a word. -/
def bits (v hi lo : Nat) : Nat := v / 2 ^ lo % 2 ^ (hi + 1 - lo)

/-- Setting or clearing bit i. -/
def setBit (v i : Nat) (b : Bool) : Nat :=
  if v.testBit i then (if b then v else v - 2 ^ i) else (if b then v + 2 ^ i else v)

/-- How many of the low n bits are 1. -/
def countBits (v n : Nat) : Nat := ((List.range n).filter (fun i => v.testBit i)).length

/-- The numbers below n whose bit is 1, rising. -/
def bitList (v n : Nat) : List Nat := (List.range n).filter (fun i => v.testBit i)

/-! ## Byte strings -/

/-- The n low bytes of a number, least significant first (R11). -/
def leBytes : Nat → Nat → Bytes
  | 0, _ => []
  | n + 1, v => BitVec.ofNat 8 v :: leBytes n (v / 256)

/-- The number that little-endian bytes hold. -/
def leNat : Bytes → Nat
  | [] => 0
  | b :: l => b.toNat + 256 * leNat l

/-- The n low bytes of a number, most significant first. -/
def beBytes (n v : Nat) : Bytes := (leBytes n v).reverse

/-- The number that big-endian bytes hold. -/
def beNat (l : Bytes) : Nat := leNat l.reverse

/-- n zero bytes. -/
def zeros (n : Nat) : Bytes := List.replicate n 0#8

/-- The n bytes from position i, zero where the string has ended. -/
def slice (l : Bytes) (i n : Nat) : Bytes :=
  let t := (l.drop i).take n
  t ++ zeros (n - t.length)

/-- The little-endian number of n bytes at position i. -/
def leAt (l : Bytes) (i n : Nat) : Nat := leNat (slice l i n)

/-- The big-endian number of n bytes at position i. -/
def beAt (l : Bytes) (i n : Nat) : Nat := beNat (slice l i n)

/-- A string cut or filled with zeros to n bytes. -/
def fit (n : Nat) (l : Bytes) : Bytes := slice l 0 n

/-- The string with the bytes d placed over it from position i. -/
def overlay (l : Bytes) (i : Nat) (d : Bytes) : Bytes := l.take i ++ zeros (i - l.length) ++ d ++ l.drop (i + d.length)

/-! ## The output record -/

/-- Recording an output. -/
def State.emit (s : State) (o : Out) : State := { s with outs := o :: s.outs }

/-- Drawing the next free value: the counter that makes each draw a fresh argument. (DESIGN CHOICE, log 6) -/
def State.draw (s : State) : Nat × State := (s.free, { s with free := s.free + 1 })

/-! ## What is present (R4 to R8, R24) -/

/-- R4. Pumps present. -/
def State.nPumps (s : State) : Nat := if s.fuses.variant = 0 then 32 else 16
/-- R4. Contexts present. -/
def State.nCtx (s : State) : Nat := if s.fuses.variant = 0 then 1024 else 512
/-- R4. Spouts present. -/
def State.nSpouts (s : State) : Nat := if s.fuses.variant = 2 then 8 else 16
/-- R4. Wide spouts. -/
def State.nWide (s : State) : Nat := if s.fuses.variant = 2 then 2 else 4
/-- R7. The display engine is present. -/
def State.hasDisplay (s : State) : Bool := s.fuses.variant != 2
/-- R8. Cascade ports are present. -/
def State.hasCascade (s : State) : Bool := s.fuses.variant == 0

/-- R1. The hub is in dock role. -/
def State.dock (s : State) : Bool := s.is GLB_HUB_STAT_ROLE

/-- R24, R25. Internal port p is present. -/
def State.portPresent (s : State) (p : Nat) : Bool :=
  if 1 ≤ p ∧ p ≤ 3 then s.hasCascade
  else if 12 ≤ p ∧ p ≤ 27 then decide (p - 12 < s.nSpouts)
  else if p = 30 then s.hasDisplay
  else decide (p ≤ 34)

/-- R529. The hub is in Halt. -/
def State.halted (s : State) : Bool := s.is FLT_STAT_HALT

/-- The core works: start-up step 6 is done, and neither Halt nor a stopped clock nor a BIST hold stands (R519, R529). -/
def State.running (s : State) : Bool := s.power.phase == .run && !s.halted && !s.power.clockStopped

/-- R20, R523. The wellhead controller runs firmware: from step 5 on. -/
def State.firmware (s : State) : Bool :=
  (s.power.phase == .run || s.power.phase == .priming || s.power.phase == .scrapped) && !s.halted && !s.power.clockStopped

/-- R529, R540. Ports move traffic: the links work from step 5 on. -/
def State.linksLive (s : State) : Bool :=
  (s.power.phase == .run || s.power.phase == .priming) && !s.halted && !s.power.clockStopped

/-! ## The tanks' bytes (R483) -/

/-- A byte of a tank; every byte reads zero until it is written, since release of PORST_N zeroes the tanks (R485). (DEDUCED, log
121) -/
def memGet (m : List Host.Cell) (a : Nat) : Byte := assocGet 0#8 m a

/-- Writing a byte of a tank. -/
def memSet (m : List Host.Cell) (a : Nat) (b : Byte) : List Host.Cell := assocSet 0#8 a b m

/-- The n bytes from address a. -/
def memRead (m : List Host.Cell) (a n : Nat) : Bytes := (List.range n).map (fun i => memGet m (a + i))

/-- Writing bytes from address a. -/
def memWrite (m : List Host.Cell) (a : Nat) : Bytes → List Host.Cell
  | [] => m
  | b :: l => memWrite (memSet m a b) (a + 1) l

/-- Zeroing the addresses from a to below a + n. -/
def memZero (m : List Host.Cell) (a n : Nat) : List Host.Cell := m.filter (fun c => decide (c.1 < a ∨ a + n ≤ c.1))

/-- Tank k, 0 to 3; 4 is the secure tank. -/
def State.tank (s : State) (k : Nat) : List Host.Cell :=
  match k with
  | 0 => s.tanks.t0
  | 1 => s.tanks.t1
  | 2 => s.tanks.t2
  | 3 => s.tanks.t3
  | _ => s.tanks.sec

/-- Replacing tank k. -/
def State.setTank (s : State) (k : Nat) (m : List Host.Cell) : State :=
  match k with
  | 0 => { s with tanks := { s.tanks with t0 := m } }
  | 1 => { s with tanks := { s.tanks with t1 := m } }
  | 2 => { s with tanks := { s.tanks with t2 := m } }
  | 3 => { s with tanks := { s.tanks with t3 := m } }
  | _ => { s with tanks := { s.tanks with sec := m } }

/-- Writing bytes of tank k from offset a. -/
def State.tankWrite (s : State) (k a : Nat) (d : Bytes) : State := s.setTank k (memWrite (s.tank k) a d)

/-- Reading n bytes of tank k from offset a. (DEDUCED, log 206) -/
def State.tankRead (s : State) (k a n : Nat) : Bytes := memRead (s.tank k) a n

/-- A tank memory is in canonical form. -/
def Memory.wf (m : List Host.Cell) : Bool := assocWf (fun _ => 0#8) m

/-- Updating the value a keyed store holds. -/
def assocMod {α : Type} [DecidableEq α] (d : α) (k : Nat) (f : α → α) (l : List (Nat × α)) : List (Nat × α) :=
  assocSet d k (f (assocGet d l k)) l

/-- Looking a key up in a store without a default. -/
def assocFind {α : Type} : List (Nat × α) → Nat → Option α
  | [], _ => none
  | (k', v) :: l, k => if k = k' then some v else assocFind l k

/-- The least number not used as a key, from n up, below n + fuel. -/
def freshKey {α : Type} (l : List (Nat × α)) : Nat → Nat → Option Nat
  | _, 0 => none
  | n, k + 1 => if (assocFind l n).isNone then some n else freshKey l (n + 1) k

end Sys2Proof.Machine
end

