-- ==== Sys2Proof/Machine/Crypto.lean ====
section
/-! DEFINITION. The arithmetic of the standards the spec names: CRC-8, CRC-16 and CRC-32C (R90, R249), SHA-256, SHA-384 and HMAC-SHA-256 (R467, R475), AES-256 with GCM and key wrap (R250, R468), ECDSA P-384 (R475). The S-box and the curve are those of the standards. -/
namespace Sys2Proof.Machine

/-! ## CRCs -/

/-- One bit of a reflected CRC. -/
def crcReflBit (poly c : Nat) : Nat := if c % 2 = 1 then (c / 2) ^^^ poly else c / 2

/-- One byte of CRC-32C, least significant bit first, the register in reflected order (R249). -/
def crc32cByte (c : Nat) (b : Byte) : Nat := Nat.repeat (crcReflBit 0x82F63B78) 8 (c ^^^ b.toNat)

/-- CRC-32C over bytes from a register value, without final inversion (R249). -/
def crc32cRaw (init : Nat) (l : Bytes) : Nat := l.foldl crc32cByte init

/-- The standard CRC-32C (R249). -/
def crc32c (l : Bytes) : Nat := crc32cRaw 0xFFFFFFFF l ^^^ 0xFFFFFFFF

/-- One bit of CRC-16, most significant bit first (R249). -/
def crc16Bit (c : Nat) : Nat := if 0x8000 ≤ c then ((c * 2) % 0x10000) ^^^ 0x1021 else c * 2

/-- CRC-16 over bytes from a register value (R249). -/
def crc16Raw (init : Nat) (l : Bytes) : Nat := l.foldl (fun c b => Nat.repeat crc16Bit 8 (c ^^^ (b.toNat * 256))) init

/-- One bit of CRC-8 with polynomial 0x07 (R90). -/
def crc8Bit (c : Nat) : Nat := if 0x80 ≤ c then ((c * 2) % 0x100) ^^^ 0x07 else c * 2

/-- The header CRC (R90). -/
def crc8 (l : Bytes) : Nat := l.foldl (fun c b => Nat.repeat crc8Bit 8 (c ^^^ b.toNat)) 0

/-! ## SHA-2 -/

/-- The primes below n. -/
def primesBelow (n : Nat) : List Nat :=
  (List.range n).filter (fun p => decide (2 ≤ p) && (List.range p).all (fun d => decide (d < 2) || p % d != 0))

/-- The largest number that adds n lower bits to r and whose k-th power is at most x. -/
def rootBits (k x : Nat) : Nat → Nat → Nat
  | 0, r => r
  | n + 1, r => rootBits k x n (if (r + 2 ^ n) ^ k ≤ x then r + 2 ^ n else r)

/-- The first w bits of the fractional part of the k-th root of p. -/
def rootFraction (k w p : Nat) : Nat := rootBits k (p * 2 ^ (k * w)) (w + 5) 0 % 2 ^ w

/-- A member of the SHA-2 family (FIPS 180-4): its word width, the number of rounds, the primes whose square roots give the initial
value, and the amounts of the schedule's two functions and of the rounds' two functions. -/
structure ShaParams where
  w : Nat
  rounds : Nat
  skip : Nat
  sched : (Nat × Nat × Nat) × (Nat × Nat × Nat)
  round : (Nat × Nat × Nat) × (Nat × Nat × Nat)

/-- SHA-256 begins from the first eight primes. -/
def sha256P : ShaParams := ⟨32, 64, 0, ((7, 18, 3), (17, 19, 10)), ((2, 13, 22), (6, 11, 25))⟩

/-- SHA-384 is SHA-512 from the next eight primes. -/
def sha384P : ShaParams := ⟨64, 80, 8, ((1, 8, 7), (19, 61, 6)), ((28, 34, 39), (14, 18, 41))⟩

/-- The round constants: cube roots of the first primes. -/
def ShaParams.consts (p : ShaParams) : List Nat := ((primesBelow 410).take p.rounds).map (rootFraction 3 p.w)

/-- The initial value: square roots of eight primes. -/
def ShaParams.start (p : ShaParams) : List Nat := (((primesBelow 54).drop p.skip).take 8).map (rootFraction 2 p.w)

/-- Rotation right of a w-bit word. -/
def rotr (w n x : Nat) : Nat := (x >>> n) ||| ((x <<< (w - n)) % 2 ^ w)

/-- A round's function: three rotations. -/
def mixRotate (w : Nat) (n : Nat × Nat × Nat) (x : Nat) : Nat := rotr w n.1 x ^^^ (rotr w n.2.1 x ^^^ rotr w n.2.2 x)

/-- A schedule's function: two rotations and a shift. -/
def mixShift (w : Nat) (n : Nat × Nat × Nat) (x : Nat) : Nat := rotr w n.1 x ^^^ (rotr w n.2.1 x ^^^ x >>> n.2.2)

/-- Extending the message schedule by n words; the list holds the newest word first. -/
def shaSchedule (p : ShaParams) : Nat → List Nat → List Nat
  | 0, ws => ws
  | n + 1, ws =>
    let old := mixShift p.w p.sched.1 (ws.getD 14 0) + ws.getD 15 0
    let new := mixShift p.w p.sched.2 (ws.getD 1 0) + ws.getD 6 0
    shaSchedule p n ((old + new) % 2 ^ p.w :: ws)

/-- One round on the eight working words, with the sum of its constant and its schedule word. -/
def shaRound (p : ShaParams) (v : List Nat) (kw : Nat) : List Nat :=
  let x := fun i => v.getD i 0
  let pick := x 6 ^^^ (x 4 &&& (x 5 ^^^ x 6))
  let vote := (x 0 &&& x 1) ||| (x 2 &&& (x 0 ||| x 1))
  let t := x 7 + mixRotate p.w p.round.2 (x 4) + pick + kw
  let top := (t + mixRotate p.w p.round.1 (x 0) + vote) % 2 ^ p.w
  (top :: v.take 3) ++ (((x 3 + t) % 2 ^ p.w) :: (v.drop 4).take 3)

/-- Cutting bytes into big-endian words of n bytes. -/
def beWords (n : Nat) : Nat → Bytes → List Nat
  | 0, _ => []
  | k + 1, l => beNat (l.take n) :: beWords n k (l.drop n)

/-- One block. -/
def shaBlock (p : ShaParams) (ks h : List Nat) (blk : Bytes) : List Nat :=
  let w := (shaSchedule p (p.rounds - 16) (beWords (p.w / 8) 16 blk).reverse).reverse
  let v := (List.zipWith (· + ·) ks w).foldl (shaRound p) h
  List.zipWith (fun a b => (a + b) % 2 ^ p.w) h v

/-- All blocks. -/
def shaBlocks (p : ShaParams) (ks : List Nat) : Nat → List Nat → Bytes → List Nat
  | 0, h, _ => h
  | n + 1, h, l => shaBlocks p ks n (shaBlock p ks h (l.take (2 * p.w))) (l.drop (2 * p.w))

/-- Padding: a 1 bit, zeros, and the length in a quarter of a half block. -/
def shaPad (p : ShaParams) (l : Bytes) : Bytes :=
  let b := 2 * p.w
  let lenBytes := p.w / 4
  let z := (b - (l.length + 1 + lenBytes) % b) % b
  l ++ [0x80#8] ++ zeros z ++ beBytes lenBytes (8 * l.length)

/-- The eight words that a message leaves. -/
def ShaParams.hash (p : ShaParams) (l : Bytes) : List Nat :=
  let m := shaPad p l
  shaBlocks p p.consts (m.length / (2 * p.w)) p.start m

/-- SHA-256 (FIPS 180-4). -/
def sha256 (l : Bytes) : Bytes := ((sha256P.hash l).map (beBytes 4)).flatten

/-- SHA-384 (FIPS 180-4). -/
def sha384 (l : Bytes) : Bytes := (((sha384P.hash l).take 6).map (beBytes 8)).flatten

/-- HMAC-SHA-256 with a key of at most 64 bytes. -/
def hmacSha256 (key msg : Bytes) : Bytes :=
  let k := fit 64 key
  sha256 (k.map (· ^^^ 0x5c#8) ++ sha256 (k.map (· ^^^ 0x36#8) ++ msg))

/-! ## AES-256 -/

/-- FIPS 197, the S-box. -/
def aesSbox : List Nat := [
  0x63, 0x7c, 0x77, 0x7b, 0xf2, 0x6b, 0x6f, 0xc5, 0x30, 0x01, 0x67, 0x2b, 0xfe, 0xd7, 0xab, 0x76,
  0xca, 0x82, 0xc9, 0x7d, 0xfa, 0x59, 0x47, 0xf0, 0xad, 0xd4, 0xa2, 0xaf, 0x9c, 0xa4, 0x72, 0xc0,
  0xb7, 0xfd, 0x93, 0x26, 0x36, 0x3f, 0xf7, 0xcc, 0x34, 0xa5, 0xe5, 0xf1, 0x71, 0xd8, 0x31, 0x15,
  0x04, 0xc7, 0x23, 0xc3, 0x18, 0x96, 0x05, 0x9a, 0x07, 0x12, 0x80, 0xe2, 0xeb, 0x27, 0xb2, 0x75] ++ [
  0x09, 0x83, 0x2c, 0x1a, 0x1b, 0x6e, 0x5a, 0xa0, 0x52, 0x3b, 0xd6, 0xb3, 0x29, 0xe3, 0x2f, 0x84,
  0x53, 0xd1, 0x00, 0xed, 0x20, 0xfc, 0xb1, 0x5b, 0x6a, 0xcb, 0xbe, 0x39, 0x4a, 0x4c, 0x58, 0xcf,
  0xd0, 0xef, 0xaa, 0xfb, 0x43, 0x4d, 0x33, 0x85, 0x45, 0xf9, 0x02, 0x7f, 0x50, 0x3c, 0x9f, 0xa8,
  0x51, 0xa3, 0x40, 0x8f, 0x92, 0x9d, 0x38, 0xf5, 0xbc, 0xb6, 0xda, 0x21, 0x10, 0xff, 0xf3, 0xd2] ++ [
  0xcd, 0x0c, 0x13, 0xec, 0x5f, 0x97, 0x44, 0x17, 0xc4, 0xa7, 0x7e, 0x3d, 0x64, 0x5d, 0x19, 0x73,
  0x60, 0x81, 0x4f, 0xdc, 0x22, 0x2a, 0x90, 0x88, 0x46, 0xee, 0xb8, 0x14, 0xde, 0x5e, 0x0b, 0xdb,
  0xe0, 0x32, 0x3a, 0x0a, 0x49, 0x06, 0x24, 0x5c, 0xc2, 0xd3, 0xac, 0x62, 0x91, 0x95, 0xe4, 0x79,
  0xe7, 0xc8, 0x37, 0x6d, 0x8d, 0xd5, 0x4e, 0xa9, 0x6c, 0x56, 0xf4, 0xea, 0x65, 0x7a, 0xae, 0x08] ++ [
  0xba, 0x78, 0x25, 0x2e, 0x1c, 0xa6, 0xb4, 0xc6, 0xe8, 0xdd, 0x74, 0x1f, 0x4b, 0xbd, 0x8b, 0x8a,
  0x70, 0x3e, 0xb5, 0x66, 0x48, 0x03, 0xf6, 0x0e, 0x61, 0x35, 0x57, 0xb9, 0x86, 0xc1, 0x1d, 0x9e,
  0xe1, 0xf8, 0x98, 0x11, 0x69, 0xd9, 0x8e, 0x94, 0x9b, 0x1e, 0x87, 0xe9, 0xce, 0x55, 0x28, 0xdf,
  0x8c, 0xa1, 0x89, 0x0d, 0xbf, 0xe6, 0x42, 0x68, 0x41, 0x99, 0x2d, 0x0f, 0xb0, 0x54, 0xbb, 0x16]

/-- The S-box of a byte. -/
def subByte (b : Byte) : Byte := BitVec.ofNat 8 (aesSbox.getD b.toNat 0)

/-- The inverse S-box of a byte. -/
def invSubByte (b : Byte) : Byte := BitVec.ofNat 8 (aesSbox.idxOf b.toNat)

/-- Doubling in the field of AES. -/
def xtime (b : Byte) : Byte := (b <<< 1) ^^^ (if b.msb then 0x1b#8 else 0#8)

/-- Multiplying by 9, 11, 13 or 14 through doublings. -/
def gmul (k : Nat) (b : Byte) : Byte :=
  let b2 := xtime b
  let b4 := xtime b2
  let b8 := xtime b4
  (if k.testBit 0 then b else 0#8) ^^^ (if k.testBit 1 then b2 else 0#8) ^^^ (if k.testBit 2 then b4 else 0#8) ^^^
    (if k.testBit 3 then b8 else 0#8)

/-- XOR of two byte strings. -/
def xorBytes (a b : Bytes) : Bytes := List.zipWith (· ^^^ ·) a b

/-- Extending the key schedule by n words; newest first. -/
def aesExpand : Nat → Nat → Byte → List Bytes → List Bytes
  | 0, _, _, ws => ws
  | n + 1, i, rc, ws =>
    let t := ws.headD []
    let old := ws.getD 7 []
    if i % 8 = 0 then
      let r := ((t.drop 1 ++ t.take 1).map subByte)
      let t' := xorBytes r [rc, 0#8, 0#8, 0#8]
      aesExpand n (i + 1) (xtime rc) (xorBytes old t' :: ws)
    else if i % 8 = 4 then aesExpand n (i + 1) rc (xorBytes old (t.map subByte) :: ws)
    else aesExpand n (i + 1) rc (xorBytes old t :: ws)

/-- Cutting bytes into strings of n bytes. -/
def chunks (n : Nat) : Nat → Bytes → List Bytes
  | 0, _ => []
  | k + 1, l => l.take n :: chunks n k (l.drop n)

/-- The 15 round keys of a 32-byte key. -/
def aesKeys (key : Bytes) : List Bytes :=
  chunks 16 15 ((aesExpand 52 8 1#8 (chunks 4 8 key).reverse).reverse).flatten

/-- Byte i of the shifted state: column-major order. -/
def shiftRows (l : Bytes) : Bytes := (List.range 16).map (fun i => l.getD ((i + 4 * (i % 4)) % 16) 0#8)

/-- The inverse shift. -/
def invShiftRows (l : Bytes) : Bytes := (List.range 16).map (fun i => l.getD ((i + 12 * (i % 4)) % 16) 0#8)

/-- Mixing columns with the given four coefficients. -/
def mixWith (c : List Nat) (l : Bytes) : Bytes :=
  (List.range 16).map (fun i => (List.range 4).foldl (fun a j => a ^^^ gmul (c.getD ((j + 4 - i % 4) % 4) 0) (l.getD (i / 4 * 4 + j) 0#8)) 0#8)

/-- The middle rounds and the last. -/
def aesRounds : List Bytes → Bytes → Bytes
  | [], l => l
  | [k], l => xorBytes (shiftRows (l.map subByte)) k
  | k :: ks, l => aesRounds ks (xorBytes (mixWith [2, 3, 1, 1] (shiftRows (l.map subByte))) k)

/-- AES-256 of one block (FIPS 197). -/
def aesEnc (keys : List Bytes) (blk : Bytes) : Bytes := aesRounds (keys.drop 1) (xorBytes blk (keys.headD []))

/-- The inverse rounds, last key first. -/
def aesInvRounds : List Bytes → Bytes → Bytes
  | [], l => l
  | [k], l => xorBytes ((invShiftRows l).map invSubByte) k
  | k :: ks, l => aesInvRounds ks (mixWith [14, 11, 13, 9] (xorBytes ((invShiftRows l).map invSubByte) k))

/-- The inverse cipher of AES-256. -/
def aesDec (keys : List Bytes) (blk : Bytes) : Bytes :=
  let r := keys.reverse
  aesInvRounds (r.drop 1) (xorBytes blk (r.headD []))

/-! ## AES-GCM -/

/-- Multiplication in the field of GCM, of 128-bit blocks read most significant bit first (SP 800-38D). -/
def gf128 : Nat → Nat → Nat → Nat → Nat
  | 0, _, _, z => z
  | n + 1, x, v, z =>
    let z' := if x.testBit n then z ^^^ v else z
    let v' := if v % 2 = 1 then (v / 2) ^^^ 0xE1000000000000000000000000000000 else v / 2
    gf128 n x v' z'

/-- GHASH over whole blocks. -/
def ghash (h : Nat) (blks : List Bytes) : Nat := blks.foldl (fun y b => gf128 128 (y ^^^ beNat (fit 16 b)) h 0) 0

/-- Blocks of a string, the last filled with zeros. -/
def blocks16 (l : Bytes) : List Bytes := chunks 16 ((l.length + 15) / 16) l

/-- Counter-mode stream over blocks, from counter c. -/
def gcmStream (keys : List Bytes) (iv : Bytes) : Nat → List Bytes → Bytes
  | _, [] => []
  | c, b :: l => xorBytes b (aesEnc keys (iv ++ beBytes 4 c)) ++ gcmStream keys iv (c + 1) l

/-- The tag of a ciphertext with a 12-byte IV. -/
def gcmTag (keys : List Bytes) (iv aad ct : Bytes) : Bytes :=
  let h := beNat (aesEnc keys (zeros 16))
  let y := ghash h (blocks16 aad ++ blocks16 ct ++ [beBytes 8 (8 * aad.length) ++ beBytes 8 (8 * ct.length)])
  xorBytes (beBytes 16 y) (aesEnc keys (iv ++ beBytes 4 1))

/-- AES-GCM-256 encryption: ciphertext and tag (R250). -/
def gcmSeal (key iv aad pt : Bytes) : Bytes × Bytes :=
  let keys := aesKeys key
  let ct := gcmStream keys iv 2 (blocks16 pt)
  (ct, gcmTag keys iv aad ct)

/-- AES-GCM-256 decryption: the plaintext when the tag matches (R252). -/
def gcmOpen (key iv aad ct tag : Bytes) : Option Bytes :=
  let keys := aesKeys key
  if gcmTag keys iv aad ct = tag then some (gcmStream keys iv 2 (blocks16 ct)) else none

/-! ## AES key wrap (RFC 3394) -/

/-- One pass of six over the registers R1 to Rn, from counter t. -/
def kwPass (keys : List Bytes) : Nat → Bytes → List Bytes → List Bytes → Bytes × List Bytes
  | _, a, [], done => (a, done.reverse)
  | t, a, r :: rs, done =>
    let b := aesEnc keys (a ++ r)
    kwPass keys (t + 1) (xorBytes (b.take 8) (beBytes 8 t)) rs (b.drop 8 :: done)

/-- Six passes. -/
def kwPasses (keys : List Bytes) (n : Nat) : Nat → Nat → Bytes → List Bytes → Bytes × List Bytes
  | 0, _, a, rs => (a, rs)
  | k + 1, j, a, rs =>
    let (a', rs') := kwPass keys (n * j + 1) a rs []
    kwPasses keys n k (j + 1) a' rs'

/-- Wrapping a plaintext of whole 8-byte blocks. -/
def kwWrap (key pt : Bytes) : Bytes :=
  let rs := chunks 8 (pt.length / 8) pt
  let (a, rs') := kwPasses (aesKeys key) rs.length 6 0 (List.replicate 8 0xA6#8) rs
  a ++ rs'.flatten

/-- One inverse pass, registers last first, from counter t down. -/
def kwUnpass (keys : List Bytes) : Nat → Bytes → List Bytes → List Bytes → Bytes × List Bytes
  | _, a, [], done => (a, done)
  | t, a, r :: rs, done =>
    let b := aesDec keys (xorBytes a (beBytes 8 t) ++ r)
    kwUnpass keys (t - 1) (b.take 8) rs (b.drop 8 :: done)

/-- Six inverse passes. -/
def kwUnpasses (keys : List Bytes) (n : Nat) : Nat → Bytes → List Bytes → Bytes × List Bytes
  | 0, a, rs => (a, rs)
  | j + 1, a, rs =>
    let (a', rs') := kwUnpass keys (n * j + n) a rs.reverse []
    kwUnpasses keys n j a' rs'

/-- Unwrapping: the plaintext when the integrity value is right. -/
def kwUnwrap (key blob : Bytes) : Option Bytes :=
  let rs := chunks 8 (blob.length / 8 - 1) (blob.drop 8)
  let (a, rs') := kwUnpasses (aesKeys key) rs.length 6 (blob.take 8) rs
  if a = List.replicate 8 0xA6#8 then some rs'.flatten else none

/-! ## ECDSA P-384 (FIPS 186) -/

def p384p : Nat := 2 ^ 384 - 2 ^ 128 - 2 ^ 96 + 2 ^ 32 - 1
def p384n : Nat := 0xffffffffffffffffffffffffffffffffffffffffffffffffc7634d81f4372ddf581a0db248b0a77aecec196accc52973
def p384b : Nat := 0xb3312fa7e23ee7e4988e056be3f82d19181d9c6efe8141120314088f5013875ac656398d8a2ed19d2a85c8edd3ec2aef
def p384gx : Nat := 0xaa87ca22be8b05378eb1c71ef320ad746e1d3b628ba79b9859f741e082542a385502f25dbf55296c3a545e3872760ab7
def p384gy : Nat := 0x3617de4a96262c6f5d9e98bf9292dc29f8f41dbd289a147ce9da3113b5f0b8c00a60b1ce1d7e819d7a431d7c90ea0e5f

/-- Modular power by squaring over the low n bits of the exponent, most significant first. -/
def powMod (m b e : Nat) : Nat → Nat → Nat
  | 0, acc => acc
  | n + 1, acc => powMod m b e n (if e.testBit n then acc * acc % m * b % m else acc * acc % m)

/-- The inverse modulo a prime of 384 bits. -/
def invMod (m b : Nat) : Nat := powMod m (b % m) (m - 2) 384 1

/-- Adding points of the curve; none is the point at infinity. -/
def ecAdd : Option (Nat × Nat) → Option (Nat × Nat) → Option (Nat × Nat)
  | none, q => q
  | p, none => p
  | some (x1, y1), some (x2, y2) =>
    if x1 = x2 ∧ (y1 + y2) % p384p = 0 then none
    else
      let l := if x1 = x2 then (3 * x1 * x1 + p384p - 3) * invMod p384p (2 * y1) % p384p
        else (y2 + p384p - y1) * invMod p384p (x2 + p384p - x1) % p384p
      let x3 := (l * l + 2 * p384p - x1 - x2) % p384p
      some (x3, (l * (x1 + p384p - x3) + p384p - y1) % p384p)

/-- Multiplying a point by the low n bits of k. -/
def ecMul (k : Nat) (q : Nat × Nat) : Nat → Option (Nat × Nat) → Option (Nat × Nat)
  | 0, acc => acc
  | n + 1, acc =>
    let d := ecAdd acc acc
    ecMul k q n (if k.testBit n then ecAdd d (some q) else d)

/-- ECDSA P-384 verification of a signature (r, s) over a message, by SHA-384. -/
def ecdsaVerify (qx qy : Nat) (msg : Bytes) (r s : Nat) : Bool :=
  if qx < p384p ∧ qy < p384p ∧ qy * qy % p384p = (qx * qx * qx + (p384p - 3) * qx + p384b) % p384p ∧
      0 < r ∧ r < p384n ∧ 0 < s ∧ s < p384n then
    let e := beNat (sha384 msg)
    let w := invMod p384n s
    match ecAdd (ecMul (e * w % p384n) (p384gx, p384gy) 384 none) (ecMul (r * w % p384n) (qx, qy) 384 none) with
    | none => false
    | some (x, _) => decide (x % p384n = r)
  else false

end Sys2Proof.Machine
end

