-- ==== Sys2Proof/Machine/Events.lean ====
section
/-! DEFINITION. Raising an event and routing it (R18, R287 to R291). -/
namespace Sys2Proof.Machine

/-- The origin byte of a message: role and CAS_ID of this hub (R290). -/
def State.origin (s : State) : Nat := (if s.dock then 1 else 0) + 2 * s.get CLK_STRAP_CAS_ID

/-- R291. The transport towards another hub has 64 places: the messages queued for port p. -/
def State.transportUse (s : State) (p : Nat) : Nat :=
  (s.msgs.filter (fun m => s.get (MSG_RT_PORT m.entry) == p && s.is (MSG_RT_EN m.entry))).length

/-- The transport that message m needs has no place (R291). -/
def State.msgFull (s : State) (m : Msg) : Bool :=
  let p := s.get (MSG_RT_PORT m.entry)
  s.is (MSG_RT_EN m.entry) && decide (p ≤ 3) && decide (64 ≤ s.transportUse p)

/-- The message that an event makes, and its entry; none where the map does not route it. An identifier above 4,095 is counted in
NOROUTE (R287). -/
def State.eventMsg (s : State) (code inst payload : Nat) : Option Msg × State :=
  let b := code / 256
  let e := code % 256
  if b ≤ 0x14 ∧ e ≤ 0x1F ∧ s.is (MSG_EVT_MAP_EN b e) then
    let id := s.get (MSG_EVT_MAP_BASE b e) + (if s.is (MSG_EVT_MAP_INST b e) then inst else 0)
    if 4095 < id then (none, s.bump (MSG_CNT_COUNT 2))
    else (some ⟨s.hubTime, code, inst % 65536, id, 0, s.origin, none, payload, id, none⟩, s)
  else (none, s)

/-- A message was discarded: event 0x1301, at most once per 1 ms (R293). The message of this event is dropped without a further
event where it finds no place itself. -/
def State.discardNote (s : State) : State :=
  let key := 0x1301 * 65536
  let last := assocGet 0 s.limited key
  if last = 0 ∨ last + 1000000 ≤ s.hubTime + 1 then
    let s := { s.emit (.event 0x1301 0 0) with limited := assocSet 0 key (s.hubTime + 1) s.limited }
    match s.eventMsg 0x1301 0 0 with
    | (none, s) => s
    | (some m, s) => if s.msgFull m then s.bump (MSG_CNT_COUNT 5) else { s with msgs := s.msgs ++ [m] }
  else s

/-- Placing a message in the queue of messages to deliver; one bound for another hub whose transport queue is full is
discarded and counted (R291). -/
def State.queueMsg (s : State) (m : Msg) : State :=
  if s.msgFull m then (s.bump (MSG_CNT_COUNT 5)).discardNote else { s with msgs := s.msgs ++ [m] }

/-- Mapping an event to its routing entry (R287). -/
def State.routeEvent (s : State) (code inst payload : Nat) : State :=
  match s.eventMsg code inst payload with
  | (none, s) => s
  | (some m, s) => s.queueMsg m

/-- Raising an event: it is recorded and routed. -/
def State.raiseP (s : State) (code inst payload : Nat) : State :=
  (s.emit (.event code inst payload)).routeEvent code inst payload

/-- Raising an event without a payload. -/
def State.raise (s : State) (code inst : Nat) : State := s.raiseP code inst 0

/-- Raising an event at most once in each period of ns for each instance. (DESIGN CHOICE, log 48) -/
def State.raiseEvery (s : State) (period code inst payload : Nat) : State :=
  let key := code * 65536 + inst
  let last := assocGet 0 s.limited key
  if last = 0 ∨ last + period ≤ s.hubTime + 1 then
    { s.raiseP code inst payload with limited := assocSet 0 key (s.hubTime + 1) s.limited }
  else s

end Sys2Proof.Machine
end

