-- ==== Sys2Proof/Machine/Reset.lean ====
section
/-! DEFINITION. What each kind of reset leaves (R516): the registers and the state that a warm, watchdog or forced reset and an assertion of PORST_N keep. -/
namespace Sys2Proof.Machine

/-- Registers that keep their value across warm, watchdog and forced resets, by the key of the field (R17, R516): the AON and
spout-power domains, straps, lifecycle and vault, the sediment log's index, and the counts "since PORST_N". -/
def keptWarm (k : Nat) : Bool :=
  let a := k / 32
  let lo := k % 32
  a == GLB_ID_PART.addr || a == GLB_CAP0_PUMPS.addr || a == GLB_CAP1_SPOUTS.addr || a == GLB_WAKE_SRC_SRC.addr ||
  (a == GLB_HUB_STAT_ROLE.addr && lo == 0) ||
  a == CLK_STRAP_ROLE.addr || a == CLK_RST_CAUSE_LAST.addr ||
  (0x10900000 ≤ a && a < 0x10A00000) ||
  a == SEC_STAT_LC.addr || a == SEC_TMP_CFG_ENCL_EN.addr || a == SEC_TMP_STAT_COUNT.addr || a == SEC_TMP_TIME_SECONDS.addr ||
  a == SEC_VTIME_SECONDS.addr || (0x10F00020 ≤ a && a < 0x10F00030) || (0x10F01000 ≤ a && a < 0x10F02000) ||
  (a == FLT_STAT_FROZEN.addr && lo == FLT_STAT_FROZEN.lo) || (a == FLT_LOG_IDX_NEXT.addr && lo == 0) || (0x11000400 ≤ a && a < 0x1100051C && lo == 0) ||
  (0x10700000 ≤ a && a < 0x10800000 && a % 0x400 == 4 && lo == 16) ||
  (0x10800000 ≤ a && a < 0x10900000 && (a % 0x1000 == 8 || a % 0x1000 == 0x20 || (a % 0x1000 == 0x24 && lo == 0) || (a % 0x1000 == 0x34 && lo == 30) ||
    (a % 0x1000 == 0x44 && (lo == 0 || lo == 21)))) ||
  (a == ETH_PTP_STAT_STEPS.addr && lo == ETH_PTP_STAT_STEPS.lo) ||
  (0x10E00100 ≤ a && a < 0x10E00400 && a % 0x100 == 4 && lo == 0)

/-- The results of BIST, kept across warm resets alone (R540). -/
def keptBist (k : Nat) : Bool :=
  let a := k / 32
  a == FLT_BIST_RES_RESULT.addr || (0x11000040 ≤ a && a < 0x11000068)

/-- Registers of the VBAT domain, kept while the vault holds power (R453, R459, R482). (DESIGN CHOICE, log 100) -/
def keptVbat (k : Nat) : Bool :=
  let a := k / 32
  a == SEC_STAT_LC.addr || a == SEC_TMP_CFG_ENCL_EN.addr || a == SEC_TMP_STAT_COUNT.addr || a == SEC_TMP_TIME_SECONDS.addr ||
  a == SEC_VTIME_SECONDS.addr || (0x10F01000 ≤ a && a < 0x10F02000)

/-- The lifecycle state that the fuses and the vault hold (R472): the furthest state reached. -/
def State.lifecycle (s : State) : Nat :=
  if 2 ≤ s.fuses.scrapped then 5
  else if 2 ≤ s.fuses.ret then 4
  else if s.vault.fieldDebug then 3
  else if 2 ≤ s.fuses.field then 2
  else if 2 ≤ s.fuses.provisioned then 1
  else 0

/-- The free list after a reset that keeps the retired cells (R527). -/
def State.keepRetired (s : State) (l : List Nat) : State :=
  if l.isEmpty then s
  else ({ s with cis := { s.cis with retired := l, cells := l.foldl (fun c h => assocPut h ⟨0, 0, 0⟩ c) [] } }).put
    WEL_CIS_STAT_FREE_CELLS (131072 - l.length)

/-- A warm (3), watchdog (4) or forced (5) reset: the core returns to reset values and start-up goes on from step 2 (R516).
FAULT_N keeps its level until step 6, as an output of the AON domain (R498, R558). A spout keeps what its policy and its power
path hold (R325), but no link. (DEDUCED, log 203) -/
def State.warmReset (s : State) (cause : Nat) : State :=
  let r := { State.reset with
    pending := s.pending, outs := s.outs, free := s.free, limited := s.limited, hubTime := s.hubTime,
    timeRuns := s.timeRuns, fuses := s.fuses, vault := { s.vault with change := none }, tanks := s.tanks,
    regs := s.regs.filter (fun e => keptWarm e.1 || (cause == 3 && keptBist e.1)),
    spouts := s.spouts.map (fun (e : Nat × Spout) => (e.1, { e.2 with samTx := 0, samOut := 0 })), hsw := s.hsw, trunk := { lastRate := s.trunk.lastRate },
    ladder := { seq := s.ladder.seq, haltTime := s.ladder.haltTime, haltSeq := s.ladder.haltSeq },
    power := { s.power with
      phase := .pll, cold := false, epLink := false, clockStopped := false,
      atStep6 := s.power.atStep6 ++ [(0x0104, cause)] } }
  (((r.bump CLK_RST_CAUSE_RESETS).put CLK_RST_CAUSE_LAST cause).put SEC_STAT_LC r.lifecycle).keepRetired s.cis.retired

/-- PORST_N asserted: only the VBAT domain and the fuses hold (R516, R517), and a tamper still to be reported (R458). -/
def State.porstReset (s : State) : State :=
  { State.reset with
    pending := s.pending, outs := s.outs, free := s.free, fuses := s.fuses,
    vault := { s.vault with nonce := none, parts := [], change := none, wiping := false },
    power := { State.reset.power with atStep6 := s.power.atStep6.filter (fun e => e.1 == 0x1101) },
    regs := s.regs.filter (fun e => keptVbat e.1) }

end Sys2Proof.Machine
end

