-- ==== Sys2Proof/Machine/Faults.lean ====
section
/-! DEFINITION. The fault ladder: reporting a detection, its record in the sediment log, the queue, Halt (R524 to R536). -/
namespace Sys2Proof.Machine

/-- A sediment-log record (R535). -/
def State.faultRecord (s : State) (det lvl inst : Nat) (inj : Bool) (time qd detail : Nat) : Bytes :=
  let b := leBytes 8 time ++ leBytes 1 det ++ leBytes 1 (lvl % 8 + (if inj then 8 else 0)) ++ leBytes 2 inst ++
    leBytes 2 s.ladder.seq ++ leBytes 1 qd ++ leBytes 1 (s.get CLK_RST_CAUSE_RESETS) ++ leBytes 8 detail ++ zeros 6
  b ++ leBytes 2 (crc16Raw 0xFFFF b)

/-- Writing a record whole and then advancing NEXT, unless the log is frozen (R535, R536). -/
def State.logWrite (s : State) (r : Bytes) : State :=
  if s.is FLT_STAT_FROZEN then s
  else
    let i := s.get FLT_LOG_IDX_NEXT
    let s := s.tankWrite 3 (0xE0000 + 32 * i) r
    let s := { s with ladder := { s.ladder with seq := (s.ladder.seq + 1) % 65536 } }
    let s := s.put FLT_LOG_IDX_NEXT ((i + 1) % 4096)
    if i + 1 = 4096 then s.bump FLT_LOG_IDX_WRAPS else s

/-- Entry to Halt: steps 1 to 4 of R529. Pumps, ports, links, spout policy, USB, display and bucket all look at FLT_STAT.HALT. A
BIST that runs ends with RESULT ABORT (R540). (DEDUCED, log 113) -/
def State.haltEntry (s : State) (f : FaultEnt) : State :=
  let s := { s with power := { s.power with faultLow := true } }
  let s := s.put FLT_STAT_HALT 1
  let s := if s.bist.running then { s with bist := {} }.put FLT_BIST_RES_RESULT 5 else s
  let r := s.faultRecord f.det f.lvl f.inst f.inj f.time f.qd f.detail
  let s := { s with ladder := { s.ladder with haltTime := f.time, haltSeq := s.ladder.seq } }
  let s := if f.recorded then s else s.logWrite r
  s.put FLT_STAT_FROZEN 1

/-- The queue depth that FLT_STAT shows. -/
def State.showQueue (s : State) : State :=
  (s.put FLT_STAT_QDEPTH (min s.ladder.queue.length 16)).put FLT_STAT_LEVEL (s.ladder.cur.elim 0 (·.lvl))

/-- Handling of a fault starts: its record is written once and reported by event 0x1201; a Halt halts the hub, and a Contain
holds its units until FLT_RECOVER (R524, R528). -/
def State.startFault (s : State) (f : FaultEnt) : State :=
  if f.lvl = 5 then
    let s := s.haltEntry f
    { s with ladder := { s.ladder with cur := some { f with recorded := true } } }.showQueue
  else
    let r := s.faultRecord f.det f.lvl f.inst f.inj f.time f.qd f.detail
    let s := if f.recorded then s else (s.logWrite r).raiseP 0x1201 f.det (leAt r 8 8)
    let s := if f.lvl = 4 ∧ !s.ladder.contained.contains (f.det, f.inst) then
        { s with ladder := { s.ladder with contained := s.ladder.contained ++ [(f.det, f.inst)] } }
      else s
    { s with ladder := { s.ladder with cur := some { f with recorded := true } } }.showQueue

/-- Placing a fault behind every queued fault of its level or above. -/
def insertFault (f : FaultEnt) : List FaultEnt → List FaultEnt
  | [] => [f]
  | g :: l => if g.lvl < f.lvl then f :: g :: l else g :: insertFault f l

/-- A fault lost for a full queue (R530). -/
def State.loseFault (s : State) (lvl : Nat) : State :=
  let first := s.ladder.lost = 0
  let s := s.bump FLT_OVF_COUNT
  let s := { s with ladder := { s.ladder with lost := s.ladder.lost + 1, lostMax := max s.ladder.lostMax lvl } }
  if first then s.raise 0x1202 0 else s

/-- A fault joins the queue of 16 (R530). -/
def State.queueFault (s : State) (f : FaultEnt) : State :=
  let q := s.ladder.queue
  if q.length < 16 then { s with ladder := { s.ladder with queue := insertFault f q } }.showQueue
  else
    match q.reverse with
    | [] => s
    | last :: front =>
      if last.lvl < f.lvl then
        ({ s with ladder := { s.ladder with queue := insertFault f front.reverse } }.loseFault last.lvl).showQueue
      else s.loseFault f.lvl

/-- An injection bit that stays set stands for the condition of the detector (R534, the injection column of R533). -/
def State.bitInjected (s : State) (det inst : Nat) : Bool :=
  match det with
  | 0x19 => s.is (TRK_LANE_INJ_LOS inst)
  | 0x1A => s.is (TRK_LANE_INJ_LOL inst)
  | 0x1B => s.is (TRK_LANE_INJ_BURST inst)
  | 0x24 => s.is (CAS_PORT_CTRL_INJ_DOWN inst)
  | 0x2D => s.is (SPT_INJ_WET inst)
  | 0x30 => s.is (HSW_INJ_OC inst)
  | 0x32 => s.is (HSW_INJ_CC_OVP inst)
  | 0x33 => s.is (HSW_INJ_SENSE_OPEN inst)
  | _ => false

/-- A detector reports a fault to the ladder (R525, R528, R530, R536). Its hardware action is the caller's. (DEDUCED, log 205)
-/
def State.detectI (s : State) (det inst detail : Nat) (inj : Bool) : State :=
  let s := s.bump (FLT_DET_CFG_COUNT det)
  if s.ladder.haltDone || (s.is FLT_STAT_FROZEN && !(s.ladder.cur.elim false (fun c => c.lvl == 5))) then s
  else
    let f : FaultEnt := ⟨det, inst % 65536, max (s.get (FLT_DET_CFG_LEVEL det)) (detectorDefault det),
      inj || s.ladder.injecting == some det || s.bitInjected det inst, detail, s.hubTime,
      s.ladder.queue.length, false⟩
    match s.ladder.cur with
    | none => s.startFault f
    | some c =>
      if c.lvl = 5 ∧ f.lvl = 5 then (s.put FLT_STAT_FROZEN 1).warmReset 5
      else if c.lvl < f.lvl then
        ({ s with ladder := { s.ladder with queue := c :: s.ladder.queue } }).startFault f
      else s.queueFault f

/-- A real detection. -/
def State.detect (s : State) (det inst : Nat) : State := s.detectI det inst 0 false

/-- A real detection with a failing address, cell or count. -/
def State.detectD (s : State) (det inst detail : Nat) : State := s.detectI det inst detail false

end Sys2Proof.Machine
end

