-- ==== Sys2Proof/Machine/Gates.lean ====
section
/-! DEFINITION. The gates of the Ethernet ports: lists, cycles, and what a gate does from now on (R145 to R147). -/
namespace Sys2Proof.Machine

/-- The gates of Ethernet port n. -/
def State.gcl (s : State) (n : Nat) : Gcl := assocGet {} s.allot.gates n

/-- Writing the gates of Ethernet port n. -/
def State.setGcl (s : State) (n : Nat) (g : Gcl) : State :=
  { s with allot := { s.allot with gates := assocSet {} n g s.allot.gates } }

/-- The entries of one cycle with the time each holds (R147): the list is cut at the end of the cycle, and the last entry holds
until it. -/
def cycleSegs : Nat → List (Nat × Nat) → List (Nat × Nat)
  | _, [] => []
  | left, [e] => [(e.1, left)]
  | left, e :: l => if left ≤ e.2 then [(e.1, left)] else e :: cycleSegs (left - e.2) l

/-- The part of a timed list within the next t ns. -/
def takeTime : Nat → List (Nat × Nat) → List (Nat × Nat)
  | _, [] => []
  | t, e :: l => if t ≤ e.2 then [(e.1, t)] else e :: takeTime (t - e.2) l

/-- The index of the entry in force at an offset into the cycle. -/
def entryAt : Nat → List (Nat × Nat) → Nat
  | _, [] => 0
  | t, e :: l => if t < e.2 ∨ l.isEmpty then 0 else 1 + entryAt (t - e.2) l

/-- For how long gate t stays open along a timed list; none where it never closes. -/
def openRun (t : Nat) : List (Nat × Nat) → Option Nat
  | [] => none
  | e :: l => if bit e.1 t then (openRun t l).map (e.2 + ·) else some 0

/-- R147. The cycle in progress is stretched to the change time T. (DEDUCED, log 62) -/
def stretched (g : Gcl) (c : GclCfg) : Option Nat :=
  match g.pend with
  | some (_, t) => if g.start + c.cycle ≤ t ∧ t ≤ g.start + c.cycle + c.ext then some t else none
  | none => none

/-- What a timed list does up to a time t ahead, where one cycle of it comes over and over: past its own end, the gates that stay
open all through it stay open, and the others count as closed there. -/
def untilTime (t : Nat) (l : List (Nat × Nat)) : List (Nat × Nat) :=
  let total := (l.map (·.2)).sum
  if t ≤ total then takeTime t l else l ++ [(l.foldl (fun m e => m &&& e.1) 0xFF, t - total)]

/-- What the gates of Ethernet port n do from now on, as timed states: the rest of the cycle in progress and one cycle more, up to
the change time of a pending configuration, and then one cycle of that (R146, R147). -/
def State.gateFuture (s : State) (n : Nat) : List (Nat × Nat) :=
  let g := s.gcl n
  let now := s.hubTime
  let base := match g.oper with
    | none => [(s.get (ALT_GCL_CTRL_INIT n), 2 ^ 64)]
    | some c =>
      let cur := s.get (ALT_GCL_STAT_CUR n)
      let segs := cycleSegs c.cycle c.list
      let first := g.start + ((segs.take (cur + 1)).map (·.2)).sum - now
      let stop := match stretched g c with
        | some t => [(((segs.getLast?).getD (0, 0)).1, t - (g.start + c.cycle))]
        | none => segs
      ((segs.getD cur (0, 0)).1, first) :: (segs.drop (cur + 1) ++ stop)
  match g.pend with
  | some (c, t) => untilTime (t - now) base ++ cycleSegs c.cycle c.list
  | none => base

/-- Gate t of Ethernet port n is open. -/
def State.gateOpen (s : State) (n t : Nat) : Bool :=
  !s.is (ALT_GCL_CTRL_ENABLE n) || ((s.gateFuture n).head?).elim true (fun e => bit e.1 t)

/-- The speed of Ethernet port n in Mb/s (R391). -/
def State.ethSpeed (s : State) (n : Nat) : Nat :=
  match s.get (ETH_STAT_SPEED n) with
  | 1 => 1000
  | 2 => 2500
  | 3 => 5000
  | 4 => 10000
  | _ => 0

/-- A frame of counted length l fits the current window of gate t (R146). -/
def State.fitsWindow (s : State) (n t l : Nat) : Bool :=
  !s.is (ALT_GCL_CTRL_ENABLE n) ||
    match openRun t (s.gateFuture n) with
    | none => true
    | some w => decide (l * 8000 ≤ w * s.ethSpeed n)

/-- The admin list of Ethernet port n as a configuration. -/
def State.adminGcl (s : State) (n : Nat) : GclCfg :=
  { list := (List.range (s.get (ALT_GCL_CTRL_LEN n))).map
      (fun i => (s.get (ALT_GCL_AS_STATES n i), s.get (ALT_GCL_AT_INTERVAL n i))),
    cycle := s.get (ALT_GCL_CYCLE_CYCLE n), ext := s.get (ALT_GCL_EXT_EXT n),
    base := s.get (ALT_GCL_BASE_LO_BASE n) + 2 ^ 32 * s.get (ALT_GCL_BASE_HI_BASE n) }

/-- The change time of a configuration latched now (R147). -/
def changeTime (now : Nat) (c : GclCfg) : Nat :=
  if now < c.base then c.base else c.base + ((now - c.base) / max 1 c.cycle + 1) * c.cycle

/-- R147. CFG_CHANGE is written. -/
def State.latchGates (s : State) (n : Nat) : State :=
  let c := s.adminGcl n
  (s.setGcl n { s.gcl n with pend := some (c, changeTime s.hubTime c) }).put (ALT_GCL_CTRL_PENDING n) 1

end Sys2Proof.Machine
end

