-- ==== Sys2Proof/Machine/Cistern.lean ====
section
/-! DEFINITION. The cistern: cells and their charge, frames, the sump, the dipper, the global reserve, and wells with their marks, shedding and ageing (R154 to R181). -/
namespace Sys2Proof.Machine

/-! ## Frames -/

/-- A frame by its descriptor number. -/
def State.frame (s : State) (id : Nat) : Frame := (assocFind s.cis.frames id).getD {}

/-- Writing a frame descriptor. -/
def State.setFrame (s : State) (id : Nat) (f : Frame) : State :=
  { s with cis := { s.cis with frames := assocPut id f s.cis.frames } }

/-- The length a well, a shaper and a scheduler count with before overhead (R141, R158). -/
def Frame.len (f : Frame) : Nat := f.data.length

/-- Free cells (R155). -/
def State.freeCells (s : State) : Nat := s.get WEL_CIS_STAT_FREE_CELLS

/-- Free frame descriptors. -/
def State.freeFds (s : State) : Nat := s.get WEL_CIS_FD_FREE_FD

/-- Entry to and exit from global congestion (R160); the entry is detector 0x27. -/
def State.congestion (s : State) : State :=
  if s.is WEL_CIS_STAT_GRES then
    if 4352 ≤ s.freeCells ∧ 4352 ≤ s.freeFds then s.put WEL_CIS_STAT_GRES 0 else s
  else if s.freeCells < 4096 ∨ s.freeFds < 4096 then
    ((s.put WEL_CIS_STAT_GRES 1).raise 0x0503 0).detect 0x27 0
  else s

/-- Something is to be sent on the trunk: a trunk in L2d leaves it, and an entry under way is given up (R70). -/
def State.wakeTrunk (s : State) : State :=
  let s := if s.trunk.l2dAsked || s.trunk.l2dEnter then { s with trunk := { s.trunk with l2dAsked := false, l2dEnter := false } } else s
  if s.get TRK_PWR_TX_STATE = 2 then
    [0, 1, 2, 3].foldl (fun s n => if s.get (TRK_LANE_STAT_PSTATE n) = 2 then s.put (TRK_LANE_STAT_PSTATE n) 0 else s)
      ((s.put TRK_PWR_TX_STATE 0).put TRK_PWR_RX_STATE 0)
  else s

/-- The same where the port is the trunk's. -/
def State.wakeFor (s : State) (p : Nat) : State := if p = 0 then s.wakeTrunk else s

/-- Cells of the cistern. -/
def cellCount : Nat := 131072

/-- The cell that the free list gives next: the free one next in number. (DESIGN CHOICE, log 187) -/
def State.freeCell (s : State) : Nat :=
  match freshKey s.cis.cells (s.cis.nextCell % cellCount) cellCount with
  | some h => if h < cellCount then h else (freshKey s.cis.cells 0 cellCount).getD 0
  | none => 0

/-- The bytes of a cell as stored (R158). (DESIGN CHOICE, log 43) -/
def State.cellBytes (s : State) (h : Nat) : Bytes := (assocFind s.cis.stored h).getD ((List.range 256).map (Config.cellByte h))

/-- Placing bytes in a cell. -/
def State.storeCell (s : State) (h off : Nat) (d : Bytes) : State :=
  { s with cis := { s.cis with stored := assocPut h (overlay (s.cellBytes h) off d) s.cis.stored } }

/-- Placing a frame's bytes in the cells of its extents. -/
def State.storeExts (s : State) : List Ext → Bytes → State
  | [], _ => s
  | e :: l, d => (s.storeCell e.cell e.off (d.take e.len)).storeExts l (d.drop e.len)

/-- The bytes of frame id stand in its cells as the descriptor says. -/
def State.storeFrame (s : State) (id : Nat) : State := s.storeExts (s.frame id).exts (s.frame id).data

/-- Taking a cell charged to a port, holding k extents (R155, R156). -/
def State.takeCell (s : State) (port k credit : Nat) : Nat × State :=
  let h := s.freeCell
  let s := { s with cis := { s.cis with cells := assocPut h ⟨port, k, credit⟩ s.cis.cells, nextCell := h + 1 } }
  let s := s.put WEL_CIS_STAT_FREE_CELLS (s.freeCells - 1)
  (h, s.put (WEL_PORT_USE_USE port) (s.get (WEL_PORT_USE_USE port) + 1))

/-- Taking the cells of a stream-landed string of n bytes (R154): the extents. -/
def State.takeCells (s : State) (port : Nat) : Nat → Nat → List Ext × State
  | 0, _ => ([], s)
  | k + 1, n =>
    let (h, s') := s.takeCell port 1 0
    let (l, s'') := s'.takeCells port k (n - 256)
    (⟨h, min n 256, 0⟩ :: l, s'')

/-- Cells that n bytes occupy (R154, R158). -/
def cellsFor (n : Nat) : Nat := (n + 255) / 256

/-- No room for n bytes: a cell or a frame descriptor is missing. -/
def State.noRoom (s : State) (n : Nat) : Bool := decide (s.freeCells < cellsFor n ∨ s.freeFds = 0)

/-- Releasing one extent: the cell returns to the free list with its last extent, and a credit may become due (R155, R109). A retired cell
returns no more (R527). -/
def State.releaseExt (s : State) (h : Nat) : State :=
  match assocFind s.cis.cells h with
  | none => s
  | some c =>
    if 1 < c.refs then { s with cis := { s.cis with cells := assocPut h { c with refs := c.refs - 1 } s.cis.cells } }
    else
      let due := if c.credit = 0 then s.cis.due else s.cis.due ++ [(c.port, c.credit)]
      let s := { s with cis := { s.cis with due := due } }
      let s := if s.cis.retired.contains h then
          { s with cis := { s.cis with cells := assocPut h ⟨c.port, 0, 0⟩ s.cis.cells } }
        else ({ s with cis := { s.cis with cells := assocDel h s.cis.cells } }).put WEL_CIS_STAT_FREE_CELLS (s.freeCells + 1)
      let s := if c.credit = 0 then s else s.wakeFor c.port
      s.put (WEL_PORT_USE_USE c.port) (s.get (WEL_PORT_USE_USE c.port) - 1)

/-- Releasing extents. -/
def State.releaseExts (s : State) (l : List Ext) : State := l.foldl (fun s e => s.releaseExt e.cell) s

/-- Taking a frame descriptor. -/
def State.newFrame (s : State) (f : Frame) : Nat × State :=
  let id := s.cis.nextFrame
  let s := { s with cis := { s.cis with frames := assocPut id f s.cis.frames, nextFrame := id + 1 } }
  (id, s.put WEL_CIS_FD_FREE_FD (s.freeFds - 1))

/-- Releasing a frame: its extents and its descriptor. -/
def State.freeFrame (s : State) (id : Nat) : State :=
  match assocFind s.cis.frames id with
  | none => s
  | some f =>
    let s := s.releaseExts f.exts
    let s := { s with cis := { s.cis with frames := assocDel id s.cis.frames } }
    (s.put WEL_CIS_FD_FREE_FD (s.freeFds + 1)).congestion

/-- A new frame whose bytes land in a stream, charged to its source port (R154). -/
def State.landStream (s : State) (f : Frame) : Nat × State :=
  let (l, s) := s.takeCells f.src (cellsFor f.data.length) f.data.length
  let (id, s) := s.newFrame { f with exts := l }
  (id, (s.storeFrame id).congestion)

/-- The extents after the first n bytes are removed: those removed whole, and the rest (R155). -/
def dropExts : Nat → List Ext → List Ext × List Ext
  | _, [] => ([], [])
  | n, e :: l =>
    if n = 0 then ([], e :: l)
    else if e.len ≤ n then
      let (a, b) := dropExts (n - e.len) l
      (e :: a, b)
    else ([], ⟨e.cell, e.len - n, e.off + n⟩ :: l)

/-- The extents that hold the first n bytes, and those removed whole. -/
def keepExts : Nat → List Ext → List Ext × List Ext
  | _, [] => ([], [])
  | n, e :: l =>
    if n = 0 then ([], e :: l)
    else
      let (a, b) := keepExts (n - e.len) l
      (⟨e.cell, min e.len n, e.off⟩ :: a, b)

/-! ## The dipper (R178 to R181) -/

/-- The value and the mask agree. -/
def maskMatch (x v m : Nat) : Bool := (x ^^^ v) &&& m == 0

/-- A dipper record (R179). -/
def dipRecord (time : Nat) (well : Option Nat) (ctx port point cause : Nat) (f : Frame) : Bytes :=
  leBytes 8 time ++ leBytes 2 (well.getD 0xFFFF) ++ leBytes 2 (ctx % 1024) ++ leBytes 1 port ++
    leBytes 1 (point + (if f.loss then 4 else 0) + 16 * cause) ++ leBytes 2 (min f.data.length 0xFFFF) ++ fit 48 f.data

/-- A capture at a point: 0 INGRESS, 1 ENQ, 2 DEQ, 3 SUMP. -/
def State.capture (s : State) (point : Nat) (well : Option Nat) (port cause : Nat) (f : Frame) : State :=
  if s.is WEL_DIP_CTRL_EN && bit (s.get WEL_DIP_CTRL_POINTS) point &&
      (point != 3 || bit (s.get WEL_DIP_CTRL_CAUSES) cause) &&
      maskMatch (well.getD 0x1FF) (s.get WEL_DIP_MATCH0_WELL) (s.get WEL_DIP_MATCH0_WELL_MASK) &&
      maskMatch port (s.get WEL_DIP_MATCH0_PORT) (s.get WEL_DIP_MATCH0_PORT_MASK) &&
      maskMatch f.ctx (s.get WEL_DIP_MATCH1_CTX) (s.get WEL_DIP_MATCH1_CTX_MASK) then
    let n := s.cis.dipMatch + 1
    let s := { s with cis := { s.cis with dipMatch := n } }
    if n % (s.get WEL_DIP_SAMPLE_N_M1 + 1) = 0 then
      if s.cis.dipBuf.length < 16 then
        { s with cis := { s.cis with
          dipBuf := s.cis.dipBuf ++ [dipRecord s.hubTime well f.ctx port point cause f] } }
      else
        let first := s.get WEL_DIP_MISS_COUNT = 0
        let s := s.bump WEL_DIP_MISS_COUNT
        if first then s.raise 0x0508 0 else s
    else s
  else s

/-! ## The sump (R176) -/

/-- Sending a frame to the sump under a cause. -/
def State.sumpFrom (s : State) (well : Option Nat) (id cause : Nat) : State :=
  let f := s.frame id
  ((s.bump (WEL_SUMP_CNT_COUNT cause)).capture 3 well f.src cause f).freeFrame id

/-- Sending a frame that is in no well to the sump. -/
def State.sump (s : State) (id cause : Nat) : State := s.sumpFrom none id cause

/-! ## Back-pressure (R159, R165 to R167) -/

/-- The bit of a source port in WEL_FEED, in PORTS followed by HIGHPORTS. -/
def feedBit (p : Nat) : Option Nat :=
  if p ≤ 15 then some p
  else match p with
    | 28 => some 16
    | 29 => some 17
    | 31 => some 18
    | 32 => some 19
    | 33 => some 20
    | 34 => some 21
    | _ => none

/-- Port p has fed well n since it was last uncongested. -/
def State.feeds (s : State) (n p : Nat) : Bool :=
  match feedBit p with
  | none => false
  | some b => if b < 16 then bit (s.get (WEL_FEED_PORTS n)) b else bit (s.get (WEL_FEED_HIGHPORTS n)) (b - 16)

/-- Recording that port p feeds well n (R165). -/
def State.setFeed (s : State) (n p : Nat) : State :=
  match feedBit p with
  | none => s
  | some b =>
    if b < 16 then s.put (WEL_FEED_PORTS n) (setBit (s.get (WEL_FEED_PORTS n)) b true)
    else s.put (WEL_FEED_HIGHPORTS n) (setBit (s.get (WEL_FEED_HIGHPORTS n)) (b - 16) true)

/-- The wells that hold or held frames. -/
def State.wellNos (s : State) : List Nat := s.cis.wells.map (·.1)

/-- A congested well names port p. -/
def State.congestedFeed (s : State) (p : Nat) : Bool :=
  (List.range 512).any (fun n => s.is (WEL_DEPTH_CONG n) && s.feeds n p)

/-- The quota is reached, or for an Ethernet port the headroom point (R159, R167). -/
def State.overQuota (s : State) (p : Nat) : Bool :=
  let q := s.get (WEL_PORT_Q_QUOTA p)
  let lim := if 4 ≤ p ∧ p ≤ 11 then q - s.get (WEL_PORT_Q_HDRM p) else q
  decide (lim ≤ s.get (WEL_PORT_USE_USE p))

/-- Source port p is back-pressured (R166). -/
def State.backPressured (s : State) (p : Nat) : Bool := s.overQuota p || s.is WEL_CIS_STAT_GRES || s.congestedFeed p

/-! ## Scheduler tags (R140, R141) -/

/-- A well. -/
def State.well (s : State) (n : Nat) : Well := assocGet {} s.cis.wells n

/-- Writing a well. -/
def State.setWell (s : State) (n : Nat) (w : Well) : State := { s with cis := { s.cis with wells := assocSet {} n w s.cis.wells } }

/-- The counted length of a frame in well n (R141). -/
def State.counted (s : State) (n : Nat) (f : Frame) : Nat :=
  (max 1 ((f.len : Int) + signed 9 (s.get (WEL_SHAPER_OVH n)))).toNat

/-- Tags count modulo 2^48. -/
def tagMod : Nat := 2 ^ 48

/-- a is at or before b, as a signed difference modulo 2^48. -/
def tagLe (a b : Nat) : Bool := decide ((b + tagMod - a % tagMod) % tagMod < 2 ^ 47)

/-- The group whose virtual time a well is served under: a port's level, or on port 0 for an ISO well its allotment. -/
def State.schedKey (s : State) (n : Nat) : Nat :=
  let p := s.get (WEL_CFG_PORT n)
  if p = 0 ∧ s.get (WEL_SCHED_CLASS n) = 0 then 4096 + s.get (WEL_SCHED_ALLOT n) else p * 8 + s.get (WEL_SCHED_PRIO n)

/-- The service tag step of a counted length at a weight. -/
def tagStep (l w : Nat) : Nat := (l * 4096 + max w 1 - 1) / max w 1

/-- The tags of a well whose head changed: from start tag a, or dropped when it is empty. -/
def State.retag (s : State) (n a : Nat) : State :=
  let w := s.well n
  match w.q with
  | [] => s.setWell n { w with tags := none }
  | id :: _ =>
    s.setWell n { w with tags := some (a, (a + tagStep (s.counted n (s.frame id)) (s.get (WEL_SCHED_WEIGHT n))) % tagMod) }

/-! ## Wells (R163 to R175) -/

/-- The hub is islanded (R42). -/
def State.islanded (s : State) : Bool := s.is GLB_HUB_STAT_ISLAND

/-- The well sheds rather than congests: islanded, bound to port 0, ISL_MODE 0 (R173). -/
def State.sheds (s : State) (n : Nat) : Bool :=
  s.islanded && s.get (WEL_CFG_PORT n) == 0 && !s.is (WEL_CFG_ISL_MODE n)

/-- A well enters congestion (R164). -/
def State.congest (s : State) (n : Nat) : State := (s.put (WEL_DEPTH_CONG n) 1).raise 0x0501 n

/-- A well leaves congestion: CONG and the feed bits clear (R164, R165). -/
def State.uncongest (s : State) (n : Nat) : State :=
  (((s.put (WEL_DEPTH_CONG n) 0).put (WEL_FEED_PORTS n) 0).put (WEL_FEED_HIGHPORTS n) 0).raise 0x0502 n

/-- The effective low mark (R164). -/
def State.lowMark (s : State) (n : Nat) : Nat := min (s.get (WEL_LOMARK_LOW n)) (s.get (WEL_HIMARK_HIGH n))

/-- CELLS against the marks (R164, R173, R174). -/
def State.markCheck (s : State) (n : Nat) : State :=
  if s.is (WEL_DEPTH_CONG n) then
    if s.get (WEL_DEPTH_CELLS n) < s.lowMark n || s.sheds n then s.uncongest n else s
  else if s.get (WEL_HIMARK_HIGH n) ≤ s.get (WEL_DEPTH_CELLS n) && !s.sheds n then s.congest n
  else s

/-- Port p has credit shapers. -/
def shapedPort (p : Nat) : Bool := p == 0 || decide (4 ≤ p ∧ p ≤ 11)

/-- Shaping acts on well n. -/
def State.shaped (s : State) (n : Nat) : Bool := s.is (WEL_SHAPER_EN n) && shapedPort (s.get (WEL_CFG_PORT n))

/-- Ethernet port n outside the registers. -/
def State.ethPort (s : State) (n : Nat) : Eth := assocGet {} s.eth n

/-- Writing it. -/
def State.setEth (s : State) (n : Nat) (e : Eth) : State := { s with eth := assocSet {} n e s.eth }

/-- The gate of well n is open; only Ethernet ports have gates. -/
def State.wellGateOpen (s : State) (n : Nat) : Bool :=
  let p := s.get (WEL_CFG_PORT n)
  !decide (4 ≤ p ∧ p ≤ 11) || s.gateOpen (p - 4) (s.get (WEL_SCHED_PRIO n))

/-- Well n is sending. -/
def State.sending (s : State) (n : Nat) : Bool :=
  s.cis.tx.any (fun e => e.2.well == some n) ||
    s.links.any (fun e => e.2.cur.any (fun c => c.2.well == some n) ||
      (e.2.pack.elim [] (·.done) ++ e.2.aside.elim [] (·.done)).any (fun c => c.well == some n))

/-- Well n gathers credit (R142): it is non-empty, not sending and gate-open. -/
def State.gathers (s : State) (n : Nat) : Bool := !(s.well n).q.isEmpty && !s.sending n && s.wellGateOpen n

/-- Hub time to which a received PAUSE or PFC holds well n (R404). -/
def State.heldTo (s : State) (n : Nat) : Nat :=
  let p := s.get (WEL_CFG_PORT n)
  if 4 ≤ p ∧ p ≤ 11 then
    max (s.ethPort (p - 4)).pauseTo (assocGet 0 (s.ethPort (p - 4)).pfcTo (s.get (WEL_SCHED_PRIO n)))
  else 0

/-- The ns of a span up to now in which well n, as it stands, gathers credit: time held does not count (R142, R404). -/
def State.gathered (s : State) (n since : Nat) : Nat :=
  if s.gathers n then s.hubTime - max since (s.heldTo n) else 0

/-- Well n is about to change: the part of the tick so far in which it gathered credit is noted (R142). (DESIGN CHOICE, log 57)
-/
def State.accrue (s : State) (n : Nat) : State :=
  if s.shaped n then
    let (ns, since) := (s.well n).part.getD (0, s.allot.tick)
    s.setWell n { s.well n with part := some (ns + s.gathered n since, s.hubTime) }
  else s

/-- Hub time moves from before to the present value without time passing: what the shapers measure from moves with it (R402).
(DESIGN CHOICE, log 208) -/
def State.shiftParts (s : State) (before : Nat) : State :=
  let shift := fun (w : Well) => { w with part := w.part.map (fun e => (e.1, e.2 + s.hubTime - before)) }
  { s with cis := { s.cis with wells := s.cis.wells.map (fun (e : Nat × Well) => (e.1, shift e.2)) },
           allot := { s.allot with tick := s.allot.tick + s.hubTime - before } }

/-- The wells bound to port p are about to change. -/
def State.accruePort (s : State) (p : Nat) : State :=
  (s.wellNos.filter (fun n => s.get (WEL_CFG_PORT n) == p)).foldl State.accrue s

/-- A frame leaves the head of a well or any place in it: CELLS falls, and the tags of the others stand. -/
def State.leaveWell (s : State) (n id : Nat) : State :=
  let s := s.accrue n
  let w := s.well n
  let s := s.setWell n { w with q := w.q.erase id }
  s.put (WEL_DEPTH_CELLS n) (s.get (WEL_DEPTH_CELLS n) - cellsFor (s.frame id).data.length)

/-- The frame's age in ns (R169). -/
def State.age (s : State) (f : Frame) : Nat := s.hubTime - f.stamp

/-- The frame is over the age limit of well n (R169). -/
def State.overAge (s : State) (n : Nat) (f : Frame) : Bool := decide (s.get (WEL_AGE_LIMIT n) * 1000 < s.age f)

/-- Counting an aged frame of well n (R170). -/
def State.countAged (s : State) (n : Nat) : State :=
  let first := s.get (WEL_AGED_COUNT n) = 0
  let s := s.bump (WEL_AGED_COUNT n)
  if first then s.raise 0x0505 n else s

/-- The head of well n goes to the sump as over age; the finish tag is computed again from the unchanged start tag (R170). -/
def State.ageHead (s : State) (n : Nat) : State :=
  let w := s.well n
  match w.q with
  | [] => s
  | id :: _ =>
    let s := s.leaveWell n id
    let s := s.retag n (w.tags.elim 0 (·.1))
    ((s.sumpFrom (some n) id 1).countAged n).markCheck n

/-- Sending over-age heads of well n to the sump until the head is not over age: at most k of them. -/
def State.ageHeads (s : State) (n : Nat) : Nat → State
  | 0 => s
  | k + 1 =>
    match (s.well n).q with
    | [] => s
    | id :: _ => if s.overAge n (s.frame id) then (s.ageHead n).ageHeads n k else s

/-- The sweep of one well. A frame whose transmission has started has left the well's queue. -/
def State.sweepWell (s : State) (n : Nat) : State := s.ageHeads n (s.well n).q.length

/-- Counting a shed frame of well n; the first of an islanded period is reported (R173). -/
def State.countShed (s : State) (n : Nat) : State :=
  let s := s.bump (WEL_SHED_COUNT n)
  if s.cis.shedSeen.contains n then s
  else ({ s with cis := { s.cis with shedSeen := n :: s.cis.shedSeen } }).raise 0x0506 n

/-- Shedding head frames until CELLS plus u stays below HIGH: at most k of them (R173). -/
def State.shedHeads (s : State) (n u : Nat) : Nat → State
  | 0 => s
  | k + 1 =>
    if s.get (WEL_DEPTH_CELLS n) + u < s.get (WEL_HIMARK_HIGH n) then s
    else
      let w := s.well n
      match w.q with
      | [] => s
      | id :: _ =>
        let s := s.leaveWell n id
        let s := s.retag n (w.tags.elim 0 (·.1))
        ((s.sumpFrom (some n) id 2).countShed n).shedHeads n u k

/-- A frame enters well n at its tail: captured, counted, tagged if the well was empty, and the marks checked. -/
def State.intoWell (s : State) (n id : Nat) : State :=
  let f := s.frame id
  let s := s.accrue n
  let w := s.well n
  let s := s.setWell n { w with q := w.q ++ [id] }
  let s := s.put (WEL_DEPTH_CELLS n) (s.get (WEL_DEPTH_CELLS n) + cellsFor f.data.length)
  let s := if w.q.isEmpty then s.retag n (assocGet 0 s.cis.vtime (s.schedKey n)) else s
  ((s.capture 1 (some n) (s.get (WEL_CFG_PORT n)) 0 f).markCheck n).wakeFor (s.get (WEL_CFG_PORT n))

/-- An ENQ of a frame to well n completes (R163, R170, R173). -/
def State.enqueue (s : State) (n id : Nat) : State :=
  let f := s.frame id
  if !s.is (WEL_CFG_EN n) then s.sump id 0xC
  else
    let s := s.setFeed n f.src
    if s.overAge n f then (s.sumpFrom (some n) id 1).countAged n
    else if s.sheds n then
      let u := cellsFor f.data.length
      if s.get (WEL_HIMARK_HIGH n) ≤ u then (s.sumpFrom (some n) id 2).countShed n
      else (s.shedHeads n u (s.well n).q.length).intoWell n id
    else s.intoWell n id

/-- Flushing well n: every frame in it goes to the sump with cause FLUSH; how many (R183). -/
def State.flushWell (s : State) (n : Nat) : Nat × State :=
  let q := (s.well n).q
  let s := q.foldl (fun s id => (s.leaveWell n id).sumpFrom (some n) id 0xD) s
  (q.length, (s.setWell n { s.well n with tags := none }).markCheck n)

/-- Writing a buffered dipper record into tank 3, and advancing INDEX only then (R180). A full ring takes nothing: the records
that still wait then are dropped. (DEDUCED, log 122) -/
def State.dipperWrite (s : State) : State :=
  match s.cis.dipBuf with
  | [] => s
  | r :: l =>
    if s.is WEL_DIP_CTRL_FULL then { s with cis := { s.cis with dipBuf := [] } }
    else
      let s := { s with cis := { s.cis with dipBuf := l } }
      let i := s.get WEL_DIP_WPTR_INDEX
      let size := s.get WEL_DIP_RING_SIZE
      let s := s.tankWrite 3 (s.get WEL_DIP_RING_BASE * 4096 + 64 * i) r
      if i + 1 < size then s.put WEL_DIP_WPTR_INDEX (i + 1)
      else if s.is WEL_DIP_CTRL_STOP then
        (((s.put WEL_DIP_WPTR_INDEX (i + 1)).put WEL_DIP_CTRL_FULL 1).put WEL_DIP_CTRL_EN 0).raise 0x0507 0
      else (s.put WEL_DIP_WPTR_INDEX 0).bump WEL_DIP_WPTR_WRAPS

/-! ## Flow control on Ethernet ports (R166, R403) -/

/-- The priorities that Ethernet port n wants held: the BP_PRI of each congested well that it feeds, or all eight. -/
def State.xoffWanted (s : State) (n : Nat) : Nat :=
  if s.overQuota (n + 4) || s.is WEL_CIS_STAT_GRES then 0xFF
  else
    (List.range 512).foldl
      (fun m w => if s.is (WEL_DEPTH_CONG w) && s.feeds w (n + 4) then setBit m (s.get (WEL_CFG_BP_PRI w)) true else m) 0

/-- Sending a PAUSE or PFC frame. -/
def State.sendPause (s : State) (n mask quanta : Nat) : State :=
  (s.emit (.pause n mask quanta)).bump (ETH_CNT_COUNT n 6)

/-- Bringing what Ethernet port n has signalled in line with its back-pressure (R403). -/
def State.flowPort (s : State) (n : Nat) : State :=
  let mode := s.get (ETH_FC_CFG_MODE n)
  let live := s.is (ETH_STAT_LINK n)
  let q := s.get (ETH_FC_CFG_QUANTA n)
  let want := if mode = 2 ∧ live then s.xoffWanted n else 0
  let now := s.get (ETH_STAT_TX_XOFF n)
  let s := if want ≠ 0 ∧ want &&& (0xFF - now) ≠ 0 then s.sendPause n (want &&& (0xFF - now)) q else s
  let s := if live ∧ now &&& (0xFF - want) ≠ 0 then s.sendPause n (now &&& (0xFF - want)) 0 else s
  let s := s.put (ETH_STAT_TX_XOFF n) want
  let pause := mode == 1 && live && s.backPressured (n + 4)
  let e := s.ethPort n
  if pause && !e.paused then (s.sendPause n 0x100 q).setEth n { e with paused := true }
  else if !pause && e.paused then
    (if live then s.sendPause n 0x100 0 else s).setEth n { e with paused := false }
  else s

/-- The policy record of spout n. -/
def State.spout (s : State) (n : Nat) : Spout := assocGet {} s.spouts n

/-- Writing it. -/
def State.setSpout (s : State) (n : Nat) (x : Spout) : State := { s with spouts := assocSet {} n x s.spouts }

/-- Granting credits of wide spout n's port up to its quota, unless the port is back-pressured (R166, R333). (DESIGN CHOICE, log
124) -/
def State.samGrant (s : State) (n : Nat) : State :=
  let x := s.spout n
  let k := min 0xFFFF (s.get (WEL_PORT_Q_QUOTA (12 + n)) - s.get (WEL_PORT_USE_USE (12 + n)) - x.samOut)
  if k = 0 || s.backPressured (12 + n) then s
  else (s.setSpout n { x with samOut := x.samOut + k }).emit (.frame (12 + n) (beBytes 8 (2 ^ 60 + k * 2 ^ 26)))

/-- Every Ethernet port that signals back-pressure, or has, and every wide spout whose link is up. -/
def State.flow (s : State) : State :=
  let s := (List.range 8).foldl
    (fun s n =>
      if s.get (ETH_FC_CFG_MODE n) != 0 || s.get (ETH_STAT_TX_XOFF n) != 0 || (s.ethPort n).paused then s.flowPort n else s) s
  (List.range 4).foldl (fun s n => if s.is (SPT_ALT_STAT_SAM_UP n) then s.samGrant n else s) s

end Sys2Proof.Machine
end

