-- ==== Sys2Proof/Machine/Flags.lean ====
section
/-! DEFINITION. The flag computations of the Windlass core: the ALU results with their carry and overflow (R218 to R221), the flg register (R211) and the condition codes (R225). -/
namespace Sys2Proof.Machine

/-- The result of an ALU operation at one width, with its C and V. -/
structure AluRes (w : Nat) where
  r : BitVec w
  c : Bool := false
  v : Bool := false

/-- The flags of a result (R220): Z for a zero result, N its top bit. -/
def flagsOf {w : Nat} (a : AluRes w) : Flags := ⟨a.r.msb, a.r == 0#w, a.c, a.v⟩

/-- a + b + carry: C is the carry out, V signed overflow. -/
def addFlags {w : Nat} (a b : BitVec w) (cin : Bool) : AluRes w :=
  let r := a + b + BitVec.ofNat w cin.toNat
  ⟨r, decide (2 ^ w ≤ a.toNat + b.toNat + cin.toNat), a.msb == b.msb && r.msb != a.msb⟩

/-- a − b − borrow: C is 1 when no borrow occurs, V signed overflow. -/
def subFlags {w : Nat} (a b : BitVec w) (borrow : Bool) : AluRes w :=
  let r := a - b - BitVec.ofNat w borrow.toNat
  ⟨r, decide (b.toNat + borrow.toNat ≤ a.toNat), a.msb != b.msb && r.msb != a.msb⟩

/-- The word of flg: [3] Z, [2] N, [1] C, [0] V (R211). -/
def Flags.word (f : Flags) : W64 :=
  BitVec.ofNat 64 (f.z.toNat * 8 + f.n.toNat * 4 + f.c.toNat * 2 + f.v.toNat)

/-- The flags that a word's bits [3:0] give. -/
def Flags.ofWord (v : W64) : Flags := ⟨v.getLsbD 2, v.getLsbD 3, v.getLsbD 1, v.getLsbD 0⟩

/-- The tests of the condition codes 0 to 7 (R225). -/
def condTest (k : Nat) (f : Flags) : Bool :=
  match k with
  | 0 => f.z
  | 1 => f.n
  | 2 => f.c
  | 3 => f.v
  | 4 => f.c && !f.z
  | 5 => f.n == f.v
  | 6 => !f.z && f.n == f.v
  | _ => true

/-- A condition code on the flags: code c + 8 negates code c. -/
def condHolds (code : BitVec 4) (f : Flags) : Bool :=
  if code.getLsbD 3 then !condTest (code.toNat - 8) f else condTest code.toNat f

end Sys2Proof.Machine
end

