-- ==== Sys2Proof/Machine/Operands.lean ====
section
/-! DEFINITION. The operand forms of the Windlass core: general registers (R210), immediates and offsets (R214, R223), shift counts (R221), bit fields (R222), local-memory addresses (R228) and window fields (R230, R232). -/
namespace Sys2Proof.Machine

/-- Reading a general register: g0 reads as 0 (R210). -/
def Thread.reg (th : Thread) (r : BitVec 4) : W64 := if r = 0#4 then 0#64 else assocGet 0#64 th.g r.toNat

/-- Writing a general register: a write to g0 is discarded (R210). -/
def Thread.setReg (th : Thread) (r : BitVec 4) (v : W64) : Thread :=
  if r = 0#4 then th else { th with g := assocSet 0#64 r.toNat v th.g }

/-- The address of the instruction k words away, modulo 2^20 (R226). -/
def pcAdd (pc : Nat) (k : Int) : Nat := (((pc : Int) + 4 * k) % (2 ^ 20 : Int)).toNat

/-- Moving to the next instruction. -/
def Thread.next (th : Thread) : Thread := { th with pc := pcAdd th.pc 1 }

/-- A shift or rotate count: an unsigned 64-bit value clamped to 63, or to 31 in the 32-bit form (R221). -/
def shiftCount (w : Nat) (v : W64) : Nat := min v.toNat (w - 1)

/-- The bit-field width WM1 + 1, clamped to 64 − POS (R222). -/
def fieldWidth (pos wm1 : BitVec 6) : Nat := min (wm1.toNat + 1) (64 - pos.toNat)

/-- The local-memory address of a load or store: ga + imm as a signed 64-bit value (R228). (DEDUCED, log 21) -/
def localAddr (ga : W64) (imm : BitVec 18) : BitVec 64 := ga + imm.signExtend 64

/-- The address clamped to 0 to 0x800 − s (R228). -/
def localClamp (a : BitVec 64) (s : Nat) : Nat := (clampInt 0 (0x800 - (s : Int)) a.toInt).toNat

/-- The bytes of a window size code; codes 0b110 and 0b111 clamp to 0b101 (R230). -/
def windowBytes (code : BitVec 3) : Nat :=
  match code.toNat with
  | 0 => 1
  | 1 => 2
  | 2 => 3
  | 3 => 4
  | 4 => 6
  | _ => 8

/-- The offset of a window access, clamped to 256 − s (R230). -/
def windowOffset (off : BitVec 8) (gx : W64) (s : Nat) : Nat := min (off.toNat + gx.toNat) (256 - s)

/-- A field of n bytes sign-extended from its top bit to 64 bits. -/
def sext64 (n v : Nat) : W64 := BitVec.ofInt 64 (signed (8 * n) v)

end Sys2Proof.Machine
end

