-- ==== Sys2Proof/Machine/Chain.lean ====
section
/-! DEFINITION. The chain that a thread holds: its bytes and cells, and how an instruction lengthens, shortens and copies it (R155, R156, R230, R243 to R245). -/
namespace Sys2Proof.Machine

/-- Thread t of pump p. -/
def State.thread (s : State) (p t : Nat) : Thread := assocGet {} s.pumps.threads (p * 32 + t)

/-- Writing thread t of pump p. -/
def State.setThread (s : State) (p t : Nat) (th : Thread) : State :=
  { s with pumps := { s.pumps with threads := assocSet {} (p * 32 + t) th s.pumps.threads } }

/-- The chain of a thread; an empty chain has no cells and no descriptor (R243). -/
def State.chain (s : State) (th : Thread) : Frame :=
  match th.chain with
  | some id => s.frame id
  | none => {}

/-- The packet window: the first 256 bytes of the chain (R243). -/
def Frame.window (f : Frame) : Bytes := f.data.take 256

/-- Cells that a program's n bytes more need: a stream-landed frame's last cell is filled first (R154, R156). -/
def cellRoom (f : Frame) : Nat :=
  if f.src ≤ 3 then 0 else (f.exts.getLast?).elim 0 (fun e => 256 - min 256 (e.off + e.len))

/-- Cells that n more bytes need. -/
def newCells (f : Frame) (n : Nat) : Nat := cellsFor (n - min (cellRoom f) n)

/-- Filling the last extent by k bytes. -/
def fillLast (k : Nat) : List Ext → List Ext
  | [] => []
  | [e] => [⟨e.cell, e.len + k, e.off⟩]
  | e :: l => e :: fillLast k l

/-- The frame that data added to a thread's chain joins: an empty chain, unless it is still landing, forms a new frame, which takes a
descriptor, is charged to port 32 and stamped now (R156, R243). -/
def State.bornChain (s : State) (th : Thread) : Nat × State :=
  let fresh := { stamp := s.hubTime, ctx := th.ctx, gen := th.gen : Frame }
  match th.chain with
  | none => s.newFrame fresh
  | some id => if (s.frame id).data.isEmpty && (s.frame id).closed then (s.freeFrame id).newFrame fresh else (id, s)

/-- Replacing the bytes of a frame by as many or more, whose added bytes stand at its end or in its middle: new cells are
charged to the frame's source port. -/
def State.growFrame (s : State) (id : Nat) (d : Bytes) : State :=
  let f := s.frame id
  let n := d.length - f.data.length
  let fill := min (cellRoom f) n
  let (l, s) := s.takeCells f.src (newCells f n) (n - fill)
  ((s.setFrame id { f with data := d, exts := fillLast fill f.exts ++ l }).storeFrame id).congestion

/-- Placing n zero bytes, at most 256, before byte 0 in a new cell. -/
def State.prependZeros (s : State) (id n : Nat) : State :=
  if n = 0 then s
  else
    let f := s.frame id
    let (l, s) := s.takeCells f.src 1 n
    ((s.setFrame id { f with data := zeros n ++ f.data, exts := l ++ f.exts }).storeFrame id).congestion

/-- Removing the first n bytes: cells removed whole are released (R155). -/
def State.trimFrame (s : State) (id n : Nat) : State :=
  let f := s.frame id
  let (gone, rest) := dropExts n f.exts
  ((s.setFrame id { f with data := f.data.drop n, exts := rest }).releaseExts gone).congestion

/-- Keeping the first n bytes. -/
def State.cutFrame (s : State) (id n : Nat) : State :=
  let f := s.frame id
  let (kept, gone) := keepExts n f.exts
  ((s.setFrame id { f with data := f.data.take n, exts := kept }).releaseExts gone).congestion

/-- Overwriting bytes of a frame in place: bytes at or past its end are discarded (R232, R245). -/
def State.writeFrame (s : State) (id i : Nat) (d : Bytes) : State :=
  let f := s.frame id
  (s.setFrame id { f with data := (overlay f.data i d).take f.data.length }).storeFrame id

/-- A copy of a frame in cells of its own, charged to the frame's source port; it keeps the stamp (R156, R157). -/
def State.copyFrame (s : State) (id : Nat) : Nat × State :=
  let f := s.frame id
  let (l, s) := s.takeCells f.src (cellsFor f.data.length) f.data.length
  let (id', s) := s.newFrame { f with exts := l }
  (id', (s.storeFrame id').congestion)

end Sys2Proof.Machine
end

