-- ==== Sys2Proof/Machine/WindlassCode.lean ====
section
/-! DEFINITION. The words of the Windlass instructions (R214 to R218, R222, R225 to R227, R230, R231, R240, R241): the row that a thread issues for a word of tank 1, and the word of each row. -/
namespace Sys2Proof.Machine

/-! ## From a word to the row -/

/-- The ALU group (R218, R221): bits [11:10] must be zero, COND belongs to CSEL alone, and the counts and BSWAP leave gb zero. -/
def decodeAlu (p t : Nat) (gd ga gb : BitVec 4) (fn : BitVec 14) (ill : Instr) : Instr :=
  let m : AluMod := ⟨fn.getLsbD 13, fn.getLsbD 12⟩
  let cond := fn.extractLsb' 6 4
  if fn.extractLsb' 10 2 ≠ 0#2 then ill
  else if fn.extractLsb' 0 6 = 0x15#6 then (if cond = 15#4 then ill else .wCsel p t gd ga gb cond m)
  else if cond ≠ 0#4 then ill
  else match (fn.extractLsb' 0 6).toNat with
    | 0x00 => .wAdd p t gd ga gb m
    | 0x01 => .wSub p t gd ga gb m
    | 0x02 => .wAnd p t gd ga gb m
    | 0x03 => .wOr p t gd ga gb m
    | 0x04 => .wXor p t gd ga gb m
    | 0x05 => .wAndn p t gd ga gb m
    | 0x06 => .wSll p t gd ga gb m
    | 0x07 => .wSrl p t gd ga gb m
    | 0x08 => .wSra p t gd ga gb m
    | 0x09 => .wRol p t gd ga gb m
    | 0x0A => .wRor p t gd ga gb m
    | 0x0B => .wMul p t gd ga gb m
    | 0x0C => .wMulhu p t gd ga gb m
    | 0x0D => .wMin p t gd ga gb m
    | 0x0E => .wMax p t gd ga gb m
    | 0x0F => .wMinu p t gd ga gb m
    | 0x10 => .wMaxu p t gd ga gb m
    | 0x11 => if gb = 0#4 then .wClz p t gd ga m else ill
    | 0x12 => if gb = 0#4 then .wCtz p t gd ga m else ill
    | 0x13 => if gb = 0#4 then .wPopc p t gd ga m else ill
    | 0x14 => if gb = 0#4 then .wBswap p t gd ga m else ill
    | 0x16 => .wAddc p t gd ga gb m
    | 0x17 => .wSubb p t gd ga gb m
    | _ => ill

/-- The window group (R230, R231): a subop outside the table is ILL; every size code is legal. -/
def decodeWin (p t : Nat) (gd : BitVec 4) (off : BitVec 8) (fn : BitVec 14) (ill : Instr) : Instr :=
  let size := fn.extractLsb' 11 3
  let gx := fn.extractLsb' 7 4
  match (fn.extractLsb' 0 7).toNat with
  | 0 => .wWld p t gd off size gx
  | 1 => .wWlds p t gd off size gx
  | 2 => .wWst p t gd off size gx
  | 3 => .wWcmp p t gd off size gx
  | _ => ill

/-- The segment-chain group (R245). -/
def decodeChn (p t : Nat) (gd ga gb : BitVec 4) (sel : BitVec 6) (mod : BitVec 8) (ill : Instr) : Instr :=
  match sel.toNat with
  | 0 => .wFetch p t gd ga gb mod
  | 1 => .wPut p t gd ga gb mod
  | 2 => if gb = 0#4 ∧ mod = 0#8 then .wTrim p t gd ga else ill
  | 3 => if gb = 0#4 ∧ mod = 0#8 then .wPrep p t gd ga else ill
  | 4 => if gb = 0#4 then .wApnd p t gd ga mod else ill
  | 5 => if gb = 0#4 ∧ mod = 0#8 then .wCut p t gd ga else ill
  | 6 => if ga = 0#4 ∧ gb = 0#4 ∧ mod = 0#8 then .wLen p t gd else ill
  | _ => ill

/-- Lookups (R246) and the hash group (R249). -/
def decodeLkp (p t : Nat) (gd ga gb : BitVec 4) (sel : BitVec 6) (mod : BitVec 8) (ill : Instr) : Instr :=
  if mod.extractLsb' 4 4 ≠ 0#4 then ill
  else match sel.toNat with
    | 0 => .wLkpx p t gd ga gb (mod.extractLsb' 0 4)
    | 1 => .wLkpd p t gd ga gb (mod.extractLsb' 0 4)
    | _ => ill

def decodeHsh (p t : Nat) (gd ga gb : BitVec 4) (sel : BitVec 6) (mod : BitVec 8) (ill : Instr) : Instr :=
  match sel.toNat with
  | 0 => if mod = 0#8 then .wHash p t gd ga gb else ill
  | 1 => if mod.extractLsb' 1 7 = 0#7 then .wCrc32c p t gd ga gb (mod.getLsbD 0) else ill
  | 2 => if mod.extractLsb' 1 7 = 0#7 then .wCrc16 p t gd ga gb (mod.getLsbD 0) else ill
  | _ => ill

/-- ENQ and FWD (R255, R257). With D, ga must be g0. -/
def decodeEnq (p t : Nat) (gd ga gb : BitVec 4) (sel : BitVec 6) (mod : BitVec 8) (ill : Instr) : Instr :=
  if sel = 0#6 ∧ gd = 0#4 ∧ mod.extractLsb' 3 5 = 0#5 ∧ (mod.getLsbD 0 = true → ga = 0#4) then
    .wEnq p t ga gb (mod.getLsbD 0) (mod.getLsbD 1) (mod.getLsbD 2)
  else ill

def decodeFwd (p t : Nat) (gd ga gb : BitVec 4) (sel : BitVec 6) (mod : BitVec 8) (ill : Instr) : Instr :=
  if sel = 0#6 ∧ gd = 0#4 ∧ mod.extractLsb' 3 5 = 0#5 ∧ mod.extractLsb' 0 2 = 0#2 then .wFwd p t ga gb (mod.getLsbD 2)
  else ill

/-- Context atomics (R261). With SELF, ga must be g0; CLD uses no gb. -/
def decodeCat (p t : Nat) (gd ga gb : BitVec 4) (sel : BitVec 6) (mod : BitVec 8) (ill : Instr) : Instr :=
  let self := mod.getLsbD 3
  let w := mod.extractLsb' 0 3
  if mod.extractLsb' 4 4 ≠ 0#4 ∨ (self = true ∧ ga ≠ 0#4) then ill
  else match sel.toNat with
    | 0 => if gb = 0#4 then .wCld p t gd ga self w else ill
    | 1 => .wCst p t gd ga gb self w
    | 2 => .wCadd p t gd ga gb self w
    | 3 => .wCand p t gd ga gb self w
    | 4 => .wCor p t gd ga gb self w
    | 5 => .wCxch p t gd ga gb self w
    | 6 => .wCcas p t gd ga gb self w
    | _ => ill

/-- Timers (R263) and thread control (R265). -/
def decodeTmr (p t : Nat) (gd ga gb : BitVec 4) (sel : BitVec 6) (mod : BitVec 8) (ill : Instr) : Instr :=
  let k := mod.extractLsb' 0 2
  if mod.extractLsb' 2 6 ≠ 0#6 then ill
  else match sel.toNat with
    | 0 => if gd = 0#4 then .wTset p t ga gb k else ill
    | 1 => if gd = 0#4 then .wTseta p t ga gb k else ill
    | 2 => if ga = 0#4 ∧ gb = 0#4 then .wTclr p t gd k else ill
    | _ => ill

def decodeThr (p t : Nat) (gd ga gb : BitVec 4) (sel : BitVec 6) (mod : BitVec 8) (ill : Instr) : Instr :=
  if gd ≠ 0#4 ∨ gb ≠ 0#4 then ill
  else if sel = 0#6 then
    (if mod.extractLsb' 2 6 = 0#6 ∧ mod.extractLsb' 0 2 ≠ 3#2 then .wYld p t ga (mod.extractLsb' 0 2) else ill)
  else if ga ≠ 0#4 ∨ mod ≠ 0#8 then ill
  else match sel.toNat with
    | 1 => .wEnd p t
    | 2 => .wDrop p t
    | 3 => .wTrap p t
    | _ => ill

/-- The row that thread t of pump p issues for a word (R214, R216, R240): ILL for a reserved opcode, function, selector or condition
and for a field that must be zero and is not. -/
def decodeWindlass (p t : Nat) (w : W32) : Instr :=
  let gd := w.extractLsb' 22 4
  let ga := w.extractLsb' 18 4
  let gb := w.extractLsb' 14 4
  let fn := w.extractLsb' 0 14
  let imm := w.extractLsb' 0 18
  let sel := w.extractLsb' 8 6
  let mod := w.extractLsb' 0 8
  let pos := fn.extractLsb' 8 6
  let wm1 := fn.extractLsb' 2 6
  let ill := Instr.wIll p t w
  match (w.extractLsb' 26 6).toNat with
  | 0x01 => decodeAlu p t gd ga gb fn ill
  | 0x02 => if gb = 0#4 ∧ fn.getLsbD 0 = false then .wBfx p t gd ga pos wm1 (fn.getLsbD 1) else ill
  | 0x03 => if gb = 0#4 ∧ fn.extractLsb' 0 2 = 0#2 then .wBfi p t gd ga pos wm1 else ill
  | 0x04 => .wAddi p t gd ga imm
  | 0x05 => .wAndi p t gd ga imm
  | 0x06 => .wOri p t gd ga imm
  | 0x07 => .wXori p t gd ga imm
  | 0x08 => .wShor p t gd ga imm
  | 0x09 => .wSlli p t gd ga imm
  | 0x0A => .wSrli p t gd ga imm
  | 0x0B => .wSrai p t gd ga imm
  | 0x0C => if gd = 0#4 then .wCmpi p t ga imm else ill
  | 0x10 => .wBeq p t gd ga imm
  | 0x11 => .wBne p t gd ga imm
  | 0x12 => .wBlt p t gd ga imm
  | 0x13 => .wBge p t gd ga imm
  | 0x14 => .wBltu p t gd ga imm
  | 0x15 => .wBgeu p t gd ga imm
  | 0x16 => if ga = 0#4 ∧ gd ≠ 15#4 then .wBc p t gd imm else ill
  | 0x17 => .wJ p t (w.extractLsb' 0 26)
  | 0x18 => if ga = 0#4 then .wJl p t gd imm else ill
  | 0x19 => if gb = 0#4 ∧ fn = 0#14 then .wJalr p t gd ga else ill
  | 0x1A => if ga = 0#4 ∧ gb = 0#4 ∧ fn.toNat ≤ 4 then .wMfs p t gd fn else ill
  | 0x1B => if gd = 0#4 ∧ gb = 0#4 ∧ fn = 3#14 then .wMts p t ga fn else ill
  | 0x20 => .wLd8 p t gd ga imm
  | 0x21 => .wLd16 p t gd ga imm
  | 0x22 => .wLd32 p t gd ga imm
  | 0x23 => .wLd64 p t gd ga imm
  | 0x24 => .wLd8s p t gd ga imm
  | 0x25 => .wLd16s p t gd ga imm
  | 0x26 => .wLd32s p t gd ga imm
  | 0x28 => .wSt8 p t gd ga imm
  | 0x29 => .wSt16 p t gd ga imm
  | 0x2A => .wSt32 p t gd ga imm
  | 0x2B => .wSt64 p t gd ga imm
  | 0x2C => decodeWin p t gd (w.extractLsb' 14 8) fn ill
  | 0x30 => decodeChn p t gd ga gb sel mod ill
  | 0x31 => decodeLkp p t gd ga gb sel mod ill
  | 0x32 => decodeHsh p t gd ga gb sel mod ill
  | 0x33 => if sel = 0#6 ∧ mod = 0#8 then .wSeal p t gd ga gb else ill
  | 0x34 => if sel = 0#6 ∧ mod = 0#8 then .wOpen p t gd ga gb else ill
  | 0x35 => decodeEnq p t gd ga gb sel mod ill
  | 0x36 => decodeFwd p t gd ga gb sel mod ill
  | 0x37 => if sel = 0#6 ∧ mod = 0#8 then .wMsg p t gd ga gb else ill
  | 0x38 => decodeCat p t gd ga gb sel mod ill
  | 0x39 => decodeTmr p t gd ga gb sel mod ill
  | 0x3A => decodeThr p t gd ga gb sel mod ill
  | _ => ill

/-! ## From a row to its word -/

/-- Format A (R214). -/
def fmtA (op : BitVec 6) (gd ga gb : BitVec 4) (fn : BitVec 14) : W32 := op ++ gd ++ ga ++ gb ++ fn

/-- Formats I and B (R214). -/
def fmtI (op : BitVec 6) (gd ga : BitVec 4) (imm : BitVec 18) : W32 := op ++ gd ++ ga ++ imm

/-- Format Q (R214). -/
def fmtQ (op : BitVec 6) (gd ga gb : BitVec 4) (sel : BitVec 6) (mod : BitVec 8) : W32 := op ++ gd ++ ga ++ gb ++ sel ++ mod

/-- The low 14 bits of format W (R214): SIZE, GX and the subop. -/
def winFn (size : BitVec 3) (gx : BitVec 4) (sub : BitVec 7) : BitVec 14 := size ++ gx ++ sub

/-- Format W (R214). -/
def fmtW (gd : BitVec 4) (off : BitVec 8) (size : BitVec 3) (gx : BitVec 4) (sub : BitVec 7) : W32 :=
  0x2C#6 ++ gd ++ off ++ winFn size gx sub

/-- FN of the ALU group (R218): S, W, two zeros, COND and the operation. -/
def aluFn (m : AluMod) (cond : BitVec 4) (oper : BitVec 6) : BitVec 14 :=
  BitVec.ofBool m.setFlags ++ BitVec.ofBool m.w32 ++ 0#2 ++ cond ++ oper

/-- A word of the ALU group (R218). -/
def fmtAlu (oper : BitVec 6) (gd ga gb : BitVec 4) (m : AluMod) (cond : BitVec 4) : W32 :=
  fmtA 0x01#6 gd ga gb (aluFn m cond oper)

/-- FN of the bit fields (R222): POS, WM1, SX and a zero. -/
def bitFn (pos wm1 : BitVec 6) (sx : Bool) : BitVec 14 := pos ++ wm1 ++ BitVec.ofBool sx ++ 0#1

/-- MOD of the context atomics (R261). -/
def catMod (self : Bool) (w : BitVec 3) : BitVec 8 := 0#4 ++ BitVec.ofBool self ++ w

/-- MOD of ENQ and FWD (R255, R257): C, L and D. -/
def enqMod (c l d : Bool) : BitVec 8 := 0#5 ++ BitVec.ofBool c ++ BitVec.ofBool l ++ BitVec.ofBool d

/-- MOD of a lookup (R246), of the two checksums (R249), and of timers and YLD (R263, R265). -/
def lkpMod (k : BitVec 4) : BitVec 8 := 0#4 ++ k
def crcMod (fin : Bool) : BitVec 8 := 0#7 ++ BitVec.ofBool fin
def tmrMod (k : BitVec 2) : BitVec 8 := 0#6 ++ k

/-- A word of the context atomics (R261). -/
def fmtCat (sel : BitVec 6) (gd ga gb : BitVec 4) (self : Bool) (w : BitVec 3) : W32 :=
  fmtQ 0x38#6 gd ga gb sel (catMod self w)

/-- The word of a Windlass row; none for every other row. -/
def windlassWord : Instr → Option W32
  | .wIll _ _ w => some w
  | .wAdd _ _ gd ga gb m => some (fmtAlu 0x00#6 gd ga gb m 0#4)
  | .wSub _ _ gd ga gb m => some (fmtAlu 0x01#6 gd ga gb m 0#4)
  | .wAnd _ _ gd ga gb m => some (fmtAlu 0x02#6 gd ga gb m 0#4)
  | .wOr _ _ gd ga gb m => some (fmtAlu 0x03#6 gd ga gb m 0#4)
  | .wXor _ _ gd ga gb m => some (fmtAlu 0x04#6 gd ga gb m 0#4)
  | .wAndn _ _ gd ga gb m => some (fmtAlu 0x05#6 gd ga gb m 0#4)
  | .wSll _ _ gd ga gb m => some (fmtAlu 0x06#6 gd ga gb m 0#4)
  | .wSrl _ _ gd ga gb m => some (fmtAlu 0x07#6 gd ga gb m 0#4)
  | .wSra _ _ gd ga gb m => some (fmtAlu 0x08#6 gd ga gb m 0#4)
  | .wRol _ _ gd ga gb m => some (fmtAlu 0x09#6 gd ga gb m 0#4)
  | .wRor _ _ gd ga gb m => some (fmtAlu 0x0A#6 gd ga gb m 0#4)
  | .wMul _ _ gd ga gb m => some (fmtAlu 0x0B#6 gd ga gb m 0#4)
  | .wMulhu _ _ gd ga gb m => some (fmtAlu 0x0C#6 gd ga gb m 0#4)
  | .wMin _ _ gd ga gb m => some (fmtAlu 0x0D#6 gd ga gb m 0#4)
  | .wMax _ _ gd ga gb m => some (fmtAlu 0x0E#6 gd ga gb m 0#4)
  | .wMinu _ _ gd ga gb m => some (fmtAlu 0x0F#6 gd ga gb m 0#4)
  | .wMaxu _ _ gd ga gb m => some (fmtAlu 0x10#6 gd ga gb m 0#4)
  | .wClz _ _ gd ga m => some (fmtAlu 0x11#6 gd ga 0#4 m 0#4)
  | .wCtz _ _ gd ga m => some (fmtAlu 0x12#6 gd ga 0#4 m 0#4)
  | .wPopc _ _ gd ga m => some (fmtAlu 0x13#6 gd ga 0#4 m 0#4)
  | .wBswap _ _ gd ga m => some (fmtAlu 0x14#6 gd ga 0#4 m 0#4)
  | .wCsel _ _ gd ga gb cond m => some (fmtAlu 0x15#6 gd ga gb m cond)
  | .wAddc _ _ gd ga gb m => some (fmtAlu 0x16#6 gd ga gb m 0#4)
  | .wSubb _ _ gd ga gb m => some (fmtAlu 0x17#6 gd ga gb m 0#4)
  | .wBfx _ _ gd ga pos wm1 sx => some (fmtA 0x02#6 gd ga 0#4 (bitFn pos wm1 sx))
  | .wBfi _ _ gd ga pos wm1 => some (fmtA 0x03#6 gd ga 0#4 (bitFn pos wm1 false))
  | .wAddi _ _ gd ga imm => some (fmtI 0x04#6 gd ga imm)
  | .wAndi _ _ gd ga imm => some (fmtI 0x05#6 gd ga imm)
  | .wOri _ _ gd ga imm => some (fmtI 0x06#6 gd ga imm)
  | .wXori _ _ gd ga imm => some (fmtI 0x07#6 gd ga imm)
  | .wShor _ _ gd ga imm => some (fmtI 0x08#6 gd ga imm)
  | .wSlli _ _ gd ga imm => some (fmtI 0x09#6 gd ga imm)
  | .wSrli _ _ gd ga imm => some (fmtI 0x0A#6 gd ga imm)
  | .wSrai _ _ gd ga imm => some (fmtI 0x0B#6 gd ga imm)
  | .wCmpi _ _ ga imm => some (fmtI 0x0C#6 0#4 ga imm)
  | .wBeq _ _ ga gb off => some (fmtI 0x10#6 ga gb off)
  | .wBne _ _ ga gb off => some (fmtI 0x11#6 ga gb off)
  | .wBlt _ _ ga gb off => some (fmtI 0x12#6 ga gb off)
  | .wBge _ _ ga gb off => some (fmtI 0x13#6 ga gb off)
  | .wBltu _ _ ga gb off => some (fmtI 0x14#6 ga gb off)
  | .wBgeu _ _ ga gb off => some (fmtI 0x15#6 ga gb off)
  | .wBc _ _ cond off => some (fmtI 0x16#6 cond 0#4 off)
  | .wJ _ _ off => some (0x17#6 ++ off)
  | .wJl _ _ gd off => some (fmtI 0x18#6 gd 0#4 off)
  | .wJalr _ _ gd ga => some (fmtA 0x19#6 gd ga 0#4 0#14)
  | .wMfs _ _ gd sel => some (fmtA 0x1A#6 gd 0#4 0#4 sel)
  | .wMts _ _ ga sel => some (fmtA 0x1B#6 0#4 ga 0#4 sel)
  | .wLd8 _ _ gd ga imm => some (fmtI 0x20#6 gd ga imm)
  | .wLd16 _ _ gd ga imm => some (fmtI 0x21#6 gd ga imm)
  | .wLd32 _ _ gd ga imm => some (fmtI 0x22#6 gd ga imm)
  | .wLd64 _ _ gd ga imm => some (fmtI 0x23#6 gd ga imm)
  | .wLd8s _ _ gd ga imm => some (fmtI 0x24#6 gd ga imm)
  | .wLd16s _ _ gd ga imm => some (fmtI 0x25#6 gd ga imm)
  | .wLd32s _ _ gd ga imm => some (fmtI 0x26#6 gd ga imm)
  | .wSt8 _ _ gd ga imm => some (fmtI 0x28#6 gd ga imm)
  | .wSt16 _ _ gd ga imm => some (fmtI 0x29#6 gd ga imm)
  | .wSt32 _ _ gd ga imm => some (fmtI 0x2A#6 gd ga imm)
  | .wSt64 _ _ gd ga imm => some (fmtI 0x2B#6 gd ga imm)
  | .wWld _ _ gd off size gx => some (fmtW gd off size gx 0#7)
  | .wWlds _ _ gd off size gx => some (fmtW gd off size gx 1#7)
  | .wWst _ _ gd off size gx => some (fmtW gd off size gx 2#7)
  | .wWcmp _ _ gd off size gx => some (fmtW gd off size gx 3#7)
  | .wFetch _ _ gd ga gb nm1 => some (fmtQ 0x30#6 gd ga gb 0#6 nm1)
  | .wPut _ _ gd ga gb nm1 => some (fmtQ 0x30#6 gd ga gb 1#6 nm1)
  | .wTrim _ _ gd ga => some (fmtQ 0x30#6 gd ga 0#4 2#6 0#8)
  | .wPrep _ _ gd ga => some (fmtQ 0x30#6 gd ga 0#4 3#6 0#8)
  | .wApnd _ _ gd ga nm1 => some (fmtQ 0x30#6 gd ga 0#4 4#6 nm1)
  | .wCut _ _ gd ga => some (fmtQ 0x30#6 gd ga 0#4 5#6 0#8)
  | .wLen _ _ gd => some (fmtQ 0x30#6 gd 0#4 0#4 6#6 0#8)
  | .wLkpx _ _ gd ga gb k => some (fmtQ 0x31#6 gd ga gb 0#6 (lkpMod k))
  | .wLkpd _ _ gd ga gb k => some (fmtQ 0x31#6 gd ga gb 1#6 (lkpMod k))
  | .wHash _ _ gd ga gb => some (fmtQ 0x32#6 gd ga gb 0#6 0#8)
  | .wCrc32c _ _ gd ga gb fin => some (fmtQ 0x32#6 gd ga gb 1#6 (crcMod fin))
  | .wCrc16 _ _ gd ga gb fin => some (fmtQ 0x32#6 gd ga gb 2#6 (crcMod fin))
  | .wSeal _ _ gd ga gb => some (fmtQ 0x33#6 gd ga gb 0#6 0#8)
  | .wOpen _ _ gd ga gb => some (fmtQ 0x34#6 gd ga gb 0#6 0#8)
  | .wEnq _ _ ga gb d l c =>
    some (fmtQ 0x35#6 0#4 ga gb 0#6 (enqMod c l d))
  | .wFwd _ _ ga gb c => some (fmtQ 0x36#6 0#4 ga gb 0#6 (enqMod c false false))
  | .wMsg _ _ gd ga gb => some (fmtQ 0x37#6 gd ga gb 0#6 0#8)
  | .wCld _ _ gd ga self w => some (fmtCat 0#6 gd ga 0#4 self w)
  | .wCst _ _ gd ga gb self w => some (fmtCat 1#6 gd ga gb self w)
  | .wCadd _ _ gd ga gb self w => some (fmtCat 2#6 gd ga gb self w)
  | .wCand _ _ gd ga gb self w => some (fmtCat 3#6 gd ga gb self w)
  | .wCor _ _ gd ga gb self w => some (fmtCat 4#6 gd ga gb self w)
  | .wCxch _ _ gd ga gb self w => some (fmtCat 5#6 gd ga gb self w)
  | .wCcas _ _ gd ga gb self w => some (fmtCat 6#6 gd ga gb self w)
  | .wTset _ _ ga gb k => some (fmtQ 0x39#6 0#4 ga gb 0#6 (tmrMod k))
  | .wTseta _ _ ga gb k => some (fmtQ 0x39#6 0#4 ga gb 1#6 (tmrMod k))
  | .wTclr _ _ gd k => some (fmtQ 0x39#6 gd 0#4 0#4 2#6 (tmrMod k))
  | .wYld _ _ ga cond => some (fmtQ 0x3A#6 0#4 ga 0#4 0#6 (tmrMod cond))
  | .wEnd _ _ => some (fmtQ 0x3A#6 0#4 0#4 0#4 1#6 0#8)
  | .wDrop _ _ => some (fmtQ 0x3A#6 0#4 0#4 0#4 2#6 0#8)
  | .wTrap _ _ => some (fmtQ 0x3A#6 0#4 0#4 0#4 3#6 0#8)
  | _ => none

end Sys2Proof.Machine
end

