-- ==== Sys2Proof/Machine/Threads.lean ====
section
/-! DEFINITION. Pending chains, dispatch, the end of a dispatch, traps, ordering points, back-pressured placements and the issue of an instruction (R185 to R206, R235 to R239, R255 to R259). -/
namespace Sys2Proof.Machine

/-! ## Contexts -/

/-- A system context (R27). -/
def isSystem (c : Nat) : Bool := decide (c < 32)

/-- A system context whose unit is absent stays idle (R29). -/
def State.idleContext (s : State) (c : Nat) : Bool :=
  (decide (6 ≤ c ∧ c ≤ 11) && !s.hasDisplay) || (decide (12 ≤ c ∧ c ≤ 14) && !s.hasCascade)

/-- The slice of a context; system contexts belong to none. -/
def State.ctxSlice (s : State) (c : Nat) : Nat := s.get (CTX_OWNER_SLICE c)

/-- The generation of a slice (R306). (DEDUCED, log 30) -/
def State.sliceGen (s : State) (n : Nat) : Nat := s.get (SLC_STAT_GEN n)

/-- Economy is in effect and pump p is in the gated half (R148, R206). -/
def State.gatedHalf (s : State) (p : Nat) : Bool :=
  s.get ALT_CAL_STAT_PROFILE == 2 && decide (s.nPumps / 2 ≤ p)

/-- The pump that serves a context: its home pump, or the substitute while that pump is gated. -/
def State.servingPump (s : State) (c : Nat) : Nat :=
  let p := s.get (CTX_CFG_PUMP c)
  if s.gatedHalf p then p - s.nPumps / 2 else p

/-- A chain becomes pending on a context, or goes to the sump (R29, R193, R199, R205). -/
def State.pendChain (s : State) (id c : Nat) : State :=
  let s := s.setFrame id { s.frame id with ctx := c }
  if s.nCtx ≤ c ∨ s.idleContext c then s.sump id 9
  else if s.get (CTX_STATE_STATE c) = 0 ∨ s.get (CTX_STATE_STATE c) = 3 then s.sump id 8
  else { s with pumps := { s.pumps with pend := s.pumps.pend ++ [⟨id, c, s.servingPump c⟩] } }

/-- Every pending chain of a context goes to the sump. -/
def State.dropPending (s : State) (c cause : Nat) : State :=
  let gone := s.pumps.pend.filter (fun e => e.ctx == c)
  let s := { s with pumps := { s.pumps with pend := s.pumps.pend.filter (fun e => e.ctx != c) } }
  gone.foldl (fun s e => s.sump e.frame cause) s

/-! ## Dispatch (R188, R190, R191, R201, R212) -/

/-- The frame metadata of a chain at dispatch (R191). -/
def metadata (f : Frame) (c : Nat) : Bytes :=
  leBytes 8 f.stamp ++ leBytes 2 f.data.length ++ leBytes 1 f.port ++
    leBytes 1 (f.closed.toNat + 2 * f.loss.toNat + 4 * f.recirc.toNat + 8 * f.msg.toNat + 16 * f.timer.toNat +
      32 * f.early.toNat + 64 * f.tcls) ++
    leBytes 2 c ++ leBytes 1 f.segs ++ leBytes 1 0 ++ leBytes 4 f.cls ++ leBytes 4 f.arg ++ zeros 8

/-- The pumps are held in reset by a contained fault of their block (R524). -/
def State.pumpsHeld (s : State) : Bool := s.ladder.contained.any (fun e => e.1 == 0x10 || e.1 == 0x15 || e.1 == 0x16 || e.1 == 0x29)

/-- Thread t of pump p may take the pending chain e (R188, R201); a pump of a gated group waits for it (R505), and one held by a
contained fault takes none. -/
def State.eligible (s : State) (p t : Nat) (e : Pend) : Bool :=
  e.pump == p && !s.pumpsHeld && !bit (s.get CLK_GATE_GATED) (p / 4) && s.get (CTX_STATE_STATE e.ctx) == 1 &&
    decide (s.get (CTX_STATE_ACTIVE e.ctx) < s.get (CTX_CFG_MAXTHR e.ctx)) && (t != 31 || isSystem e.ctx)

/-- The pending chain that thread t of pump p takes: PRI first, then the one pending longest (R201). -/
def State.nextChain (s : State) (p t : Nat) : Option Pend :=
  let l := s.pumps.pend.filter (s.eligible p t)
  match l.filter (fun e => s.is (CTX_CFG_PRI e.ctx)) with
  | e :: _ => some e
  | [] => l.head?

/-- The model's number for the slice a private area was last used for: 64 for system contexts. -/
def State.areaSlice (s : State) (c : Nat) : Nat := if isSystem c then 64 else s.ctxSlice c

/-- A thread as a dispatch sets it up (R190, R203, R212). -/
def State.freshThread (s : State) (old : Thread) (e : Pend) : Thread :=
  let f := s.frame e.frame
  let c := e.ctx
  let area := s.areaSlice c
  let mem := if old.lastSlice = some area then old.mem else []
  { st := .ready, ctx := c, seq := assocGet 0 s.pumps.seq c, pc := s.get (CTX_ENTRY_ENTRY c) * 4,
    budget := s.get (CTX_BUDGET_STEPS c), gen := if f.port = 0 then f.gen else s.sliceGen (s.ctxSlice c),
    chain := if f.data.isEmpty ∧ f.closed then none else some e.frame,
    mem := memWrite mem 0 (metadata f c), lastSlice := some area }

/-- Dispatching pending chain e to thread t of pump p. -/
def State.dispatch (s : State) (p t : Nat) (e : Pend) : State :=
  let f := s.frame e.frame
  let th := s.freshThread (s.thread p t) e
  let s := s.setThread p t th
  let s := { s with pumps := { s.pumps with
    pend := s.pumps.pend.erase e, seq := assocMod 0 e.ctx (· + 1) s.pumps.seq } }
  let s := if th.chain.isNone then s.freeFrame e.frame else s
  let s := ((s.bump (CTX_DISP_COUNT e.ctx)).put (CTX_STATE_ACTIVE e.ctx) (s.get (CTX_STATE_ACTIVE e.ctx) + 1))
  let s := s.put (PMP_STAT_ACTIVE p) (s.get (PMP_STAT_ACTIVE p) + 1)
  if f.timer || f.msg then s else s.capture 0 none f.src 0 f

/-! ## The end of a dispatch -/

/-- The pump stops its clock when its last active thread ends under Economy (R206). -/
def State.gateCheck (s : State) (p : Nat) : State :=
  if s.gatedHalf p && s.get (PMP_STAT_ACTIVE p) == 0 && !s.is (PMP_STAT_GATED p) then
    (s.put (PMP_STAT_GATED p) 1).raise 0x0601 p
  else s

/-- The last active thread of a context in HOLD or OFF has ended (R195). -/
def State.idleCheck (s : State) (c : Nat) : State :=
  if s.get (CTX_STATE_ACTIVE c) = 0 ∧ (s.get (CTX_STATE_STATE c) = 0 ∨ s.get (CTX_STATE_STATE c) = 2) then s.raise 0x0703 c
  else s

/-- A dispatch ends: the thread is IDLE, and its private area stays. -/
def State.endThread (s : State) (p t : Nat) : State :=
  let th := s.thread p t
  let s := s.setThread p t { mem := th.mem, lastSlice := th.lastSlice }
  let s := s.put (CTX_STATE_ACTIVE th.ctx) (s.get (CTX_STATE_ACTIVE th.ctx) - 1)
  let s := s.put (PMP_STAT_ACTIVE p) (s.get (PMP_STAT_ACTIVE p) - 1)
  (s.idleCheck th.ctx).gateCheck p

/-- The chain that a thread holds goes to the sump; an empty chain passes nothing (R204, R265). -/
def State.sumpChain (s : State) (p t cause : Nat) : State :=
  let th := s.thread p t
  match th.chain with
  | none => s
  | some id =>
    let s := s.setThread p t { th with chain := none }
    if (s.frame id).data.isEmpty then s.freeFrame id else s.sump id cause

/-- A chain is longer than the longest one (R200). -/
def Frame.overLong (f : Frame) : Bool := decide (16384 < f.data.length)

/-- The over-long chain of a thread goes to the sump (R200). -/
def State.sumpOverLong (s : State) (p t : Nat) : State := (s.sumpChain p t 5).raise 0x0704 (s.thread p t).ctx

/-- A dispatch ends with its chain sent to the sump. -/
def State.stopThread (s : State) (p t cause : Nat) : State := (s.sumpChain p t cause).endThread p t

/-- Stopping one other thread of a context that faults or whose slice is reset: at once in ORDER or BLOCKED, and in PARK where
the rule says so, else at its next issue (R205, R309). -/
def State.haltThread (s : State) (p t cause : Nat) (parkToo : Bool) : State :=
  let th := s.thread p t
  match th.st with
  | .idle => s
  | .order => s.stopThread p t cause
  | .blocked => s.stopThread p t cause
  | .park => if parkToo then s.stopThread p t cause else s.setThread p t { th with stop := some cause }
  | _ => s.setThread p t { th with stop := some cause }

/-- Stopping every active thread of the contexts that the test picks. -/
def State.haltThreads (s : State) (pick : Nat → Bool) (cause : Nat) (parkToo : Bool) : State :=
  (s.pumps.threads.map (·.1)).foldl
    (fun s k => if pick (s.thread (k / 32) (k % 32)).ctx then s.haltThread (k / 32) (k % 32) cause parkToo else s) s

/-- A context enters FAULT (R205, R526). -/
def State.enterFault (s : State) (c : Nat) : State :=
  let s := (s.put (CTX_STATE_STATE c) 3).raise 0x0702 c
  (s.haltThreads (· == c) 8 false).dropPending c 8

/-- A trap ends its dispatch (R204, R205, R239). -/
def State.trap (s : State) (p t code : Nat) : State :=
  let th := s.thread p t
  let c := th.ctx
  let s := ((s.put (CTX_FAULT_CODE c) code).put (CTX_FAULT_PC c) (th.pc / 4)).put (CTX_STATE_TRAP c) code
  let s := s.bump (CTX_FAULTS_COUNT c)
  let s := s.stopThread p t (if code = 4 then 7 else 8)
  let s := s.raiseEvery 1000 0x0701 c 0
  if bit (s.get (CTX_CFG_STOP c)) (code - 1) && s.get (CTX_STATE_STATE c) == 1 then
    (s.enterFault c).detect 0x29 c
  else s

/-! ## References (R235) -/

/-- A contained fault of detector d and instance i holds the unit of port p in reset (R524). -/
def detectorHolds (d i p : Nat) : Bool :=
  if d = 0x03 then
    (i == 0 && p == 0) || (i == 1 && decide (1 ≤ p ∧ p ≤ 3)) || (i == 2 && decide (12 ≤ p ∧ p ≤ 15)) ||
      (i == 3 && decide (28 ≤ p ∧ p ≤ 29)) || (i == 4 && decide (4 ≤ p ∧ p ≤ 11))
  else if d = 0x14 then i == p
  else if 0x19 ≤ d ∧ d ≤ 0x23 then p == 0
  else if 0x24 ≤ d ∧ d ≤ 0x26 then decide (1 ≤ p ∧ p ≤ 3)
  else if 0x2A ≤ d ∧ d ≤ 0x2B then p == 28
  else if 0x2D ≤ d ∧ d ≤ 0x36 then decide (12 ≤ p ∧ p ≤ 27)
  else if 0x37 ≤ d ∧ d ≤ 0x38 then p == 31
  else if d = 0x39 then decide (4 ≤ p ∧ p ≤ 11)
  else if 0x3A ≤ d ∧ d ≤ 0x3B then decide (28 ≤ p ∧ p ≤ 29)
  else if 0x3C ≤ d ∧ d ≤ 0x3D then p == 30
  else false

/-- The unit of port p is held in reset by a contained fault (R524). -/
def State.heldPort (s : State) (p : Nat) : Bool := s.ladder.contained.any (fun e => detectorHolds e.1 e.2 p)

/-- Port p cannot transmit (R259). -/
def State.cannotTransmit (s : State) (p : Nat) : Bool :=
  (p == 0 && s.islanded) || (decide (4 ≤ p ∧ p ≤ 11) && !s.is (ETH_STAT_LINK (p - 4))) || (p == 29 && s.dock) || s.heldPort p

/-- The outcome of one reference: 0 passes, 2 CAP, 4 RIGHTS. A present object is the slice's own or refused; system contexts
may name every present object. -/
def refCheck (sys inRange present own : Bool) : Nat :=
  if !inRange then 4 else if !present then 2 else if sys || own then 0 else 4

/-- A context number. -/
def State.refCtx (s : State) (c n : Nat) : Nat :=
  refCheck (isSystem c) (decide (n ≤ 1023)) (decide (n < s.nCtx)) (!isSystem n && s.ctxSlice n == s.ctxSlice c)

/-- A well number. -/
def State.refWell (s : State) (c n : Nat) : Nat :=
  refCheck (isSystem c) (decide (n ≤ 511)) true (s.get (WEL_CFG_SLICE n) == s.ctxSlice c)

/-- A slice may name a port (R303). -/
def State.slicePort (s : State) (sl p : Nat) : Bool := decide (p ≤ 31) && bit (s.get (SLC_PORTS_PORTS sl)) p

/-- A port number. -/
def State.refPort (s : State) (c p : Nat) : Nat :=
  refCheck (isSystem c) (decide (p ≤ 63)) (s.portPresent p) (p == 32 || s.slicePort (s.ctxSlice c) p)

/-- A remote context (R256, R304). -/
def State.refRemote (s : State) (c r : Nat) : Nat :=
  let b := s.get (SLC_RCTX_BASE (s.ctxSlice c))
  refCheck (isSystem c) true true (decide (b ≤ r ∧ r < b + s.get (SLC_RCTX_COUNT (s.ctxSlice c))))

/-- The context that a placement bound for port q names: one of this hub on port 32 (R303), a remote one on a link (R256). -/
def State.refNamed (s : State) (c q r : Nat) : List Nat :=
  if q = 32 then [s.refCtx c r] else if q ≤ 3 then [s.refRemote c r] else []

/-- A key slot. -/
def State.refSlot (s : State) (c k : Nat) : Nat :=
  refCheck (isSystem c) true true (bits (s.get (SEC_SLOT_ATTR_ATTR k)) 21 16 == s.ctxSlice c)

/-- A message routing entry. -/
def State.refEntry (s : State) (c n : Nat) : Nat :=
  refCheck (isSystem c) (decide (n ≤ 4095)) true (s.get (MSG_RT_SLICE n) == s.ctxSlice c)

/-- The trap of several references: CAP comes before RIGHTS (R238). -/
def refTrap (l : List Nat) : Option Nat :=
  if l.contains 2 then some 2 else if l.contains 4 then some 4 else none

/-! ## Ordering points and placements (R202, R255 to R259) -/

/-- An earlier dispatch of the thread's context has not passed its ordering point. -/
def State.earlierOpen (s : State) (th : Thread) : Bool :=
  s.pumps.threads.any (fun e => e.2.st != .idle && e.2.ctx == th.ctx && decide (e.2.seq < th.seq) && !e.2.passed)

/-- The thread waits at its ordering point. -/
def State.mustOrder (s : State) (th : Thread) : Bool :=
  s.is (CTX_CFG_ORDER th.ctx) && !th.passed && s.earlierOpen th

/-- A copy finds no free cells yet. -/
def State.copyWaits (s : State) (f : Frame) (copy : Bool) : Bool :=
  copy && decide (s.freeCells < cellsFor f.data.length ∨ s.freeFds = 0)

/-- The placement of a thread's tail instruction is held back: an ENQ under R168 and R255, an FWD by a full direct queue, and
either by a chain that has not closed. -/
def State.tailBlocked (s : State) (th : Thread) : Bool :=
  let f := s.chain th
  match th.tail with
  | some (.enq n _ _ _ copy) =>
    !f.data.isEmpty && !f.overLong && (s.is (WEL_DEPTH_CONG n) || (f.src == 32 && s.backPressured 32) || !f.closed || s.copyWaits f copy)
  | some (.fwd p _ copy) =>
    !f.data.isEmpty && !f.overLong && !s.cannotTransmit p &&
      (decide (64 ≤ (assocGet [] s.cis.direct p).length) || !f.closed || s.copyWaits f copy)
  | _ => false

/-- The state a thread with a tail instruction is in: ready when the instruction can complete. -/
def State.tailState (s : State) (th : Thread) : ThSt :=
  if s.mustOrder th then .order else if s.tailBlocked th then .blocked else .ready

/-- The frame that a placement takes: the chain itself, which the thread then no longer holds, or a copy. -/
def State.takeChain (s : State) (p t id : Nat) (copy : Bool) : Nat × State :=
  if copy then s.copyFrame id
  else
    let th := s.thread p t
    (id, s.setThread p t { th with chain := none })

/-- The thread goes on behind its tail instruction: its ordering point is passed. -/
def Thread.passTail (th : Thread) : Thread := { th with st := .ready, passed := true, tail := none, pc := pcAdd th.pc 1 }

/-- A tail instruction completes. A chain that is too long is placed nowhere: the sump takes it (R200). (DEDUCED, log 189) -/
def State.completeTail (s : State) (p t : Nat) : State :=
  let th := s.thread p t
  let f := s.chain th
  let gone := s
  let s := s.setThread p t th.passTail
  match th.tail, th.chain with
  | some (.trap code), _ => gone.trap p t code
  | some (.enq n len rctx rgen copy), some id =>
    if f.data.isEmpty then s
    else if f.overLong then s.sumpOverLong p t
    else
      let (id', s) := s.takeChain p t id copy
      let s := if len = 0 then s else s.cutFrame id' (min len f.data.length)
      let s := s.setFrame id' { s.frame id' with rctx := rctx, rgen := rgen, slice := s.ctxSlice th.ctx }
      s.enqueue n id'
  | some (.fwd port b copy), some id =>
    if f.data.isEmpty then s
    else if f.overLong then s.sumpOverLong p t
    else
      let (id', s) := s.takeChain p t id copy
      if s.cannotTransmit port then s.sump id' 9
      else
        let s := s.setFrame id' { s.frame id' with
          rctx := bits b 41 32, rgen := bits b 55 48, word := b, slice := s.ctxSlice th.ctx }
        let q := assocGet [] s.cis.direct port
        ({ s with cis := { s.cis with direct := assocSet [] port (q ++ [id']) s.cis.direct } }).wakeFor port
  | some .endOp, _ =>
    let s := if f.data.isEmpty then s else s.bump (CTX_DROPS_COUNT th.ctx)
    (if f.overLong then s.sumpOverLong p t else s).stopThread p t 6
  | some .drop, _ =>
    let s := s.bump (CTX_DROPS_COUNT th.ctx)
    (if f.overLong then s.sumpOverLong p t else s).stopThread p t 6
  | _, _ => s

/-- A trap is raised: the thread is at its ordering point, and the trap is taken once every earlier dispatch of the context has
passed its own (R202). (DEDUCED, log 190) -/
def State.raiseTrap (s : State) (p t code : Nat) : State :=
  let th := s.thread p t
  if s.mustOrder th then s.setThread p t { th with st := .order, tail := some (.trap code) } else s.trap p t code

/-- Thread a's tail instruction comes before thread b's: one that has stalled comes first, and of those the one that stalled first
(R168). -/
def stalledBefore (a b : Thread) : Bool :=
  match a.st == .blocked, b.st == .blocked with
  | true, false => true
  | false, true => false
  | _, _ => decide (a.stall ≤ b.stall)

/-- The thread, stalled longest, whose tail instruction can complete now. -/
def State.firstTail (s : State) : Option (Nat × Thread) :=
  s.pumps.threads.foldl
    (fun best e =>
      if e.2.tail.isSome && s.tailState e.2 == .ready then
        match best with
        | some b => if stalledBefore b.2 e.2 then best else some e
        | none => some e
      else best) none

/-- The next number in the order of stalls and of issues to the crypto engines. -/
def State.stallNo (s : State) : Nat × State := (s.pumps.stalls, { s with pumps := { s.pumps with stalls := s.pumps.stalls + 1 } })

/-- A thread whose tail instruction cannot complete shows what it waits for. An ENQ that stalls has reached its well (R165), and takes
its place among those that wait (R168). -/
def State.showTail (s : State) (e : Nat × Thread) : State :=
  if e.2.tail.isNone then s
  else
    let st := s.tailState e.2
    let (n, s) := if st == .blocked && e.2.st != .blocked then s.stallNo else (e.2.stall, s)
    let s := s.setThread (e.1 / 32) (e.1 % 32) { e.2 with st := st, stall := n }
    match st, e.2.tail with
    | .blocked, some (.enq n _ _ _ _) => s.setFeed n (s.chain e.2).src
    | _, _ => s

/-- Completing the tail instructions that can complete, the one stalled longest first: at most k of them; the rest show what
they wait for. -/
def State.settleN (s : State) : Nat → State
  | 0 => s
  | k + 1 =>
    match s.firstTail with
    | some e => (s.completeTail (e.1 / 32) (e.1 % 32)).settleN k
    | none => s.pumps.threads.foldl State.showTail s

/-- The threads of pump p that are READY, but for thread t, as bits. -/
def State.readyOthers (s : State) (p t : Nat) : Nat :=
  s.pumps.threads.foldl
    (fun m e => if e.1 / 32 = p ∧ e.1 % 32 ≠ t ∧ e.2.st = .ready then setBit m (e.1 % 32) true else m) 0

/-- The bytes that a thread parked with condition 0b10 waits for have landed, or the chain has closed. -/
def State.landedEnough (s : State) (th : Thread) (n : Nat) : Bool :=
  let f := s.chain th
  f.closed || decide (n ≤ f.data.length)

/-- A parked thread whose condition holds returns to READY (R265): under condition 0b00 once every other thread that was READY has
issued or is READY no more, under 0b10 once the bytes have landed. -/
def State.unparkOne (s : State) (k : Nat) : State :=
  let th := s.thread (k / 32) (k % 32)
  if th.st != .park then s
  else match th.park with
  | 0 =>
    let m := th.parkSet &&& s.readyOthers (k / 32) (k % 32)
    s.setThread (k / 32) (k % 32) { th with parkSet := m, st := if m = 0 then .ready else .park }
  | 2 => if s.landedEnough th th.parkTime then s.setThread (k / 32) (k % 32) { th with st := .ready } else s
  | _ => s

/-- Every parked thread whose condition holds. -/
def State.unpark (s : State) : State := (s.pumps.threads.map (·.1)).foldl State.unparkOne s

/-- Letting every tail instruction and every parked thread go on as far as it can (R168, R202, R258, R265), and signalling
back-pressure. (DEDUCED, log 25) -/
def State.settle (s : State) : State := if s.running then (s.settleN (s.pumps.threads.length + 1)).unpark.flow else s

/-! ## The issue of an instruction (R185, R189, R196, R203, R238) -/

/-- The thread that pump p issues for: the first READY one, counted upwards with wrap from the thread after the one that issued
last (R185). (DESIGN CHOICE, log 191) -/
def State.pick (s : State) (p : Nat) : Option Nat :=
  let last := assocGet 31 s.pumps.last p
  ((List.range 32).map (fun i => (last + 1 + i) % 32)).find? (fun t => (s.thread p t).st == .ready)

/-- The fetch from the thread's pc is allowed (R196). -/
def State.fetchAllowed (s : State) (th : Thread) : Bool :=
  let g := th.pc / 4096
  let st := s.get (PMP_PAGE_STATE g)
  if st = 3 then isSystem th.ctx
  else st == 2 && !isSystem th.ctx && s.get (PMP_PAGE_SLICE g) == s.ctxSlice th.ctx

/-- The instruction-cache line of the pc is held by the pump (R189). -/
def State.lineHeld (s : State) (p pc : Nat) : Bool := (assocGet [] s.pumps.icache p).contains (pc / 64)

/-- What an instruction does once its checks have passed, or the trap it raises. -/
inductive Act where
  /-- A trap of the given code (R237). -/
  | trap (code : Nat)
  /-- The thread's own registers, flags, local memory and pc change, and nothing else. -/
  | upd (th : Thread)
  /-- The hub changes to the given state and the thread as given. -/
  | eff (s : State) (th : Thread)
  /-- A long operation starts (R187). -/
  | long (o : LongOp)
  /-- An instruction at an ordering point (R202). -/
  | tail (x : Tail)
  /-- The dispatch ends under R200. -/
  | cut

/-- Counting an issued instruction (R203, R209). -/
def State.countIssue (s : State) (p c : Nat) : State :=
  let i := s.get (CTX_INSTR_LO_COUNT c) + 2 ^ 32 * s.get (CTX_INSTR_HI_COUNT c) + 1
  let s := (s.put (CTX_INSTR_LO_COUNT c) i).put (CTX_INSTR_HI_COUNT c) (i / 2 ^ 32)
  let j := s.get (PMP_ISSUE_LO_COUNT p) + 2 ^ 32 * s.get (PMP_ISSUE_HI_COUNT p) + 1
  (s.put (PMP_ISSUE_LO_COUNT p) j).put (PMP_ISSUE_HI_COUNT p) (j / 2 ^ 32)

/-- Thread t of pump p has issued: it is the last to have done so (R185), and no thread parked by YLD waits for it any more (R265). -/
def State.noteIssue (s : State) (p t : Nat) : State :=
  let s := { s with pumps := { s.pumps with last := assocSet 31 p t s.pumps.last } }
  (s.pumps.threads.map (·.1)).foldl
    (fun s k =>
      let th := s.thread p (k % 32)
      if k / 32 = p ∧ k % 32 ≠ t ∧ th.st = .park then s.setThread p (k % 32) { th with parkSet := setBit th.parkSet t false } else s) s

/-- Carrying out an act of thread t of pump p, whose instruction has issued. -/
def State.perform (s : State) (p t : Nat) (a : Act) : State :=
  let th := s.thread p t
  match a with
  | .trap code => s.raiseTrap p t code
  | .upd th' => (s.countIssue p th.ctx).setThread p t { th' with steps := th.steps + 1 }
  | .eff s' th' => (s'.countIssue p th.ctx).setThread p t { th' with steps := th.steps + 1 }
  | .long o =>
    let (n, s) := s.stallNo
    (s.countIssue p th.ctx).setThread p t
      { th with st := .wait, waiting := some (.long o), steps := th.steps + 1, stall := n }
  | .tail x =>
    let (n, s) := s.stallNo
    (s.countIssue p th.ctx).setThread p t { th with tail := some x, steps := th.steps + 1, stall := n }
  | .cut => ((s.countIssue p th.ctx).sumpOverLong p t).stopThread p t 5

/-- The instruction word at a byte offset of tank 1 (R11, R214). (DEDUCED, log 22) -/
def State.fetchWord (s : State) (a : Nat) : W32 := BitVec.ofNat 32 (leNat (s.tankRead 1 a 4))

/-- Thread t of pump p issues the instruction i, whose body reads the state and the thread: the checks of R238 come first, in
their order. A thread that the pump does not pick issues nothing, and a word fetched that is another instruction's is not issued
as i. (DEDUCED, log 8) -/
def State.issue (s : State) (p t : Nat) (i : Instr) (body : State → Thread → Act) : State :=
  let th := s.thread p t
  if !s.running || decide (s.nPumps ≤ p ∨ 32 ≤ t) || s.pick p != some t then s
  else match th.stop with
  | some cause => (s.stopThread p t cause).settle
  | none =>
    if th.budget ≤ th.steps then (s.raiseTrap p t 3).settle
    else if !s.fetchAllowed th then (s.raiseTrap p t 4).settle
    else if !s.lineHeld p th.pc then
      ((s.bump (PMP_IC_MISS_COUNT p)).setThread p t { th with st := .wait, waiting := some (.fill (th.pc / 64)) }).settle
    else if decodeWindlass p t (s.fetchWord th.pc) ≠ i then s
    else ((s.perform p t (body s th)).noteIssue p t).settle

end Sys2Proof.Machine
end

