-- ==== Sys2Proof/Machine/Vault.lean ====
section
/-! DEFINITION. The key slots and the root: attributes, use, zeroing, and the end of a SEAL or OPEN whose key is lost (R453 to R464, R495). -/
namespace Sys2Proof.Machine

/-- The attribute word of slot k (R461). -/
def State.attr (s : State) (k : Nat) : Nat := s.get (SEC_SLOT_ATTR_ATTR k)

/-- VALID: the slot holds a key. -/
def State.slotValid (s : State) (k : Nat) : Bool := bit (s.attr k) 31
/-- LOCK. -/
def State.slotLock (s : State) (k : Nat) : Bool := bit (s.attr k) 30
/-- VOL. -/
def State.slotVol (s : State) (k : Nat) : Bool := bit (s.attr k) 29
/-- EXPORT. -/
def State.slotExport (s : State) (k : Nat) : Bool := bit (s.attr k) 28
/-- USE: 0 encrypt-only, 1 decrypt-only, 2 wrap-only, 3 derive-only. -/
def State.slotUse (s : State) (k : Nat) : Nat := bits (s.attr k) 27 26
/-- ORIGIN: set for a TEST key. -/
def State.slotTest (s : State) (k : Nat) : Bool := bit (s.attr k) 25
/-- OWNER. -/
def State.slotOwner (s : State) (k : Nat) : Nat := bits (s.attr k) 21 16

/-- The slot holds a key and is usable (R463): its origin agrees with TEST_ROOT, and a lifecycle change under way does not make it
unusable (R474). -/
def State.slotUsable (s : State) (k : Nat) : Bool :=
  s.slotValid k && s.slotTest k == s.is SEC_STAT_TEST_ROOT && !(s.vault.change == some 3 && !s.slotTest k)

/-- The key of slot k. -/
def State.slotKey (s : State) (k : Nat) : Bytes := beBytes 32 (assocGet 0 s.vault.keys k)

/-- Writing a key: VALID and ORIGIN are the vault's, OWNER stays (R461, R470). -/
def State.writeSlot (s : State) (k attrs : Nat) (key : Bytes) : State :=
  let w := 2 ^ 31 + bits attrs 30 26 * 2 ^ 26 + (if s.is SEC_STAT_TEST_ROOT then 2 ^ 25 else 0) + s.slotOwner k * 2 ^ 16
  let s := s.put (SEC_SLOT_ATTR_ATTR k) w
  { s with vault := { s.vault with keys := assocSet 0 k (beNat key) s.vault.keys } }

/-- The two shares in which a secret is held: its mask of the latest pass, a free value of the TRNG, and the value under it (R455). Secret 0
is the root, secret k + 1 slot k. -/
def State.shares (s : State) (n v : Nat) : Nat × Nat :=
  let m := Config.freeNat (s.vault.mask + n) % 2 ^ 256
  (m, m ^^^ v)

/-- A re-mask pass draws a new mask for every secret and changes no value (R455). -/
def State.remask (s : State) : State := { s with free := s.free + 129, vault := { s.vault with mask := s.free } }

/-- Clearing a slot's key, VALID and attributes; OWNER is kept (R466). -/
def State.clearSlot (s : State) (k : Nat) : State :=
  let s := s.put (SEC_SLOT_ATTR_ATTR k) (s.slotOwner k * 2 ^ 16)
  { s with vault := { s.vault with keys := assocDel k s.vault.keys } }

/-- The slot that a thread's outstanding SEAL or OPEN uses. -/
def Thread.sealSlot (th : Thread) : Option Nat :=
  match th.waiting with
  | some (.long o) => if o.op = .seal ∨ o.op = .unseal then some o.k else none
  | _ => none

/-- The threads whose SEAL or OPEN an engine has taken: of the operations outstanding, the eight issued first (R254). (DEDUCED,
log 97) -/
def State.takenOps (s : State) : List Nat :=
  let out := s.pumps.threads.filter (fun e => e.2.sealSlot.isSome)
  (out.filter (fun e => decide ((out.filter (fun x => decide (x.2.stall < e.2.stall))).length < 8))).map (·.1)

/-- The key of every outstanding SEAL or OPEN on a slot that the test picks is lost: CRYPTO is raised after issue (R253), and
the chain stays as it was. -/
def State.keyLost (s : State) (pick : Nat → Bool) : State :=
  (s.pumps.threads.map (·.1)).foldl
    (fun s k =>
      let th := s.thread (k / 32) (k % 32)
      match th.sealSlot with
      | some n =>
        if pick n then
          let s := s.setThread (k / 32) (k % 32) { th with waiting := none }
          match th.stop with
          | some cause => s.stopThread (k / 32) (k % 32) cause
          | none => s.raiseTrap (k / 32) (k % 32) 6
        else s
      | none => s) s

/-- Zeroing every slot that the test picks; the operations on them raise CRYPTO. -/
def State.zeroSlots (s : State) (pick : State → Nat → Bool) : State :=
  let gone := (List.range 128).filter (fun k => s.slotValid k && pick s k)
  (gone.foldl State.clearSlot s).keyLost (fun k => gone.contains k)

/-- A failed tag or unwrapping counts against its slot (R464, R466). -/
def State.slotFail (s : State) (k : Nat) : State :=
  let s := s.bump (SEC_SLOT_FAIL_COUNT k)
  if s.get SEC_CFG_FAIL_THR ≤ s.get (SEC_SLOT_FAIL_COUNT k) ∧ !s.is (SEC_SLOT_FAIL_THR_HIT k) then
    (s.put (SEC_SLOT_FAIL_THR_HIT k) 1).raise 0x1106 k
  else s

/-- A wipe of the secure tank starts; one that runs starts again (R495). Accesses stall until it ends. -/
def State.wipeSecure (s : State) : State :=
  { s with tanks := { s.tanks with sec := [] }, vault := { s.vault with wiping := true } }

end Sys2Proof.Machine
end

