-- ==== Sys2Proof/Machine/Bucket.lean ====
section
/-! DEFINITION. What every bucket command shares: its request bytes and the check order of R35 (R32 to R35, R478). -/
namespace Sys2Proof.Machine

/-- Request byte n, 4 to 63 (R33). -/
def BktCmd.byte (c : BktCmd) (n : Nat) : Nat := (c.args.getD (n - 4) 0#8).toNat

/-- The little-endian number of k request bytes from byte n. -/
def BktCmd.le (c : BktCmd) (n k : Nat) : Nat := leAt c.args (n - 4) k

/-- k request bytes from byte n. -/
def BktCmd.bytes (c : BktCmd) (n k : Nat) : Bytes := slice c.args (n - 4) k

/-- The slice of channel ch is bound (R32). -/
def State.bound (s : State) (sl : Nat) : Bool := s.is (SLC_BIND_BOUND sl)

/-- The status of a command (R34, R35): ABSENT, BADARG, DENIED, STATE, BUSY in that order, else OK. The channel of an unbound
slice is a STATE failure. -/
def State.bktCheck (s : State) (c : BktCmd) (absent badarg denied state busy : Bool) : Nat :=
  if absent then 3
  else if badarg then 4
  else if denied then 2
  else if !s.bound c.ch || state then 5
  else if busy then 1
  else 0

/-- A command that is answered with a status and no results. -/
def answer (st : Nat) (s : State) : BktStage × State := (.ready st [], s)

/-- A command that is answered OK with results. -/
def answerOk (res : Bytes) (s : State) : BktStage × State := (.ready 0 res, s)

/-- A command's effect where its checks pass, else its status. -/
def bktRun (st : Nat) (s : State) (f : State → BktStage × State) : BktStage × State :=
  if st = 0 then f s else answer st s

end Sys2Proof.Machine
end

