-- ==== Sys2Proof/Machine/Contexts.lean ====
section
/-! DEFINITION. The context record's writes, the activation check, tank 1 pages and load windows (R193 to R198, R302, R311). -/
namespace Sys2Proof.Machine

/-- A slice reset or removal is under way (R309, R312). -/
def State.resetting (s : State) (sl : Nat) : Bool := s.is (SLC_STAT_RESETTING sl) || s.is (SLC_STAT_REMOVING sl)

/-- The activation check (R194): 0 when it passes, else the first cause. -/
def State.activation (s : State) (c : Nat) : Nat :=
  let sl := s.ctxSlice c
  let g := s.get (CTX_ENTRY_ENTRY c) * 4 / 4096
  if s.nPumps ≤ s.get (CTX_CFG_PUMP c) then 1
  else if s.get (PMP_PAGE_STATE g) ≠ 2 ∨ s.get (PMP_PAGE_SLICE g) ≠ sl then 2
  else if s.get (WEL_CFG_SLICE (s.get (CTX_WELL_WELL c))) ≠ sl then 3
  else if s.is (CTX_KEY_KEN c) ∧ s.slotOwner (s.get (CTX_KEY_SLOT c)) ≠ sl then 4
  else if !s.bound sl then 5
  else 0

/-- STATE takes a value when the activation check passes; CHK shows the result. -/
def State.activate (s : State) (c v : Nat) : State :=
  let k := s.activation c
  let s := s.put (CTX_STATE_CHK c) k
  if k = 0 then s.put (CTX_STATE_STATE c) v else s

/-- A context goes OFF: its pending chains go to the sump (R193, R309). -/
def State.turnOff (s : State) (c cause : Nat) : State :=
  ((s.put (CTX_STATE_STATE c) 0).dropPending c cause).idleCheck c

/-- A write of CTX_STATE.STATE (R193, R311): 0 OFF, 1 RUN, 2 HOLD. -/
def State.ctxStateSet (s : State) (c v : Nat) : State :=
  if isSystem c ∨ s.nCtx ≤ c then s
  else
    let old := s.get (CTX_STATE_STATE c)
    let barred := s.resetting (s.ctxSlice c)
    match old, v with
    | 0, 1 => if barred then s else s.activate c 1
    | 0, 2 =>
      if barred then s
      else
        let s := s.activate c 2
        if s.get (CTX_STATE_STATE c) = 2 then s.idleCheck c else s
    | 1, 2 => (s.put (CTX_STATE_STATE c) 2).idleCheck c
    | 2, 1 => s.activate c 1
    | 1, 0 => s.turnOff c 8
    | 2, 0 => s.turnOff c 8
    | 3, 0 => s.turnOff c 8
    | 3, 1 => s.activate c 1
    | _, _ => s

/-- PUMP and SLICE take a write only in OFF with no active thread (R195). -/
def State.mayMoveContext (s : State) (c : Nat) : Bool :=
  s.get (CTX_STATE_STATE c) == 0 && s.get (CTX_STATE_ACTIVE c) == 0

/-- ENTRY, KEY and WELL take a write only in OFF or HOLD with no active thread (R195). -/
def State.mayBindContext (s : State) (c : Nat) : Bool :=
  (s.get (CTX_STATE_STATE c) == 0 || s.get (CTX_STATE_STATE c) == 2) && s.get (CTX_STATE_ACTIVE c) == 0

/-! ## Pages (R196 to R198) -/

/-- The instruction-cache lines of a page leave every pump. -/
def State.dropLines (s : State) (g : Nat) : State :=
  { s with pumps := { s.pumps with icache :=
    (s.pumps.icache.map (fun e => (e.1, e.2.filter (fun l => l / 64 != g)))).filter (fun e => !e.2.isEmpty) } }

/-- Zeroing a page of tank 1. -/
def State.zeroPage (s : State) (g : Nat) : State := s.setTank 1 (memZero (s.tank 1) (g * 4096) 4096)

/-- The pages of a command. -/
def pageList (c : BktCmd) : List Nat := (List.range (c.le 6 2)).map (fun i => c.le 4 2 + i)

/-- The page range is malformed: it leaves 32 to 255, or is empty. -/
def badPages (c : BktCmd) : Bool := c.le 6 2 == 0 || decide (c.le 4 2 < 32 ∨ 256 < c.le 4 2 + c.le 6 2)

/-- The channel may act on every page: channel 0, or the owner's. -/
def State.ownsPages (s : State) (c : BktCmd) : Bool :=
  c.ch == 0 || (pageList c).all (fun g => s.get (PMP_PAGE_SLICE g) == c.ch)

/-- Every page is in one of the given states. -/
def State.pagesIn (s : State) (c : BktCmd) (st : List Nat) : Bool := (pageList c).all (fun g => st.contains (s.get (PMP_PAGE_STATE g)))

/-- R198. PMP_PAGE_ASSIGN. -/
def cmdPageAssign (c : BktCmd) (s : State) : BktStage × State :=
  let bad := badPages c || decide (63 < c.byte 8)
  bktRun (s.bktCheck c false bad (c.ch != 0) (!bad && !s.pagesIn c [0]) false) s (fun s =>
    answerOk [] ((pageList c).foldl
      (fun s g => ((s.zeroPage g).put (PMP_PAGE_STATE g) 1).put (PMP_PAGE_SLICE g) (c.byte 8)) s))

/-- R198. PMP_PAGE_OPEN. -/
def cmdPageOpen (c : BktCmd) (s : State) : BktStage × State :=
  let bad := badPages c
  bktRun (s.bktCheck c false bad (!bad && !s.ownsPages c) (!bad && !s.pagesIn c [2]) false) s (fun s =>
    answerOk [] ((pageList c).foldl (fun s g => (s.dropLines g).put (PMP_PAGE_STATE g) 1) s))

/-- R198. PMP_PAGE_SEAL: a CRC that does not match answers BADARG with the computed CRC, and the pages stay OPEN. -/
def cmdPageSeal (c : BktCmd) (s : State) : BktStage × State :=
  let bad := badPages c
  bktRun (s.bktCheck c false bad (!bad && !s.ownsPages c) (!bad && !s.pagesIn c [1]) false) s (fun s =>
    let crc := crc32c (s.tankRead 1 (c.le 4 2 * 4096) (c.le 6 2 * 4096))
    if crc = c.le 8 4 then
      answerOk (leBytes 4 crc) ((pageList c).foldl (fun s g => (s.dropLines g).put (PMP_PAGE_STATE g) 2) s)
    else (.ready 4 (leBytes 4 crc), s))

/-- A page becomes FREE, zeroed. -/
def State.freePage (s : State) (g : Nat) : State :=
  (((s.dropLines g).zeroPage g).put (PMP_PAGE_STATE g) 0).put (PMP_PAGE_SLICE g) 0

/-- R198. PMP_PAGE_FREE. -/
def cmdPageFree (c : BktCmd) (s : State) : BktStage × State :=
  let bad := badPages c
  bktRun (s.bktCheck c false bad (!bad && !s.ownsPages c) (!bad && !s.pagesIn c [1, 2]) false) s (fun s =>
    answerOk [] ((pageList c).foldl State.freePage s))

/-- A word written through the load window of slice sl (R197). -/
def State.loadWrite (s : State) (sl word v : Nat) : State :=
  let g := s.get (PMP_LDSEL_PAGE sl)
  if s.get (PMP_PAGE_STATE g) = 1 ∧ s.get (PMP_PAGE_SLICE g) = sl then s.tankWrite 1 (g * 4096 + 4 * word) (leBytes 4 v) else s

/-- A word read through the load window of slice sl (R197): SYSTEM pages belong to no slice, and every other page to the one it names
(R302). -/
def State.loadRead (s : State) (sl word : Nat) : Nat :=
  let g := s.get (PMP_LDSEL_PAGE sl)
  if s.get (PMP_PAGE_STATE g) ≠ 3 ∧ s.get (PMP_PAGE_SLICE g) = sl then
    leNat (s.tankRead 1 (g * 4096 + 4 * word) 4)
  else 0

/-- Moving the chains pending on pump p to their serving pumps, in their pending order (R206). -/
def State.movePending (s : State) : State :=
  { s with pumps := { s.pumps with pend := s.pumps.pend.map (fun e => { e with pump := s.servingPump e.ctx }) } }

/-- A context is isolated (R526): its dispatches end, and it enters FAULT with CTX_FAULT.CODE 0, unless it is in FAULT.
(DEDUCED, log 20) -/
def State.isolateContext (s : State) (c : Nat) : State :=
  if s.nCtx ≤ c ∨ s.get (CTX_STATE_STATE c) = 3 then s
  else (s.put (CTX_FAULT_CODE c) 0).enterFault c

end Sys2Proof.Machine
end

