-- ==== Sys2Proof/Machine/Links.lean ====
section
/-! DEFINITION. The Conduit links' common parts: link records, control and swap-marker records, flit headers, rates and lane counts (R50, R88 to R90, R111 to R114, R433). -/
namespace Sys2Proof.Machine

/-- Link p: 0 the trunk, 1 to 3 cascade ports A to C. -/
def State.link (s : State) (p : Nat) : Link := assocGet {} s.links p

/-- Writing link p. -/
def State.setLink (s : State) (p : Nat) (l : Link) : State := { s with links := assocSet {} p l s.links }

/-- Counting in CND counter i (R122); a cascade link counts four of them (R452). -/
def State.linkCnt (s : State) (p i : Nat) : State :=
  if p = 0 then s.bump (CND_CNT_COUNT i)
  else
    match i with
    | 1 => s.bump (CAS_PORT_CNT_COUNT (p - 1) 0)
    | 9 => s.bump (CAS_PORT_CNT_COUNT (p - 1) 1)
    | 4 => s.bump (CAS_PORT_CNT_COUNT (p - 1) 2)
    | 6 => s.bump (CAS_PORT_CNT_COUNT (p - 1) 3)
    | _ => s

/-- Counting k times in CND counter i. -/
def State.linkCntN (s : State) (p i k : Nat) : State :=
  if p = 0 then s.addSat (CND_CNT_COUNT i) k
  else if i = 4 then s.addSat (CAS_PORT_CNT_COUNT (p - 1) 2) k
  else s

/-- One record of a control or swap-marker flit (R111). -/
def ctlRecord (r : Nat × Bytes) : Bytes := leBytes 1 r.1 ++ leBytes 1 r.2.length ++ r.2

/-- A control record waits to be sent on link p. -/
def State.sendCtl (s : State) (p kind : Nat) (content : Bytes) : State :=
  let l := s.link p
  (s.setLink p { l with ctl := l.ctl ++ [(kind, content)] }).wakeFor p

/-- A swap-marker flit waits to be sent on the trunk: 15 copies (R114). -/
def State.sendMarker (s : State) (kind : Nat) (content : Bytes) : State :=
  let l := s.link 0
  (s.setLink 0 { l with markers := l.markers ++ [(15, fit 248 (ctlRecord (kind, content)))] }).wakeTrunk

/-- A flit header (R88), its HCRC included. -/
def flitHeader (ftype cls lseq aseq slot : Nat) (tbl : Bool) (ccls count segn : Nat) : Bytes :=
  let h := beBytes 7 (ftype * 2 ^ 52 + cls * 2 ^ 50 + lseq % 4096 * 2 ^ 38 + aseq % 4096 * 2 ^ 26 + slot % 1024 * 2 ^ 16 +
    tbl.toNat * 2 ^ 15 + ccls * 2 ^ 14 + count * 2 ^ 8 + segn)
  h ++ [BitVec.ofNat 8 (crc8 h)]

/-- The fields of a received header. -/
structure Header where
  ftype : Nat
  cls : Nat
  lseq : Nat
  aseq : Nat
  slot : Nat
  tbl : Bool
  ccls : Nat
  count : Nat
  segn : Nat

/-- Reading a header from a flit. -/
def parseHeader (raw : Bytes) : Header :=
  let h := beAt raw 0 8
  ⟨bits h 63 60, bits h 59 58, bits h 57 46, bits h 45 34, bits h 33 24, bit h 23, bits h 22 22, bits h 21 16, bits h 15 8⟩

/-- The control or swap-marker records of a body (R111): the records that can be read, and whether a LEN ran past the end. At
most k of them. -/
def parseRecords : Nat → Bytes → List (Nat × Bytes) × Bool
  | 0, _ => ([], false)
  | k + 1, b =>
    match b with
    | [] => ([], false)
    | kind :: rest =>
      if kind = 0#8 then ([], false)
      else
        match rest with
        | [] => ([], true)
        | n :: rest =>
          if rest.length < n.toNat then ([], true)
          else
            let (l, bad) := parseRecords k (rest.drop n.toNat)
            ((kind.toNat, rest.take n.toNat) :: l, bad)

/-- A segment record as received (R94). -/
structure SegRec where
  ctx : Nat
  first : Bool
  last : Bool
  gen : Nat
  data : Bytes
  /-- The position of its data in the body. -/
  off : Nat

/-- The segment records of a body (R95): at most n of them from body byte i, and whether a fault stopped the parsing. -/
def parseSegs : Nat → Nat → Bytes → List SegRec × Bool
  | 0, _, _ => ([], false)
  | n + 1, i, body =>
    if body.length < i + 4 then ([], true)
    else
      let h := beAt body i 4
      let len := bits h 21 14
      if len = 0 ∨ 244 < len ∨ 248 < i + 4 + len then ([], true)
      else
        let (l, bad) := parseSegs n (i + 4 + (len + 3) / 4 * 4) body
        (⟨bits h 31 22, bit h 13, bit h 12, bits h 11 4, slice body (i + 4) len, i + 4⟩ :: l, bad)

/-- The lane rate of a rate code, in units of 100 Mb/s (R50). -/
def rate10 (code : Nat) : Nat :=
  match code with
  | 0 => 25
  | 1 => 100
  | 2 => 280
  | _ => 560

/-- a / b rounded up. -/
def ceilDiv (a b : Nat) : Nat := (a + b - 1) / b

/-- The calendar period in ns for n lanes at a lane rate (R50, R124). -/
def pCal (n r : Nat) : Nat := ceilDiv (22282240 * 10002) (n * r * 10000)

/-- The longest cycle for which tables are admitted (R131). -/
def pAdm (n r : Nat) : Nat := ceilDiv (101 * pCal n r) 100

/-- The trunk is up. -/
def State.trunkUp (s : State) : Bool := (s.link 0).up

/-- The rate tables are checked at (R131, R132): the trunk's own, else that of the last trunk-up, else MAX_RATE. -/
def State.calRate (s : State) : Nat :=
  if s.trunkUp && !s.islanded then rate10 (s.get TRK_PRIME_STAT_RATE)
  else rate10 (s.trunk.lastRate.getD (s.get TRK_CTRL_MAX_RATE))

/-- The least limit of flits held (R99, R433). -/
def heldLimit (p : Nat) : Nat := if p = 0 then 4095 else 1023

end Sys2Proof.Machine
end

