-- ==== Sys2Proof/Machine/Fabric.lean ====
section
/-! DEFINITION. The fabric between hubs: which way a request for another hub leaves, and how the bridge and the wellhead controllers carry their traffic in segments of the system contexts (R27, R280, R288, R297, R310, R436, R437). -/
namespace Sys2Proof.Machine

/-! ## Ways (R273, R281, R429, R436, R437) -/

/-- The link of port p is up. -/
def State.linkUp (s : State) (p : Nat) : Bool := (s.link p).up

/-- A request to another hub crosses a cascade link of this hub: its own trunk is not the active one. -/
def State.crossesCascade (s : State) (hub : Nat) : Bool := s.hasCascade && hub != 0 && (decide (8 ≤ hub) || s.trunk.role != 1)

/-- The cascade port of this hub that joins member j (R429). -/
def State.portTo (s : State) (j : Nat) : Nat := (j + 4 - s.get CLK_STRAP_CAS_ID) % 4

/-- The member that cascade port p, 1 to 3, joins (R429). -/
def State.memberAt (s : State) (p : Nat) : Nat := (s.get CLK_STRAP_CAS_ID + p) % 4

/-- The port on which a request for member j leaves: the direct link, else the lowest-numbered member with links to both (R436);
none where j cannot be reached. -/
def State.pathTo (s : State) (j : Nat) : Option Nat :=
  let me := s.get CLK_STRAP_CAS_ID
  if s.linkUp (s.portTo j) then some (s.portTo j)
  else
    (([0, 1, 2, 3].filter (fun k => k != me && k != j && s.linkUp (s.portTo k) &&
      bit (assocGet {} s.cas.members k).links j)).head?).map s.portTo

/-- The port on which a request for another hub leaves: the trunk, or the way to the member that holds the active trunk. -/
def State.pathOut (s : State) : Option Nat :=
  if s.crossesCascade 1 then
    if s.is CAS_GRP_STAT_ACT_V then s.pathTo (s.get CAS_GRP_STAT_ACT) else none
  else if s.trunkUp then some 0 else none

/-! ## Transport records -/

/-- The kinds of transport record: the model's own encoding. (DESIGN CHOICE, log 181) -/
inductive FabKind where
  | postedWrite | read | write | completion | retry | lateFault | message | reset | remove | report | bind | upRead | upWrite
  | upCompletion | delayed | group | restart
deriving DecidableEq, Repr

/-- The kinds in the order of their codes, from 1 on. -/
def fabKinds : List FabKind :=
  [.postedWrite, .read, .write, .completion, .retry, .lateFault, .message, .reset, .remove, .report, .bind, .upRead, .upWrite,
   .upCompletion, .delayed, .group, .restart]

/-- What the bridge and the wellhead controllers send between hubs. A hub is named as the origin byte of a message names it (R290);
8 and 9 name the hub of that role at the far end of the active trunk (R437). -/
structure Fab where
  kind : FabKind
  dest : Nat
  src : Nat
  slice : Nat := 0
  gen : Nat := 0
  space : Nat := 0
  win : Nat := 0
  code : Nat := 0
  tag : Nat := 0
  len : Nat := 0
  addr : Nat := 0
  data : Bytes := []
deriving DecidableEq, Repr

/-- The bytes of a transport record: 24 bytes and the data. (DESIGN CHOICE, log 181) -/
def Fab.bytes (x : Fab) : Bytes :=
  leBytes 1 (fabKinds.idxOf x.kind + 1) ++ leBytes 1 x.dest ++ leBytes 1 x.src ++ leBytes 1 x.slice ++ leBytes 1 x.gen ++
    leBytes 1 x.space ++ leBytes 1 x.win ++ leBytes 1 x.code ++ leBytes 4 x.tag ++ leBytes 4 x.len ++ leBytes 8 x.addr ++ x.data

/-- The transport record of a chain, where it is one. -/
def parseFab (b : Bytes) : Option Fab :=
  if b.length < 24 then none
  else match leAt b 0 1 with
    | 0 => none
    | k + 1 => (fabKinds[k]?).map (fun kind =>
        { kind := kind, dest := leAt b 1 1, src := leAt b 2 1, slice := leAt b 3 1 % 64, gen := leAt b 4 1, space := leAt b 5 1,
          win := leAt b 6 1, code := leAt b 7 1, tag := leAt b 8 4, len := leAt b 12 4, addr := leAt b 16 8, data := b.drop 24 })

/-- The context that carries a kind over link p (R27, R288, R297): 0 the bridge, 1 the wellhead controllers, 15 messages over the trunk,
12 to 14 those over a cascade port. -/
def FabKind.context (k : FabKind) (p : Nat) : Nat :=
  match k with
  | .message => if p = 0 then 15 else 11 + p
  | .reset | .remove | .report | .bind | .group | .restart => if p = 0 then 1 else 11 + p
  | _ => 0

/-- Contexts whose chains the hub's transport takes. -/
def transportContext (c : Nat) : Bool := c == 0 || c == 1 || decide (12 ≤ c ∧ c ≤ 15)

/-! ## Sending (R108, R280, R436) -/

/-- A parcel waits to be sent on link p. -/
def State.sendParcel (s : State) (p : Nat) (x : Parcel) : State :=
  let l := s.link p
  (s.setLink p { l with parcels := l.parcels ++ [x] }).wakeFor p

/-- The way of a record for a hub: within the group by its member, else over the active trunk; none where it cannot be reached. -/
def State.wayTo (s : State) (dest : Nat) : Option Nat :=
  if dest < 8 ∧ dest % 2 = s.origin % 2 then s.pathTo (dest / 2) else s.pathOut

/-- A record is for this hub when it names it, or when it has crossed the trunk to a hub that it does not name. -/
def State.mine (s : State) (p dest : Nat) : Bool := dest == s.origin || (p == 0 && dest == 8 + s.origin % 2)

/-- The posted write that a record carries, as the link that sends it remembers it (R117, R442). -/
def Fab.posted (x : Fab) : Option Posted :=
  if x.kind = .postedWrite ∨ x.kind = .upWrite then
    some { lseq := 0, win := x.win, slice := x.slice, gen := x.gen, tag := x.tag, addr := x.addr, src := x.src }
  else none

/-- Sending a record on link p, in class CTL. -/
def State.sendOn (s : State) (p : Nat) (x : Fab) : State :=
  s.sendParcel p { ctx := x.kind.context p, data := x.bytes, write := x.posted }

/-- Sending a record to its hub: one that has no way is lost, and what waits for its answer times out. -/
def State.sendFab (s : State) (x : Fab) : State := (s.wayTo x.dest).elim s (fun p => s.sendOn p x)

/-- The name of the hub at the far end of the active trunk. -/
def State.farHub (s : State) : Nat := 8 + (1 - s.origin % 2)

/-- Member j of this hub's group. -/
def State.memberHub (s : State) (j : Nat) : Nat := s.origin % 2 + 2 * j

/-- The hub that HUB of a window names (R273, R437): 1 the peer, 4 + j member j of the peer's group; 8 + j is member j of this hub's own
group. -/
def State.hubName (s : State) (hub : Nat) : Nat :=
  if 8 ≤ hub then s.memberHub (hub - 8)
  else if 4 ≤ hub then (1 - s.origin % 2) + 2 * (hub - 4)
  else s.farHub

end Sys2Proof.Machine
end

