-- ==== Sys2Proof/Machine/Gptp.lean ====
section
/-! DEFINITION. The EtherType of a frame, and 802.1AS on the trunk: which flits give timing samples, which samples are discarded, and when the servo holds its frequency (R398, R400). -/
namespace Sys2Proof.Machine

/-! ## EtherType -/

/-- A VLAN tag's EtherType. (PRESUMED, log 28) -/
def isVlan (t : Nat) : Bool := t == 0x8100 || t == 0x88A8

/-- The position of the EtherType after at most k VLAN tags. -/
def etypeAt (d : Bytes) : Nat → Nat → Nat
  | 0, i => i
  | k + 1, i => if isVlan (beAt d i 2) && decide (i + 4 < d.length) then etypeAt d k (i + 4) else i

/-- The messageType and the sequenceId of a gPTP message, after at most two VLAN tags; none for another frame (R400). -/
def gptpOf (d : Bytes) : Option (Nat × Nat) :=
  let i := etypeAt d 2 12
  if beAt d i 2 = 0x88F7 then some (beAt d (i + 2) 1 % 16, beAt d (i + 2 + 30) 2) else none

/-! ## The trunk's samples (R398) -/

/-- messageType of Pdelay_Req and of Pdelay_Resp_Follow_Up. (PRESUMED, log 192) -/
def pdelayReq : Nat := 2
def pdelayEnd : Nat := 0xA

/-- The gPTP messages whose first segment a CTL flit body carries: a CTL frame whose EtherType is that of gPTP. (PRESUMED, log
192) -/
def gptpIn (segn : Nat) (body : Bytes) : List (Nat × Nat) :=
  ((parseSegs segn 0 body).1.filter (·.first)).filterMap (fun r => gptpOf r.data)

/-- Samples of the messages sent in the flit with this LSEQ; while the servo holds, none is kept, and a Pdelay request behind the
fallback boundary begins an exchange. -/
def State.ptpSent (s : State) (lseq segn : Nat) (body : Bytes) : State :=
  (gptpIn segn body).foldl
    (fun s m =>
      let q := s.ptp
      if q.hold = 0 then { s with ptp := { q with sent := assocPut m.1 ⟨lseq, s.hubTime, m.2⟩ q.sent } }
      else if q.hold = 2 ∧ m.1 = pdelayReq then { s with ptp := { q with asked := true } }
      else s) s

/-- The flit with this LSEQ is replayed: its samples are discarded. -/
def State.ptpReplayed (s : State) (lseq : Nat) : State :=
  { s with ptp := { s.ptp with sent := s.ptp.sent.filter (fun e => e.2.lseq != lseq) } }

/-- Samples of the messages in a CTL flit accepted: a flit that had been shown lost is a replayed one and gives none. The end of a Pdelay
exchange begun behind the fallback boundary ends the hold. -/
def State.ptpGot (s : State) (lseq segn : Nat) (replayed : Bool) (body : Bytes) : State :=
  (gptpIn segn body).foldl
    (fun s m =>
      let q := s.ptp
      if q.hold = 0 then
        if replayed then s else { s with ptp := { q with got := assocPut m.1 ⟨lseq, s.hubTime, m.2⟩ q.got } }
      else if q.asked ∧ m.1 = pdelayEnd then { s with ptp := { q with hold := 0, asked := false } }
      else s) s

/-- A lane is removed, in either direction: the servo holds its last frequency. -/
def State.ptpHold (s : State) : State := { s with ptp := { hold := 1 } }

/-- The fallback boundary is reached. -/
def State.ptpBoundary (s : State) : State :=
  if s.ptp.hold = 1 then { s with ptp := { s.ptp with hold := 2, boundary := none } } else s

end Sys2Proof.Machine
end

