-- ==== Sys2Proof/Machine/Coding.lean ====
section
/-! DEFINITION. The coding of flit streams on lanes: codewords, their dealing to lanes, alignment markers, the PRBS31 continuation of idle flits (R72, R84 to R87, R428). -/
namespace Sys2Proof.Machine

/-! ## Codewords (R84) -/

/-- The bytes of the 20 groups of 256 bits that one codeword carries: 2.5 flits. -/
def codewordBytes : Nat := 640

/-- A group of 256 bits as a 257-bit block, its leading bit 0. -/
def codeBlock (b : Bytes) (i : Nat) : Nat := beAt b (32 * i) 32

/-- The 5,140-bit message of 20 consecutive blocks, the first in the highest bits. (DESIGN CHOICE, log 170) -/
def codeMessage (b : Bytes) : Nat := (List.range 20).foldl (fun m i => m * 2 ^ 257 + codeBlock b i) 0

/-- The RS(544,514) codeword of a message: 514 message symbols and 30 parity symbols of 10 bits. (DESIGN CHOICE, log 170) -/
def codeword (m : Nat) : Nat := m * 2 ^ 300 + Config.fecParity m % 2 ^ 300

/-- 16 symbols of a codeword, from symbol k on, altered each by a value that x gives (R122). (DESIGN CHOICE, log 170) -/
def spoilWord (w k x : Nat) : Nat :=
  (List.range 16).foldl (fun v i => v ^^^ ((1 + x / 1024 ^ i % 1023) * 2 ^ (10 * ((k + i) % 544)))) w

/-! ## Dealing (R85, R428) -/

/-- The lanes of link p in dealing order, as logical lanes: both lanes of a cascade link. -/
def State.dealOrder (s : State) (p : Nat) : List Nat := if p = 0 then s.trunk.txOrder else [0, 1]

/-- The codeword whose bytes stand first in the link's coder goes to the lane whose turn it is. -/
def State.sendCodeword (s : State) (p : Nat) : State :=
  let l := s.link p
  let order := s.dealOrder p
  let lane := order.getD (l.txTurn % max 1 order.length) 0
  let w := codeword (codeMessage (l.coded.take codewordBytes))
  let (w, s) := if l.injUncorr then
      let (k, s) := s.draw
      let (x, s) := s.draw
      (spoilWord w (Config.freeNat k) (Config.freeNat x), s)
    else (w, s)
  let s := s.setLink p { l with
    coded := l.coded.drop codewordBytes, txTurn := (l.txTurn + 1) % max 1 order.length, injUncorr := false }
  s.emit (.codeword p lane w)

/-- A flit goes to the coder of its link. -/
def State.codeFlit (s : State) (p : Nat) (raw : Bytes) : State :=
  let l := s.link p
  let s := s.setLink p { l with coded := l.coded ++ raw }
  if codewordBytes ≤ l.coded.length + raw.length then s.sendCodeword p else s

/-- One alignment marker on every lane of link p's order. -/
def State.sendMarkers (s : State) (p : Nat) : State := (s.dealOrder p).foldl (fun s n => s.emit (.marker p n)) s

/-- The trunk starts a new dealing order over the transmit lanes of the mask, behind one alignment marker on each (R85). -/
def State.newDealing (s : State) (mask : Nat) : State :=
  let s := { s with trunk := { s.trunk with txOrder := bitList mask 4 } }
  (s.setLink 0 { s.link 0 with txTurn := 0 }).sendMarkers 0

/-! ## Idle-flit bodies (R72, R74) -/

/-- The lane that carries the codeword of turn t of the trunk. -/
def State.txLane (s : State) (t : Nat) : Nat := s.trunk.txOrder.getD (t % max 1 s.trunk.txOrder.length) 0

/-- The next n bytes of the PRBS31 continuation of transmit lane n, with a bit of the next word inverted where that is injected:
the spec does not say which bit. (DESIGN CHOICE, log 169) -/
def State.prbsNext (s : State) (lane n : Nat) : Bytes × State :=
  let k := assocGet 0 s.trunk.prbsSent lane
  let b := (List.range n).map (fun i => Config.prbsByte lane (k + i))
  let s := { s with trunk := { s.trunk with prbsSent := assocSet 0 lane (k + n) s.trunk.prbsSent } }
  if bit s.trunk.prbsInj lane && decide (0 < n) then
    let (d, s) := s.draw
    (b.modifyHead (fun x => x ^^^ BitVec.ofNat 8 (2 ^ (Config.freeNat d % 8))),
      { s with trunk := { s.trunk with prbsInj := setBit s.trunk.prbsInj lane false } })
  else (b, s)

/-- The body of the trunk's next idle flit: each lane's part continues that lane's PRBS31. The flit's first byte in a codeword
decides how many of its body bytes the present codeword still takes. -/
def State.idleBody (s : State) : Bytes × State :=
  let l := s.link 0
  let here := codewordBytes - l.coded.length
  if 256 ≤ here then s.prbsNext (s.txLane l.txTurn) 248
  else
    let (a, s) := s.prbsNext (s.txLane l.txTurn) (here - 8)
    let (b, s) := s.prbsNext (s.txLane (l.txTurn + 1)) (256 - max here 8)
    (a ++ b, s)

/-! ## The receive side (R68, R85, R87) -/

/-- The trunk's receive direction is quiet (R68): no flit has come for 64 flit times, in which a quiet transmitter sends one
alignment marker. (DESIGN CHOICE, log 168) -/
def State.rxQuiet (s : State) : Bool :=
  s.trunkUp && s.get TRK_PWR_RX_STATE == 0 &&
    decide ((s.link 0).lastRx + pCal (max 1 (countBits (s.get TRK_PRIME_STAT_RX_LANES) 4)) (rate10 (s.get TRK_PRIME_STAT_RATE)) / 16 ≤
      s.hubTime)

/-- The lanes of link p in the order of the received codewords. -/
def State.rxOrder (s : State) (p : Nat) : List Nat := if p = 0 then s.trunk.dealing else [0, 1]

/-- The logical lane whose turn the next received codeword of link p is. -/
def State.rxLogical (s : State) (p : Nat) : Nat := (s.rxOrder p).getD ((s.link p).rxTurn % max 1 (s.rxOrder p).length) 0

/-- The trunk's receive lane in service that carries a logical lane. -/
def State.rxLane (s : State) (logical : Nat) : Option Nat :=
  [0, 1, 2, 3].find? (fun n => s.is (TRK_LANE_STAT_IN_SVC n) && s.get (TRK_LANE_STAT_LOGICAL n) == logical)

/-- The codeword turn that the next flit begins, if any: a removed lane's turn brings an uncorrectable codeword (R85). -/
def State.turnLost (s : State) (p : Nat) : Bool := p == 0 && !s.trunk.dealing.isEmpty && (s.rxLane (s.rxLogical 0)).isNone

/-- Where the next flit received on link p lies: it begins a codeword as the first or third of five flits. -/
def Link.beginsWord (l : Link) : Bool := l.rxPhase == 0 || l.rxPhase == 2

/-- The decoder's part of a received flit (R87): the codeword that the flit begins is uncorrectable with more than 15 symbol
errors; the answer is whether the flit has a bit in an uncorrectable codeword. Counts are of codewords and of symbols. -/
def State.decodeFlit (s : State) (p : Nat) (unc : Bool) (symbols : Nat) : Bool × State :=
  let l := s.link p
  let next := (l.rxPhase + 1) % 5
  if l.beginsWord then
    let bad := unc || decide (15 < symbols) || s.turnLost p
    let s := if bad then (s.linkCnt p 1).detect 0x20 0 else s.linkCntN p 0 symbols
    let s := s.setLink p { s.link p with
      rxPhase := next, rxTurn := (l.rxTurn + 1) % max 1 (s.rxOrder p).length, rxBad := bad }
    (bad || (l.rxPhase == 2 && l.rxBad), s)
  else (l.rxBad, s.setLink p { l with rxPhase := next })

end Sys2Proof.Machine
end

