-- ==== Sys2Proof/Machine/Allot.lean ====
section
/-! DEFINITION. Allotment: slot tables and their admission, swaps, fallbacks, profiles and the start of a cycle (R123 to R138, R148, R149, R572). -/
namespace Sys2Proof.Machine

/-! ## Slot tables (R128 to R131) -/

/-- The allotment that owns a slot of a table: bank 0 A or 1 B, table for n lanes. -/
def State.slotOwn (s : State) (bank n slot : Nat) : Option Nat :=
  if s.is (ALT_CAL_ENT_OWN bank (n - 1) slot) then some (s.get (ALT_CAL_ENT_ALLOT bank (n - 1) slot)) else none

/-- The owned slots of a table, rising, each with its owner. -/
def State.ownedSlots (s : State) (bank n : Nat) : List (Nat × Nat) :=
  (List.range 1024).filterMap (fun i => (s.slotOwn bank n i).map (fun k => (i, k)))

/-- The slots of allotment k. -/
def slotsOf (t : List (Nat × Nat)) (k : Nat) : List Nat := (t.filter (fun e => e.2 == k)).map (·.1)

/-- The table for n lanes of a bank is VALID. -/
def State.tableValid (s : State) (bank n : Nat) : Bool :=
  bit (s.get (if bank = 0 then ALT_CAL_STAT_VALID_A else ALT_CAL_STAT_VALID_B)) (n - 1)

/-- Setting or clearing VALID. -/
def State.setValid (s : State) (bank n : Nat) (v : Bool) : State :=
  let f := if bank = 0 then ALT_CAL_STAT_VALID_A else ALT_CAL_STAT_VALID_B
  s.put f (setBit (s.get f) (n - 1) v)

/-- The span of an allotment with slots p (R131), as a fraction over n × r × 1024 of a nanosecond: from just after the start
of an owned slot to the end of the MAXSEG-th owned slot after it, the longest over all starts. -/
def spanScaled (p : List Nat) (maxseg slew n : Nat) : Nat :=
  let m := p.length
  (List.range m).foldl
    (fun best i =>
      let wraps := (i + maxseg) / max m 1
      let slots := p.getD ((i + maxseg) % max m 1) 0 + 1024 * wraps - p.getD i 0 + 1
      max best (slots * 22282240 + wraps * (slew + 2) * 2570 * n * 1024)) 0

/-- The ISO cap of a profile (R148). -/
def isoCap (profile : Nat) : Nat :=
  match profile with
  | 1 => 256
  | 2 => 409
  | _ => 614

/-- The admission check of the table for n lanes of a bank at lane rate r under an ISO cap (R131): the first failing check. -/
def State.admission (s : State) (bank n r cap : Nat) : Nat :=
  let t := s.ownedSlots bank n
  let ks := (t.map (·.2)).eraseDups
  if ks.any (fun k => !s.is (ALT_ALLOT_CFG_EN k)) then 1
  else if r == 25 && !t.isEmpty then 2
  else if cap < t.length then 3
  else if ks.any (fun k => decide ((slotsOf t k).length * 1952000 < s.get (ALT_ALLOT_RATE_RATE k) * pAdm n r)) then 4
  else if ks.any (fun k => s.is (ALT_ALLOT_CFG_SCHED k) &&
      decide (1800 * (n * r * 1024) <
        spanScaled (slotsOf t k) (s.get (ALT_ALLOT_CFG_MAXSEG k)) (s.get ALT_CTRL_SLEW) n)) then 5
  else 0

/-- Checking every table again at lane rate r: a table that fails loses VALID (R133). -/
def State.recheckTables (s : State) (r cap : Nat) : State :=
  [(0, 1), (0, 2), (0, 3), (0, 4), (1, 1), (1, 2), (1, 3), (1, 4)].foldl
    (fun s e => if s.tableValid e.1 e.2 && s.admission e.1 e.2 r cap != 0 then s.setValid e.1 e.2 false else s) s

/-- The bank in use: 0 A, 1 B. -/
def State.bankInUse (s : State) : Nat := s.get ALT_CAL_STAT_TBL

/-- The table that R136 selects in a bank for n lanes in service. -/
def State.tableFor (s : State) (bank n : Nat) : Nat :=
  if s.is ALT_CTRL_DEGRADE && s.tableValid bank n then n else s.get ALT_CAL_STAT_BASE

/-- The table in use is selected for n lanes: a missing keep-rate table is counted (R136). It is selected at trunk-up, at swaps
and at fallbacks only, so that a write of DEGRADE or a loss of VALID leaves the table in use. (DESIGN CHOICE, log 175) -/
def State.selectTable (s : State) (n : Nat) : State :=
  let bank := s.bankInUse
  let s := if s.is ALT_CTRL_DEGRADE && !s.tableValid bank n then (s.bump (ALT_CNT_COUNT 3)).raise 0x0404 0 else s
  { s with allot := { s.allot with lanes := n, tableN := s.tableFor bank n } }

/-- The owner of a slot of the cycle in progress; none for a sporadic slot (R53, R133). -/
def State.slotOwner? (s : State) (slot : Nat) : Option Nat :=
  if s.allot.noOwned || s.get TRK_PRIME_STAT_RATE == 0 then none else s.slotOwn s.bankInUse s.allot.tableN slot

/-- The owned slots of the calendar in use: none at 2.5 Gb/s (R53). -/
def State.ownedInUse (s : State) (n : Nat) : List (Nat × Nat) := if s.calRate = 25 then [] else s.ownedSlots s.bankInUse n

/-- ALT_ALLOT_STAT of allotment k: owned slots and span in the table in use (R131, R152); the span is rounded up to a whole ns
and 0 without an owned slot, and before the first trunk-up the table for one lane is shown. (DESIGN CHOICE, log 174) -/
def State.allotStat (s : State) (k : Nat) : Nat × Nat :=
  let n := max s.allot.tableN 1
  let r := s.calRate
  let p := slotsOf (s.ownedInUse n) k
  let span := spanScaled p (s.get (ALT_ALLOT_CFG_MAXSEG k)) (s.get ALT_CTRL_SLEW) n
  (p.length, if p.isEmpty then 0 else min 0xFFFF (ceilDiv span (n * r * 1024)))

/-- R128. The well names an allotment of another slice: a well does so where it is bound to port 0 with class ISO. (DESIGN
CHOICE, log 176) -/
def State.allotErr (s : State) (n : Nat) : Bool :=
  s.get (WEL_SCHED_CLASS n) == 0 && s.get (WEL_CFG_PORT n) == 0 &&
    s.get (ALT_ALLOT_CFG_SLICE (s.get (WEL_SCHED_ALLOT n))) != s.get (WEL_CFG_SLICE n)

/-! ## Swaps and profiles (R134, R135, R148, R149, R206) -/

/-- Adding to a cycle number, which has 32 bits. -/
def cycleAdd (c k : Nat) : Nat := (c + k) % 2 ^ 32

/-- The table of a bank owns a slot of allotment k. -/
def State.ownsIn (s : State) (bank n k : Nat) : Bool := !(slotsOf (s.ownedSlots bank n) k).isEmpty

/-- R135. A partly sent frame of an allotment that owns nothing in the new table is discarded at the sender. -/
def State.abortIso (s : State) : State :=
  let l := s.link 0
  let t := s.ownedSlots s.bankInUse s.allot.tableN
  let gone := l.cur.filter (fun e => decide (16 ≤ e.1) && (slotsOf t (e.1 - 16)).isEmpty)
  let s := s.setLink 0 { l with cur := l.cur.filter (fun e => !(decide (16 ≤ e.1) && (slotsOf t (e.1 - 16)).isEmpty)) }
  gone.foldl (fun s e =>
    let s := match e.2.well with
      | some n => (s.put (WEL_DEPTH_CELLS n) (s.get (WEL_DEPTH_CELLS n) - cellsFor (s.frame e.2.frame).data.length)).markCheck n
      | none => s
    ((s.sumpFrom e.2.well e.2.frame 0xA).bump (ALT_CNT_COUNT 2)).raise 0x040A (e.1 - 16)) s

/-- A swap takes effect at the next boundary. -/
def State.swapNext (s : State) : Bool :=
  s.is ALT_CAL_STAT_SWAP_ARMED && s.get ALT_SWAP_AT_CYCLE == cycleAdd (s.get ALT_CYCLE_CYCLE) 1

/-- The table of the other bank that a swap at the next boundary selects: for the count of a fallback due there too (R138). -/
def State.nextTable (s : State) : Nat :=
  s.tableFor (1 - s.bankInUse)
    ((s.allot.fallback.filter (fun e => e.1 == cycleAdd (s.get ALT_CYCLE_CYCLE) 1)).elim s.allot.lanes (·.2))

/-- R135. Allotment k may start no new frame: the cycle carries the SWAP record of a swap to a table that gives it no slot. -/
def State.isoClosing (s : State) (k : Nat) : Bool := s.swapNext && !s.ownsIn (1 - s.bankInUse) s.nextTable k

/-- Pumps of the upper half under Economy, and their substitutes, show it (R206). -/
def State.showEconomy (s : State) (eco : Bool) : State :=
  let h := s.nPumps / 2
  (List.range h).foldl (fun s p =>
    let s := s.putB (PMP_STAT_SUBST p) eco
    if eco then s.gateCheck (p + h)
    else if s.is (PMP_STAT_GATED (p + h)) then (s.put (PMP_STAT_GATED (p + h)) 0).raise 0x0602 (p + h)
    else s) s

/-- A profile takes effect (R148). -/
def State.applyProfile (s : State) (p : Nat) : State :=
  let old := s.get ALT_CAL_STAT_PROFILE
  let s := { s with allot := { s.allot with profile := none } }
  let s := s.put ALT_CAL_STAT_PROFILE p
  let s := s.put CND_CTRL_PACK_WIN (if p = 1 then 50 else if p = 2 then 100 else 0)
  let s := s.put TRK_CTRL_MAX_RATE (if p = 2 then 2 else 3)
  let s := (s.raise 0x0406 0).recheckTables s.calRate (isoCap p)
  let s := if p ≠ 2 ∧ s.get TRK_PWR_TX_STATE = 1 then s.put TRK_PWR_TX_STATE 0 else s
  if (old = 2 ∧ p ≠ 2) ∨ (old ≠ 2 ∧ p = 2) then s.movePending.showEconomy (p == 2) else s

/-! ## The cycle (R123, R125, R126, R134 to R138, R572) -/

/-- The pad-round grid: the start of slot 0 minus its grid point, the nearest one, in ns (R125). -/
def State.phaseErr (s : State) : Int :=
  let p := pCal (max 1 (s.get ALT_CAL_STAT_LANES)) s.calRate
  let d := (s.hubTime + p - s.get ALT_CAL_PHASE_PHASE % p) % p
  if p < 2 * d then (d : Int) - p else d

/-- R126. ALIGNED clears and the sender slews. -/
def State.startSlew (s : State) : State :=
  { s.put ALT_CAL_STAT_ALIGNED 0 with allot := { s.allot with slewing := true } }

/-- R125, R126. Slot 0 has started: ALT_PHASE_ERR, and the end of slewing. -/
def State.alignCheck (s : State) : State :=
  let e := s.phaseErr
  let s := s.put ALT_PHASE_ERR_ERR (unsigned 32 e)
  if s.allot.slewing && decide (e.natAbs * s.calRate ≤ 54400) then
    ({ s.put ALT_CAL_STAT_ALIGNED 1 with allot := { s.allot with slewing := false } }).raise 0x0407 0
  else s

/-- The content of a SWAP record (R112). -/
def swapContent (tbl lanes cycle : Nat) : Bytes := beBytes 1 tbl ++ beBytes 1 lanes ++ beBytes 4 cycle

/-- A re-admission ends; the command that waits for it answers with a status and its result byte (R82). -/
def State.endReadmit (s : State) (st : Nat) : State :=
  let stage := if s.trunk.byPeer then s.bkt.stage else .ready st (if st = 0 then [0#8] else [])
  { s with trunk := { s.trunk with readmit := none, joining := false, joinAt := none, byPeer := false },
           bkt := { s.bkt with stage := stage } }

/-- R80, R85. The transmit lane that waits to rejoin is in service from this boundary on, in a new dealing order. -/
def State.joinTx (s : State) : State :=
  match s.trunk.readmit with
  | some (1, n) =>
    if s.trunk.joining then
      let tx := setBit (s.get TRK_PRIME_STAT_TX_LANES) n true
      let s := ((s.put TRK_PRIME_STAT_TX_LANES tx).put ALT_CAL_STAT_LANES (countBits tx 4)).newDealing tx
      (s.startSlew.raise 0x0205 n).endReadmit 0
    else s
  | _ => s

/-- The table and the profile of the cycle that starts: swaps, fallbacks and profile changes due at it (R134 to R138, R149). At
2.5 Gb/s a fallback swaps no table (R77). -/
def State.cycleChanges (s : State) : State :=
  let c := s.get ALT_CYCLE_CYCLE
  let sw := s.is ALT_CAL_STAT_SWAP_ARMED && s.get ALT_SWAP_AT_CYCLE == c
  let fb := s.allot.fallback.filter (fun e => e.1 == c)
  let n := fb.elim s.allot.lanes (·.2)
  let s := if fb.isSome then s.joinTx.ptpBoundary else s
  let s := if sw then (s.put ALT_CAL_STAT_TBL (1 - s.bankInUse)).put ALT_CAL_STAT_SWAP_ARMED 0 else s
  let s := if sw || (fb.isSome && s.get TRK_PRIME_STAT_RATE != 0) then s.selectTable n
    else if fb.isSome then { s with allot := { s.allot with lanes := n } }
    else s
  let s := if sw then
      let s := { s with allot := { s.allot with noOwned := false } }
      let s := ((s.bump (ALT_CNT_COUNT 0)).raise 0x0401 0).abortIso
      if s.allot.groupSwap.isSome then
        (({ s with allot := { s.allot with groupSwap := none } }).put CAS_GRP_STAT_GSWAP 0).raise 0x1007 0
      else s
    else s
  let s := if fb.isSome then
      let s := ({ s with allot := { s.allot with fallback := none } }).put ALT_CAL_STAT_FAILOVER 0
      if s.get TRK_PRIME_STAT_RATE = 0 then s else (s.bump (ALT_CNT_COUNT 1)).raise 0x0402 0
    else s
  match s.allot.profile with
  | some (p, e) => if e = c then s.applyProfile p else s
  | none => s

/-- The SWAP record of a swap that takes effect at the next boundary (R114, R134). -/
def State.announceSwap (s : State) : State :=
  if s.swapNext then
    s.sendMarker 3 (swapContent (1 - s.bankInUse) s.nextTable (cycleAdd (s.get ALT_CYCLE_CYCLE) 1))
  else s

/-- R444. The cycle of a group swap: the first boundary at or after its effect time. -/
def State.groupSwapDue (s : State) : State :=
  match s.allot.groupSwap with
  | some t =>
    let p := pCal (max 1 (s.get ALT_CAL_STAT_LANES)) s.calRate
    s.put ALT_SWAP_AT_CYCLE (cycleAdd (s.get ALT_CYCLE_CYCLE) (ceilDiv (t - s.hubTime) p))
  | none => s

/-- The pad rounds ahead of slot 0 (R125, R126): how many of the permitted number go is the sender's. (DESIGN CHOICE, log 178)
-/
def State.padRounds (s : State) : State :=
  let (d, s) := s.draw
  let most := if s.allot.slewing then s.get ALT_CTRL_SLEW + 2 else 2
  s.emit (.pads (Config.freeNat d % (most + 1)))

/-- The transmit cycle starts at slot 0. -/
def State.startCycle (s : State) : State :=
  let s := s.padRounds
  let l := s.link 0
  let s := s.setLink 0 { l with txSlot := 0, syncDue := true }
  let s := { s with allot := { s.allot with cycleStart := s.hubTime, calOn := s.allot.calOn || (!s.trunk.calWait && decide (s.allot.calFrom ≤ s.hubTime)) } }
  s.groupSwapDue.cycleChanges.alignCheck.announceSwap

/-- The sender's part of trunk-up: n lanes in service at the rate reached (R123, R126, R133, R136). -/
def State.calendarUp (s : State) (n : Nat) : State :=
  let s := ((s.put ALT_CAL_STAT_LANES n).put ALT_CAL_STAT_BASE n).put ALT_CYCLE_CYCLE 0
  let r := rate10 (s.get TRK_PRIME_STAT_RATE)
  let cap := isoCap (s.get ALT_CAL_STAT_PROFILE)
  let fails := s.admission s.bankInUse n r cap != 0
  let s := (s.recheckTables r cap).selectTable n
  let s := { s with allot := { s.allot with
    fallback := none, noOwned := s.allot.noOwned || fails, calOn := !s.trunk.calWait, cycleStart := s.hubTime } }
  let s := if fails then s.raise 0x0405 0 else s
  s.startSlew.alignCheck

/-- R572. The trunk is declared down: what was armed for a cycle lapses, and an armed profile change takes effect at once.
ALIGNED clears, since no slot 0 is near the grid, and LANES keeps the last count. (DESIGN CHOICE, log 177) -/
def State.calendarDown (s : State) : State :=
  let s := (s.put ALT_CAL_STAT_SWAP_ARMED 0).put ALT_CAL_STAT_FAILOVER 0
  let s := s.put ALT_CAL_STAT_ALIGNED 0
  let s := if s.allot.groupSwap.isSome then s.put CAS_GRP_STAT_GSWAP 0 else s
  let s := { s with allot := { s.allot with fallback := none, groupSwap := none, slewing := false, calOn := false } }
  match s.allot.profile with
  | some (p, _) => s.applyProfile p
  | none => s

/-- The first cycle boundary at least 8 µs from now (R77, R115): its cycle number. -/
def State.fallbackCycle (s : State) : Nat :=
  let p := pCal (max 1 (s.get ALT_CAL_STAT_LANES)) s.calRate
  let gone := s.hubTime - s.allot.cycleStart
  cycleAdd (s.get ALT_CYCLE_CYCLE) (max 1 (ceilDiv (gone + 8000) p))

/-- A fallback to n transmit lanes is announced and armed; it replaces a pending one (R115, R137, R138). -/
def State.armFallback (s : State) (n : Nat) : State :=
  let c := s.fallbackCycle
  let armedFirst := s.is ALT_CAL_STAT_SWAP_ARMED && decide ((c + 2 ^ 32 - s.get ALT_SWAP_AT_CYCLE) % 2 ^ 32 < 2 ^ 31)
  let bank := if armedFirst then 1 - s.bankInUse else s.bankInUse
  let s := { s.put ALT_CAL_STAT_FAILOVER 1 with allot := { s.allot with fallback := some (c, n) } }
  s.sendMarker 2 (beBytes 1 (s.link 0).laneTx ++ beBytes 1 n ++ beBytes 1 bank ++ beBytes 4 c)

/-- The number of transmit lanes in service falls to n while the trunk is up (R115, R126, R137); a lane that waits to rejoin is
counted in the table that follows. -/
def State.laneCountChange (s : State) (n : Nat) : State :=
  let waits := s.trunk.joining && s.trunk.readmit.elim false (fun e => e.1 == 1)
  ((s.put ALT_CAL_STAT_LANES n).startSlew).armFallback (if waits then n + 1 else n)

/-! ## The bucket commands (R131, R134, R149, R151) -/

/-- R131, R132. ALT_CAL_COMMIT. -/
def cmdCalCommit (c : BktCmd) (s : State) : BktStage × State :=
  let bank := c.byte 4
  let busy := bank == s.bankInUse || s.is ALT_CAL_STAT_SWAP_ARMED
  bktRun (s.bktCheck c false (decide (1 < bank)) (c.ch != 0) busy false) s (fun s =>
    let r := s.calRate
    let cap := isoCap (s.get ALT_CAL_STAT_PROFILE)
    let codes := [1, 2, 3, 4].map (fun n => if bit (c.byte 5) (n - 1) then s.admission bank n r cap else 0xF)
    answerOk (leBytes 4 (codes.getD 0 0 + codes.getD 1 0 * 2 ^ 8 + codes.getD 2 0 * 2 ^ 16 + codes.getD 3 0 * 2 ^ 24))
      ([1, 2, 3, 4].foldl (fun s n => if bit (c.byte 5) (n - 1) then s.setValid bank n (codes.getD (n - 1) 0 == 0) else s) s))

/-- R134, R138, R149. ALT_SWAP. -/
def cmdSwap (c : BktCmd) (s : State) : BktStage × State :=
  let cur := s.get ALT_CYCLE_CYCLE
  let d := (c.le 8 4 + 2 ^ 32 - cur) % 2 ^ 32
  let bad := decide (1 < c.byte 4) || (c.byte 4 == 1 && decide (d < 2 ∨ 2 ^ 31 < d))
  let bank := 1 - s.bankInUse
  let n := s.tableFor bank (s.get ALT_CAL_STAT_LANES)
  let capped := match s.allot.profile with
    | some (p, _) => decide (min (isoCap p) (isoCap (s.get ALT_CAL_STAT_PROFILE)) < (s.ownedSlots bank n).length)
    | none => false
  let st := !s.trunkUp || s.is ALT_CAL_STAT_SWAP_ARMED || s.get ALT_CAL_STAT_PROFILE == 3 || !s.tableValid bank n || capped
  bktRun (s.bktCheck c false bad (c.ch != 0) st false) s (fun s =>
    let k := if c.byte 4 = 1 then d else 2
    let k := match s.allot.fallback with
      | some (f, _) => max k ((f + 2 ^ 32 - cur) % 2 ^ 32 + 1)
      | none => k
    let e := cycleAdd cur k
    answerOk (leBytes 4 e) ((s.put ALT_SWAP_AT_CYCLE e).put ALT_CAL_STAT_SWAP_ARMED 1))

/-- R149. A table that the profile check looks at exceeds the cap. -/
def State.exceedsCap (s : State) (bank cap : Nat) : Bool :=
  [1, 2, 3, 4].any (fun n =>
    (s.tableValid bank n || n == s.tableFor bank (s.get ALT_CAL_STAT_LANES)) && decide (cap < (s.ownedSlots bank n).length))

/-- R149. ALT_PROFILE. -/
def cmdProfile (c : BktCmd) (s : State) : BktStage × State :=
  let p := c.byte 4
  let st := s.allot.profile.isSome || s.exceedsCap s.bankInUse (isoCap p) ||
    (s.is ALT_CAL_STAT_SWAP_ARMED && s.exceedsCap (1 - s.bankInUse) (isoCap p))
  bktRun (s.bktCheck c (p == 3 && !s.hasCascade) (decide (3 < p)) (c.ch != 0) st false) s (fun s =>
    if s.trunkUp then
      let e := cycleAdd (s.get ALT_CYCLE_CYCLE) 2
      answerOk (leBytes 4 e) { s with allot := { s.allot with profile := some (p, e) } }
    else answerOk (leBytes 4 0) (s.applyProfile p))

/-- R123. CYCLE_BOUNDARY: slot 1023 of the trunk's transmit cycle has been sent. -/
def execCycleBoundary (s : State) : Host.Outcome State Fault Refusal :=
  .next (if s.linksLive && s.trunkUp && (s.link 0).txSlot == 1024 then
    (s.put ALT_CYCLE_CYCLE (cycleAdd (s.get ALT_CYCLE_CYCLE) 1)).startCycle
  else s)

end Sys2Proof.Machine
end

