-- ==== Sys2Proof/Machine/Sched.lean ====
section
/-! DEFINITION. The scheduler of an output port: gates, shapers, tags and the choice of a well; refill ticks and policers (R139 to R147, R170). -/
namespace Sys2Proof.Machine

/-! ## Ethernet gates (R145 to R147) -/

/-- R146, R147. The entry in force is found again from hub time. -/
def State.gateStep (s : State) (n : Nat) : State :=
  let g := s.gcl n
  match g.oper with
  | none => s
  | some c =>
    let segs := cycleSegs c.cycle c.list
    if g.start + c.cycle ≤ s.hubTime ∧ (stretched g c).isSome then s.put (ALT_GCL_STAT_CUR n) (segs.length - 1)
    else
      let off := (((s.hubTime : Int) - g.start) % (max 1 c.cycle : Nat)).toNat
      (s.setGcl n { g with start := s.hubTime - off }).put (ALT_GCL_STAT_CUR n) (entryAt off segs)

/-- R147. The change time of Ethernet port n has come. -/
def State.gateChange (s : State) (n : Nat) : State :=
  let g := s.gcl n
  match g.pend with
  | some (c, t) =>
    if t ≤ s.hubTime then
      let s := s.setGcl n { oper := some c, start := t, pend := none }
      let s := (s.put (ALT_GCL_STAT_OPER_LEN n) c.list.length).put (ALT_GCL_STAT_CUR n) 0
      (s.put (ALT_GCL_CTRL_PENDING n) 0).raise 0x0408 n
    else s
  | none => s

/-- R146. GATE_TRANSITION: an entry's interval ends on Ethernet port n. -/
def execGateTransition (n : Nat) (s : State) : Host.Outcome State Fault Refusal :=
  .next (if s.running && decide (n < 8) then (s.accruePort (n + 4)).gateStep n else s)

/-- R147. GCL_CHANGE_TIME: the change time of Ethernet port n. (DESIGN CHOICE, log 60) -/
def execGclChangeTime (n : Nat) (s : State) : Host.Outcome State Fault Refusal :=
  .next (if s.running && decide (n < 8) then (s.accruePort (n + 4)).gateChange n else s)

/-! ## Shapers (R141 to R143) -/

/-- Units of the credit's fraction in a byte. (DESIGN CHOICE, log 58) -/
def creditUnit : Nat := 75000000

/-- The credit of well n in units. -/
def State.credit (s : State) (n : Nat) : Int :=
  signed 32 (s.get (WEL_CREDIT_CREDIT n)) * creditUnit + (s.well n).frac

/-- Writing the credit, held within its limits (R142). -/
def State.setCredit (s : State) (n : Nat) (c : Int) : State :=
  let c := clampInt (signed 32 (s.get (WEL_LOCRED_LOCRED n)) * creditUnit) (s.get (WEL_HICRED_HICRED n) * creditUnit) c
  (s.setWell n { s.well n with frac := (c % (creditUnit : Int)).toNat }).put (WEL_CREDIT_CREDIT n)
    (unsigned 32 (c / (creditUnit : Int)))

/-- R142. The charge of a frame of counted length l that starts from well n. -/
def State.chargeCredit (s : State) (n l : Nat) : State :=
  if s.shaped n then
    let p := s.get (WEL_CFG_PORT n)
    let up := l * s.get (WEL_SEND_SEND n) * creditUnit
    let d := if p = 0 then up * 17 / max 1 (s.get ALT_CAL_STAT_LANES * s.calRate * 1600) else up / max 1 (s.ethSpeed (p - 4))
    s.setCredit n (s.credit n - d)
  else s

/-- R404. A received PAUSE or PFC holds priority t of port p; only Ethernet ports are ever held. -/
def State.ethHeld (s : State) (p t : Nat) : Bool :=
  decide (4 ≤ p ∧ p ≤ 11) && (s.is (ETH_STAT_PAUSED (p - 4)) || bit (s.get (ETH_STAT_RX_HELD (p - 4))) t)

/-- A shadowed word of well n takes effect (R143, R153). -/
def State.applyShaper (s : State) (n off v : Nat) : State :=
  match off with
  | 0x24 => (s.put (WEL_SHAPER_EN n) (bits v 31 31)).put (WEL_SHAPER_OVH n) (unsigned 9 (clampInt (-64) 255 (signed 9 (v % 512))))
  | 0x28 => s.put (WEL_IDLE_IDLE n) (min (v % 2 ^ 18) 204000)
  | 0x2C => s.put (WEL_SEND_SEND n) (min (v % 2 ^ 18) 204000)
  | 0x30 => s.put (WEL_HICRED_HICRED n) (min v 16777215)
  | 0x34 => s.put (WEL_LOCRED_LOCRED n) (unsigned 32 (clampInt (-16777215) 0 (signed 32 v)))
  | _ => s

/-- What 1 Mb/s of IDLE adds to the credit of well n for the elapsed tick, in units (R142): the whole tick where the well did
not change in it, else the ns in which it gathered credit, at most a tick. (DESIGN CHOICE, log 57) -/
def State.tickTime (s : State) (n : Nat) : Nat :=
  match (s.well n).part with
  | none =>
    if !s.gathers n then 0
    else if s.heldTo n ≤ s.allot.tick then 16000000
    else min 16000000 (s.gathered n s.allot.tick * 9375)
  | some (ns, since) => min 16000000 ((ns + s.gathered n since) * 9375)

/-- The tick of well n's shaper (R142, R143): the refill of the elapsed tick, credit 0 for a well found empty with more, then what was
shadowed, then the limits. (DESIGN CHOICE, log 57) -/
def State.tickWell (s : State) (n : Nat) : State :=
  let w := s.well n
  let s := if s.shaped n then s.setCredit n (s.credit n + s.get (WEL_IDLE_IDLE n) * s.tickTime n) else s
  let s := if s.shaped n && w.q.isEmpty && !s.sending n && decide (0 < s.credit n) then s.setCredit n 0 else s
  let s := if w.part.isSome then s.setWell n { s.well n with part := none } else s
  if w.shadow.isEmpty then s
  else
    let s := s.setWell n { s.well n with shadow := [] }
    let s := w.shadow.foldl (fun s e => s.applyShaper n e.1 e.2) s
    s.setCredit n (s.credit n)

/-- A write to a shaper register of well n waits for the next tick (R143): the last value written stands. -/
def State.shadowShaper (s : State) (n off v : Nat) : State :=
  let w := s.well n
  s.setWell n { w with shadow := assocPut off v w.shadow }

/-! ## Policers (R144) -/

/-- A shadowed policer word of context c takes effect: register 0 RATE, 1 BURST, 3 CTRL. (DESIGN CHOICE, log 59) -/
def State.applyPolicer (s : State) (c r v : Nat) : State :=
  match r with
  | 0 => s.put (ALT_POL_RATE_RATE c) (clampNat 1 100000 (v % 2 ^ 24))
  | 1 =>
    let b := clampNat 64 1048576 (v % 2 ^ 24)
    let have_ := s.get (ALT_POL_BURST_BURST c) * 375 - assocGet 0 s.allot.polLow c
    let s := s.put (ALT_POL_BURST_BURST c) b
    { s with allot := { s.allot with polLow := assocSet 0 c (b * 375 - have_) s.allot.polLow } }
  | 3 => s.put (ALT_POL_CTRL_EN c) (v % 2)
  | _ => s

/-- The tick of the policers: tokens rise, then what was shadowed applies. -/
def State.tickPolicers (s : State) : State :=
  let low := s.allot.polLow.foldl
    (fun l e => assocSet 0 e.1 (e.2 - s.get (ALT_POL_RATE_RATE e.1) * 8) l) s.allot.polLow
  let sh := s.allot.polShadow
  let s := { s with allot := { s.allot with polLow := low, polShadow := [], polSeen := [] } }
  sh.foldl (fun s e => s.applyPolicer (e.1 / 4) (e.1 % 4) e.2) s

/-- A frame of the given bytes is classified to context c on an Ethernet port: whether it conforms. -/
def State.police (s : State) (c len : Nat) : Bool × State :=
  if !s.is (ALT_POL_CTRL_EN c) then (true, s)
  else
    let l := (max 1 ((len : Int) + signed 9 (s.get (WEL_SHAPER_OVH (s.get (CTX_WELL_WELL c)))))).toNat
    let low := assocGet 0 s.allot.polLow c
    if l * 375 + low ≤ s.get (ALT_POL_BURST_BURST c) * 375 then
      (true, { s with allot := { s.allot with polLow := assocSet 0 c (low + l * 375) s.allot.polLow } })
    else
      let s := s.bump (ALT_POL_DROP_COUNT c)
      if s.allot.polSeen.contains c then (false, s)
      else (false, ({ s with allot := { s.allot with polSeen := c :: s.allot.polSeen } }).raise 0x0409 c)

/-- R142 to R144. REFILL_TICK: 1024 fabric clocks have passed. -/
def execRefillTick (s : State) : Host.Outcome State Fault Refusal :=
  .next (if s.running then
    let s := (List.range 512).foldl State.tickWell s
    ({ s with allot := { s.allot with tick := s.hubTime } }).tickPolicers
  else s)

/-! ## The choice of a well (R139, R140, R170) -/

/-- Well n is served under a key: a port's level, or the owned slots of allotment k at 4096 + k (R140). -/
def State.inGroup (s : State) (key n : Nat) : Bool :=
  if 4096 ≤ key then
    s.get (WEL_CFG_PORT n) == 0 && s.get (WEL_SCHED_CLASS n) == 0 && s.get (WEL_SCHED_ALLOT n) == key - 4096 && !s.allotErr n
  else
    s.get (WEL_CFG_PORT n) == key / 8 && s.get (WEL_SCHED_PRIO n) == key % 8 && (key / 8 != 0 || s.get (WEL_SCHED_CLASS n) != 0)

/-- The sum of the weights served under a key. (DEDUCED, log 56) -/
def State.weightSum (s : State) (key : Nat) : Nat :=
  (List.range 512).foldl (fun k n => if s.inGroup key n then k + s.get (WEL_SCHED_WEIGHT n) else k) 0

/-- The start tag of well n. -/
def State.startTag (s : State) (n : Nat) : Nat := (s.well n).tags.elim 0 (·.1)

/-- The finish tag of well n. -/
def State.finishTag (s : State) (n : Nat) : Nat := (s.well n).tags.elim 0 (·.2)

/-- The first well of a list with the least tag. -/
def leastTag (tag : Nat → Nat) : List Nat → Option Nat
  | [] => none
  | n :: l =>
    match leastTag tag l with
    | none => some n
    | some m => if tagLe (tag n) (tag m) then some n else some m

/-- The later of two tags. -/
def tagMax (a b : Nat) : Nat := if tagLe a b then b else a

/-- The non-empty wells served under a key, in number order. -/
def State.groupWells (s : State) (key : Nat) : List Nat :=
  s.wellNos.filter (fun n => s.inGroup key n && !(s.well n).q.isEmpty)

/-- The well that R140 selects under a key among the sendable ones. -/
def State.chooseWell (s : State) (key : Nat) (ok : State → Nat → Bool) : Option Nat :=
  let l := (s.groupWells key).filter (ok s)
  let v := assocGet 0 s.cis.vtime key
  let e := l.filter (fun n => tagLe (s.startTag n) v)
  let e := if e.isEmpty then
      match leastTag s.startTag l with
      | some m => l.filter (fun n => s.startTag n == s.startTag m)
      | none => []
    else e
  leastTag s.finishTag e

/-- The head frame of well n starts: it leaves the queue, its cells stay counted, tags, virtual time and credit move
(R140, R142). -/
def State.startHead (s : State) (key n id : Nat) : State :=
  let f := s.frame id
  let l := s.counted n f
  let fin := s.finishTag n
  let v := assocGet 0 s.cis.vtime key
  let s := (s.accrue n).chargeCredit n l
  let s := s.setWell n { s.well n with q := (s.well n).q.drop 1 }
  let s := s.retag n fin
  let v' := (v + tagStep l (s.weightSum key)) % tagMod
  let v' := match leastTag s.startTag (s.groupWells key) with
    | some m => tagMax v' (s.startTag m)
    | none => v'
  let s := { s with cis := { s.cis with vtime := assocSet 0 key v' s.cis.vtime } }
  s.capture 2 (some n) (s.get (WEL_CFG_PORT n)) 0 f

/-- Selecting under a key until a frame is found that is not over age (R170): the well and the frame that starts; at most k
selections. -/
def State.selectIn (s : State) (key : Nat) (ok : State → Nat → Bool) : Nat → Option (Nat × Nat) × State
  | 0 => (none, s)
  | k + 1 =>
    match s.chooseWell key ok with
    | none => (none, s)
    | some n =>
      match (s.well n).q with
      | [] => (none, s)
      | id :: _ =>
        if s.overAge n (s.frame id) then (s.ageHead n).selectIn key ok k
        else (some (n, id), s.startHead key n id)

/-- Selecting over the levels of port p from PRIO t down (R139). -/
def State.selectLevels (s : State) (p : Nat) (ok : State → Nat → Bool) : Nat → Option (Nat × Nat) × State
  | 0 => (none, s)
  | t + 1 =>
    match s.selectIn (p * 8 + t) ok (s.cis.frames.length + 1) with
    | (some r, s) => (some r, s)
    | (none, s) => s.selectLevels p ok t

/-! ## Ports other than links -/

/-- Counting once a frame held because it does not fit its window (R146). -/
def State.countHeld (s : State) (n id : Nat) : State :=
  let f := s.frame id
  if f.ovr then s else (s.setFrame id { f with ovr := true }).bump (ALT_GCL_OVR_COUNT n)

/-- The wells of Ethernet port n whose head waits for a larger window are counted. (DEDUCED, log 61) -/
def State.countOverruns (s : State) (n : Nat) : State :=
  (s.wellNos.filter (fun w => s.get (WEL_CFG_PORT w) == n + 4)).foldl
    (fun s w =>
      match (s.well w).q with
      | [] => s
      | id :: _ =>
        let t := s.get (WEL_SCHED_PRIO w)
        if s.gateOpen n t && !s.fitsWindow n t (s.counted w (s.frame id)) then s.countHeld n id else s) s

/-- Well n of a port other than a link may send (R139, R142, R146, R404). -/
def State.localSendable (p : Nat) (s : State) (n : Nat) : Bool :=
  (!s.shaped n || decide (0 ≤ s.credit n)) &&
    (!decide (4 ≤ p ∧ p ≤ 11) ||
      (!s.ethHeld p (s.get (WEL_SCHED_PRIO n)) && s.wellGateOpen n &&
        s.fitsWindow (p - 4) (s.get (WEL_SCHED_PRIO n)) ((((s.well n).q.head?).map (fun id => s.counted n (s.frame id))).getD 0)))

/-- The direct queue of port p. -/
def State.directQ (s : State) (p : Nat) : List Nat := assocGet [] s.cis.direct p

/-- Writing the direct queue of port p. -/
def State.setDirectQ (s : State) (p : Nat) (q : List Nat) : State :=
  { s with cis := { s.cis with direct := assocSet [] p q s.cis.direct } }

/-- The head of port p's direct queue may start (R258). (DEDUCED, log 72) -/
def State.directReady (s : State) (p : Nat) : Bool :=
  match s.directQ p with
  | [] => false
  | id :: _ =>
    !decide (4 ≤ p ∧ p ≤ 11) ||
      (!s.ethHeld p 7 && s.gateOpen (p - 4) 7 && s.fitsWindow (p - 4) 7 (max 1 (s.frame id).data.length))

/-- The next frame of port p, other than a link: from the direct queue, else from the wells. -/
def State.nextFrame (s : State) (p : Nat) : Option (Option Nat × Nat) × State :=
  let s := if 4 ≤ p ∧ p ≤ 11 then
      let s := s.countOverruns (p - 4)
      match s.directQ p with
      | id :: _ =>
        if s.gateOpen (p - 4) 7 && !s.fitsWindow (p - 4) 7 (max 1 (s.frame id).data.length) then s.countHeld (p - 4) id else s
      | [] => s
    else s
  if s.directReady p then
    match s.directQ p with
    | id :: q => (some (none, id), (s.setDirectQ p q).capture 2 none p 0 (s.frame id))
    | [] => (none, s)
  else
    match s.selectLevels p (State.localSendable p) 8 with
    | (some (n, id), s) => (some (some n, id), s)
    | (none, s) => (none, s)

/-- A frame that started from a well has left it: CELLS falls (R155, R164). -/
def State.dropCells (s : State) (well : Option Nat) (id : Nat) : State :=
  match well with
  | some n => (s.put (WEL_DEPTH_CELLS n) (s.get (WEL_DEPTH_CELLS n) - cellsFor (s.frame id).data.length)).markCheck n
  | none => s

/-- A frame is transmitted in full: its extents and cells are released (R155). -/
def State.sentFrame (s : State) (well : Option Nat) (id : Nat) : State := (s.dropCells well id).freeFrame id

/-- The frames in port p's direct queue go to the sump, since the port cannot transmit (R259). -/
def State.flushDirect (s : State) (p : Nat) : State :=
  ((s.directQ p).foldl (fun s id => s.sump id 9) (s.setDirectQ p [])).settle

end Sys2Proof.Machine
end

