-- ==== Sys2Proof/Machine/Late.lean ====
section
/-! DEFINITION. Late-fault records of the host bridge and write tags (R285, R286). -/
namespace Sys2Proof.Machine

/-- A late-fault record enters the queue of 16 (R286). -/
def State.lateFault (s : State) (r : LateFault) : State :=
  if 16 ≤ s.brg.late.length then
    let s := s.bump (BRG_CNT_COUNT 5)
    if s.brg.lateOvf then s
    else (({ s with brg := { s.brg with lateOvf := true } }).raise 0x0802 0).detect 0x2C 0
  else
    ({ s with brg := { s.brg with late := s.brg.late ++ [r] } }).raise 0x0801 (if r.gen = s.sliceGen r.slice then r.slice else 0)

/-- The record that reports a failed posted write to the hub that accepted it (R285). -/
def State.faultReport (s : State) (cause : Nat) (w : Posted) : Fab :=
  { kind := .lateFault, dest := w.src, src := s.origin, slice := w.slice, gen := w.gen, win := w.win, code := cause, tag := w.tag,
    addr := w.addr }

/-- A posted write has failed, or never reached its target: the bridge of the hub that accepted it writes a late-fault record (R117, R285,
R442). -/
def State.lostWrite (s : State) (cause : Nat) (w : Posted) : State :=
  if w.src = s.origin then s.lateFault ⟨w.addr, w.gen, w.slice, w.tag, cause, w.win, s.hubTime⟩
  else s.sendFab (s.faultReport cause w)

/-- The next write tag of a stream (R286). -/
def State.writeTag (s : State) (stream : Nat) : Nat × State :=
  (assocGet 0 s.brg.wtag stream,
    { s with brg := { s.brg with wtag := assocMod 0 stream (fun t => (t + 1) % 1024) s.brg.wtag } })

/-- LF_POP removes the head record (R286). -/
def State.popLate (s : State) : State := { s with brg := { s.brg with late := s.brg.late.drop 1, lateOvf := false } }

end Sys2Proof.Machine
end

