-- ==== Sys2Proof/Machine/Conduit.lean ====
section
/-! DEFINITION. The Conduit link layer: packing, credits, the flit of a slot, retry, replays and the restart of a link (R88 to R117, R433). -/
namespace Sys2Proof.Machine

/-! ## Credits (R108 to R110, R162) -/

/-- Credits of class c, 1 CTL or 2 SPO, available to this sender on link p (R110). -/
def State.creditsLeft (s : State) (p c : Nat) : Nat :=
  let l := s.link p
  if l.synced then (assocGet 0 l.est c + 2 ^ 32 - assocGet 0 l.used c) % 2 ^ 32 else 0

/-- What the credits of link p may cover: its quota, on the trunk less the ISO reserve (R162, R433). -/
def State.creditCover (s : State) (p : Nat) : Nat :=
  s.get (WEL_PORT_Q_QUOTA p) - (if p = 0 then s.get WEL_TRK_ISO_RSV else 0)

/-- Credits granted on link p and not yet consumed. -/
def Link.outstanding (l : Link) : Nat :=
  (assocGet 0 l.grant 1 - assocGet 0 l.taken 1) + (assocGet 0 l.grant 2 - assocGet 0 l.taken 2)

/-- Due credits that link p may send now: the class and how many (R162); none in global congestion, which back-pressures every source
(R160, R166). -/
def State.creditReturn (s : State) (p : Nat) : Nat × Nat :=
  if s.is WEL_CIS_STAT_GRES then (2, 0)
  else
    let room := s.creditCover p - s.get (WEL_PORT_USE_USE p) - (s.link p).outstanding
    let n1 := (s.cis.due.filter (fun e => e == (p, 1))).length
    let n2 := (s.cis.due.filter (fun e => e == (p, 2))).length
    if 0 < n1 then (1, min 63 (min n1 room)) else (2, min 63 (min n2 room))

/-- Removing the first n occurrences of an entry. -/
def eraseN {α : Type} [DecidableEq α] (x : α) : Nat → List α → List α
  | 0, l => l
  | n + 1, l => eraseN x n (l.erase x)

/-- Sending n due credits of class c. -/
def State.grantCredits (s : State) (p c n : Nat) : State :=
  let l := s.link p
  let s := s.setLink p { l with grant := assocMod 0 c (· + n) l.grant }
  { s with cis := { s.cis with due := eraseN (p, c) n s.cis.due } }

/-- The initial grants of link p: CTL and SPO (R162, R433). (DESIGN CHOICE, log 71) -/
def State.initialGrant (s : State) (p : Nat) : Nat × Nat :=
  let lim := s.creditCover p
  let ctl := min (s.get CND_CRED_INIT_CTL) lim
  (ctl, if p = 0 then min (s.get CND_CRED_INIT_SPO) (lim - ctl) else lim - ctl)

/-! ## Segments (R94, R96) -/

/-- Bytes of a frame that one segment carries. (DESIGN CHOICE, log 63) -/
def segSize : Nat := 244

/-- Segment record i of a frame, padded to 4 bytes. -/
def segRecord (f : Frame) (i : Nat) : Bytes :=
  let d := (f.data.drop (i * segSize)).take segSize
  let last := decide (f.data.length ≤ (i + 1) * segSize)
  let h := f.rctx % 1024 * 2 ^ 22 + d.length * 2 ^ 14 + (if i = 0 then 2 ^ 13 else 0) + (if last then 2 ^ 12 else 0) +
    f.rgen % 256 * 2 ^ 4
  beBytes 4 h ++ d ++ zeros ((4 - d.length % 4) % 4)

/-- The frame in transmission in a class of link p: 1 CTL, 2 SPO, 16 + k ISO of allotment k, 0 ISO of a cascade link. -/
def State.linkCur (s : State) (p key : Nat) : Option Cur := assocFind (s.link p).cur key

/-- Writing it. -/
def State.setCur (s : State) (p key : Nat) (c : Option Cur) : State :=
  let l := s.link p
  s.setLink p { l with cur := match c with
    | some c => assocPut key c l.cur
    | none => assocDel key l.cur }

/-- Writing the flit being packed. -/
def State.setPack (s : State) (p : Nat) (k : Option Pack) : State := s.setLink p { s.link p with pack := k }

/-- The class of a key. -/
def keyClass (key : Nat) : Nat := if key = 1 ∨ key = 2 then key else 0

/-- Placing the next segment of the frame in transmission in a class: into the flit being packed, which is opened where there is
none; a flit without room is full. -/
def State.placeSeg (s : State) (p key : Nat) : State :=
  match s.linkCur p key with
  | none => s
  | some c =>
    let f := s.frame c.frame
    let k := ((s.link p).pack).getD ⟨keyClass key, 0, [], s.hubTime, [], false⟩
    let r := segRecord f c.seg
    if 248 < k.body.length + r.length ∨ 31 ≤ k.segn then s.setPack p (some { k with full := true })
    else
      let c := { c with seg := c.seg + 1 }
      let last := decide (f.data.length ≤ c.seg * segSize)
      let body := k.body ++ r
      let s := s.setCur p key (if last then none else some c)
      s.setPack p (some { k with
        segn := k.segn + 1, body := body, done := if last then k.done ++ [c] else k.done,
        full := decide (240 < body.length ∨ 31 ≤ k.segn + 1) })

/-- A flit of class c may be opened or filled further on link p. -/
def State.mayPack (s : State) (p c : Nat) : Bool :=
  match (s.link p).pack with
  | some k => k.cls == c || decide (0 < s.creditsLeft p c)
  | none => decide (0 < s.creditsLeft p c)

/-- A frame in transmission on link p goes to remote context x (R96). (DEDUCED, log 64) -/
def State.ctxBusy (s : State) (p x : Nat) : Bool :=
  (s.link p).cur.any (fun e => (s.frame e.2.frame).rctx == x)

/-- The same for an ISO frame: a frame whose last segment lies in the sporadic flit set aside has not been sent yet (R96). -/
def State.isoBusy (s : State) (p x : Nat) : Bool :=
  s.ctxBusy p x || ((s.link p).aside.elim [] (·.done)).any (fun c => (s.frame c.frame).rctx == x)

/-- The trunk class of well n: 0 ISO, 1 CTL, 2 SPO (R153). -/
def State.wellClass (s : State) (n : Nat) : Nat := min (s.get (WEL_SCHED_CLASS n)) 2

/-- The head of well n names a context that the test finds busy. -/
def State.headBusy (s : State) (n : Nat) (busy : Nat → Bool) : Bool :=
  match (s.well n).q with
  | [] => true
  | id :: _ => busy (s.frame id).rctx

/-- A CTL or SPO well may send on link p (R139). -/
def State.sporadicSendable (p : Nat) (s : State) (n : Nat) : Bool :=
  s.wellClass n != 0 && (!s.shaped n || decide (0 ≤ s.credit n)) && s.mayPack p (s.wellClass n) && !s.headBusy n (s.ctxBusy p)

/-- An ISO well may send on link p. -/
def State.isoSendable (p : Nat) (s : State) (n : Nat) : Bool :=
  s.wellClass n == 0 && (!s.shaped n || decide (0 ≤ s.credit n)) && !s.headBusy n (s.isoBusy p)

/-- The well that the levels of port p would serve now, from PRIO t − 1 down. -/
def State.peekLevels (s : State) (p : Nat) (ok : State → Nat → Bool) : Nat → Option Nat
  | 0 => none
  | t + 1 =>
    match s.chooseWell (p * 8 + t) ok with
    | some n => some n
    | none => s.peekLevels p ok t

/-- The class a flit has to have to go on, against the one being packed: where they differ the flit is full. -/
def State.turnTo (s : State) (p c : Nat) : Bool × State :=
  match (s.link p).pack with
  | some k => if k.cls = c then (true, s) else (false, s.setPack p (some { k with full := true }))
  | none => (true, s)

/-- The head of link p's direct queue that may start (R258): one that may not is passed over (R139). -/
def State.directStart (s : State) (p : Nat) : Option (Nat × List Nat) :=
  match s.directQ p with
  | id :: q => if (s.linkCur p 1).isNone && s.mayPack p 1 && !s.ctxBusy p (s.frame id).rctx then some (id, q) else none
  | [] => none

/-- One step of packing sporadic data on link p: going on with a frame in transmission, CTL first, then the direct queue, then
the wells in the scheduler's order; none where nothing can be placed. (DESIGN CHOICE, log 65) -/
def State.packStep (s : State) (p : Nat) : Option State :=
  if ((s.link p).pack).elim false (·.full) then none
  else if (s.linkCur p 1).isSome && s.mayPack p 1 then
    let (ok, s) := s.turnTo p 1
    some (if ok then s.placeSeg p 1 else s)
  else if (s.linkCur p 2).isSome && s.mayPack p 2 then
    let (ok, s) := s.turnTo p 2
    some (if ok then s.placeSeg p 2 else s)
  else
    match s.directStart p with
    | some (id, q) =>
      let (ok, s) := s.turnTo p 1
      some (if ok then
          (((s.setDirectQ p q).setCur p 1 (some ⟨id, none, 0, 0⟩)).capture 2 none p 0 (s.frame id)).placeSeg p 1
        else s)
    | none =>
      let ok := fun (s : State) n => State.sporadicSendable p s n && (s.linkCur p (s.wellClass n)).isNone
      match s.peekLevels p ok 8 with
      | none => none
      | some n =>
        let c := s.wellClass n
        let (same, s) := s.turnTo p c
        if same then
          match s.selectLevels p ok 8 with
          | (some (m, id), s) => some ((s.setCur p (s.wellClass m) (some ⟨id, some m, 0, 0⟩)).placeSeg p (s.wellClass m))
          | (none, s) => some s
        else some s

/-- Packing sporadic data until the flit is full or nothing waits: at most k steps. -/
def State.fillPack (s : State) (p : Nat) : Nat → State
  | 0 => s
  | k + 1 =>
    match s.packStep p with
    | some s => s.fillPack p k
    | none => s

/-- One step of filling an ISO flit: the frame in transmission, else a new one of the same owner; whether something was placed. -/
def State.isoStep (s : State) (p key : Nat) (mayStart : Bool) : Bool × State :=
  if ((s.link p).pack).elim false (·.full) then (false, s)
  else if (s.linkCur p key).isSome then (true, s.placeSeg p key)
  else if mayStart then
    let r := if 16 ≤ key then s.selectIn (4096 + (key - 16)) (State.isoSendable p) (s.cis.frames.length + 1)
      else s.selectLevels p (State.isoSendable p) 8
    match r with
    | (some (n, id), s) => (true, (s.setCur p key (some ⟨id, some n, 0, 0⟩)).placeSeg p key)
    | (none, s) => (false, s)
  else (false, s)

/-- Filling an ISO flit: at most k steps. -/
def State.fillIso (s : State) (p key : Nat) (mayStart : Bool) : Nat → State
  | 0 => s
  | k + 1 =>
    match s.isoStep p key mayStart with
    | (true, s) => s.fillIso p key mayStart k
    | (false, s) => s

/-! ## Sending a flit (R88, R92, R99, R103, R122) -/

/-- ASEQ as link p sends it (R88, R122). -/
def State.aseqOut (s : State) (p : Nat) : Nat :=
  let l := s.link p
  match l.aseqFrozen with
  | some a => a
  | none => (l.expect + 4095) % 4096

/-- Sending one flit in the next slot of link p: credits that are due go with it, and its bytes go to the coder. -/
def State.sendFlit (s : State) (p ftype cls lseq aseq segn : Nat) (body : Bytes) : State :=
  let (c, n) := s.creditReturn p
  let s := s.grantCredits p c n
  let l := s.link p
  let tbl := p = 0 ∧ s.bankInUse = 1
  let h := flitHeader ftype cls lseq aseq l.txSlot tbl (c - 1) n segn
  let h := if l.injHcrc then h.take 7 ++ (h.drop 7).map (fun b => ~~~b) else h
  let raw := h ++ fit 248 body
  let s := s.setLink p { l with
    txSlot := if p = 0 then l.txSlot + 1 else (l.txSlot + 1) % 1024, aseqSent := aseq, injHcrc := false,
    lastBusy := if ftype = 0 then l.lastBusy else s.hubTime }
  (s.emit (.flit p raw)).codeFlit p raw

/-- Sending an idle flit of a class; on the trunk its body continues the PRBS31 of the lanes (R72). (DESIGN CHOICE, log 159) -/
def State.sendIdle (s : State) (p cls : Nat) : State :=
  let (body, s) := if p = 0 then s.idleBody else ([], s)
  if p = 0 ∧ 2 ≤ s.trunk.role then s.sendFlit p 0 cls 0xFFF 0xFFF 0 body
  else s.sendFlit p 0 cls (s.link p).echo (s.aseqOut p) 0 body

/-- A new retriable flit: numbered, held for replay and sent (R99); a CTL data flit of the trunk may give timing samples (R398). -/
def State.sendRetriable (s : State) (p ftype cls segn : Nat) (body : Bytes) : State :=
  let l := s.link p
  let n := l.txNext
  let s := s.setLink p { l with
    txNext := (n + 1) % 4096, sent := true, echo := n,
    held := l.held ++ [⟨n, ftype, cls, segn, fit 248 body, 1, s.hubTime⟩] }
  let s := if p = 0 ∧ ftype = 1 ∧ cls = 1 then s.ptpSent n segn body else s
  s.sendFlit p ftype cls n (s.aseqOut p) segn body

/-- The replay buffer of link p takes no new flit (R99): the refusal is counted. (DEDUCED, log 68) -/
def State.refuseHeld (s : State) (p : Nat) : State :=
  let l := s.link p
  let s := if l.fullSeen then s
    else
      let s := s.setLink p { l with fullSeen := true }
      if p = 0 then s.raise 0x0305 0 else s
  s.linkCnt p 15

/-- A CREDIT_SYNC is due on link p (R109, R433). -/
def State.syncWanted (s : State) (p : Nat) : Bool :=
  let l := s.link p
  l.syncDue || (p != 0 && decide (l.lastSync + 10000 ≤ s.hubTime))

/-- The records that fit in one control flit, and the rest. -/
def takeRecords : Nat → List (Nat × Bytes) → Bytes × List (Nat × Bytes)
  | _, [] => ([], [])
  | room, r :: l =>
    let b := ctlRecord r
    if b.length ≤ room then
      let (d, rest) := takeRecords (room - b.length) l
      (b ++ d, rest)
    else ([], r :: l)

/-- Sending a control flit: a CREDIT_SYNC that is due first, then the records that wait (R109 to R112). -/
def State.sendControl (s : State) (p : Nat) : State :=
  let sync := s.syncWanted p
  let (c, n) := s.creditReturn p
  let l := s.link p
  let g := fun k => assocGet 0 l.grant k + (if c = k then n else 0)
  let recs := if sync then (4, beBytes 4 (g 1) ++ beBytes 4 (g 2)) :: l.ctl else l.ctl
  let (body, rest) := takeRecords 248 recs
  let s := s.setLink p { l with ctl := rest, syncDue := false, lastSync := if sync then s.hubTime else l.lastSync }
  s.sendRetriable p 2 1 0 body

/-- A parcel can go on: it takes a CTL credit (R108). -/
def State.parcelReady (s : State) (p : Nat) : Bool := !(s.link p).parcels.isEmpty && decide (0 < s.creditsLeft p 1)

/-- The next CTL flit of the first parcel, one segment record: a posted write is held with the flit that ends it (R116). (DESIGN
CHOICE, log 180) -/
def State.sendParcelFlit (s : State) (p : Nat) : State :=
  let l := s.link p
  match l.parcels with
  | [] => s
  | x :: rest =>
    let f : Frame := { data := x.data, rctx := x.ctx, rgen := s.sliceGen 0 }
    let h := segRecord f 0
    let h := if x.first then h else (h.modify 2 (fun b => b &&& 0xDF#8))
    let last := decide (x.data.length ≤ segSize)
    let s := s.setLink p { l with
      parcels := if last then rest else { x with data := x.data.drop segSize, first := false } :: rest,
      posted := match x.write with
        | some w => if last then l.posted ++ [{ w with lseq := l.txNext }] else l.posted
        | none => l.posted,
      used := assocMod 0 1 (fun u => (u + 1) % 2 ^ 32) l.used }
    s.sendRetriable p 1 1 1 h

/-- The flit being packed on link p is due (R96). -/
def State.packDue (s : State) (p : Nat) : Bool :=
  match (s.link p).pack with
  | some k => k.full || decide (k.since + 10 * s.get CND_CTRL_PACK_WIN ≤ s.hubTime)
  | none => false

/-- The wells of frames that end in a flit are about to change (R142). -/
def State.accrueFrames (s : State) (l : List Cur) : State :=
  l.foldl (fun s c => c.well.elim s (fun n => s.accrue n)) s

/-- The frames that ended in a flit are transmitted in full (R155). -/
def State.finishFrames (s : State) (l : List Cur) : State := l.foldl (fun s c => s.sentFrame c.well c.frame) s

/-- What was placed of the frames in transmission has now been sent. -/
def State.markSent (s : State) (p key : Nat) : State :=
  match s.linkCur p key with
  | some c => s.setCur p key (some { c with sent := c.seg })
  | none => s

/-- Sending the packed flit: it consumes one credit of its class (R108). -/
def State.sendPack (s : State) (p : Nat) : State :=
  match (s.link p).pack with
  | none => s
  | some k =>
    let s := s.accrueFrames k.done
    let l := s.link p
    let s := s.setLink p { l with pack := none, used := assocMod 0 k.cls (fun u => (u + 1) % 2 ^ 32) l.used }
    let s := (s.sendRetriable p 1 k.cls k.segn k.body).markSent p k.cls
    (s.finishFrames k.done).settle

/-- Starting a replay of link p from a held flit on (R103, R104). -/
def State.startReplay (s : State) (p : Nat) : State :=
  let l := s.link p
  match l.held with
  | [] => s
  | h :: _ => (s.setLink p { l with replay := l.held.map (·.lseq), replayFrom := some h.lseq }).linkCnt p 9 |>.wakeFor p

/-- The next flit of a replay would need one transmission too many (R105). -/
def State.replayLimit (s : State) (p : Nat) : Bool :=
  let l := s.link p
  match l.replay with
  | [] => false
  | n :: _ => l.held.any (fun h => h.lseq == n && decide (s.get CND_RETRY_REPLAY_MAX + 1 ≤ h.tx))

/-- Sending the next flit of the replay (R103). -/
def State.sendReplay (s : State) (p : Nat) : State :=
  let l := s.link p
  match l.replay with
  | [] => s
  | n :: rest =>
    match l.held.find? (fun h => h.lseq == n) with
    | none => s.setLink p { l with replay := rest, replayFrom := if rest.isEmpty then none else l.replayFrom }
    | some h =>
      let s := s.setLink p { l with
        replay := rest, replayFrom := if rest.isEmpty then none else l.replayFrom, echo := n,
        held := l.held.map (fun g => if g.lseq = n then { g with tx := g.tx + 1, time := s.hubTime } else g) }
      let s := if p = 0 then s.ptpReplayed n else s
      s.sendFlit p h.ftype h.cls n (s.aseqOut p) h.segn h.body

/-- The sporadic flit being packed on link p is set aside while an ISO flit is built. -/
def State.setAside (s : State) (p : Nat) : State := s.setLink p { s.link p with aside := (s.link p).pack, pack := none }

/-- It is taken up again. -/
def State.takeBack (s : State) (p : Nat) : State := s.setLink p { s.link p with pack := (s.link p).aside, aside := none }

/-- An owned slot of allotment k on the trunk (R96, R130). -/
def State.sendOwned (s : State) (k : Nat) : State :=
  if !s.allot.calOn || 2 ≤ s.trunk.role || !s.is (ALT_ALLOT_CFG_EN k) then s.sendIdle 0 0
  else
    let s := (s.setAside 0).fillIso 0 (16 + k) (!s.isoClosing k) 64
    match (s.link 0).pack with
    | none => (s.takeBack 0).sendIdle 0 0
    | some d =>
      let s := (s.accrueFrames d.done).takeBack 0
      let s := (s.sendFlit 0 1 0 (s.link 0).echo (s.aseqOut 0) d.segn d.body).markSent 0 (16 + k)
      (s.finishFrames d.done).settle

/-- ISO data of a cascade link, which goes ahead of everything (R433), the direct queue of R258 included: whether there is some.
(DESIGN CHOICE, log 179) -/
def State.sendCascadeIso (s : State) (p : Nat) : Bool × State :=
  let s := (s.setAside p).fillIso p 0 true 64
  match (s.link p).pack with
  | none => (false, s.takeBack p)
  | some d =>
    let s := (s.accrueFrames d.done).takeBack p
    let s := (s.sendFlit p 1 0 (s.link p).echo (s.aseqOut p) d.segn d.body).markSent p 0
    (true, (s.finishFrames d.done).settle)

/-- The flit of a slot of a trunk that is not active (R118): an idle flit, but for the control flit of a standby that carries STBY_TAKE and
is retried as every control flit is (R119). -/
def State.sendStandby (s : State) : State :=
  let l := s.link 0
  if s.trunk.role != 2 then s.sendIdle 0 2
  else if !l.replay.isEmpty then s.sendReplay 0
  else if l.ctl.isEmpty then s.sendIdle 0 2
  else
    let (body, rest) := takeRecords 248 l.ctl
    (s.setLink 0 { l with ctl := rest }).sendRetriable 0 2 1 0 body

/-- The flit of a sporadic slot (R99, R102, R103, R109, R114, R258): a NAK, a swap marker, a replay, a control flit, data, or
an idle flit. -/
def State.sendSporadic (s : State) (p : Nat) : State :=
  let l := s.link p
  if p = 0 ∧ 2 ≤ s.trunk.role then s.sendStandby
  else if l.nakDue && !l.nakHeld then
    let s := s.setLink p { l with nakDue := false, nakHeld := true }
    (s.sendFlit p 4 1 l.echo ((l.expect + 4095) % 4096) 0 []).linkCnt p 7
  else
    match l.markers with
    | (n, body) :: rest =>
      let s := s.setLink p { l with markers := if n ≤ 1 then rest else (n - 1, body) :: rest }
      s.sendFlit p 3 1 l.echo (s.aseqOut p) 0 body
    | [] =>
      if !l.replay.isEmpty then s.sendReplay p
      else
        let s := s.fillPack p 400
        let wants := s.syncWanted p || !(s.link p).ctl.isEmpty || s.parcelReady p || s.packDue p
        if !wants then s.sendIdle p 2
        else if heldLimit p ≤ (s.link p).held.length then (s.refuseHeld p).sendIdle p 2
        else if s.syncWanted p || !(s.link p).ctl.isEmpty then s.sendControl p
        else if s.parcelReady p then s.sendParcelFlit p
        else s.sendPack p

/-! ## Acknowledgment and NAK (R100 to R103) -/

/-- Held flits up to and including an LSEQ are released; an LSEQ that is not held is ignored (R100). -/
def State.ackUpTo (s : State) (p a : Nat) : State :=
  let l := s.link p
  if l.held.any (fun h => h.lseq == a) then
    let rest := (l.held.dropWhile (fun h => h.lseq != a)).drop 1
    let gone := (l.held.takeWhile (fun h => h.lseq != a)).map (·.lseq) ++ [a]
    let s := s.setLink p { l with
      held := rest, replay := l.replay.filter (fun n => !gone.contains n),
      posted := l.posted.filter (fun w => !gone.contains w.lseq),
      fullSeen := l.fullSeen && decide (heldLimit p ≤ rest.length) }
    let l := s.link p
    if l.replay.isEmpty then s.setLink p { l with replayFrom := none } else s
  else s

/-- A NAK of link p with ASEQ a: a replay starts from a + 1, unless the replay in progress started there (R103). -/
def State.nakReceived (s : State) (p a : Nat) : State :=
  let s := (s.ackUpTo p a).linkCnt p 8
  let l := s.link p
  if l.replayFrom == some ((a + 1) % 4096) then s else s.startReplay p

/-! ## A link that comes up or goes down (R97, R99, R110, R113, R117) -/

/-- A thread that holds chain id is left with an empty one. -/
def Thread.loseChain (th : Thread) (id : Nat) : Thread := if th.chain = some id then { th with chain := none } else th

/-- A chain that stands open at the receiver is discarded: the sump takes it, and a thread that holds it is left with an empty
chain. (DEDUCED, log 26) -/
def State.dropOpenChain (s : State) (id cause : Nat) : State :=
  let s := { s with pumps := { s.pumps with
    pend := s.pumps.pend.filter (fun e => e.frame != id),
    threads := s.pumps.threads.map (fun (e : Nat × Thread) => (e.1, e.2.loseChain id)) } }
  s.sump id cause

/-- Every open chain of link p is discarded, with cause CHAIN (R117). -/
def State.dropChains (s : State) (p : Nat) : State :=
  let l := s.link p
  let s := s.setLink p { l with chains := [] }
  l.chains.foldl (fun s e =>
    match e.2 with
    | some id => if (assocFind s.cis.frames id).isSome then (s.dropOpenChain id 5).linkCnt p 12 else s
    | none => s) s

/-- A frame in transmission on a link that goes down: one of which nothing was sent returns to the head of its queue, the others
go to the sump with cause CHAIN (R117). (DEDUCED, log 66) -/
def State.dropSending (s : State) (p : Nat) (c : Cur) : State :=
  if c.sent = 0 then
    match c.well with
    | some n =>
      let a := if (s.well n).q.isEmpty then assocGet 0 s.cis.vtime (s.schedKey n) else s.startTag n
      (s.setWell n { s.well n with q := c.frame :: (s.well n).q }).retag n a
    | none => s.setDirectQ p (c.frame :: s.directQ p)
  else
    let s := s.dropCells c.well c.frame
    (s.sumpFrom c.well c.frame 5).linkCnt p 12

/-- A cell of port p that makes no credit due. -/
def Cell.void (c : Cell) (p : Nat) : Cell := if c.port = p then { c with credit := 0 } else c

/-- Releases of cells that landed before link p restarted make no credit due. (DEDUCED, log 67) -/
def State.voidCredits (s : State) (p : Nat) : State :=
  { s with cis := { s.cis with
    due := s.cis.due.filter (fun (e : Nat × Nat) => e.1 != p),
    cells := s.cis.cells.map (fun (e : Nat × Cell) => (e.1, e.2.void p)) } }

/-- Frames in transmission and packed on link p are dealt with, and open chains discarded (R117). -/
def State.dropFlow (s : State) (p : Nat) : State :=
  let l := s.link p
  let s := s.setLink p { l with cur := [], pack := none, aside := none }
  let s := (((l.pack).elim [] (·.done)).reverse ++ l.cur.map (·.2)).foldl (fun s c => s.dropSending p c) s
  (s.dropChains p).voidCredits p

/-- What a link keeps over its loss and its next start: what CND_INJ has asked for (R122). -/
def Link.kept (l : Link) : Link := { aseqFrozen := l.aseqFrozen, injHcrc := l.injHcrc, injUncorr := l.injUncorr }

/-- The posted writes that a link has not seen acknowledged: those held, and those that still wait. -/
def Link.unsure (l : Link) : List Posted := l.posted ++ l.parcels.filterMap (·.write)

/-- A parcel that outlasts the loss of its link: a message or a record of a wellhead controller of which nothing has been sent. -/
def Parcel.stays (x : Parcel) : Bool := x.first && x.ctx != 0

/-- Link p is down: its replay buffer is lost (R117, R432). Posted writes of a cascade link wait for R442. Like frames of which
nothing has been sent, messages and records wait for the link; requests and completions of the bridge do not. (DESIGN CHOICE,
log 182) -/
def State.loseLink (s : State) (p : Nat) : State :=
  let s := s.dropFlow p
  let l := s.link p
  let s := s.linkCntN p 14 l.held.length
  let s := s.setLink p { l.kept with parcels := l.parcels.filter Parcel.stays, posted := if p = 0 then [] else l.unsure }
  (if p = 0 then l.unsure.foldl (fun s w => s.lostWrite 5 w) s else s).settle

/-- Link p comes up: numbers, epochs and credits start afresh (R99, R110, R113). Posted writes that a cascade link lost, and
whose member has not been marked down since, are reported now, as R442 reports them. (DESIGN CHOICE, log 182) -/
def State.startLink (s : State) (p : Nat) : State :=
  let s := s.dropFlow p
  let (c, d) := s.initialGrant p
  let l := s.link p
  let s := s.setLink p { l.kept with
    up := true, lastBusy := s.hubTime, lastRx := s.hubTime, rxCycle := 2 ^ 32 - 1, syncDue := true, lastSync := s.hubTime,
    parcels := l.parcels.filter Parcel.stays, grant := assocPut 1 c (assocPut 2 d []) }
  if p = 0 then s else l.posted.foldl (fun s w => s.lostWrite 6 w) s

end Sys2Proof.Machine
end

