-- ==== Sys2Proof/Machine/Landing.lean ====
section
/-! DEFINITION. What a received flit does: its checks, sequence numbers, credits, the loss count, segment records and the chains they build (R19, R87 to R101, R154, R161, R192, R200, R433). -/
namespace Sys2Proof.Machine

/-! ## Segment records -/

/-- A segment is discarded by itself: it passes through the sump once (R176). -/
def State.sumpSeg (s : State) (p cause : Nat) (r : SegRec) : State :=
  (s.bump (WEL_SUMP_CNT_COUNT cause)).capture 3 none p cause { data := r.data, ctx := r.ctx, src := p, port := p }

/-- The open chain of a context and class on link p. -/
def State.openChain (s : State) (p key : Nat) : Option (Option Nat) :=
  (assocFind (s.link p).chains key).map (fun c => c.filter (fun id => (assocFind s.cis.frames id).isSome))

/-- Writing it: none closes it. -/
def State.setChain (s : State) (p key : Nat) (c : Option (Option Nat)) : State :=
  let l := s.link p
  s.setLink p { l with chains := match c with
    | some c => assocPut key c l.chains
    | none => assocDel key l.chains }

/-- One more extent in a cell. -/
def State.addRef (s : State) (h : Nat) : State :=
  match assocFind s.cis.cells h with
  | some c => { s with cis := { s.cis with cells := assocPut h { c with refs := c.refs + 1 } s.cis.cells } }
  | none => s

/-- A dispatch holds frame id. -/
def State.dispatched (s : State) (id : Nat) : Bool := s.pumps.threads.any (fun e => e.2.chain == some id)

/-- A chain of the transport has arrived whole: the transport takes it from its cells at once. (DESIGN CHOICE, log 180) -/
def State.arrive (s : State) (p id : Nat) : State :=
  let l := s.link p
  (s.setLink p { l with arrived := l.arrived ++ [(s.frame id).data] }).freeFrame id

/-- The segment joins frame id: it may become pending early, pass 16,384 bytes, or close (R97, R191, R200). -/
def State.joinChain (s : State) (p key h : Nat) (id : Nat) (r : SegRec) : State :=
  let f := s.frame id
  let early := !f.early && !r.last && s.is (CTX_CFG_EARLY r.ctx) && decide (256 ≤ f.data.length + r.data.length)
  let f := { f with
    data := f.data ++ r.data, exts := f.exts ++ [⟨h, r.data.length, r.off⟩], segs := if p = 0 then f.segs + 1 else 0,
    closed := r.last, early := f.early || early }
  let s := ((s.setFrame id f).addRef h).setChain p key (if r.last then none else some (some id))
  if 16384 < f.data.length ∧ !s.dispatched id then
    let s := s.setChain p key (if r.last then none else some none)
    (s.dropOpenChain id 5).raise 0x0704 r.ctx
  else if r.last && !f.early && transportContext r.ctx && (parseFab f.data).isSome && !s.dispatched id then s.arrive p id
  else if early || (r.last && !f.early) then s.pendChain id r.ctx
  else s

/-- The first segment opens a chain (R97, R157). -/
def State.openNew (s : State) (p cls key h : Nat) (r : SegRec) : State :=
  let (id, s) := s.newFrame { stamp := s.hubTime, src := p, port := p, ctx := r.ctx, closed := false, gen := r.gen,
                              tcls := if p = 0 then cls else 0 }
  s.joinChain p key h id r

/-- R97, R307. A segment fails the generation check: with what was gathered it makes one discard. (DEDUCED, log 70) -/
def State.staleSeg (s : State) (p key : Nat) (r : SegRec) (gathered : Option Nat) : State :=
  let s := s.bump (SLC_GEN_DROP_COUNT (s.ctxSlice r.ctx))
  let s := match gathered with
    | some id => s.dropOpenChain id 4
    | none => s.sumpSeg p 4 r
  s.setChain p key (if r.last then none else some none)

/-- One segment record of a flit in cell h (R19 step 3, R97). -/
def State.landSeg (s : State) (p cls h : Nat) (r : SegRec) : State :=
  if s.nCtx ≤ r.ctx ∨ s.idleContext r.ctx then s.sumpSeg p 9 r
  else
    let key := r.ctx * 4 + cls
    let good := r.gen == s.sliceGen (s.ctxSlice r.ctx)
    match s.openChain p key with
    | some none =>
      if r.first then (if good then s.openNew p cls key h r else s.staleSeg p key r none)
      else s.setChain p key (if r.last then none else some none)
    | some (some id) =>
      if !good then s.staleSeg p key r (some id)
      else if r.first then ((s.dropOpenChain id 5).linkCnt p 12).openNew p cls key h r
      else s.joinChain p key h id r
    | none =>
      if !good then s.staleSeg p key r none
      else if r.first then s.openNew p cls key h r
      else (s.sumpSeg p 5 r).linkCnt p 12

/-- The body of an accepted data flit lands whole in one cell (R154, R161): the cell holds one reference of its own until every
record has landed, so that a flit of which nothing stays gives its credit back at once. A flit that finds no cell goes to the sump. -/
def State.landBody (s : State) (p cls segn : Nat) (body : Bytes) : State :=
  let (recs, bad) := parseSegs segn 0 body
  let bad := bad || segn == 0
  let s := if bad then s.linkCnt p 11 else s
  if cls == 0 && decide (s.freeCells = 0 ∨ s.freeFds < (recs.filter (·.first)).length) then
    let r := recs.headD ⟨0, true, true, 0, [], 4⟩
    ((s.sumpSeg p 0xB r).raiseEvery 1000000 0x0504 0 0).detect 0x28 0
  else
    let (h, s) := s.takeCell p 1 cls
    let s := s.storeCell h 0 body
    let s := recs.foldl (fun s r => s.landSeg p cls h r) s
    ((s.releaseExt h).congestion).settle

/-! ## Losses (R98, R192) -/

/-- LOSS is set in the private area of a thread that holds frame id. -/
def Thread.markLoss (th : Thread) (id : Nat) : Thread :=
  if th.chain = some id then { th with mem := memSet th.mem 11 (memGet th.mem 11 ||| 2#8) } else th

/-- Every open ISO chain of link p is marked LOSS. -/
def State.markLoss (s : State) (p : Nat) : State :=
  ((s.link p).chains.filter (fun e => e.1 % 4 == 0)).foldl
    (fun s e =>
      match e.2 with
      | some id =>
        if (assocFind s.cis.frames id).isSome then
          let s := s.setFrame id { s.frame id with loss := true }
          { s with pumps := { s.pumps with threads := s.pumps.threads.map (fun (k : Nat × Thread) => (k.1, k.2.markLoss id)) } }
        else s
      | none => s) s

/-! ## The flit (R91 to R101, R111, R114) -/

/-- The class is one that R89 permits for the type. (DEDUCED, log 69) -/
def classOk (ftype cls : Nat) : Bool :=
  match ftype with
  | 0 => cls == 0 || cls == 2
  | 1 => decide (cls ≤ 2)
  | 2 => cls == 1
  | 3 => cls == 1
  | 4 => cls == 1
  | 5 => cls == 0
  | _ => false

/-- Where a record of a kind is carried and its LEN (R112, R434): flit type and length. -/
def kindForm (p kind : Nat) : Option (Nat × Nat) :=
  match kind with
  | 1 => some (3, 3)
  | 2 => some (3, 7)
  | 3 => some (3, 6)
  | 4 => some (2, 8)
  | 5 => some (2, 0)
  | 6 => some (2, 1)
  | 7 => some (2, 12)
  | 0x10 => if p = 0 then none else some (2, 4)
  | 0x11 => if p = 0 then none else some (2, 4)
  | 0x12 => if p = 0 then none else some (2, 10)
  | 0x13 => if p = 0 then none else some (2, 2)
  | 0x14 => if p = 0 then none else some (2, 1)
  | 0x15 => if p = 0 then none else some (2, 1)
  | _ => none

/-- The records of a control or swap-marker flit that may take effect, and whether the flit is malformed (R111). -/
def goodRecords (p ftype : Nat) (body : Bytes) : List (Nat × Bytes) × Bool :=
  let (l, bad) := parseRecords 124 body
  let ok := l.filter (fun r => kindForm p r.1 == some (ftype, r.2.length))
  (ok, bad || l.any (fun r => (kindForm p r.1).isSome && kindForm p r.1 != some (ftype, r.2.length)))

/-- A flit that was lost: every open ISO chain is marked (R98). -/
def State.lostFlit (s : State) (p i : Nat) : State := (s.linkCnt p i).markLoss p

/-- The slot of a good flit: the cycle it opens, the table it names, and the positions lost before it; the answer is their
number (R93, R114, R123). -/
def State.trackSlot (s : State) (p : Nat) (h : Header) : Nat × State :=
  let l := s.link p
  let lost := (h.slot + 1024 - l.rxSlot) % 1024
  if h.slot = 0 then
    let c := cycleAdd l.rxCycle 1
    let changed := p = 0 ∧ h.tbl != l.rxTbl ∧ c ≠ 0 ∧ !l.announced.contains (c, h.tbl)
    let s := s.setLink p { l with
      rxSlot := 1, rxCycle := c, rxTbl := h.tbl, tblAt := if h.tbl != l.rxTbl then some c else l.tblAt, isoSeen := false, announced := l.announced.filter (fun e => e.1 != c) }
    (lost, if changed then ((s.linkCnt p 13).raise 0x0304 0).detect 0x23 0 else s)
  else
    let s := s.setLink p { l with rxSlot := (h.slot + 1) % 1024 }
    (lost, if p = 0 ∧ h.tbl != l.rxTbl then s.linkCnt p 3 else s)

/-- Lost positions not shown to be retriable are counted as possible ISO losses (R98). -/
def State.countIsoLost (s : State) (p n : Nat) : State :=
  if n = 0 then s
  else
    let s := s.linkCntN p 4 n
    let l := s.link p
    if l.isoSeen then s
    else
      let s := s.setLink p { l with isoSeen := true }
      if p = 0 then s.raise 0x0306 0 else s

/-- The sequence check of R101: whether the flit is accepted, how many retriable flits it newly shows lost, and the state. A retriable flit
discarded for a gap was received: the flits behind it do not show it lost (R98). -/
def State.checkSequence (s : State) (p : Nat) (retriable : Bool) (lseq : Nat) : Bool × Nat × State :=
  let l := s.link p
  if retriable then
    let d := (lseq + 4096 - l.expect) % 4096
    if d = 0 then
      (true, 0, s.setLink p { l with
        expect := (l.expect + 1) % 4096, got := true, gap := l.gap - 1, nakDue := false, nakHeld := false })
    else if d ≤ 2047 then (false, d - l.gap, (s.setLink p { l with gap := max (d + 1) l.gap, nakDue := true }).linkCnt p 6)
    else (false, 0, s.linkCnt p 5)
  else
    let e := (lseq + 4097 - l.expect) % 4096
    if 1 ≤ e ∧ e ≤ 2047 then (false, e - l.gap, s.setLink p { l with gap := max e l.gap, nakDue := true })
    else (false, 0, s)

/-- The credit fields of a good flit (R92, R110). -/
def State.takeCredits (s : State) (p : Nat) (h : Header) : State :=
  let l := s.link p
  s.setLink p { l with est := assocMod 0 (h.ccls + 1) (fun e => (e + h.count) % 2 ^ 32) l.est }

/-- A CREDIT_SYNC record: each estimate becomes the larger value, modulo 2^32 (R110). -/
def State.creditSynced (s : State) (p ctl spo : Nat) : State :=
  let l := s.link p
  let larger := fun a b => if (b + 2 ^ 32 - a) % 2 ^ 32 < 2 ^ 31 then b else a
  s.setLink p { l with
    synced := true,
    est := assocMod 0 2 (fun e => larger e (spo % 2 ^ 32)) (assocMod 0 1 (fun e => larger e (ctl % 2 ^ 32)) l.est) }

/-- A standby or spare trunk: LSEQ and ASEQ are ignored until STBY_TAKE (R118). -/
def State.ignoresSeq (s : State) (p : Nat) : Bool := p == 0 && decide (2 ≤ s.trunk.role) && (s.link 0).stbyTake.isNone

/-- An accepted data flit of class CTL or SPO; a CTL flit of the trunk may give timing samples, unless it had been shown lost (R398). -/
def State.landRetriable (s : State) (p : Nat) (h : Header) (replayed : Bool) (body : Bytes) : State :=
  let l := s.link p
  let s := s.setLink p { l with taken := assocMod 0 h.cls (· + 1) l.taken }
  let s := if p = 0 ∧ h.cls = 1 then s.ptpGot h.lseq h.segn replayed body else s
  s.landBody p h.cls h.segn body

/-- What a flit that arrives on link p does, behind the decoder, which found it good or not: the state, the control records that
may take effect, and whether the flit was accepted in order. A quiet direction loses no flit positions (R68, R98). A training
flit takes no slot (R93). (DESIGN CHOICE, log 171) -/
def State.receiveFlit (s : State) (p : Nat) (raw : Bytes) (bad : Bool) : State × List (Nat × Bytes) × Bool :=
  let quiet := p = 0 ∧ s.rxQuiet
  let s := s.setLink p { s.link p with lastRx := s.hubTime }
  let h := parseHeader raw
  if bad then (s.markLoss p, [], false)
  else if crc8 (fit 8 raw) != 0 then ((s.lostFlit p 2).detect 0x1F 0, [], false)
  else if !classOk h.ftype h.cls then (if h.ftype = 0 then s.markLoss p else s.lostFlit p 3, [], false)
  else
    let body := slice raw 8 248
    let s := if s.ignoresSeq p then s else s.ackUpTo p h.aseq
    let s := s.takeCredits p h
    if h.ftype = 5 then (s, [], false)
    else
      let (lost, s) := s.trackSlot p h
      let retriable := h.ftype == 2 || (h.ftype == 1 && h.cls != 0)
      let replayed := decide (0 < (s.link p).gap)
      let (ok, shown, s) := if s.ignoresSeq p then (h.ftype != 1, 0, s) else s.checkSequence p retriable h.lseq
      let s := if quiet then s else s.countIsoLost p (lost - shown)
      match h.ftype with
      | 1 =>
        if h.cls = 0 then (s.landBody p 0 h.segn body, [], false)
        else if ok then (s.landRetriable p h replayed body, [], true)
        else (s, [], false)
      | 2 =>
        let (recs, bad) := goodRecords p 2 body
        ((if bad then s.linkCnt p 11 else s), recs, ok)
      | 3 =>
        let (recs, bad) := goodRecords p 3 body
        ((if bad then s.linkCnt p 11 else s), recs, false)
      | 4 => ((if p = 0 ∧ s.is CND_INJ_NAK_DROP then s else s.nakReceived p h.aseq), [], false)
      | _ => (s, [], false)

end Sys2Proof.Machine
end

