-- ==== Sys2Proof/Machine/Bridge.lean ====
section
/-! DEFINITION. The host bridge: tags, waiting requests, completions, delayed requests, the ordering mode, and message routing (R268 to R294). -/
namespace Sys2Proof.Machine

/-! ## Completions towards their requesters (R277, R283) -/

/-- The status code of a completion. -/
def cplCode : CplStatus → Nat
  | .ok => 0
  | .unsupported => 1
  | .abort => 2

/-- The completion status of a code. -/
def cplOf (st : Nat) : CplStatus := if st = 0 then .ok else if st = 1 then .unsupported else .abort

/-- The unit that stands for a requester on another hub: the hub, whether its tag is an upstream one, the generation its request carried,
the tag. -/
def remoteUnit (src : Nat) (up : Bool) (gen tag : Nat) : Nat := 65536 + src + 16 * up.toNat + 32 * gen + 8192 * tag

/-- The completion for it. It carries the generation of its request (R307). -/
def State.remoteCompletion (s : State) (unit st : Nat) (data : Bytes) : Fab :=
  let u := unit - 65536
  { kind := if u / 16 % 2 = 1 then .upCompletion else .completion, dest := u % 16, src := s.origin, gen := u / 32 % 256,
    code := st, tag := u / 8192, len := data.length, data := data }

/-- A delayed-read slot receives its completion, and its discard timer starts (R283). -/
def State.fillSlot (s : State) (i st : Nat) (data : Bytes) : State :=
  match assocFind s.brg.slots i with
  | some d =>
    if d.ans.isNone then
      { s with brg := { s.brg with slots := assocPut i { d with ans := some (cplOf st, data), since := s.hubTime } s.brg.slots } }
    else s
  | none => s

/-- The unit code of the OUT data that slot e of USB bus k fetches (R375). -/
def usbUnit (k e : Nat) : Nat := 1024 + 256 * k + e

/-- Fetched OUT data reaches its endpoint slot, or the fetch has failed (R375). -/
def State.gotOut (s : State) (n st : Nat) (data : Bytes) : State :=
  let b := assocGet {} s.usb (n / 256)
  let u := assocGet {} b.slots (n % 256)
  let u := if !u.asked then u else if st = 0 then { u with asked := false, buf := some data } else { u with asked := false, bad := true }
  { s with usb := assocSet {} (n / 256) { b with slots := assocSet {} (n % 256) u b.slots } s.usb }

/-- The completion of a request that a unit started: towards the host, into a delayed-read slot, to another hub, or to the unit. -/
def State.completeTo (s : State) (unit tag st : Nat) (data : Bytes) : State :=
  if unit = 0 then s.emit (.hostCpl tag st data)
  else if 65536 ≤ unit then s.sendFab (s.remoteCompletion unit st data)
  else if 4096 ≤ unit then s.fillSlot (unit - 4096) st data
  else if 1024 ≤ unit ∧ unit < 2048 then s.gotOut (unit - 1024) st data
  else s.emit (.cpl unit tag st data)

/-! ## Issuing downstream (R273, R275, R277, R280, R283) -/

/-- The tags of earlier non-posted writes through the same window. -/
def State.earlierWrites (s : State) (r : BrReq) : List Nat :=
  if r.write then []
  else match r.win with
    | some w => (s.brg.dn.filter (fun e => e.2.req.win == some w && e.2.req.write && e.2.st == .issued)).map (·.1)
    | none => []

/-- Window n is non-posted (R269, R273); in compatibility mode every window is posted (R276). -/
def State.nonPosted (s : State) (n : Nat) : Bool := !s.is BRG_CTRL_COMPAT && (n == 0 || s.is (BRG_WIN_CFG_WMODE n))

/-- R275. A read through a non-posted window behind a write that failed ends with Completer Abort: while WERR stands. (DEDUCED,
log 32) -/
def State.behindFailure (s : State) (win : Option Nat) : Bool :=
  match win with
  | some n => s.nonPosted n && s.is (BRG_WIN_STAT_WERR n)
  | none => false

/-- The ordering mode is DELAYED. -/
def State.delayed (s : State) : Bool := s.is BRG_ORD_MODE

/-- The member of this group that a request crossing a cascade link goes to first: member j for hub 8 + j, else the one that holds the
active trunk. -/
def State.nextMember (s : State) (hub : Nat) : Nat := if 8 ≤ hub then hub - 8 else s.get CAS_GRP_STAT_ACT

/-- A delayed request as it goes to its target member (R283): CODE bit 0 host memory, bit 1 a write, bit 2 a resend. A downstream request
has its tag as key, an upstream one 1,024 more. -/
def State.delayedFab (s : State) (key : Nat) (r : BrReq) (again : Bool) : Fab :=
  let up := decide (1024 ≤ key)
  { kind := .delayed, dest := s.memberHub (s.nextMember (if up then 1 else r.hub)), src := s.origin, slice := r.slice, gen := r.gen,
    space := r.space, win := if up ∨ 8 ≤ r.hub then 0 else r.hub,
    code := up.toNat + 2 * r.write.toNat + 4 * again.toNat, tag := key, len := r.len, addr := r.addr, data := r.data }

/-- This hub becomes the delayed requester of a request, and sends it for the first time (R283). -/
def State.sendDelayed (s : State) (key : Nat) (r : BrReq) : State :=
  { s with brg := { s.brg with reqs := assocPut key ⟨(s.wayTo (s.memberHub (s.nextMember r.hub))).getD 0, r, false⟩ s.brg.reqs } }.sendFab
    (s.delayedFab key r false)

/-- A tag of this hub leaves with its request. -/
def State.markGone (s : State) (t : Nat) : State :=
  match assocFind s.brg.dn t with
  | some g => { s with brg := { s.brg with dn := assocPut t { g with gone := true } s.brg.dn } }
  | none => s

/-- Sending a downstream request that holds tag t: to a root port of this hub or to another hub, where a write of the host is numbered in its
stream (R286). One for this hub's own space is carried out by `runLocal`. -/
def State.sendDn (s : State) (t : Nat) (r : BrReq) : State :=
  if r.hub = 0 then
    if 1 ≤ r.space ∧ r.space ≤ 2 ∧ !s.dock ∧ s.is (PCI_RP_STAT_LINK (r.space - 1)) then
      (s.markGone t).emit (.rootReq (r.space - 1) r.write r.addr r.len r.data t)
    else s
  else
    let s := s.markGone t
    let s := if r.write ∧ r.unit = 0 then (s.writeTag (r.win.getD 64)).2 else s
    if s.crossesCascade r.hub && s.delayed then s.sendDelayed t r
    else s.sendFab { kind := if r.write then .write else .read, dest := s.hubName r.hub, src := s.origin, slice := r.slice, gen := r.gen,
                     space := r.space, win := r.win.getD 0, tag := t, len := r.len, addr := r.addr, data := r.data }

/-- Two requests belong to one stream (R280): they come through one window, or from one requester. -/
def BrReq.sameStream (a b : BrReq) : Bool := a.win == b.win && (a.win.isSome || a.unit == b.unit)

/-- A request may start now: the ordering mode does not hold it, and no earlier one of its stream waits (R280, R281). -/
def State.mayStart (s : State) (before : List BrReq) (r : BrReq) : Bool :=
  !(s.is BRG_ORD_DRAIN && s.crossesCascade r.hub && !r.write) && !before.any (fun q => q.sameStream r)

/-- A request takes a tag of the downstream pool of 1,024 and is issued. -/
def State.takeDn (s : State) (t : Nat) (r : BrReq) : State :=
  let tag : Tag := ⟨.issued, r, s.earlierWrites r, !r.write && s.behindFailure r.win, none, s.hubTime, false⟩
  ({ s with brg := { s.brg with dn := assocPut t tag s.brg.dn } }).sendDn t r

/-- A non-posted request is issued, or waits (R277, R280, R281). (DESIGN CHOICE, log 47; DESIGN CHOICE, log 209) -/
def State.issueDn (s : State) (r : BrReq) : State :=
  match s.mayStart s.brg.dnWait r, freshKey s.brg.dn 0 1024 with
  | true, some t => s.takeDn t r
  | _, _ => { s with brg := { s.brg with dnWait := s.brg.dnWait ++ [r] } }

/-- The first waiting request that may start, and the others. -/
def State.startable (s : State) : List BrReq → List BrReq → Option (BrReq × List BrReq)
  | _, [] => none
  | before, r :: l => if s.mayStart before r then some (r, before ++ l) else s.startable (before ++ [r]) l

/-- Waiting requests take the tags that are free: at most k of them. -/
def State.drainDn (s : State) : Nat → State
  | 0 => s
  | k + 1 =>
    match s.startable [] s.brg.dnWait, freshKey s.brg.dn 0 1024 with
    | some (r, l), some t => (({ s with brg := { s.brg with dnWait := l } }).takeDn t r).drainDn k
    | _, _ => s

/-- A downstream tag becomes FREE (R277). -/
def State.freeDn (s : State) (t : Nat) : State :=
  let s := { s with brg := { s.brg with dn := assocDel t s.brg.dn, reqs := assocDel t s.brg.reqs } }
  s.drainDn s.brg.dnWait.length

/-! ## Issuing upstream (R268, R271, R277, R283, R286) -/

/-- The PASID bound to a slice, if it is bound (R271, R299). -/
def State.pasid (s : State) (sl : Nat) : Option Nat := if s.bound sl then some (s.get (SLC_BIND_PASID sl)) else none

/-- The pieces of n bytes from an address, none longer than m: at most k of them. -/
def pieces (addr n m : Nat) : Nat → List (Nat × Nat)
  | 0 => []
  | k + 1 => if n = 0 then [] else (addr, min n m) :: pieces (addr + m) (n - m) m k

/-- A read request leaves the endpoint, in pieces of at most the maximum read request size; its completion answers for all of
them. (DESIGN CHOICE, log 184) -/
def State.readOut (s : State) (t p : Nat) (r : BrReq) : State :=
  (pieces r.addr r.len (max 1 s.brg.ep.mrrs) (r.len + 1)).foldl (fun s e => s.emit (.upstream r.slice p false e.1 e.2 [] t)) s

/-- Upstream requests of this hub cross a cascade link: it is a zone hub without the active trunk. -/
def State.upCrosses (s : State) : Bool := !s.dock && s.crossesCascade 1

/-- A non-posted upstream request takes a tag and is issued, or waits (R271, R277): at the dock hub's endpoint, or across the trunk to it
(R281, R283). None leaves while the endpoint is in reset (R518). -/
def State.issueUp (s : State) (r : BrReq) : State :=
  if s.power.epReset then s.completeTo r.unit 0 1 []
  else match s.pasid r.slice with
  | none => (s.bump (BRG_CNT_COUNT 7)).completeTo r.unit 0 1 []
  | some p =>
    match freshKey s.brg.up 0 1024, s.upCrosses && s.is BRG_ORD_DRAIN with
    | some t, false =>
      let s := { s with brg := { s.brg with up := assocPut t ⟨.issued, r, [], false, none, s.hubTime, true⟩ s.brg.up } }
      if s.dock then s.readOut t p r
      else if s.upCrosses && s.delayed then s.sendDelayed (1024 + t) r
      else s.sendFab { kind := .upRead, dest := s.farHub, src := s.origin, slice := r.slice, gen := r.gen, tag := t, len := r.len,
                       addr := r.addr }
    | _, _ => { s with brg := { s.brg with upWait := s.brg.upWait ++ [r] } }

/-- A posted write leaves the endpoint in pieces of at most the maximum payload size, each with a write tag (R268, R286). -/
def State.writeOut (s : State) (sl p addr : Nat) (data : Bytes) : State :=
  (pieces addr data.length (max 1 s.brg.ep.mps) (data.length + 1)).foldl
    (fun s e =>
      let (t, s) := s.writeTag (128 + sl)
      s.emit (.upstream sl p true e.1 e.2 (slice data (e.1 - addr) e.2) t)) s

/-- A posted upstream write (R271, R286, R518): at the dock hub's endpoint, or across the trunk to it, whose link remembers it (R117,
R285). Poisoned data is discarded (R285). -/
def State.writeUp (s : State) (unit sl addr : Nat) (data : Bytes) (poisoned : Bool) : State :=
  if s.power.epReset then s.completeTo unit 0 1 []
  else match s.pasid sl with
  | none => (s.bump (BRG_CNT_COUNT 7)).completeTo unit 0 1 []
  | some p =>
    if poisoned ∨ !s.dock then
      let (t, s) := s.writeTag (128 + sl)
      let w : Posted := ⟨0, 0, sl, s.sliceGen sl, t, addr, s.origin⟩
      if poisoned then s.lostWrite 2 w
      else match s.pathOut with
        | none => s.lostWrite 5 w
        | some q => s.sendOn q { kind := .upWrite, dest := s.farHub, src := s.origin, slice := sl, gen := s.sliceGen sl, tag := t,
                                 len := data.length, addr := addr, data := data }
    else s.writeOut sl p addr data

/-- Waiting upstream requests take the tags that are free: at most k of them. -/
def State.drainUp (s : State) : Nat → State
  | 0 => s
  | k + 1 =>
    match s.brg.upWait, freshKey s.brg.up 0 1024, s.upCrosses && s.is BRG_ORD_DRAIN with
    | r :: l, some _, false => (({ s with brg := { s.brg with upWait := l } }).issueUp r).drainUp k
    | _, _, _ => s

/-- An upstream tag becomes FREE. -/
def State.freeUp (s : State) (t : Nat) : State :=
  let s := { s with brg := { s.brg with up := assocDel t s.brg.up, reqs := assocDel (1024 + t) s.brg.reqs } }
  s.drainUp s.brg.upWait.length

/-! ## Completions (R275, R277 to R279, R307) -/

/-- A tag without a write among those it waits for. -/
def Tag.without (g : Tag) (t : Nat) (failed : Bool) : Tag :=
  if g.after.contains t then { g with after := g.after.erase t, poisoned := g.poisoned || failed } else g

/-- A read whose completion has arrived, and which waits for no write, is passed to its requester; its tag becomes FREE. At most k
of them. -/
def State.passReads (s : State) : Nat → State
  | 0 => s
  | k + 1 =>
    match s.brg.dn.find? (fun e => e.2.st == .done && e.2.after.isEmpty) with
    | none => s
    | some (t, g) =>
      let (st, data) := match g.ans with
        | some (c, d) => if g.poisoned then (2, []) else (cplCode c, if c = .ok then d else [])
        | none => (2, [])
      let s := if g.poisoned then
          (match g.req.win with
          | some w => s.put (BRG_WIN_STAT_WERR w) 1
          | none => s)
        else s
      ((s.freeDn t).completeTo g.req.unit t st data).passReads k

/-- A non-posted write through a window ends: the reads behind it learn of it (R275). -/
def State.writeEnds (s : State) (t : Nat) (r : BrReq) (failed : Bool) : State :=
  let s := match failed, r.win with
    | true, some w => s.put (BRG_WIN_STAT_WERR w) 1
    | _, _ => s
  let s := { s with brg := { s.brg with dn := s.brg.dn.map (fun (e : Nat × Tag) => (e.1, e.2.without t failed)) } }
  s.passReads s.brg.dn.length

/-- A completion discarded by the generation check (R279, R307). -/
def State.dropStale (s : State) (sl : Nat) : State :=
  (s.bump (BRG_CNT_COUNT 6)).bump (SLC_GEN_DROP_COUNT sl)

/-- A completion for a downstream tag. What another hub has asked for is checked there (R307). -/
def State.completeDn (s : State) (t gen : Nat) (st : CplStatus) (data : Bytes) : State :=
  match assocFind s.brg.dn t with
  | none => s.bump (BRG_CNT_COUNT 6)
  | some g =>
    if gen != s.sliceGen g.req.slice && decide (g.req.unit < 65536) then
      let s := s.dropStale g.req.slice
      if g.st = .abandoned then s.freeDn t else s
    else
      match g.st with
      | .abandoned => (s.bump (BRG_CNT_COUNT 1)).freeDn t
      | .done => s
      | .issued =>
        if g.req.write then
          let s := if g.req.unit = 0 then s else s.completeTo g.req.unit t (cplCode st) []
          (s.freeDn t).writeEnds t g.req (st != .ok)
        else
          let s := { s with brg := { s.brg with
            dn := assocPut t { g with st := .done, ans := some (st, data) } s.brg.dn, reqs := assocDel t s.brg.reqs } }
          s.passReads s.brg.dn.length

/-- A completion for an upstream tag. -/
def State.completeUp (s : State) (t gen : Nat) (st : CplStatus) (data : Bytes) : State :=
  match assocFind s.brg.up t with
  | none => s.bump (BRG_CNT_COUNT 6)
  | some g =>
    if gen != s.sliceGen g.req.slice && decide (g.req.unit < 65536) then
      let s := s.dropStale g.req.slice
      if g.st = .abandoned then s.freeUp t else s
    else
      match g.st with
      | .abandoned => (s.bump (BRG_CNT_COUNT 1)).freeUp t
      | .done => s
      | .issued => (s.freeUp t).completeTo g.req.unit t (cplCode st) (if st = .ok then data else [])

/-- A requester stops resending its delayed request (R284, R309, R442). -/
def DrdReq.stop (d : DrdReq) : DrdReq := { d with stopped := true }

/-- A downstream tag in ISSUED is completed with Completer Abort and becomes ABANDONED (R278, R309). -/
def State.abandonDn (s : State) (t : Nat) : State :=
  match assocFind s.brg.dn t with
  | none => s
  | some g =>
    if g.st = .issued then
      let s := { s with brg := { s.brg with
        dn := assocPut t { g with st := .abandoned, since := s.hubTime } s.brg.dn,
        reqs := s.brg.reqs.map (fun (e : Nat × DrdReq) => if e.1 = t then (e.1, e.2.stop) else e) } }
      if g.req.write then
        let s := if g.req.unit = 0 then s else s.completeTo g.req.unit t 2 []
        s.writeEnds t g.req true
      else s.completeTo g.req.unit t 2 []
    else s

/-- An upstream tag becomes ABANDONED; its unit receives a status. -/
def State.abandonUp (s : State) (t st : Nat) : State :=
  match assocFind s.brg.up t with
  | none => s
  | some g =>
    if g.st = .issued then
      ({ s with brg := { s.brg with
        up := assocPut t { g with st := .abandoned, since := s.hubTime } s.brg.up,
        reqs := s.brg.reqs.map (fun (e : Nat × DrdReq) => if e.1 = 1024 + t then (e.1, e.2.stop) else e) } }).completeTo g.req.unit t st []
    else s

/-! ## Delayed requests (R283, R284, R448) -/

/-- The target has answered RETRY to the delayed request with this key: the requester keeps the request and its tag, and resends it on the
way as it stands. -/
def State.retried (s : State) (key : Nat) : State :=
  match assocFind s.brg.reqs key with
  | some d =>
    if d.stopped then s
    else
      let way := s.wayTo (s.memberHub (s.nextMember d.req.hub))
      { s with brg := { s.brg with reqs := assocPut key { d with port := way.getD d.port } s.brg.reqs } }
  | none => s

/-- R283. RETRY_ANSWER. -/
def execRetryAnswer (tag : Nat) (s : State) : Host.Outcome State Fault Refusal := .next (if s.running then s.retried tag else s)

/-- R283, R448. DELAYED_RESEND: the request goes out again on the way as it then stands. -/
def execDelayedResend (tag : Nat) (s : State) : Host.Outcome State Fault Refusal :=
  .next (match assocFind s.brg.reqs tag with
    | some d => if s.running && !d.stopped then s.sendFab (s.delayedFab tag d.req true) else s
    | none => s)

/-- Delayed-read slots in use, as BRG_ORD shows them. -/
def State.showSlots (s : State) : State := s.put BRG_ORD_SLOTS s.brg.slots.length

/-- A delayed-read slot is freed. -/
def State.freeSlot (s : State) (i : Nat) : State :=
  ({ s with brg := { s.brg with slots := assocDel i s.brg.slots } }).showSlots

/-- R284. DRD_TIMEOUT: a completion is still uncollected when DRD_TO expires. -/
def execDrdTimeout (slot : Nat) (s : State) : Host.Outcome State Fault Refusal :=
  .next (match assocFind s.brg.slots slot with
    | some d =>
      if s.running && d.ans.isSome && decide (d.since + s.get BRG_ORD_DRD_TO * 1000 ≤ s.hubTime) then
        let s := s.freeSlot slot
        let s := { s with brg := { s.brg with gone := assocPut (d.requester * 65536 + d.tag) s.hubTime s.brg.gone } }
        (s.bump (BRG_CNT_COUNT 2)).raise 0x0803 0
      else s
    | none => s)

/-- Reads that cross a cascade link are outstanding (R281). -/
def State.crossing (s : State) : Bool :=
  s.brg.dn.any (fun e => e.2.st == .issued && !e.2.req.write && s.crossesCascade e.2.req.hub) ||
    (s.upCrosses && s.brg.up.any (fun e => e.2.st == .issued))

/-- R285. LATE_FAULT_REPORT: the target hub reports a posted write that failed. -/
def execLateFaultReport (cause win sl gen tag addr : Nat) (s : State) : Host.Outcome State Fault Refusal :=
  .next (if s.running then s.lateFault ⟨addr, gen, sl % 64, tag % 1024, cause % 16, win % 64, s.hubTime⟩ else s)

/-! ## Messages (R287 to R292) -/

/-- The slice that owns vector v: the lowest-numbered whose range holds it (R296). -/
def State.vecOwner (s : State) (v : Nat) : Option Nat :=
  (List.range 64).find? (fun n =>
    decide (s.get (MSG_VEC_RANGE_BASE n) ≤ v ∧ v < s.get (MSG_VEC_RANGE_BASE n) + s.get (MSG_VEC_RANGE_COUNT n)))

/-- MSI-X vector v. -/
def State.vec (s : State) (v : Nat) : Vec := assocGet {} s.msix v

/-- Writing MSI-X vector v. -/
def State.setVec (s : State) (v : Nat) (x : Vec) : State := { s with msix := assocSet {} v x s.msix }

/-- Raising MSI-X vector v (R291). -/
def State.raiseVec (s : State) (v : Nat) : State :=
  let x := s.vec v
  if x.masked || s.brg.ep.mask || !s.brg.ep.msix then s.setVec v { x with pend := true } else s.emit (.msix v x.addr x.data)

/-- A message discarded and counted in MSG_CNT i. -/
def State.discardMsg (s : State) (i : Nat) : State := (s.bump (MSG_CNT_COUNT i)).discardNote

/-- The 24 bytes of a message (R290), first routed by the given slice, with the hops taken. -/
def Msg.body (m : Msg) (sl hops : Nat) : Bytes :=
  leBytes 8 m.time ++ leBytes 2 m.event ++ leBytes 2 m.inst ++ leBytes 2 (m.src % 4096 + hops * 4096) ++ leBytes 1 m.origin ++
    leBytes 1 (m.slice.getD sl) ++ leBytes 8 m.payload

/-- A message chain pends on context c (R290). (DESIGN CHOICE, log 50; DEDUCED, log 210) -/
def State.pendMessage (s : State) (m : Msg) (sl c : Nat) : State :=
  let (id, s) := s.landStream { data := m.body sl m.hops, stamp := s.hubTime, msg := true, ctx := c,
                                arg := m.event + m.inst * 65536 }
  s.pendChain id c

/-- The hub that a message for port 0 to 3 goes to: the peer, or the member at that cascade port (R288). -/
def State.messageHub (s : State) (p : Nat) : Nat := if p = 0 then s.farHub else s.memberHub (s.memberAt p)

/-- A message goes to another hub, in its transport: it names the source identifier there (R288, R290). -/
def State.sendMessage (s : State) (p sl tgt : Nat) (m : Msg) : State :=
  s.sendFab { kind := .message, dest := s.messageHub p, src := s.origin, slice := m.slice.getD sl, tag := tgt % 4096, len := 24,
              data := m.body sl (m.hops + 1) }

/-- A message reaches its entry (R288 to R291). -/
def State.deliver (s : State) (m : Msg) : State :=
  let e := m.entry
  let sl := s.get (MSG_RT_SLICE e)
  let tgt := s.get (MSG_RT_TARGET e)
  if !s.is (MSG_RT_EN e) then s.discardMsg 1
  else
    match s.get (MSG_RT_PORT e) with
    | 28 =>
      if s.dock then
        (if s.vecOwner (tgt % 2048) == some sl then (s.raiseVec (tgt % 2048)).bump (MSG_CNT_COUNT 0) else s.discardMsg 3)
      else s.discardMsg 2
    | 32 =>
      if !isSystem (tgt % 1024) && s.ctxSlice (tgt % 1024) == sl then
        (s.pendMessage m sl (tgt % 1024)).bump (MSG_CNT_COUNT 0)
      else s.discardMsg 3
    | p =>
      if 3 < p then s.discardMsg 2
      else if 4 ≤ m.hops then s.discardMsg 4
      else (s.sendMessage p sl tgt m).bump (MSG_CNT_COUNT 0)

/-- The message can be delivered now: one for another hub waits for a way to it (R291, R436). -/
def State.deliverable (s : State) (m : Msg) : Bool :=
  let p := s.get (MSG_RT_PORT m.entry)
  !s.is (MSG_RT_EN m.entry) || decide (3 < p) || (s.wayTo (s.messageHub p)).isSome

/-- R287 to R291. MESSAGE_DELIVERY: the oldest message that can be delivered. -/
def execMessageDelivery (s : State) : Host.Outcome State Fault Refusal :=
  .next (if !s.running then s
    else match s.msgs.find? s.deliverable with
      | some m => ({ s with msgs := s.msgs.erase m }).deliver m
      | none => s)

/-- A message arrives for a source identifier of this hub (R288, R289). -/
def State.takeMessage (s : State) (src : Nat) (body : Bytes) : State :=
  let e := src % 4096
  let sl := leAt body 15 1 % 64
  let m : Msg := ⟨leAt body 0 8, leAt body 8 2, leAt body 10 2, leAt body 12 2 % 4096, leAt body 12 2 / 4096, leAt body 14 1,
    some sl, leAt body 16 8, e, none⟩
  if !s.is (MSG_RT_EN e) then s.discardMsg 1
  else if s.get (MSG_RT_SLICE e) = sl ∨ s.get (MSG_RT_SLICE e) = 0 then s.queueMsg m
  else s.discardMsg 3

/-- R288, R289. REMOTE_MESSAGE_RECEIVE: a message arrives for source identifier `src` of this hub. -/
def execRemoteMessageReceive (src : Nat) (body : Bytes) (s : State) : Host.Outcome State Fault Refusal :=
  .next (if s.running then s.takeMessage src body else s)

/-- R288. A write of MSG_RT: one that names another port than R288 lists is ignored. `keep` keeps SLICE. -/
def State.routeWrite (s : State) (e v : Nat) (keep : Bool) : State :=
  let p := bits v 21 16
  if p = 32 ∨ p = 0 ∨ (1 ≤ p ∧ p ≤ 3 ∧ s.hasCascade) ∨ (p = 28 ∧ s.dock) then
    let s := ((s.put (MSG_RT_EN e) (bits v 31 31)).put (MSG_RT_PORT e) p).put (MSG_RT_TARGET e) (bits v 15 0)
    if keep then s else s.put (MSG_RT_SLICE e) (bits v 29 24)
  else s

/-- The word of MSG_RT entry e. -/
def State.routeWord (s : State) (e : Nat) : Nat :=
  s.get (MSG_RT_EN e) * 2 ^ 31 + s.get (MSG_RT_SLICE e) * 2 ^ 24 + s.get (MSG_RT_PORT e) * 2 ^ 16 + s.get (MSG_RT_TARGET e)

/-- A command on a channel other than 0 names an entry of another slice (R294). -/
def State.foreignEntry (s : State) (c : BktCmd) : Bool := c.ch != 0 && s.get (MSG_RT_SLICE (c.le 4 2)) != c.ch

/-- R294. MSG_RT_SET. A port that the variant does not have is ABSENT (R6, R25). -/
def cmdRtSet (c : BktCmd) (s : State) : BktStage × State :=
  let bad := decide (4095 < c.le 4 2)
  bktRun (s.bktCheck c (!s.portPresent (bits (c.le 8 4) 21 16)) bad (!bad && s.foreignEntry c) false false) s (fun s =>
    answerOk [] (s.routeWrite (c.le 4 2) (c.le 8 4) (c.ch != 0)))

/-- R294. MSG_RT_GET. -/
def cmdRtGet (c : BktCmd) (s : State) : BktStage × State :=
  let bad := decide (4095 < c.le 4 2)
  bktRun (s.bktCheck c false bad (!bad && s.foreignEntry c) false false) s (fun s =>
    answerOk (leBytes 4 (s.routeWord (c.le 4 2))) s)

end Sys2Proof.Machine
end

