-- ==== Sys2Proof/Machine/Usb.lean ====
section
/-! DEFINITION. The USB buses: ports, transfer rings, endpoint slots, transactions, resets and wake (R365 to R389). -/
namespace Sys2Proof.Machine

/-! ## Buses, slots and ports -/

/-- Bus k. -/
def State.bus (s : State) (k : Nat) : UsbBus := assocGet {} s.usb k
/-- Writing bus k. -/
def State.setBus (s : State) (k : Nat) (b : UsbBus) : State := { s with usb := assocSet {} k b s.usb }
/-- Endpoint slot e of bus k. -/
def State.slot (s : State) (k e : Nat) : UsbSlot := assocGet {} (s.bus k).slots e
/-- Writing it. -/
def State.setSlot (s : State) (k e : Nat) (u : UsbSlot) : State :=
  s.setBus k { s.bus k with slots := assocSet {} e u (s.bus k).slots }

/-- The slice that owns bus k. -/
def State.busSlice (s : State) (k : Nat) : Nat := s.get (USB_BUS_CFG_SLICE k)
/-- The state of a slot: 0 DISABLED, 1 RUNNING, 2 STOPPED, 3 HALTED (R377). -/
def State.slotSt (s : State) (k e : Nat) : Nat := s.get (USB_EP_STAT_STATE k e)
/-- The slot is LOCAL (R375). -/
def State.slotLocal (s : State) (k e : Nat) : Bool := s.is (USB_EP_STAT_MODE k e)
/-- The spout of a slot. -/
def State.slotPort (s : State) (k e : Nat) : Nat := s.get (USB_EP_STAT_PORT k e)
/-- Bus k runs. -/
def State.busOn (s : State) (k : Nat) : Bool := s.running && decide (k < 4) && s.is (USB_BUS_CFG_EN k)

/-- Spout p is assigned to bus k (R368). -/
def State.mapped (s : State) (k p : Nat) : Bool := s.is (USB_SPT_MAP_EN p) && s.get (USB_SPT_MAP_BUS p) == k

/-- A bit of a port status word (R381): 0 CONN, 1 EN, 2 SUSP, 3 OC, 4 RESET, 5 POWER, 16 CSC, 17 PEC, 18 SSC, 19 OCC, 20 RSTC,
21 RWC. -/
def State.portBit (s : State) (k p i : Nat) : Bool := bit (s.get (USB_PORTSC_STATUS k p)) i
/-- Setting or clearing it. -/
def State.setPort (s : State) (k p i : Nat) (v : Bool) : State :=
  s.put (USB_PORTSC_STATUS k p) (setBit (s.get (USB_PORTSC_STATUS k p)) i v)
/-- The speed code of a port. -/
def State.portSpeed (s : State) (k p v : Nat) : State :=
  (s.setPort k p 6 (bit v 0)).setPort k p 7 (bit v 1)

/-! ## The event ring (R374) -/

/-- The event ring of bus k is full against the consumer index. (DESIGN CHOICE, log 127) -/
def State.ringFull (s : State) (k : Nat) : Bool :=
  let b := s.bus k
  (b.prod + 1) % s.get (USB_EVR_SIZE_SIZE k) == b.cons

/-- A record as written with its cycle bit: 16 bytes. -/
def cycled (c : Bool) (r : Bytes) : Bytes :=
  r.take 12 ++ [(r.getD 12 0#8) ||| BitVec.ofNat 8 c.toNat] ++ r.drop 13

/-- The engine cannot reach its rings: an islanded zone hub (R385). -/
def State.ringsAway (s : State) : Bool := s.islanded && !s.dock

/-- No record can be written now: the ring is full, or it is out of reach. -/
def State.ringShut (s : State) (k : Nat) : Bool := s.ringFull k || s.ringsAway

/-- Event 0x0C01, at most once in a microframe. -/
def State.tellRecords (s : State) (k : Nat) : State :=
  let b := s.bus k
  if b.told then s else (s.setBus k { b with told := true }).raise 0x0C01 k

/-- Writing one record into the ring; one with IOC or of a failure tells the host. (DEDUCED, log 128) -/
def State.pushRecord (s : State) (k : Nat) (r : Bytes) (tell : Bool) : State :=
  let b := s.bus k
  let base := s.get (USB_EVR_LO_ADDR k) + 2 ^ 32 * s.get (USB_EVR_HI_ADDR k)
  let next := b.prod + 1
  let wrap := decide (s.get (USB_EVR_SIZE_SIZE k) ≤ next)
  let s := s.setBus k { b with prod := if wrap then 0 else next, evCyc := b.evCyc != wrap }
  let s := s.writeUp (32 + k) (s.busSlice k) (base + 16 * b.prod) (cycled b.evCyc r) false
  if tell then s.tellRecords k else s

/-- A record is due: written, or held while the ring is full or out of reach; one beyond 16 is lost. -/
def State.record (s : State) (k : Nat) (r : Bytes) (tell : Bool) : State :=
  let b := s.bus k
  if s.ringShut k || !b.held.isEmpty then
    let s := if b.held.isEmpty && s.ringFull k then s.raise 0x0C04 k else s
    let b := s.bus k
    if b.held.length < 16 then s.setBus k { b with held := b.held ++ [(r, tell)] } else s
  else s.pushRecord k r tell

/-- Writing held records while there is space: at most n of them. -/
def State.flushHeld (s : State) (k : Nat) : Nat → State
  | 0 => s
  | n + 1 =>
    let b := s.bus k
    match b.held with
    | [] => s
    | r :: l => if s.ringShut k then s else ((s.setBus k { b with held := l }).pushRecord k r.1 r.2).flushHeld k n

/-- The bytes of a record: address, residual, status, kind, slot, port. -/
def usbRecord (addr residual status kind slot port : Nat) : Bytes :=
  leBytes 8 addr ++ leBytes 4 (residual % 65536 + status * 2 ^ 24) ++ leBytes 4 (kind * 2 + slot * 256 + port * 65536)

/-- A transfer record of slot e about a descriptor (R374): status and residual. One that ends SHORT is no failing one. (DEDUCED,
log 200) -/
def State.transferRecord (s : State) (k e : Nat) (d : Desc) (residual status : Nat) : State :=
  let s := s.put (USB_EP_STAT_LAST k e) status
  s.record k (usbRecord d.addr residual status 1 e (s.slotPort k e)) (bit d.ctrl 1 || (status != 1 && status != 2))

/-- A command record. -/
def State.commandRecord (s : State) (k : Nat) (d : Desc) (status : Nat) : State :=
  s.record k (usbRecord d.addr 0 status 2 (bits d.ctrl 31 24) (bits d.ctrl 23 20)) (bit d.ctrl 1 || status != 1)

/-- The port-change record of port p, which clears the change bits that it carries; they stand while no further record can be held. -/
def State.portRecord (s : State) (k p : Nat) : State :=
  let w := s.get (USB_PORTSC_STATUS k p)
  if w / 65536 = 0 ∨ 16 ≤ (s.bus k).held.length then s
  else
    let s := s.put (USB_PORTSC_STATUS k p) (w % 65536)
    (s.record k (usbRecord w 0 0 3 0 p) false).raise 0x0C02 p

/-! ## Slots -/

/-- The residual length of the head descriptor. -/
def UsbSlot.residual (u : UsbSlot) (d : Desc) : Nat := d.len % 65536 - u.moved

/-- The data of slot e's next OUT packet is given up; a fetch of it counts as abandoned. -/
def State.dropBuf (s : State) (k e : Nat) : State :=
  let n := usbUnit k e
  let s := s.setSlot k e { s.slot k e with buf := none, asked := false, bad := false }
  let up := s.brg.up.map (fun (x : Nat × Tag) =>
    if x.2.req.unit = n ∧ x.2.st = .issued then (x.1, { x.2 with st := .abandoned, since := s.hubTime }) else x)
  { s with brg := { s.brg with up := up, upWait := s.brg.upWait.filter (fun r => r.unit != n) } }

/-- The LOCAL OUT frame of a slot is given up: the sump takes it. -/
def State.dropOut (s : State) (k e : Nat) : State :=
  let u := s.slot k e
  match u.out with
  | some id =>
    let s := s.setSlot k e { u with out := none, zlp := false }
    (s.dropCells (some u.well) id).sumpFrom (some u.well) id 9
  | none => s

/-- A slot becomes DISABLED with ADDR 0; the descriptor in progress completes with a status, the rest is dropped (R370, R382). -/
def State.disableSlot (s : State) (k e status : Nat) : State :=
  let u := s.slot k e
  let s := match u.q with
    | d :: _ => if s.slotSt k e = 1 ∧ status ≠ 0 then s.transferRecord k e d (u.residual d) status else s
    | [] => s
  let s := ((s.dropOut k e).dropBuf k e).setSlot k e {}
  (s.put (USB_EP_STAT_STATE k e) 0).put (USB_EP_STAT_ADDR k e) 0

/-- A slot halts (R377): a record with the cause, event 0x0C03. -/
def State.haltSlot (s : State) (k e status : Nat) : State :=
  let u := s.slot k e
  let s := s.put (USB_EP_STAT_STATE k e) 3
  let s := match u.q with
    | d :: _ => s.transferRecord k e d (u.residual d) status
    | [] => s.transferRecord k e ⟨0, 0, 0, 0⟩ 0 status
  let s := s.dropBuf k e
  let u := s.slot k e
  let s := s.setSlot k e { u with
    q := u.q.drop 1, moved := 0, begun := false, gather := [], errs := 0, split := false }
  s.raise 0x0C03 (k * 256 + e)

/-- The slots of bus k that are not DISABLED and stand on port p. -/
def State.slotsOn (s : State) (k p : Nat) : List Nat :=
  ((s.bus k).slots.map (·.1)).filter (fun e => s.slotSt k e != 0 && s.slotPort k e == p)

/-- Every slot of port p becomes DISABLED with a status. -/
def State.disablePort (s : State) (k p status : Nat) : State :=
  (s.slotsOn k p).foldl (fun s e => s.disableSlot k e status) s

/-! ## Commands of the ring -/

/-- The command at the head of bus k's command ring, when it is of a type and is to be executed now. (DEDUCED, log 132) -/
def State.command (s : State) (k type : Nat) : Option Desc :=
  let b := s.bus k
  match b.cmds with
  | d :: _ => if s.busOn k && !b.cmdHalt && bits d.ctrl 13 8 == type then some d else none
  | [] => none

/-- The head command completes with a status. -/
def State.endCommand (s : State) (k status : Nat) : State :=
  let b := s.bus k
  match b.cmds with
  | [] => s
  | d :: l => (s.setBus k { b with cmds := l, cmdBusy := false }).commandRecord k d status

/-- A command of a type naming a slot or a port takes effect when it stands at the head and is not under way. -/
def State.runCommand (s : State) (k type : Nat) (pick : Desc → Bool) (f : State → Nat × State) : State :=
  match s.command k type with
  | some d =>
    if pick d && !(s.bus k).cmdBusy then
      let (st, s) := f s
      s.endCommand k st
    else s
  | none => s

/-- The command names slot e. -/
def onSlot (e : Nat) (d : Desc) : Bool := bits d.ctrl 31 24 == e && e != 0
/-- The command names port p. -/
def onPort (p : Nat) (d : Desc) : Bool := bits d.ctrl 23 20 == p

/-- The command at the head is marked as under way: it completes later. -/
def State.holdCommand (s : State) (k : Nat) : State := s.setBus k { s.bus k with cmdBusy := true }

/-- Another LOCAL OUT slot of any bus names well w. -/
def State.wellNamed (s : State) (k e w : Nat) : Bool :=
  [0, 1, 2, 3].any (fun k' => (s.bus k').slots.any (fun x =>
    !(k' == k && x.1 == e) && s.slotSt k' x.1 != 0 && s.slotLocal k' x.1 && !x.2.dirIn && x.2.well == w))

/-- An endpoint record with its fields clamped (R373). -/
def epSlot (r : Bytes) : UsbSlot :=
  { deq := leAt r 0 8 / 16 * 16, cyc := bit (leAt r 0 1) 0, kind := bits (leAt r 9 1) 6 5, dirIn := bit (leAt r 9 1) 4,
    mps := min (bits (leAt r 10 2) 10 0) 1024, addl := min (bits (leAt r 10 2) 12 11) 2,
    speed := bits (leAt r 12 1) 5 4, interval := min (leAt r 13 1) 15, ttHub := leAt r 14 1, ttPort := leAt r 15 1,
    ctx := bits (leAt r 16 2) 9 0, well := bits (leAt r 18 2) 8 0, maxlen := clampNat 1 16380 (leAt r 20 4) }

/-- The status of EP_CONFIG. -/
def State.epCheck (s : State) (k e : Nat) (r : Bytes) : Nat :=
  let u := epSlot r
  let loc := bit (leAt r 9 1) 7
  let sl := s.busSlice k
  if s.slotSt k e = 1 then 0x0C
  else if loc && (decide (s.nCtx ≤ u.ctx) || s.ctxSlice u.ctx != sl || isSystem u.ctx || s.get (WEL_CFG_SLICE u.well) != sl) then 0x0E
  else if !s.mapped k (bits (leAt r 12 1) 3 0) then 0x0E
  else if loc && !u.dirIn && (s.wellNamed k e u.well || s.get (WEL_CFG_PORT u.well) != 31) then 0x0D
  else 1

/-- R373. EP_CONFIG. -/
def execEpConfig (k e : Nat) (r : Bytes) (s : State) : Host.Outcome State Fault Refusal :=
  .next (s.runCommand k 0x10 (onSlot e) (fun s =>
    let st := s.epCheck k e r
    if st = 1 then
      let s := (s.dropOut k e).setSlot k e (epSlot r)
      let s := ((s.put (USB_EP_STAT_STATE k e) 2).put (USB_EP_STAT_MODE k e) (leAt r 9 1 / 128)).put (USB_EP_STAT_ADDR k e) (leAt r 8 1)
      (1, (s.put (USB_EP_STAT_EPNUM k e) (leAt r 9 1 % 16)).put (USB_EP_STAT_PORT k e) (leAt r 12 1 % 16))
    else (st, s)))

/-- R372. EP_DISABLE. -/
def execEpDisable (k e : Nat) (s : State) : Host.Outcome State Fault Refusal :=
  .next (s.runCommand k 0x11 (onSlot e) (fun s =>
    if s.slotSt k e = 0 then (0x0C, s)
    else
      let addr := s.get (USB_EP_STAT_ADDR k e)
      (1, (s.disableSlot k e 0x0A).put (USB_EP_STAT_ADDR k e) addr)))

/-- R377. EP_RESET. -/
def execEpReset (k e : Nat) (s : State) : Host.Outcome State Fault Refusal :=
  .next (s.runCommand k 0x12 (onSlot e) (fun s =>
    if s.slotSt k e = 3 then
      (1, (s.put (USB_EP_STAT_STATE k e) 2).setSlot k e { s.slot k e with toggle := false, errs := 0, ping := false, split := false })
    else (0x0C, s)))

/-- R372. EP_STOP: a descriptor in transfer is reported and stays at the head. (DEDUCED, log 135) -/
def execEpStop (k e : Nat) (s : State) : Host.Outcome State Fault Refusal :=
  .next (s.runCommand k 0x13 (onSlot e) (fun s =>
    if s.slotSt k e = 1 then
      let u := s.slot k e
      let s := s.put (USB_EP_STAT_STATE k e) 2
      match u.q with
      | d :: _ => if 0 < u.moved then (1, s.transferRecord k e d (u.residual d) 0x0A) else (1, s)
      | [] => (1, s)
    else (0x0C, s)))

/-- R372. SET_DEQ. -/
def execSetDeq (k e param : Nat) (s : State) : Host.Outcome State Fault Refusal :=
  .next (s.runCommand k 0x14 (fun d => onSlot e d && d.param == param) (fun s =>
    if s.slotSt k e = 2 ∨ s.slotSt k e = 3 then
      let s := s.dropBuf k e
      (1, s.setSlot k e { s.slot k e with
        deq := param / 16 * 16, cyc := bit param 0, fetching := false, q := [], moved := 0, begun := false })
    else (0x0C, s)))

/-- R379. TT_CLEAR: the non-periodic buffer of a slot in the translator of a standpipe port. -/
def execTtClear (k e p : Nat) (s : State) : Host.Outcome State Fault Refusal :=
  .next (s.runCommand k 0x1A (fun d => onSlot e d && onPort p d) (fun s =>
    let u := s.slot k e
    if s.slotSt k e ≠ 0 ∧ s.slotPort k e = p ∧ u.ttHub = 0 ∧ (u.kind = 0 ∨ u.kind = 2) then
      (1, s.setSlot k e { u with split := false })
    else (1, s)))

/-! ## Resets (R382) -/

/-- SE0 starts on port p: its transfers end with BUS_RESET. -/
def State.startReset (s : State) (k p : Nat) : State :=
  let s := s.disablePort k p 6
  let b := s.bus k
  let off := fun m => setBit m p false
  let s := s.setBus k { b with suspending := off b.suspending, hostResume := off b.hostResume, wakeResume := off b.wakeResume }
  (((s.setPort k p 4 true).setPort k p 1 false).setPort k p 2 false).emit (.usb k 1 p [])

/-- R382. PORT_RESET. -/
def execPortReset (k p : Nat) (s : State) : Host.Outcome State Fault Refusal :=
  .next (match s.command k 0x15 with
    | some d =>
      if onPort p d && !(s.bus k).cmdBusy then
        (if s.portBit k p 0 then (s.startReset k p).holdCommand k else s.endCommand k 0x0C)
      else s
    | none => s)

/-- R382. BUS_RESET: PORT_RESET on every port of the bus that holds a device. -/
def execBusReset (k : Nat) (s : State) : Host.Outcome State Fault Refusal :=
  .next (match s.command k 0x1B with
    | some _ =>
      if (s.bus k).cmdBusy then s
      else
        let ps := (List.range 16).filter (fun p => s.portBit k p 0)
        if ps.isEmpty then s.endCommand k 1 else (ps.foldl (fun s p => s.startReset k p) s).holdCommand k
    | none => s)

/-- A command under way ends when what it waits for has ended. -/
def State.finishCommand (s : State) (k type : Nat) (pick : Desc → Bool) (ended : Bool) (st : Nat) : State :=
  match s.command k type with
  | some d => if (s.bus k).cmdBusy && pick d && ended then s.endCommand k st else s
  | none => s

/-- The reset of port p has ended, as far as the commands are concerned. -/
def State.resetEnded (s : State) (k p st : Nat) : State :=
  let s := s.finishCommand k 0x15 (onPort p) true st
  s.finishCommand k 0x1B (fun _ => true) (!(List.range 16).any (fun p => s.portBit k p 4)) 1

/-- R382. PORT_RESET_END. -/
def execPortResetEnd (k p speed : Nat) (s : State) : Host.Outcome State Fault Refusal :=
  .next (if s.busOn k && decide (p < 16) && s.portBit k p 4 then
    let s := (((s.setPort k p 4 false).setPort k p 1 true).portSpeed k p speed).setPort k p 20 true
    (s.portRecord k p).resetEnded k p 1
  else s)

/-! ## Suspend and wake (R383, R384) -/

/-- Ports on their way to suspend. -/
def State.suspend (s : State) (k : Nat) (ps : List Nat) : State :=
  let b := s.bus k
  s.setBus k { b with suspending := ps.foldl (fun m p => setBit m p true) b.suspending }

/-- R383. PORT_SUSPEND. -/
def execPortSuspend (k p : Nat) (s : State) : Host.Outcome State Fault Refusal :=
  .next (s.runCommand k 0x16 (onPort p) (fun s =>
    if s.portBit k p 1 && !s.portBit k p 2 then (1, s.suspend k [p]) else (0x0C, s)))

/-- R383. BUS_SUSPEND. -/
def execBusSuspend (k : Nat) (s : State) : Host.Outcome State Fault Refusal :=
  .next (s.runCommand k 0x18 (fun _ => true) (fun s =>
    if s.is (USB_BUS_STAT_SUSP k) then (0x0C, s)
    else
      let ps := (List.range 16).filter (fun p => s.portBit k p 1 && !s.portBit k p 2)
      let s := (s.suspend k ps).put (USB_BUS_STAT_RUN k) 0
      let s := s.setBus k { s.bus k with byBus := ps.foldl (fun m p => setBit m p true) 0 }
      (1, s.put (USB_BUS_STAT_SUSP k) 1)))

/-- R383. SUSPEND_IDLE: 3 ms of idle on port p. -/
def execSuspendIdle (k p : Nat) (s : State) : Host.Outcome State Fault Refusal :=
  .next (if s.busOn k && decide (p < 16) && bit (s.bus k).suspending p then
    let b := s.bus k
    (((s.setBus k { b with suspending := setBit b.suspending p false }).setPort k p 2 true).setPort k p 18 true).emit (.usb k 3 p [])
  else s)

/-- A resume is driven on ports: by the host, or after a remote wake. -/
def State.driveResume (s : State) (k : Nat) (host : Bool) (ps : List Nat) : State :=
  let b := s.bus k
  let on := fun m => ps.foldl (fun m p => setBit m p true) m
  let s := s.setBus k (if host then { b with hostResume := on b.hostResume } else { b with wakeResume := on b.wakeResume })
  ps.foldl (fun s p => s.emit (.usb k 2 p [])) s

/-- A remote wake of the present microframe: its resume has begun and its record is still to come (R384). -/
def State.freshWake (s : State) (k p : Nat) : Bool := bit (s.bus k).wakeResume p && s.portBit k p 21

/-- R384. The host resume wins over the remote wakes of the same microframe: the running resumes become its own. -/
def State.winResume (s : State) (k : Nat) (ps : List Nat) : State :=
  if ps.any (s.freshWake k) then
    let b := s.bus k
    s.setBus k { b with hostResume := ps.foldl (fun m p => setBit m p true) b.hostResume,
                        wakeResume := ps.foldl (fun m p => setBit m p false) b.wakeResume }
  else s

/-- A resume of either kind runs on port p. -/
def State.resuming (s : State) (k p : Nat) : Bool := bit (s.bus k).hostResume p || bit (s.bus k).wakeResume p

/-- R383, R384. PORT_RESUME. -/
def execPortResume (k p : Nat) (s : State) : Host.Outcome State Fault Refusal :=
  .next (match s.command k 0x17 with
    | some d =>
      if onPort p d && !(s.bus k).cmdBusy then
        (if s.resuming k p then (s.winResume k [p]).holdCommand k
        else if s.portBit k p 2 then (s.driveResume k true [p]).holdCommand k
        else s.endCommand k 0x0C)
      else s
    | none => s)

/-- R383, R384. BUS_RESUME. -/
def execBusResume (k : Nat) (s : State) : Host.Outcome State Fault Refusal :=
  .next (match s.command k 0x19 with
    | some _ =>
      if (s.bus k).cmdBusy then s
      else if !s.is (USB_BUS_STAT_SUSP k) then s.endCommand k 0x0C
      else
        let ps := bitList (s.bus k).byBus 16
        if ps.any (s.resuming k) then (s.winResume k ps).holdCommand k
        else if ps.isEmpty then ((s.put (USB_BUS_STAT_SUSP k) 0).put (USB_BUS_STAT_RUN k) 1).endCommand k 1
        else (s.driveResume k true ps).holdCommand k
    | none => s)

/-- R383. RESUME_END: 20 ms of K on port p, then a low-speed EOP. -/
def execResumeEnd (k p : Nat) (s : State) : Host.Outcome State Fault Refusal :=
  .next (if s.busOn k && decide (p < 16) && s.resuming k p then
    let b := s.bus k
    let s := s.setBus k { b with
      hostResume := setBit b.hostResume p false, wakeResume := setBit b.wakeResume p false,
      suspending := setBit b.suspending p false, byBus := setBit b.byBus p false }
    let s := ((s.setPort k p 2 false).setPort k p 18 true).portRecord k p
    let ended := s.is (USB_BUS_STAT_SUSP k) && (s.bus k).byBus == 0
    let s := if ended then (s.put (USB_BUS_STAT_SUSP k) 0).put (USB_BUS_STAT_RUN k) 1 else s
    (s.finishCommand k 0x17 (onPort p) true 1).finishCommand k 0x19 (fun _ => true) ended 1
  else s)

/-- R383, R384. REMOTE_WAKE. -/
def execRemoteWake (k p : Nat) (s : State) : Host.Outcome State Fault Refusal :=
  .next (if s.busOn k && decide (p < 16) && s.portBit k p 2 then
    let s := s.setPort k p 21 true
    if s.resuming k p then s
    else if s.is (USB_BUS_STAT_SUSP k) && bit (s.bus k).byBus p then s.driveResume k false (bitList (s.bus k).byBus 16)
    else s.driveResume k false [p]
  else s)

/-! ## POWER and connection (R368 to R370) -/

/-- A device leaves port p. (DESIGN CHOICE, log 133) -/
def State.unplug (s : State) (k p : Nat) : State :=
  let s := s.disablePort k p 8
  let b := s.bus k
  let off := fun m => setBit m p false
  let s := s.setBus k { b with
    suspending := off b.suspending, hostResume := off b.hostResume, wakeResume := off b.wakeResume, byBus := off b.byBus }
  let was := s.portBit k p 0
  let s := (((s.setPort k p 0 false).setPort k p 1 false).setPort k p 2 false).setPort k p 4 false
  let s := if was then s.setPort k p 16 true else s
  s.resetEnded k p 0x0C

/-- The conditions of POWER on port p of bus k (R369). -/
def State.powerDue (s : State) (k p : Nat) : Bool :=
  let source := s.is (SPT_STAT_PWR_ROLE p)
  s.mapped k p && s.is (USB_BUS_CFG_EN k) &&
    (s.get (SPT_STAT_STATE p) == 6 || s.get (SPT_STAT_STATE p) == 7) && s.is (SPT_STAT_DATA_ROLE p) &&
    (if source then s.is (HSW_STAT_PG p) else (assocGet {} s.spouts p).vbus)

/-- A held write of USB_SPT_MAP applies: PEND shows 0 (R368). The held word stands in the latch store. -/
def State.applyMap (s : State) (p : Nat) : State :=
  if s.is (USB_SPT_MAP_PEND p) then
    let v := assocGet 0 s.latch (USB_SPT_MAP_EN p).addr
    let s := { s with latch := assocDel (USB_SPT_MAP_EN p).addr s.latch }
    ((s.put (USB_SPT_MAP_PEND p) 0).put (USB_SPT_MAP_EN p) (bits v 31 31)).put (USB_SPT_MAP_BUS p) (v % 4)
  else s

/-- POWER of spout p's port on bus k follows its conditions; its return ends the over-current of a trip. (DESIGN CHOICE, log
199) -/
def State.powerOn (s : State) (k p : Nat) : State :=
  let due := s.powerDue k p
  let has := s.portBit k p 5
  if due && !has then (s.setPort k p 5 true).setPort k p 3 false
  else if !due && has then ((s.setPort k p 5 false).unplug k p).applyMap p
  else s

/-- R369. Something on which POWER of spout p depends has changed. -/
def State.usbPower (s : State) (p : Nat) : State :=
  let s := (List.range 4).foldl (fun s k => s.powerOn k p) s
  (List.range 4).foldl (fun s k => s.powerOn k p) s

/-- R369. A trip of spout p's controller. -/
def State.usbTrip (s : State) (p : Nat) : State :=
  (List.range 4).foldl
    (fun s k => if s.is (USB_BUS_CFG_EN k) && s.mapped k p then (s.setPort k p 3 true).setPort k p 19 true else s) s

/-- R370. USB_CONNECT_CHANGE. -/
def execUsbConnectChange (k p : Nat) (conn : Bool) (speed : Nat) (s : State) : Host.Outcome State Fault Refusal :=
  .next (if s.busOn k && decide (p < 16) && s.portBit k p 5 then
    if conn then
      (if s.portBit k p 0 then s else ((s.setPort k p 0 true).portSpeed k p speed).setPort k p 16 true)
    else s.unplug k p
  else s)

/-- The engine of bus k starts (R366). (DESIGN CHOICE, log 129) -/
def State.startBus (s : State) (k : Nat) : State :=
  let cmd := s.get (USB_CMD_LO_ADDR k) + 2 ^ 32 * s.get (USB_CMD_HI_ADDR k)
  let s := s.setBus k { cmdDeq := cmd / 16 * 16, cmdCyc := bit cmd 0 }
  let s := (s.put (USB_BUS_CFG_EN k) 1).put (USB_BUS_STAT_RUN k) 1
  (List.range 16).foldl State.usbPower s

/-- The engine of bus k stops: its ports lose POWER. (DESIGN CHOICE, log 136) -/
def State.stopBus (s : State) (k : Nat) : State :=
  let s := s.put (USB_BUS_CFG_EN k) 0
  let s := (List.range 16).foldl State.usbPower s
  let s := ((s.bus k).slots.map (·.1)).foldl (fun s e => s.disableSlot k e 0) s
  let s := s.setBus k {}
  (((s.put (USB_BUS_STAT_RUN k) 0).put (USB_BUS_STAT_SUSP k) 0).put (USB_BUS_STAT_ISL_STOP k) 0).put (USB_BUS_STAT_GATED k) 0

/-- A write of USB_BUS_CFG that passed its checks (R366, R389). -/
def State.busCfg (s : State) (k v : Nat) : State :=
  let on := bit v 31
  let was := s.is (USB_BUS_CFG_EN k)
  let s := if was then s else s.put (USB_BUS_CFG_SLICE k) (bits v 29 24)
  if on && !was && s.bound (s.busSlice k) then s.startBus k
  else if !on && was then s.stopBus k
  else s

/-- A write of USB_SPT_MAP that passed its checks (R368): held while the port has POWER. -/
def State.sptMap (s : State) (p v : Nat) : State :=
  if s.nSpouts ≤ p then s
  else if s.portBit (s.get (USB_SPT_MAP_BUS p)) p 5 then
    ({ s with latch := assocPut (USB_SPT_MAP_EN p).addr (v % 2 ^ 32) s.latch }).put (USB_SPT_MAP_PEND p) 1
  else ((s.put (USB_SPT_MAP_EN p) (bits v 31 31)).put (USB_SPT_MAP_BUS p) (v % 4)).usbPower p

/-! ## Doorbells and descriptors (R371, R372) -/

/-- The TYPE belongs to the ring that holds it. -/
def typeKnown (command : Bool) (t : Nat) : Bool := if command then decide (0x10 ≤ t ∧ t ≤ 0x1B) else decide (1 ≤ t ∧ t ≤ 5)

/-- A read of descriptors is issued upstream. -/
def State.fetchFrom (s : State) (k addr : Nat) : State :=
  s.issueUp ⟨none, 32 + k, s.busSlice k, s.sliceGen (s.busSlice k), false, 0, 0, addr, 16, []⟩

/-- A read that unit 32 + k has open at an address, with a tag or waiting for one. -/
def State.fetchOpen (s : State) (k addr : Nat) : Bool :=
  s.brg.up.any (fun e => e.2.req.unit == 32 + k && e.2.req.addr == addr && e.2.st == .issued) ||
    s.brg.upWait.any (fun r => r.unit == 32 + k && r.addr == addr)

/-- Slot e's OUT data for its next packet is fetched from the buffer (R375). (DESIGN CHOICE, log 201) -/
def State.askOut (s : State) (k e : Nat) : State :=
  let u := s.slot k e
  match u.q with
  | [] => s
  | d :: _ =>
    let type := bits d.ctrl 13 8
    let n := min (max u.mps 1) (d.len % 65536 - u.moved)
    let out := if u.kind = 0 then !bit d.ctrl 3 else !u.dirIn
    if s.slotSt k e == 1 && !s.slotLocal k e && out && typeKnown false type && type != 2 && decide (0 < n) && u.buf.isNone &&
        !u.asked && !u.bad then
      (s.setSlot k e { u with asked := true }).issueUp
        ⟨none, usbUnit k e, s.busSlice k, s.sliceGen (s.busSlice k), false, 0, 0, d.param + u.moved, n, []⟩
    else s

/-- The command ring's doorbell has moved. A fetch that failed is made again. -/
def State.ringCommand (s : State) (k : Nat) : State :=
  let b := s.bus k
  if (b.cmdFetching && s.fetchOpen k b.cmdDeq) || b.cmdHalt then s else (s.setBus k { b with cmdFetching := true }).fetchFrom k b.cmdDeq

/-- The doorbell of slot e has moved: fetching starts, and a STOPPED slot with something to do runs (R377). (DESIGN CHOICE, log
134) -/
def State.ringSlot (s : State) (k e : Nat) : State :=
  let u := s.slot k e
  let st := s.slotSt k e
  if st = 0 ∨ st = 3 then s
  else if s.slotLocal k e then s.put (USB_EP_STAT_STATE k e) 1
  else
    let s := if st = 2 ∧ !u.q.isEmpty then s.put (USB_EP_STAT_STATE k e) 1 else s
    let s := s.askOut k e
    let u := s.slot k e
    if u.fetching && s.fetchOpen k u.deq then s else (s.setSlot k e { u with fetching := true }).fetchFrom k u.deq

/-- The engine reads its command doorbell and its consumer index alone, each 1 ms: its bus is suspended, or it is gated (R371, R387). -/
def State.slowPoll (s : State) (k : Nat) : Bool := s.is (USB_BUS_STAT_SUSP k) || s.is (USB_BUS_STAT_GATED k)

/-- The held records go out where there is space, and the port changes of the microframe after them. -/
def State.writeRecords (s : State) (k : Nat) : State :=
  let s := s.flushHeld k 16
  let s := if s.ringFull k && !(s.bus k).held.isEmpty then s.raise 0x0C04 k else s
  (List.range 16).foldl (fun s p => if bit (s.bus k).hostResume p then s else s.portRecord k p) s

/-- R371. DOORBELL_POLL: a microframe with the doorbell array as read, or the 1 ms poll of a suspended or gated bus. While the
ring host is out of reach the microframe passes and nothing is read (R385). (DESIGN CHOICE, log 130) -/
def execDoorbellPoll (k : Nat) (arr : Bytes) (s : State) : Host.Outcome State Fault Refusal :=
  .next (if s.busOn k then
    let slow := s.slowPoll k
    let s := s.setBus k { s.bus k with told := false }
    let s := if slow then s else s.put (USB_BUS_STAT_FRINDEX k) (s.get (USB_BUS_STAT_FRINDEX k) + 1)
    let reads := !s.ringsAway && (s.pasid (s.busSlice k)).isSome
    let s := if reads then s.setBus k { s.bus k with cons := leAt arr 256 4 % s.get (USB_EVR_SIZE_SIZE k) } else s
    let s := s.writeRecords k
    if !reads || s.ringFull k then s
    else
      let moved := (List.range (if slow then 1 else 256)).filter
        (fun e => leAt arr e 1 != assocGet 0 (s.bus k).db e)
      moved.foldl (fun s e =>
        let s := s.setBus k { s.bus k with db := assocSet 0 e (leAt arr e 1) (s.bus k).db }
        if e = 0 then s.ringCommand k else s.ringSlot k e) s
  else s)

/-- A 16-byte descriptor at an address. -/
def toDesc (addr : Nat) (b : Bytes) : Desc := ⟨addr, leAt b 0 8, leAt b 8 4, leAt b 12 4⟩

/-- Reading descriptors in ring order: those that are valid, the next address, the cycle state, and whether an invalid one was
met. -/
def takeDescs (addr : Nat) (cyc : Bool) : List Bytes → List Desc × Nat × Bool × Bool
  | [] => ([], addr, cyc, false)
  | b :: l =>
    let d := toDesc addr b
    if bit d.ctrl 0 != cyc then ([], addr, cyc, true)
    else if bits d.ctrl 13 8 = 6 then takeDescs (d.param / 16 * 16) (cyc != bit d.ctrl 1) l
    else
      let (ds, r) := takeDescs (addr + 16) cyc l
      (d :: ds, r)

/-- The tag of a read that unit 32 + k has outstanding at an address. -/
def State.fetchTag (s : State) (k addr : Nat) : Option Nat :=
  (s.brg.up.find? (fun e => e.2.req.unit == 32 + k && e.2.req.addr == addr && e.2.st == .issued)).map (·.1)

/-- R372. DESCRIPTOR_FETCH_DONE: descriptors from the address that the ring reads, ring 0 the command ring. A further read follows
unless an invalid one ends them. -/
def execDescriptorFetchDone (k ring : Nat) (descs : List Bytes) (s : State) : Host.Outcome State Fault Refusal :=
  .next (if !s.busOn k || s.ringsAway then s
  else if ring = 0 then
    let b := s.bus k
    match b.cmdFetching, s.fetchTag k b.cmdDeq with
    | true, some t =>
      let s := s.freeUp t
      let (ds, deq, cyc, stop) := takeDescs b.cmdDeq b.cmdCyc descs
      let b := s.bus k
      let s := s.setBus k { b with cmds := b.cmds ++ ds, cmdDeq := deq, cmdCyc := cyc, cmdFetching := false }
      if stop || descs.isEmpty || s.ringFull k then s else s.ringCommand k
    | _, _ => s
  else
    let u := s.slot k ring
    match u.fetching, s.fetchTag k u.deq with
    | true, some t =>
      let s := s.freeUp t
      let (ds, deq, cyc, stop) := takeDescs u.deq u.cyc descs
      let u := s.slot k ring
      let q := u.q ++ ds
      let s := s.setSlot k ring { u with q := q, deq := deq, cyc := cyc, fetching := false }
      let s := if s.slotSt k ring = 2 ∧ !q.isEmpty ∧ u.isl = 0 then s.put (USB_EP_STAT_STATE k ring) 1 else s
      let s := s.askOut k ring
      if stop || descs.isEmpty || s.ringFull k || s.slotSt k ring == 3 then s else s.ringSlot k ring
    | _, _ => s)

/-- R372. RING_ERR: the head of a ring is a descriptor of unknown TYPE. (DEDUCED, log 131) -/
def execRingErr (k ring : Nat) (s : State) : Host.Outcome State Fault Refusal :=
  .next (if !s.busOn k then s
  else if ring = 0 then
    match (s.bus k).cmds with
    | d :: _ =>
      if !(s.bus k).cmdHalt && !typeKnown true (bits d.ctrl 13 8) then
        (s.setBus k { s.bus k with cmdHalt := true }).endCommand k 0x0F
      else s
    | [] => s
  else
    match (s.slot k ring).q with
    | d :: _ => if s.slotSt k ring == 1 && !typeKnown false (bits d.ctrl 13 8) then s.haltSlot k ring 0x0F else s
    | [] => s)

/-! ## Transactions (R375 to R380) -/

/-- The head descriptor ends with a status: its record, and the next one. -/
def State.endDesc (s : State) (k e status : Nat) : State :=
  let u := s.slot k e
  match u.q with
  | [] => s
  | d :: l =>
    let s := if status ≠ 1 ∨ bit d.ctrl 1 then s.transferRecord k e d (u.residual d) status else s
    s.setSlot k e { s.slot k e with q := l, moved := 0, begun := bit d.ctrl 2, split := false, errs := 0 }

/-- Isochronous data of context c found no cell: it goes to the sump with cause NOCELL (R161, R176). -/
def State.usbNoCell (s : State) (c : Nat) (d : Bytes) : State :=
  let s := (s.bump (WEL_SUMP_CNT_COUNT 0xB)).capture 3 none 31 0xB { data := d, ctx := c, src := 31, port := 31 }
  (s.raiseEvery 1000000 0x0504 0 0).detect 0x28 0

/-- A frame of USB data lands on port 31 for a context (R375); its context may dispatch it at 256 landed bytes (R209). -/
def State.landUsb (s : State) (c stamp : Nat) (d : Bytes) : State :=
  let (id, s) := s.landStream { data := d, stamp := stamp, src := 31, port := 31, ctx := c, gen := s.sliceGen (s.ctxSlice c),
                                early := s.is (CTX_CFG_EARLY c) && decide (256 < d.length) }
  (s.pendChain id c).settle

/-- A LOCAL IN transfer ends: its frame lands on the record's context. Isochronous data that finds no cell is discarded, and a header
with status DATA_BUF stands for it where that finds one (R376). -/
def State.endGather (s : State) (k e status : Nat) : State :=
  let u := s.slot k e
  let stamp := if u.gather.isEmpty then s.hubTime else u.since
  let head := fun st => leBytes 1 k ++ leBytes 1 e ++ leBytes 1 st ++ leBytes 1 (if u.kind = 1 then 1 else 0)
  let s := s.setSlot k e { u with gather := [] }
  if s.noRoom (4 + u.gather.length) then
    let s := s.usbNoCell u.ctx (head status ++ u.gather)
    if s.noRoom 4 then s else s.landUsb u.ctx stamp (head 9)
  else s.landUsb u.ctx stamp (head status ++ u.gather)

/-- The engine sends no IN token to non-isochronous slot e: port 31 is back-pressured, or what would land finds no room (R161, R166, R376).
-/
def State.inHeld (s : State) (k e n : Nat) : Bool :=
  let u := s.slot k e
  u.kind != 1 && (s.backPressured 31 || s.noRoom (4 + u.gather.length + n))

/-- Data received on slot e (R375 to R377). -/
def State.dataIn (s : State) (k e : Nat) (d : Bytes) (short : Bool) : State :=
  let u := s.slot k e
  let u := { u with errs := 0, toggle := !u.toggle, split := false, begun := true }
  if s.slotLocal k e then
    let g := u.gather ++ d
    let ended := decide (u.maxlen ≤ g.length)
    let s := s.setSlot k e { u with gather := g.take u.maxlen, since := if u.gather.isEmpty then s.hubTime else u.since }
    if short || ended then s.endGather k e (if short && !ended then 2 else 1) else s
  else
    match u.q with
    | [] => s
    | t :: _ =>
      let len := t.len % 65536
      let d := d.take (len - u.moved)
      let s := s.setSlot k e { u with moved := u.moved + d.length }
      let lost := !d.isEmpty && s.noRoom d.length
      let s := if d.isEmpty then s else if lost then s.usbNoCell (2 + k) d else s.landUsb (2 + k) s.hubTime d
      let done := decide (len ≤ u.moved + d.length)
      if lost then s.endDesc k e 9
      else if short && !done then s.endDesc k e 2
      else if done || short then s.endDesc k e 1
      else s

/-- The data packet that slot e sends next: of its frame, of a SETUP descriptor, or as fetched from the buffer. -/
def State.outPacket (s : State) (k e : Nat) : Bytes :=
  let u := s.slot k e
  if s.slotLocal k e then u.out.elim [] (fun id => slice (s.frame id).data u.moved (max u.mps 1))
  else match u.q with
    | d :: _ => if bits d.ctrl 13 8 = 2 then leBytes 8 d.param else u.buf.getD []
    | [] => []

/-- Data sent on slot e was accepted. -/
def State.dataOut (s : State) (k e : Nat) (ping : Bool) : State :=
  let u := s.slot k e
  let s := s.emit (.usb k 0 e (s.outPacket k e))
  let u := { u with errs := 0, toggle := !u.toggle, split := false, begun := true, ping := ping, buf := none }
  if s.slotLocal k e then
    match u.out with
    | none => s.setSlot k e u
    | some id =>
      let len := (s.frame id).data.length
      let moved := u.moved + min (max u.mps 1) (len - u.moved)
      if u.moved < len ∧ moved < len then s.setSlot k e { u with moved := moved }
      else if u.moved < len ∧ 0 < len ∧ len % max u.mps 1 = 0 then s.setSlot k e { u with moved := moved, zlp := true }
      else
        let s := s.setSlot k e { u with moved := 0, begun := false, zlp := false, out := none }
        (s.sentFrame (some u.well) id).settle
  else
    match u.q with
    | [] => s
    | t :: _ =>
      let len := if bits t.ctrl 13 8 = 2 then 8 else t.len % 65536
      let moved := u.moved + min (max u.mps 1) (len - u.moved)
      let s := s.setSlot k e { u with moved := moved }
      if len ≤ moved then s.endDesc k e 1 else s

/-- A transaction error on slot e (R377, R380). -/
def State.usbError (s : State) (k e : Nat) : State :=
  let u := s.slot k e
  let s := s.bump (USB_CNT_COUNT k 0)
  if u.kind = 1 then
    let s := s.setSlot k e { u with moved := 0 }
    if s.slotLocal k e then s.endGather k e 4 else s.endDesc k e 4
  else if 3 ≤ u.errs + 1 then (s.haltSlot k e 4).detect 0x37 k
  else s.setSlot k e { u with errs := u.errs + 1, split := false }

/-- A NAK-like answer: nothing moved and no error. -/
def State.usbNak (s : State) (k e : Nat) (ping : Bool) : State :=
  let u := s.slot k e
  s.setSlot k e { u with errs := 0, ping := ping, split := false }

/-- The direction of the transaction under way on slot e is IN. -/
def State.slotIn (s : State) (k e : Nat) : Bool :=
  let u := s.slot k e
  match u.kind, u.q with
  | 0, d :: _ => bit d.ctrl 3 && bits d.ctrl 13 8 != 2
  | _, _ => u.dirIn

/-- High-speed bulk or control endpoints use PING (R378). -/
def UsbSlot.pings (u : UsbSlot) : Bool := u.speed == 2 && (u.kind == 0 || u.kind == 2)

/-- Slot e has what its next OUT packet takes: no PING stands before it (R378), and a buffer's data is fetched. -/
def State.outReady (s : State) (k e : Nat) : Bool :=
  let u := s.slot k e
  !s.slotIn k e && !(u.pings && u.ping) &&
    (s.slotLocal k e || u.buf.isSome || u.q.head?.any (fun d => bits d.ctrl 13 8 == 2 || d.len % 65536 == 0))

/-- The two non-periodic buffers of the standpipe's translator on slot e's port are busy with other slots (R379). -/
def State.ttFull (s : State) (k e : Nat) : Bool :=
  let periodic := fun (u : UsbSlot) => u.kind == 1 || u.kind == 3
  let u := s.slot k e
  u.ttHub == 0 && !periodic u && decide (2 ≤ ((s.bus k).slots.filter (fun x =>
    x.1 != e && x.2.split && x.2.ttHub == 0 && !periodic x.2 && s.slotPort k x.1 == s.slotPort k e)).length)

/-- What the result of a transaction does on a running slot. -/
def State.usbResult (s : State) (k e : Nat) (r : UsbResult) : State :=
  let u := s.slot k e
  match r with
  | .inData d short =>
    if !s.slotIn k e || s.inHeld k e d.length then s
    else if (s.bus k).inj then (s.setBus k { s.bus k with inj := false }).usbError k e
    else s.dataIn k e d (short || decide (d.length < u.mps))
  | .ack => if s.outReady k e then s.dataOut k e false else s
  | .nyet =>
    let s := s.bump (USB_CNT_COUNT k 2)
    if s.outReady k e then s.dataOut k e u.pings else s
  | .nak => s.usbNak k e (u.pings && !s.slotIn k e)
  | .pingAck => if u.ping then s.setSlot k e { u with ping := false, errs := 0 } else s
  | .pingNak => s.usbNak k e true
  | .stall => s.haltSlot k e 3
  | .babble =>
    let p := s.slotPort k e
    let s := (s.haltSlot k e 5).bump (USB_CNT_COUNT k 3)
    ((s.setPort k p 1 false).setPort k p 17 true).detect 0x38 k
  | .error => s.usbError k e
  | .missed =>
    if u.kind = 1 then
      let s := s.bump (USB_CNT_COUNT k 1)
      if s.slotLocal k e then s.endGather k e 7 else (s.setSlot k e { u with moved := 0 }).endDesc k e 7
    else if u.kind = 3 then s.usbError k e
    else s
  | .splitAck => if s.ttFull k e then s.usbNak k e u.ping else s.setSlot k e { u with split := true, begun := true }
  | .splitNyet => s.bump (USB_CNT_COUNT k 2)

/-- Slot e has a transaction to run. -/
def State.slotBusy (s : State) (k e : Nat) : Bool :=
  let u := s.slot k e
  if s.slotLocal k e then u.dirIn || u.out.isSome
  else match u.q with
    | d :: _ => typeKnown false (bits d.ctrl 13 8)
    | [] => false

/-- R377 to R380. USB_TRANSACTION_RESULT. A descriptor whose OUT data could not be fetched ends with DATA_BUF. A result for a
RING endpoint stopped for islanding counts only as an interval overtaken (R385). (DESIGN CHOICE, log 201) -/
def execUsbTransactionResult (k e : Nat) (r : UsbResult) (s : State) : Host.Outcome State Fault Refusal :=
  .next (let p := s.slotPort k e
  if s.busOn k && s.portBit k p 1 && !s.portBit k p 2 && !s.portBit k p 4 then
    if s.slotSt k e == 1 && (s.slot k e).bad then
      (s.setSlot k e { s.slot k e with bad := false }).endDesc k e 9 |>.askOut k e
    else if s.slotSt k e == 1 && s.slotBusy k e then (s.usbResult k e r).askOut k e
    else if (s.slot k e).isl == 1 && r == .missed && (s.slot k e).kind == 1 then
      ((s.setSlot k e { s.slot k e with isl := 2 }).put (USB_EP_STAT_STATE k e) 3).raise 0x0C03 (k * 256 + e)
    else s
  else s)

/-! ## Islanding and slice reset (R385, R386) -/

/-- A RING slot stops for islanding. -/
def State.islandSlot (s : State) (k e : Nat) : State :=
  let u := s.slot k e
  let s := if s.slotLocal k e || s.slotSt k e != 1 then s else s.dropBuf k e
  let u := { u with buf := none, asked := false, bad := false }
  if s.slotLocal k e || s.slotSt k e != 1 then s
  else if u.begun then
    ((s.setSlot k e { u with isl := 2, split := false }).put (USB_EP_STAT_STATE k e) 3).raise 0x0C03 (k * 256 + e)
  else (s.setSlot k e { u with isl := 1 }).put (USB_EP_STAT_STATE k e) 2

/-- R385. The hub is islanded: the RING endpoints of a zone hub stop. -/
def State.usbIsland (s : State) : State :=
  if s.dock then s
  else (List.range 4).foldl (fun s k =>
    if s.is (USB_BUS_CFG_EN k) then
      ((((s.bus k).slots.map (·.1)).foldl (fun s e => s.islandSlot k e) s).put (USB_BUS_STAT_ISL_STOP k) 1).raise 0x0C05 k
    else s) s

/-- A RING slot when the trunk returns. -/
def State.unislandSlot (s : State) (k e : Nat) : State :=
  let u := s.slot k e
  if u.isl = 2 then
    let s := s.setSlot k e { u with isl := 0 }
    let s := s.transferRecord k e ((u.q.head?).getD ⟨u.deq, 0, 0, 0⟩) ((u.q.head?).elim 0 u.residual) 0x0B
    s.setSlot k e { s.slot k e with q := u.q.drop 1, moved := 0, begun := false }
  else if u.isl = 1 then ((s.setSlot k e { u with isl := 0 }).put (USB_EP_STAT_STATE k e) 1).askOut k e
  else s

/-- R385. The trunk has returned. -/
def State.usbReturn (s : State) : State :=
  (List.range 4).foldl (fun s k =>
    if s.is (USB_BUS_STAT_ISL_STOP k) then
      ((s.bus k).slots.map (·.1)).foldl (fun s e => s.unislandSlot k e) ((s.put (USB_BUS_STAT_ISL_STOP k) 0).flushHeld k 16)
    else s) s

/-- R386. A reset of the slice that owns bus k. -/
def State.usbSliceReset (s : State) (sl : Nat) : State :=
  (List.range 4).foldl (fun s k =>
    if s.busSlice k = sl ∧ s.is (USB_BUS_CFG_EN k) then
      let s := ((s.bus k).slots.map (·.1)).foldl (fun s e =>
        if s.slotSt k e = 0 then s
        else
          let s := s.dropBuf k e
          let u := s.slot k e
          (s.setSlot k e { u with q := [], fetching := false, moved := 0, begun := false, split := false, gather := [], isl := 0 }).put
            (USB_EP_STAT_STATE k e) 3) s
      let cmd := s.get (USB_CMD_LO_ADDR k) + 2 ^ 32 * s.get (USB_CMD_HI_ADDR k)
      s.setBus k { s.bus k with
        cmdDeq := cmd / 16 * 16, cmdCyc := bit cmd 0, cmdFetching := false, cmds := [], cmdBusy := false, cmdHalt := false,
        prod := 0, evCyc := true, held := [] }
    else s) s

/-- R312, R366. A bus of a removed slice returns to slice 0 with EN 0. -/
def State.usbSliceRemove (s : State) (sl : Nat) : State :=
  (List.range 4).foldl (fun s k =>
    if s.busSlice k = sl ∧ sl ≠ 0 then
      (if s.is (USB_BUS_CFG_EN k) then s.stopBus k else s).put (USB_BUS_CFG_SLICE k) 0
    else s) s

/-! ## Port 31's wells (R375) -/

/-- Well n is the OUT well of a LOCAL slot. -/
def State.usbWell (s : State) (n : Nat) : Option (Nat × Nat) :=
  let l := [0, 1, 2, 3].flatMap (fun k => (s.bus k).slots.filterMap (fun x =>
    if s.slotSt k x.1 != 0 && s.slotLocal k x.1 && !x.2.dirIn && x.2.well == n then some (k, x.1) else none))
  l.head?

/-- Well n may hand its head to its slot now. -/
def State.usbWellReady (s : State) (n : Nat) : Bool :=
  match s.usbWell n with
  | some (k, e) => s.slotSt k e == 1 && (s.slot k e).out.isNone
  | none => true

end Sys2Proof.Machine
end

