-- ==== Sys2Proof/Machine/Display.lean ====
section
/-! DEFINITION. The display engine: intake of line records, scan-out, underruns, timing commits and outputs (R413 to R427). -/
namespace Sys2Proof.Machine

/-! ## Layers (R414, R419) -/

/-- Layer l. -/
def State.layer (s : State) (l : Nat) : Layer := assocGet {} s.dsp.layers l
/-- Writing layer l. -/
def State.setLayer (s : State) (l : Nat) (x : Layer) : State :=
  { s with dsp := { s.dsp with layers := assocSet {} l x s.dsp.layers } }

/-- The PPS of layer l: 128 bytes of tank 2. (PRESUMED, log 140) -/
def State.pps (s : State) (l : Nat) : Bytes := s.tankRead 2 (s.get (DSP_LYR_AUX_AUX l) * 64) 128

/-- Slices per line and chunk size of a PPS. -/
def ppsSlices (p : Bytes) : Nat := beAt p 8 2 / max 1 (beAt p 12 2)
/-- The chunk size. -/
def ppsChunk (p : Bytes) : Nat := beAt p 14 2

/-- A PPS within the scope of R414: 8 bits per component, RGB input, 6 to 12 bits per pixel, 1 to 8 slices per line, no native
4:2:2 or 4:2:0. -/
def ppsOk (p : Bytes) : Bool :=
  let bpp := beAt p 4 2 % 1024
  beAt p 3 1 / 16 == 8 && bit (beAt p 4 1) 4 && !bit (beAt p 4 1) 3 && decide (96 ≤ bpp ∧ bpp ≤ 192) &&
    decide (1 ≤ ppsSlices p ∧ ppsSlices p ≤ 8) && beAt p 88 1 % 4 == 0

/-- The line bytes of layer l. -/
def State.lineBytes (s : State) (l : Nat) : Nat :=
  let w := s.get (DSP_LYR_SIZE_W l)
  match s.get (DSP_LYR_CFG_FMT l) with
  | 0 => 4 * w
  | 1 => 3 * w
  | 2 => 2 * w
  | 3 => w
  | 4 => 2 * w
  | 5 => ppsSlices (s.pps l) * ppsChunk (s.pps l)
  | _ => 0

/-- A scale field as a factor. -/
def scale (v : Nat) : Nat := 2 ^ min v 2

/-- R419. A write of EN = 1 to layer l is refused. -/
def State.layerRefused (s : State) (l : Nat) : Bool :=
  let base := s.get (DSP_LYR_RING_BASE l) * 64
  let lines := s.get (DSP_LYR_RING_LINES l)
  let stride := s.get (DSP_LYR_STRIDE_STRIDE l)
  decide (1048576 < base + lines * stride) || decide (stride < s.lineBytes l) || decide (6 ≤ s.get (DSP_LYR_CFG_FMT l)) ||
    (s.get (DSP_LYR_CFG_FMT l) == 5 && !ppsOk (s.pps l)) ||
    (s.is (DSP_LYR_CFG_STATIC l) && decide (lines < s.get (DSP_LYR_SIZE_H l)))

/-- A write of DSP_LYR_CFG of layer l that passed its checks (R419, R427). -/
def State.layerCfg (s : State) (l v : Nat) : State :=
  let was := s.is (DSP_LYR_CFG_EN l)
  let s := if was then s
    else
      let s := ((s.put (DSP_LYR_CFG_STATIC l) (bits v 30 30)).put (DSP_LYR_CFG_SLICE l) (bits v 29 24)).put (DSP_LYR_CFG_FMT l) (bits v 22 20)
      (s.put (DSP_LYR_CFG_HSCL l) (min (bits v 19 18) 2)).put (DSP_LYR_CFG_VSCL l) (min (bits v 17 16) 2)
  let s := (s.put (DSP_LYR_CFG_ISL l) (min (bits v 15 14) 2)).put (DSP_LYR_CFG_ALPHA l) (v % 256)
  if !bit v 31 then (s.put (DSP_LYR_CFG_EN l) 0).put (DSP_LYR_STAT_ON l) 0
  else if was then s
  else if s.layerRefused l then s.put (DSP_LYR_STAT_CFGERR l) 1
  else (s.put (DSP_LYR_CFG_EN l) 1).setLayer l {}

/-! ## Intake (R417 to R419) -/

/-- A record goes to the sump with cause DROP. -/
def State.sumpRecord (s : State) (sl : Nat) (d : Bytes) : State :=
  if d.isEmpty then s
  else (s.bump (WEL_SUMP_CNT_COUNT 6)).capture 3 none 30 6 { data := d, src := 30, port := 30, slice := sl }

/-- The slot number of line y in layer l. -/
def State.slotOf (s : State) (l y : Nat) : Nat := y % max 1 (s.get (DSP_LYR_RING_LINES l))

/-- Writing a record's data into its slot. -/
def State.storeLine (s : State) (l y off : Nat) (d : Bytes) : State :=
  s.tankWrite 2 (s.get (DSP_LYR_RING_BASE l) * 64 + s.slotOf l y * s.get (DSP_LYR_STRIDE_STRIDE l) + off) d

/-- Replacing a slot of layer l. -/
def State.setLineSlot (s : State) (l i : Nat) (x : Option LineSlot) : State :=
  let y := s.layer l
  s.setLayer l { y with slots := match x with
    | some x => assocPut i x y.slots
    | none => assocDel i y.slots }

/-- A record that R417 lets through: accepted under R418 and R419, or the counter that counts it: 1 DROPS, 2 OVERRUN. On a complete line
of a static layer OFFSET 0 always starts a rewrite. -/
def State.acceptLine (s : State) (l y off : Nat) (d : Bytes) : Nat × State :=
  let i := s.slotOf l y
  let n := s.lineBytes l
  let slot := assocFind (s.layer l).slots i
  if s.is (DSP_LYR_CFG_STATIC l) then
    let old := match slot with
      | some x => if x.line = y then x else ⟨y, 0, false, none⟩
      | none => ⟨y, 0, false, none⟩
    if !old.whole then
      if off ≠ old.landed then (1, s)
      else
        let k := old.landed + d.length
        (0, (s.storeLine l y off d).setLineSlot l i (some ⟨y, k, decide (k = n), none⟩))
    else
      match old.redo with
      | some c =>
        if off ≠ c ∧ off ≠ 0 then (1, s)
        else if off = 0 then
          (0, (s.storeLine l y off d).setLineSlot l i (some { old with redo := if d.length = n then none else some d.length }))
        else
          let k := c + d.length
          (0, (s.storeLine l y off d).setLineSlot l i (some { old with redo := if k = n then none else some k }))
      | none =>
        if off ≠ 0 then (1, s)
        else
          (0, (s.storeLine l y off d).setLineSlot l i (some { old with redo := if d.length = n then none else some d.length }))
  else
    match slot with
    | none =>
      if off ≠ 0 then (1, s)
      else (0, (s.storeLine l y off d).setLineSlot l i (some ⟨y, d.length, decide (d.length = n), none⟩))
    | some x =>
      if x.line ≠ y ∨ x.whole then (2, s)
      else if off ≠ x.landed then (1, s)
      else
        let k := x.landed + d.length
        (0, (s.storeLine l y off d).setLineSlot l i (some ⟨y, k, decide (k = n), none⟩))

/-- A line record of slice sl (R417). -/
def State.intake (s : State) (sl : Nat) (r : Bytes) : State :=
  let l := beAt r 0 1 % 8
  let y := beAt r 2 2
  let off := beAt r 4 4
  let d := r.drop 8
  if r.length < 9 ∨ 5 < beAt r 0 1 then
    let s := s.sumpRecord sl r
    if 1 ≤ r.length ∧ l ≤ 5 then s.bump (DSP_LYR_STAT_DROPS l) else s
  else if s.get (DSP_LYR_SIZE_H l) ≤ y ∨ s.lineBytes l < off + d.length ∨ s.is (DSP_LYR_CFG_EN l) = false ∨
      (sl ≠ s.get (DSP_LYR_CFG_SLICE l) ∧ sl ≠ 0) then
    (s.sumpRecord sl r).bump (DSP_LYR_STAT_DROPS l)
  else
    match s.acceptLine l y off d with
    | (0, s) => s
    | (1, s) => (s.sumpRecord sl r).bump (DSP_LYR_STAT_DROPS l)
    | (_, s) => (s.sumpRecord sl r).bump (DSP_LYR_CNT_OVERRUN l)

/-- R416 to R418. LINE_RECORD_RECEIVE. (DEDUCED, log 126) -/
def execLineRecordReceive (sl : Nat) (r : Bytes) (s : State) : Host.Outcome State Fault Refusal :=
  .next (if s.running && s.hasDisplay then s.intake sl r else s)

/-! ## Pixels (R414, R415) -/

/-- Source pixel x of line y of layer l: its alpha and its RGB. (DEDUCED, log 141) -/
def State.srcPixel (s : State) (l y x draw : Nat) : Nat × Nat :=
  let at' := s.get (DSP_LYR_RING_BASE l) * 64 + s.slotOf l y * s.get (DSP_LYR_STRIDE_STRIDE l)
  match s.get (DSP_LYR_CFG_FMT l) with
  | 0 =>
    let v := leNat (s.tankRead 2 (at' + 4 * x) 4)
    (v / 2 ^ 24, v % 2 ^ 24)
  | 1 => (255, leNat (s.tankRead 2 (at' + 3 * x) 3))
  | 2 => (255, Config.widen565 (leNat (s.tankRead 2 (at' + 2 * x) 2)))
  | 3 =>
    let v := leNat (s.tankRead 2 (s.get (DSP_LYR_AUX_AUX l) * 64 + 4 * leNat (s.tankRead 2 (at' + x) 1)) 4)
    (v / 2 ^ 24, v % 2 ^ 24)
  | 4 => (255, Config.yccPixel (s.tankRead 2 (at' + x / 2 * 4) 4) (x % 2 == 1))
  | _ => (255, Config.dscPixel draw x)

/-- One channel composed: nearest 8-bit value. -/
def blend (k src c : Nat) : Nat := (2 * (k * src + (65025 - k) * c) + 65025) / (2 * 65025)

/-- A pixel composed with a layer's pixel of alpha apx under global alpha. -/
def blendPixel (apx alpha src c : Nat) : Nat :=
  let k := apx % 256 * alpha
  blend k (bits src 23 16) (bits c 23 16) * 65536 + blend k (bits src 15 8) (bits c 15 8) * 256 +
    blend k (bits src 7 0) (bits c 7 0)

/-- Output pixel x of line o with layers shown on it, bottom first, as (layer, source line). -/
def State.outPixel (s : State) (shown : List (Nat × Nat)) (x draw : Nat) : Nat :=
  shown.foldl (fun c e =>
    let l := e.1
    let x0 := s.get (DSP_LYR_POS_X l)
    let k := scale (s.get (DSP_LYR_CFG_HSCL l))
    if x0 ≤ x ∧ x < x0 + s.get (DSP_LYR_SIZE_W l) * k then
      let (a, src) := s.srcPixel l e.2 ((x - x0) / k) draw
      blendPixel a (s.get (DSP_LYR_CFG_ALPHA l)) src c
    else c) (s.get DSP_BG_RGB)

/-! ## Scan-out (R420, R421, R426) -/

/-- The source line of layer l that output line o takes. -/
def State.sourceLine (s : State) (l o : Nat) : Option Nat :=
  let y := s.get (DSP_LYR_POS_Y l)
  let k := scale (s.get (DSP_LYR_CFG_VSCL l))
  if y ≤ o ∧ o < y + s.get (DSP_LYR_SIZE_H l) * k then some ((o - y) / k) else none

/-- Output line o is the last that uses its source line of layer l, in an active area of n lines. -/
def State.lastUse (s : State) (l o n : Nat) : Bool := o + 1 == n || s.sourceLine l (o + 1) != s.sourceLine l o

/-- The slot of layer l holds line y complete. -/
def State.lineWhole (s : State) (l y : Nat) : Bool :=
  match assocFind (s.layer l).slots (s.slotOf l y) with
  | some x => x.line == y && x.whole
  | none => false

/-- Emptying the slot of line y of a stream layer, when it holds that line. -/
def State.emptyLine (s : State) (l y : Nat) : State :=
  match assocFind (s.layer l).slots (s.slotOf l y) with
  | some x => if x.line = y ∧ s.is (DSP_LYR_CFG_STATIC l) = false then s.setLineSlot l (s.slotOf l y) none else s
  | none => s

/-- An underrun of layer l. -/
def State.underrun (s : State) (l : Nat) : State :=
  let s := (s.setLayer l { s.layer l with off := true }).put (DSP_LYR_STAT_ON l) 0
  let s := ((s.bump (DSP_LYR_CNT_UNDERRUN l)).raise 0x0F04 l).detect 0x3C l
  let k := s.link 0
  match k.tblAt with
  | some c => if k.up && decide ((k.rxCycle + 2 ^ 32 - c) % 2 ^ 32 ≤ 2) then s.put (DSP_LYR_STAT_SWAP_UR l) 1 else s
  | none => s

/-- R426. A layer hidden by its ISL field. (DESIGN CHOICE, log 137) -/
def State.layerHidden (s : State) (l : Nat) : Bool :=
  (s.get (DSP_LYR_CFG_ISL l) == 1 && !s.islanded) || (s.get (DSP_LYR_CFG_ISL l) == 2 && s.islanded)

/-- The fetch of a frame starts for layer l. (DESIGN CHOICE, log 138) -/
def State.frameStart (s : State) (l : Nat) : State :=
  let x := s.layer l
  let hide := s.layerHidden l
  let s := s.setLayer l { x with off := false, resync := x.off && !s.is (DSP_LYR_CFG_STATIC l), hidden := hide }
  s.putB (DSP_LYR_STAT_ON l) (s.is (DSP_LYR_CFG_EN l) && !hide && !(s.layer l).resync)

/-- Fetching output line o for layer l, in an active area of n lines: whether it is shown on it. -/
def State.fetchLayer (s : State) (l o n : Nat) : Option Nat × State :=
  if !s.is (DSP_LYR_CFG_EN l) then (none, s)
  else
    match s.sourceLine l o with
    | none => (none, s)
    | some y =>
      let x := s.layer l
      let pass := fun (s : State) => if s.lastUse l o n then s.emptyLine l y else s
      if x.hidden || x.off then (none, pass s)
      else if s.lineWhole l y then
        let s := if x.resync then (s.setLayer l { x with resync := false }).put (DSP_LYR_STAT_ON l) 1 else s
        (some y, s)
      else if x.resync && !(o + 1 == n || (s.sourceLine l (o + 1)).isNone) then (none, pass s)
      else (none, pass (s.underrun l))

/-- Fetching and composing output line o, in an active area of n lines (R420). The slots of the lines shown are emptied only after
the pixels are taken. -/
def State.fetchLine (s : State) (t : Timing) (o : Nat) : State :=
  let (shown, s) := [0, 1, 2, 3, 4, 5].foldl
    (fun (a : List (Nat × Nat) × State) l =>
      let (y, s) := a.2.fetchLayer l o t.vact
      (match y with
        | some y => a.1 ++ [(l, y)]
        | none => a.1, s)) (([] : List (Nat × Nat)), s)
  let sends := [0, 1, 2, 3].any (fun n => s.get (DSP_OUT_STAT_STATE n) == 3)
  let s := if sends && !s.dsp.quiet then
      let (d, s) := s.draw
      s.emit (.line o ((List.range t.hact).map (fun x => s.outPixel shown x d)))
    else s
  let s := shown.foldl (fun s e => if s.lastUse e.1 o t.vact then s.emptyLine e.1 e.2 else s) s
  if o + 1 = t.vact then s.raise 0x0F03 0 else s

/-! ## Outputs (R424) -/

/-- An output is evaluated (R424). -/
def State.evalOutput (s : State) (n : Nat) : State :=
  let s := s.put (DSP_OUT_STAT_REASON n) 0
  let off := !s.hasDisplay || !s.is (DSP_OUT_CFG_EN n) || !s.is DSP_CTRL_EN || s.get (SPT_ALT_STAT_MUX n) != 1 || decide (s.nWide ≤ n)
  s.put (DSP_OUT_STAT_STATE n) (if off then 0 else if s.is (SPT_ALT_STAT_HPD n) then 2 else 1)

/-- Every output is evaluated. -/
def State.evalOutputs (s : State) : State := (List.range 4).foldl State.evalOutput s

/-- R424. OUTPUT_TRAIN_DONE. -/
def execOutputTrainDone (n : Nat) (e : TrainEnd) (s : State) : Host.Outcome State Fault Refusal :=
  .next (if s.running && decide (n < 4) && s.get (DSP_OUT_STAT_STATE n) == 2 then
    let blank := fun r => ((s.put (DSP_OUT_STAT_STATE n) 4).put (DSP_OUT_STAT_REASON n) r).detect 0x3D n
    match e with
    | .active => s.put (DSP_OUT_STAT_STATE n) 3
    | .linkFail => blank 1
    | .noEdid => blank 2
    | .sink => blank 3
  else s)

/-- A write of DSP_OUT_CFG of output n (R424): every write of EN evaluates it. -/
def State.outCfg (s : State) (n v : Nat) : State :=
  if s.hasDisplay then (s.put (DSP_OUT_CFG_EN n) (bits v 31 31)).evalOutput n else s

/-! ## Timing (R422, R423) -/

/-- The pixel-clock limit of a RATE in kHz. -/
def pclkLimit (rate : Nat) : Nat :=
  match rate with
  | 0 => 216000
  | 1 => 360000
  | 2 => 720000
  | _ => 1080000

/-- The link symbol clock of a RATE in kHz. -/
def linkClock (rate : Nat) : Nat :=
  match rate with
  | 0 => 162000
  | 1 => 270000
  | 2 => 540000
  | _ => 810000

/-- The committed timing applies. -/
def State.applyTiming (s : State) (t : Timing) : State :=
  let f := linkClock t.rate
  let s := (s.put DSP_MVID_MVID ((2 * t.pclk * 32768 + f) / (2 * f))).put DSP_CTRL_PENDING 0
  ({ s with dsp := { s.dsp with use := some t, pend := none, quiet := true } }).evalOutputs

/-- R422. A write of DSP_CTRL.COMMIT. -/
def State.commit (s : State) : State :=
  let t : Timing := ⟨s.get DSP_HTIM_HTOTAL, s.get DSP_HTIM_HACT, s.get DSP_VTIM_VTOTAL, s.get DSP_VTIM_VACT, s.get DSP_PCLK_PCLK,
    s.get DSP_CTRL_RATE⟩
  if t.htotal - t.hact ≤ s.get DSP_HSYNC_FP + s.get DSP_HSYNC_SW ∨
      t.vtotal - t.vact ≤ s.get DSP_VSYNC_FP + s.get DSP_VSYNC_SW ∨ pclkLimit t.rate < t.pclk then s.put DSP_CTRL_CERR 1
  else if s.is DSP_CTRL_EN then ({ s with dsp := { s.dsp with pend := some t } }).put DSP_CTRL_PENDING 1
  else s.applyTiming t

/-- A write of DSP_CTRL that passed its checks (R422, R427). -/
def State.dspCtrl (s : State) (v : Nat) : State :=
  if !s.hasDisplay then s
  else
    let was := s.is DSP_CTRL_EN
    let s := (s.put DSP_CTRL_RATE (bits v 9 8)).put DSP_CTRL_LEAD (clampNat 1 4 (v % 8))
    let s := if bit v 28 then s.put DSP_CTRL_CERR 0 else s
    let s := s.put DSP_CTRL_EN (bits v 31 31)
    let s := if was != s.is DSP_CTRL_EN then
        let s := ((s.put DSP_STAT_LINE 0).put DSP_STAT_VBLANK 0).evalOutputs
        let s := match s.dsp.pend with
          | some t => if s.is DSP_CTRL_EN then s else s.applyTiming t
          | none => s
        if s.is DSP_CTRL_EN then [0, 1, 2, 3, 4, 5].foldl State.frameStart s
        else [0, 1, 2, 3, 4, 5].foldl (fun s l => s.put (DSP_LYR_STAT_ON l) 0) s
      else s
    if bit v 30 then s.commit else s

/-- Vertical blanking starts. -/
def State.blankStart (s : State) : State :=
  let s := ((s.put DSP_STAT_VBLANK 1).addWrap DSP_STAT_FRAMES 1).raise 0x0F01 0
  let s := { s with dsp := { s.dsp with quiet := false } }
  match s.dsp.pend with
  | some t => s.applyTiming t
  | none => s

/-- R420, R422, R425. LINE_START: the next output line starts. (DEDUCED, log 139) -/
def execLineStart (s : State) : Host.Outcome State Fault Refusal :=
  .next (match s.dsp.use with
  | some t =>
    if s.running && s.hasDisplay && s.is DSP_CTRL_EN then
      let o := if t.vtotal ≤ s.get DSP_STAT_LINE + 1 then 0 else s.get DSP_STAT_LINE + 1
      let s := s.put DSP_STAT_LINE o
      let s := if o = 0 then s.put DSP_STAT_VBLANK 0 else s
      let s := if o = t.vact then s.blankStart else s
      let s := if s.is DSP_LCMP0_EN && s.get DSP_LCMP0_LINE == o then s.raise 0x0F02 0 else s
      let s := if s.is DSP_LCMP1_EN && s.get DSP_LCMP1_LINE == o then s.raise 0x0F02 1 else s
      let f := (o + s.get DSP_CTRL_LEAD) % max 1 t.vtotal
      let s := if f = 0 then [0, 1, 2, 3, 4, 5].foldl State.frameStart s else s
      if f < t.vact then s.fetchLine t f else s
    else s
  | none => s)

/-- The sink of spout n changed its HPD, or reported lost link status (R331, R424). -/
def State.hpdChange (s : State) (n : Nat) (hpd lost : Bool) : State :=
  let was := s.is (SPT_ALT_STAT_HPD n)
  let s := s.putB (SPT_ALT_STAT_HPD n) hpd
  let s := if was != hpd then (s.raise 0x0A0D n).evalOutput n else s
  if lost && hpd && decide (3 ≤ s.get (DSP_OUT_STAT_STATE n)) then (s.bump (DSP_OUT_STAT_RETRAINS n)).evalOutput n else s

end Sys2Proof.Machine
end

