-- ==== Sys2Proof/Machine/Spouts.lean ====
section
/-! DEFINITION. A spout's policy and its hot-insertion controller, as far as each acts on the other: sourcing requests, VSEL, contracts, capabilities, swaps, detach, Hard Reset, trips (R317 to R332, R342 to R359). -/
namespace Sys2Proof.Machine

/-- Controller n outside the registers. -/
def State.ctl (s : State) (n : Nat) : Hsw := assocGet {} s.hsw n
/-- Writing it. -/
def State.setCtl (s : State) (n : Nat) (x : Hsw) : State := { s with hsw := assocSet {} n x s.hsw }

/-- The spout-power domain is powered and out of reset (R344). -/
def State.spoutPower (s : State) : Bool := s.power.phase != .held && s.power.phase != .dry
/-- Controller n is present and powered. -/
def State.ctlOn (s : State) (n : Nat) : Bool := s.spoutPower && decide (n < s.nSpouts)
/-- The PD policy of spout n runs (R325). -/
def State.policyOn (s : State) (n : Nat) : Bool := s.running && decide (n < s.nSpouts)

/-- The attach state (R321). -/
def State.sptSt (s : State) (n : Nat) : Nat := s.get (SPT_STAT_STATE n)
/-- An attached state. -/
def State.attached (s : State) (n : Nat) : Bool := s.sptSt n == 6 || s.sptSt n == 7
/-- The hub is the Source. -/
def State.isSource (s : State) (n : Nat) : Bool := s.is (SPT_STAT_PWR_ROLE n)
/-- Sending a PD message (R319): 1 Source_Capabilities, 2 Request, 3 Accept, 4 Reject, 5 Wait, 6 PS_RDY, 7 Sink_Capabilities,
8 PR_Swap, 9 DR_Swap, 10 Hard_Reset, 11 Soft_Reset, 12 Not_Supported, 13 Alert, 14 Status, 15 Discover Identity, 16 Discover
Identity on SOP', 17 Discover SVIDs, 18 Discover Modes, 19 Enter Mode, 20 Exit Mode. -/
def State.pd (s : State) (n msg arg : Nat) : State := s.emit (.pd n msg arg)

/-! ## The power stage (R346, R355, R357) -/

/-- Setting the FET outputs. -/
def State.gates (s : State) (n gate pre bleed : Nat) : State :=
  ((s.put (HSW_STAT_GATE n) gate).put (HSW_STAT_PRE n) pre).put (HSW_STAT_BLEED n) bleed

/-- Both FETs open; the bleeder runs while VOUT is above 0.8 V; power-good and the fault timer end. -/
def State.openFets (s : State) (n : Nat) : State :=
  let s := s.gates n 0 0 (if 80 < s.get (HSW_MEAS_VOUT n) then 1 else 0)
  (s.put (HSW_STAT_PG n) 0).put (HSW_STAT_FWARN n) 0

/-- Driving SPT<n>_VSEL (R348). -/
def State.setVsel (s : State) (n v : Nat) : State :=
  let c := s.ctl n
  if c.vsel = v then s else s.setCtl n { c with vsel := v, oldVsel := some c.vsel }

/-- The sourcing request of spout n is raised. -/
def State.raiseReq (s : State) (n : Nat) : State := s.put (HSW_STAT_REQ n) 1

/-- The sourcing request is withdrawn: both FETs open, and the controller is OFF, unless it is LATCHED (R346, R357). (DEDUCED,
log 154) -/
def State.withdraw (s : State) (n : Nat) : State :=
  let s := (s.put (HSW_STAT_REQ n) 0).openFets n
  (if s.get (HSW_STAT_STATE n) = 6 then s else s.put (HSW_STAT_STATE n) 0).usbPower n

/-- Leaving LATCHED (R357). -/
def State.unlatch (s : State) (n : Nat) : State :=
  if s.get (HSW_STAT_STATE n) = 6 then s.put (HSW_STAT_STATE n) (if s.is (HSW_STAT_REQ n) then 1 else 0) else s

/-- R358. The removal of the partner: TRIPS clears, LATCHED is left. -/
def State.removal (s : State) (n : Nat) : State :=
  ((s.put (HSW_STAT_TRIPS n) 0).unlatch n).setCtl n { s.ctl n with inserted := false, elapsed := false }

/-- R347. An insertion instant. -/
def State.insertion (s : State) (n : Nat) : State := s.setCtl n { s.ctl n with inserted := true, elapsed := false }

/-! ## Contracts and capabilities (R326 to R328) -/

/-- Voltage order of the four entries: an insertion by VSEL code, the lower-numbered entry first. -/
def insertPdo (x : Nat × Nat) : List (Nat × Nat) → List (Nat × Nat)
  | [] => [x]
  | y :: l => if x.1 < y.1 then x :: y :: l else y :: insertPdo x l

/-- The cable reports 5 A. (PRESUMED, log 149) -/
def Spout.cable5A (x : Spout) : Bool := bits (x.cableVdos.getD 3 0) 6 5 == 2

/-- The capabilities offered now: voltage code and current in 10 mA, ascending. -/
def State.offers (s : State) (n : Nat) : List (Nat × Nat) :=
  let cap := fun i => if (s.spout n).cable5A then i else min i 300
  let l := (List.range 4).filterMap (fun i =>
    if s.is (SPT_PDO_EN n i) && !(List.range i).any (fun j => s.is (SPT_PDO_EN n j) && s.get (SPT_PDO_VSEL n j) == s.get (SPT_PDO_VSEL n i))
    then some (s.get (SPT_PDO_VSEL n i), cap (s.get (SPT_PDO_IMAX n i))) else none)
  l.foldr insertPdo []

/-- Source_Capabilities is sent. -/
def State.sendCaps (s : State) (n : Nat) : State :=
  let o := s.offers n
  (s.setSpout n { s.spout n with offered := o }).pd n 1 (o.foldl (fun a e => a * 4096 + e.1 * 1024 + e.2) 1)

/-- The contract ends. -/
def State.endContract (s : State) (n : Nat) : State :=
  let x := s.spout n
  let s := s.setSpout n { x with asked := none, askedCur := 0, sinkReq := 0, pdoCur := 0, disc := 0 }
  let s := ((s.put (SPT_CONTRACT_VALID n) 0).put (SPT_CONTRACT_OBJPOS n) 0).put (SPT_CONTRACT_VSEL n) 0
  (s.put (SPT_CONTRACT_IOP n) 0).put (SPT_STAT_PD n) 0

/-- R362. The Status message: its Present Input field. -/
def State.sendStatus (s : State) (n : Nat) : State := s.pd n 14 (if s.is HSW_BUS_STAT_PFW then 0 else 1)

/-! ## Swaps (R329, R330, R359) -/

/-- The result of a swap is recorded; failures are reported. (DESIGN CHOICE, log 151) -/
def State.swapResult (s : State) (n kind result : Nat) : State :=
  let s := (s.put (SPT_SWAP_STAT_KIND n) kind).put (SPT_SWAP_STAT_RESULT n) result
  if result = 1 then (s.bump (SPT_SWAP_STAT_COUNT n)).raise 0x0A05 n
  else if result = 3 then s
  else s.raise 0x0A06 n

/-- A swap requested or under way. -/
def Spout.swapKind (x : Spout) : Nat := if x.swapping ≠ 0 then x.swapping else if x.mine ≠ 0 then x.mine else x.again

/-- A swap under way or requested is void, with a result (R330). (DEDUCED, log 150) -/
def State.voidSwap (s : State) (n result : Nat) : State :=
  let x := s.spout n
  let s := s.setSpout n { x with mine := 0, swapping := 0, toSource := false, again := 0 }
  if x.swapKind = 0 then s else s.swapResult n x.swapKind result

/-- The hub wishes a PR_Swap (R329). -/
def State.wishPr (s : State) (n : Nat) : Bool :=
  s.is (SPT_POLICY_SWAP_EN n) && s.isSource n == s.is (SPT_POLICY_PR_WANT n)

/-- The hub wishes a DR_Swap. -/
def State.wishDr (s : State) (n : Nat) : Bool :=
  s.is (SPT_POLICY_SWAP_EN n) && s.is (SPT_STAT_DATA_ROLE n) == s.is (SPT_POLICY_DR_WANT n)

/-- The wish is evaluated: a request goes out where none is open (R329, R359). -/
def State.evalWish (s : State) (n : Nat) : State :=
  let x := s.spout n
  if s.policyOn n && s.attached n && s.is (SPT_STAT_PD n) && x.mine == 0 && x.swapping == 0 && x.again == 0 && !x.restoring then
    if s.wishPr n && !x.noPr && !s.is (HSW_STAT_FWARN n) then
      ((s.setSpout n { x with mine := 1 }).put (SPT_SWAP_STAT_RETRIES n) 0).pd n 8 0
    else if s.wishDr n && !x.noDr then
      ((s.setSpout n { x with mine := 2 }).put (SPT_SWAP_STAT_RETRIES n) 0).pd n 9 0
    else s
  else s

/-- A swap is done. -/
def State.swapDone (s : State) (n kind : Nat) : State :=
  let x := s.spout n
  (((s.setSpout n { x with swapping := 0, toSource := false }).swapResult n kind 1).usbPower n).evalWish n

/-- The hub's power role changes; the contract of the old roles has ended. -/
def State.setPower (s : State) (n : Nat) (source : Bool) : State :=
  let s := ((s.endContract n).putB (SPT_STAT_PWR_ROLE n) source).put (SPT_STAT_STATE n) (if source then 6 else 7)
  s.setSpout n { s.spout n with absent := false }

/-- A PR_Swap starts after an Accept: a Source opens its stage, returns VSEL to 5 V and sends PS_RDY. (DESIGN CHOICE, log 147)
-/
def State.startPr (s : State) (n : Nat) : State :=
  let s := s.setSpout n { s.spout n with mine := 0, again := 0, swapping := 1, toSource := false }
  if s.isSource n then ((s.withdraw n).setVsel n 0).pd n 6 0 else s

/-! ## Detach, ERROR_RECOVERY, Hard Reset (R322, R330, R332) -/

/-- The multiplexer goes to SAFE at once; what hung on it ends. -/
def State.muxSafe (s : State) (n : Nat) : State :=
  let s := ((s.put (SPT_ALT_STAT_MUX n) 0).put (SPT_ALT_STAT_SAM_UP n) 0).put (SPT_ALT_STAT_HPD n) 0
  let s := s.setSpout n { s.spout n with entering := 0, exiting := false, samTx := 0, samOut := 0 }
  if n < 4 then s.evalOutput n else s

/-- The data role flips. A mode in force is left first, the multiplexer before Exit Mode, since the UFP is in none (R320, R332).
(DESIGN CHOICE, log 193) -/
def State.flipData (s : State) (n : Nat) : State :=
  let s := s.setSpout n { s.spout n with mine := 0, again := 0 }
  let mux := s.get (SPT_ALT_STAT_MUX n)
  let s := if mux = 0 then s else
      let s := (s.muxSafe n).pd n 20 mux
      s.setSpout n { s.spout n with exiting := true }
  (s.putB (SPT_STAT_DATA_ROLE n) (!s.is (SPT_STAT_DATA_ROLE n))).swapDone n 2

/-- What the policy knew of its partner ends; the lines as seen and the moisture checks go on. -/
def State.forgetPartner (s : State) (n : Nat) : State :=
  let x := s.spout n
  s.setSpout n { cc := x.cc, vbus := x.vbus, dayG := x.dayG, rises := x.rises, checkDue := x.checkDue }

/-- The steps of a detach (R322). -/
def State.detach (s : State) (n : Nat) : State :=
  let s := (s.muxSafe n).put (SPT_STAT_VCONN n) 0
  let s := (s.withdraw n).setVsel n 0
  let s := (s.voidSwap n 7).endContract n
  let s := s.forgetPartner n
  let s := (s.put (SPT_STAT_PWR_ROLE n) 0).put (SPT_STAT_DATA_ROLE n) 0
  let s := ((s.put (SPT_STAT_PARTNER_RP n) 0).removal n).usbPower n
  s.raise 0x0A02 n

/-- The spout holds a partner in some attached state, a check before sourcing included. -/
def State.engaged (s : State) (n : Nat) : Bool := s.attached n || s.sptSt n == 5

/-- The unattached state of the spout's mode (R321): MODE applies here. (DESIGN CHOICE, log 143) -/
def State.unattach (s : State) (n : Nat) : State :=
  let m := s.get (SPT_CFG_MODE n)
  s.put (SPT_STAT_STATE n) (if m = 0 then 0 else if m = 1 then 1 else 2)

/-- The spout enters DISABLED (R325). -/
def State.sptDisable (s : State) (n : Nat) : State :=
  let s := if s.attached n then s.detach n else (s.withdraw n).removal n
  s.put (SPT_STAT_STATE n) 0

/-- Hard Reset, sent or received (R330). -/
def State.hardResetRun (s : State) (n : Nat) : State :=
  let s := (s.voidSwap n 5).muxSafe n
  let s := s.endContract n
  let x := s.spout n
  let src := x.asSource
  let s := (s.putB (SPT_STAT_PWR_ROLE n) src).putB (SPT_STAT_DATA_ROLE n) src
  let s := (s.put (SPT_STAT_STATE n) (if src then 6 else 7)).putB (SPT_STAT_VCONN n) (src && x.cc.ra)
  let s := (s.withdraw n).setVsel n 0
  let s := s.setSpout n { s.spout n with restoring := src, absent := src && !x.cc.rd && x.cc.rp == 0 }
  (s.usbPower n).raise 0x0A0E n

/-- The hub sends Hard_Reset. -/
def State.sendHardReset (s : State) (n : Nat) : State := (s.pd n 10 0).hardResetRun n

/-! ## Trips (R355, R357) -/

/-- The detector of a trip cause. -/
def tripDetector (cause : Nat) : Option Nat :=
  match cause with
  | 1 => some 0x30
  | 2 => some 0x31
  | 7 => some 0x32
  | _ => none

/-- A trip of controller n (R355). -/
def State.hswTrip (s : State) (n cause : Nat) : State :=
  let s := (s.openFets n).gates n 0 0 1
  let s := ((s.put (HSW_STAT_CAUSE n) cause).bump (HSW_STAT_TRIPS n)).bump (HSW_TRIP_CNT_COUNT n)
  let max := s.get (HSW_FLT_CFG_RETRY_MAX n)
  let latched := max != 0 && decide (max ≤ s.get (HSW_STAT_TRIPS n))
  let s := s.put (HSW_STAT_STATE n) (if latched then 6 else 5)
  let s := s.setCtl n { s.ctl n with retryRun := !latched || (s.ctl n).retryRun }
  let s := s.raise 0x0B03 n
  let s := if latched then (s.raise 0x0B04 n).detect 0x34 n else s
  let s := match tripDetector cause with
    | some d => s.detect d n
    | none => s
  let failed := (s.spout n).swapping == 1 && (s.spout n).toSource
  let s := ((s.endContract n).setVsel n 0).usbTrip n
  let s := s.usbPower n
  if failed && s.policyOn n then (s.voidSwap n 6).sendHardReset n else s

/-- Power-good is asserted (R350, R351): a Source without a contract offers its capabilities, and a swap to Source is done. -/
def State.powerGood (s : State) (n : Nat) : State :=
  let s := ((s.put (HSW_STAT_PG n) 1).raise 0x0B01 n).usbPower n
  let x := s.spout n
  if !s.policyOn n then s
  else if x.swapping = 1 ∧ x.toSource then ((((s.pd n 6 0).setPower n true).swapDone n 1)).sendCaps n
  else if s.attached n && s.isSource n && !s.is (SPT_STAT_PD n) && x.asked.isNone then s.sendCaps n
  else s

end Sys2Proof.Machine
end

