-- ==== Sys2Proof/Machine/PowerPath.lean ====
section
/-! DEFINITION. The hot-insertion controllers' commands and the cabinet-bus monitor (R342 to R364). Voltages in 10 mV, currents in mA. -/
namespace Sys2Proof.Machine

/-- The nominal voltage of a VSEL code. -/
def nominal (v : Nat) : Nat :=
  match v with
  | 0 => 500
  | 1 => 900
  | 2 => 1500
  | _ => 2000

/-- The nominal whose OV threshold applies: the higher of the two during a change (R348). -/
def Hsw.ovNominal (c : Hsw) : Nat := match c.oldVsel with
  | some o => max (nominal o) (nominal c.vsel)
  | none => nominal c.vsel

/-- VIN lies inside its window (R348). -/
def State.vinInside (s : State) (n vin : Nat) : Bool :=
  let c := s.ctl n
  let hi := s.get (HSW_WIN_OV_PCT n) * c.ovNominal
  match c.oldVsel with
  | some _ => decide (vin * 100 ≤ hi)
  | none =>
    let lo := s.get (HSW_WIN_UV_PCT n) * nominal c.vsel
    let h := if s.is (HSW_STAT_VIN_OK n) then 0 else 2 * nominal c.vsel
    decide (lo + h ≤ vin * 100 ∧ vin * 100 + h ≤ hi)

/-- An overvoltage on VIN or VOUT (R351). -/
def State.overVoltage (s : State) (n vin vout : Nat) : Bool :=
  decide (s.get (HSW_WIN_OV_PCT n) * (s.ctl n).ovNominal < max vin vout * 100)

/-- The overcurrent limit in mA (R352). -/
def State.ocLimit (s : State) (n : Nat) : Nat :=
  let allowed := if s.is (SPT_CONTRACT_VALID n) && s.isSource n then (s.spout n).pdoCur * 10
    else match s.get (SPT_CFG_RP n) with
      | 0 => 500
      | 1 => 1500
      | _ => 3000
  min (s.get (HSW_CFG_OC_MAX n) * 50) (ceilDiv (s.get (HSW_CFG_ILIM_PCT n) * allowed) 5000 * 50)

/-- The current is above the limit, or an injection says so. -/
def State.overCurrent (s : State) (n : Nat) (cur : Int) : Bool := s.is (HSW_INJ_OC n) || decide ((s.ocLimit n : Int) < cur)

/-- The fault timer starts (R353). -/
def State.startFaultTimer (s : State) (n : Nat) : State := (s.put (HSW_STAT_FWARN n) 1).raise 0x0B02 n

/-- Power-good in ON against the UV threshold (R351); during a change of VSEL only the OV threshold applies (R348). (DEDUCED,
log 198) -/
def State.pgCheck (s : State) (n vout : Nat) : State :=
  let c := s.ctl n
  let uv := s.get (HSW_WIN_UV_PCT n) * nominal c.vsel
  if c.oldVsel.isSome then s
  else if s.is (HSW_STAT_PG n) then
    (if vout * 100 < uv then (s.put (HSW_STAT_PG n) 0).usbPower n else s)
  else if uv + 2 * nominal c.vsel ≤ vout * 100 then s.powerGood n
  else s

/-- The state machine at one sample (R346, R347, R349 to R353, R356). -/
def State.hswAdvance (s : State) (n vin vout : Nat) (cur : Int) : State :=
  let c := s.ctl n
  match s.get (HSW_STAT_STATE n) with
  | 0 => if s.is (HSW_STAT_REQ n) then s.put (HSW_STAT_STATE n) 1 else s
  | 1 =>
    if !s.is (HSW_STAT_REQ n) then s.put (HSW_STAT_STATE n) 0
    else if s.is (HSW_CFG_EN n) && c.elapsed && !c.retryRun && s.is (HSW_STAT_SENSE_OK n) && !s.is HSW_BUS_STAT_REV then
      (s.put (HSW_STAT_STATE n) 2).gates n 0 1 0
    else s
  | 2 =>
    if s.overVoltage n vin vout then s.hswTrip n 3
    else if 90 * vin ≤ 100 * vout then (s.put (HSW_STAT_STATE n) 3).gates n 1 1 0
    else s
  | 3 =>
    if s.overVoltage n vin vout then s.hswTrip n 3
    else if s.is (HSW_STAT_FWARN n) then s
    else if s.overCurrent n cur then s.startFaultTimer n
    else if 95 * vin ≤ 100 * vout then ((s.put (HSW_STAT_STATE n) 4).gates n 1 0 0).powerGood n
    else s
  | 4 =>
    if s.overVoltage n vin vout then s.hswTrip n 3
    else
      let s := if !s.is (HSW_STAT_FWARN n) && s.overCurrent n cur then s.startFaultTimer n else s
      s.pgCheck n vout
  | _ => s

/-- The sense wires read open (R360). (DESIGN CHOICE, log 155) -/
def State.senseOpen (s : State) (n : Nat) : State :=
  let first := s.is (HSW_STAT_SENSE_OK n) || !(s.ctl n).senseBad
  let s := (s.put (HSW_STAT_SENSE_OK n) 0).setCtl n { s.ctl n with senseBad := true }
  let s := if first then ((s.put (HSW_STAT_CAUSE n) 6).raise 0x0B05 n).detect 0x33 n else s
  if s.is (HSW_STAT_GATE n) || s.is (HSW_STAT_PRE n) then
    ((((s.openFets n).put (HSW_STAT_STATE n) 1).endContract n).setVsel n 0).usbPower n
  else s

/-- With EN at 0 the controller stays in OFF or QUALIFY (R364). (DESIGN CHOICE, log 156) -/
def State.heldOff (s : State) (n : Nat) : State :=
  if s.get (HSW_STAT_STATE n) = 0 ∨ s.get (HSW_STAT_STATE n) = 1 ∨ s.get (HSW_STAT_STATE n) = 6 then s
  else (((s.openFets n).put (HSW_STAT_STATE n) (if s.is (HSW_STAT_REQ n) then 1 else 0)).endContract n).usbPower n

/-- What a sample measures (R345). -/
def State.hswMeasure (s : State) (n vin vout : Nat) (cur : Int) : State :=
  ((s.put (HSW_MEAS_VIN n) (min vin 0xFFFF)).put (HSW_MEAS_VOUT n) (min vout 0xFFFF)).put (HSW_IMEAS_I n)
    (unsigned 16 (clampInt (-32768) 32767 cur))

/-- The VIN window at a sample: a change of VSEL ends within ±5 % of the new nominal, and VIN outside the window restarts the
insertion delay (R347, R348). -/
def State.hswWindow (s : State) (n vin : Nat) : State :=
  let c := s.ctl n
  let nom := nominal c.vsel
  let s := if c.oldVsel.isSome && decide (95 * nom ≤ vin * 100 ∧ vin * 100 ≤ 105 * nom) then
      s.setCtl n { c with oldVsel := none } else s
  let ok := s.vinInside n vin
  let s := s.putB (HSW_STAT_VIN_OK n) ok
  if ok then s else s.setCtl n { s.ctl n with elapsed := false }

/-- The sense wires at a sample (R360). -/
def State.hswSense (s : State) (n : Nat) (senseOpen : Bool) : State :=
  if senseOpen || s.is (HSW_INJ_SENSE_OPEN n) then s.senseOpen n else s.setCtl n { s.ctl n with senseBad := false }

/-- The controller at a sample, and its bleeder in the states with the FETs open (R346, R364). -/
def State.hswRun (s : State) (n vin vout : Nat) (cur : Int) : State :=
  let s := if s.is (HSW_CFG_EN n) then s else s.heldOff n
  let s := s.hswAdvance n vin vout cur
  let st := s.get (HSW_STAT_STATE n)
  if st = 0 ∨ st = 1 ∨ st = 5 ∨ st = 6 then s.put (HSW_STAT_BLEED n) (if 80 < vout then 1 else 0) else s

/-- R345. HSW_SAMPLE. -/
def execHswSample (n vin vout : Nat) (cur : Int) (senseOpen : Bool) (s : State) : Host.Outcome State Fault Refusal :=
  .next (if s.ctlOn n then
    (((s.hswMeasure n vin vout cur).hswWindow n vin).hswSense n senseOpen).hswRun n vin vout cur
  else s)

/-- R347. INSERTION_DELAY_ELAPSED: INS_DLY since the later of the insertion instant and VIN's last return. -/
def execInsertionDelayElapsed (n : Nat) (s : State) : Host.Outcome State Fault Refusal :=
  .next (if s.ctlOn n && (s.ctl n).inserted && s.is (HSW_STAT_VIN_OK n) then s.setCtl n { s.ctl n with elapsed := true } else s)

/-- R349. PRECHARGE_TIMEOUT. -/
def execPrechargeTimeout (n : Nat) (s : State) : Host.Outcome State Fault Refusal :=
  .next (if s.ctlOn n && s.get (HSW_STAT_STATE n) == 2 then
    s.hswTrip n (if s.get (HSW_MEAS_VOUT n) * 10 < s.get (HSW_MEAS_VIN n) then 5 else 4)
  else s)

/-- R350. SETTLE_TIMEOUT. -/
def execSettleTimeout (n : Nat) (s : State) : Host.Outcome State Fault Refusal :=
  .next (if s.ctlOn n && s.get (HSW_STAT_STATE n) == 3 && !s.is (HSW_STAT_FWARN n) then s.hswTrip n 8 else s)

/-- R348. VSEL_WINDOW_TIMEOUT. -/
def execVselWindowTimeout (n : Nat) (s : State) : Host.Outcome State Fault Refusal :=
  .next (if s.ctlOn n then s.setCtl n { s.ctl n with oldVsel := none } else s)

/-- R353. OVERCURRENT_CLEAR: below the limit for 10 µs, which an injected overcurrent never is. -/
def execOvercurrentClear (n : Nat) (s : State) : Host.Outcome State Fault Refusal :=
  .next (if s.ctlOn n && s.is (HSW_STAT_FWARN n) && !s.is (HSW_INJ_OC n) then (s.put (HSW_STAT_FWARN n) 0).evalWish n else s)

/-- R353. FAULT_TIMER_EXPIRY. -/
def execFaultTimerExpiry (n : Nat) (s : State) : Host.Outcome State Fault Refusal :=
  .next (if s.ctlOn n && s.is (HSW_STAT_FWARN n) then s.hswTrip n 1 else s)

/-- The short-circuit comparator trips where a FET is on (R354). -/
def State.shortTrip (s : State) (n : Nat) : State :=
  if s.ctlOn n && (s.is (HSW_STAT_GATE n) || s.is (HSW_STAT_PRE n)) then s.hswTrip n 2 else s

/-- R354. SHORT_CIRCUIT_TRIP. -/
def execShortCircuitTrip (n : Nat) (s : State) : Host.Outcome State Fault Refusal := .next (s.shortTrip n)

/-- R357. RETRY_TIMER_EXPIRY. -/
def execRetryTimerExpiry (n : Nat) (s : State) : Host.Outcome State Fault Refusal :=
  .next (if s.ctlOn n && (s.ctl n).retryRun then
    let s := s.setCtl n { s.ctl n with retryRun := false }
    if s.get (HSW_STAT_STATE n) = 5 then s.put (HSW_STAT_STATE n) (if s.is (HSW_STAT_REQ n) then 1 else 0) else s
  else s)

/-- R357. POWER_GOOD_SECOND. -/
def execPowerGoodSecond (n : Nat) (s : State) : Host.Outcome State Fault Refusal :=
  .next (if s.ctlOn n && s.is (HSW_STAT_PG n) then s.put (HSW_STAT_TRIPS n) 0 else s)

/-- A write of HSW_FLT_CFG that passed its checks (R357). -/
def State.fltCfg (s : State) (n v : Nat) : State :=
  let s := ((s.put (HSW_FLT_CFG_RETRY_MAX n) (bits v 31 28)).put (HSW_FLT_CFG_SC_LIM n) (clampNat 12 40 (bits v 21 16))).put
    (HSW_FLT_CFG_FLT_T n) (clampNat 1 500 (v % 512))
  let m := s.get (HSW_FLT_CFG_RETRY_MAX n)
  if m ≠ 0 ∧ m ≤ s.get (HSW_STAT_TRIPS n) ∧ s.get (HSW_STAT_STATE n) = 5 then
    (((s.setCtl n { s.ctl n with retryRun := false }).put (HSW_STAT_STATE n) 6).raise 0x0B04 n).detect 0x34 n
  else s

/-- The steps of a CC or SBU overvoltage (R360): the spout enters ERROR_RECOVERY and what it knew of its partner ends. A spout
in WET or DISABLED stays there (R325, R337). (DESIGN CHOICE, log 194) -/
def State.ccOvp (s : State) (n : Nat) : State :=
  let s := (s.put (SPT_STAT_VCONN n) 0).hswTrip n 7
  let s := ((s.muxSafe n).voidSwap n 7).endContract n
  let s := (((s.withdraw n).setVsel n 0).put (SPT_STAT_PWR_ROLE n) 0).put (SPT_STAT_DATA_ROLE n) 0
  let s := if s.sptSt n = 0 ∨ s.sptSt n = 0xC then s else s.put (SPT_STAT_STATE n) 0xD
  (s.forgetPartner n).usbPower n

/-- R360. CC_OVP_DETECT. -/
def execCcOvpDetect (n : Nat) (s : State) : Host.Outcome State Fault Refusal := .next (if s.ctlOn n then s.ccOvp n else s)

/-- A write of HSW_INJ that passed its checks and the gate of R480. -/
def State.hswInj (s : State) (n v : Nat) : State :=
  let was := s.is (HSW_INJ_CC_OVP n)
  let s := ((s.put (HSW_INJ_CC_OVP n) (bits v 3 3)).put (HSW_INJ_SENSE_OPEN n) (bits v 2 2)).put (HSW_INJ_OC n) (v % 2)
  let s := if bit v 1 then s.shortTrip n else s
  if bit v 3 && !was && s.ctlOn n then s.ccOvp n else s

/-- R360. SENSE_OK_RESTORE: in range for 100 ms. -/
def execSenseOkRestore (n : Nat) (s : State) : Host.Outcome State Fault Refusal :=
  .next (if s.ctlOn n && !(s.ctl n).senseBad && !s.is (HSW_INJ_SENSE_OPEN n) then s.put (HSW_STAT_SENSE_OK n) 1 else s)

/-- The cabinet bus is seen reversed (R360). -/
def State.cabinetReversed (s : State) : State :=
  if s.spoutPower && !s.is HSW_BUS_STAT_REV then ((s.put HSW_BUS_STAT_REV 1).raise 0x0B08 0).detect 0x36 0 else s

/-- R360. CABINET_REVERSED. (DESIGN CHOICE, log 153) -/
def execCabinetReversed (s : State) : Host.Outcome State Fault Refusal := .next s.cabinetReversed

/-- The cabinet bus falls below the warning level: Alerts go out where a contract and power-good hold and the policy runs (R361,
R362). -/
def State.pfwAssert (s : State) : State :=
  if s.spoutPower && !s.is HSW_BUS_STAT_PFW then
    let s := (((s.put HSW_BUS_STAT_PFW 1).put HSW_BUS_STAT_PFW_LATCH 1).raise 0x0B06 0).detect 0x35 0
    (List.range 16).foldl
      (fun s n => if s.policyOn n && s.is (SPT_CONTRACT_VALID n) && s.is (HSW_STAT_PG n) then s.pd n 13 1 else s) s
  else s

/-- R361, R362. PFW_ASSERT. -/
def execPfwAssert (s : State) : Host.Outcome State Fault Refusal := .next s.pfwAssert

/-- R361. PFW_CLEAR. -/
def execPfwClear (s : State) : Host.Outcome State Fault Refusal :=
  .next (if s.spoutPower && s.is HSW_BUS_STAT_PFW then (s.put HSW_BUS_STAT_PFW 0).raise 0x0B07 0 else s)

end Sys2Proof.Machine
end

