-- ==== Sys2Proof/Machine/SpoutRows.lean ====
section
/-! DEFINITION. The commands of the spouts: attach, moisture, contracts, swaps, alternate modes and the Spout Alternate Mode link (R317 to R341). -/
namespace Sys2Proof.Machine

/-- A policy command of spout n. -/
def State.onSpout (s : State) (n : Nat) (f : State → State) : Host.Outcome State Fault Refusal :=
  .next (if s.policyOn n then f s else s)

/-! ## Attach (R321 to R325) -/

/-- The insertion and the orientation seen when a partner appears. -/
def State.seePartner (s : State) (n : Nat) (cc : CcState) (st : Nat) : State :=
  ((s.insertion n).putB (SPT_STAT_ORIENT n) cc.cc2).put (SPT_STAT_STATE n) st

/-- The spout attaches as Sink. -/
def State.attachSnk (s : State) (n : Nat) : State :=
  let x := s.spout n
  let s := ((s.put (SPT_STAT_STATE n) 7).put (SPT_STAT_PWR_ROLE n) 0).put (SPT_STAT_DATA_ROLE n) 0
  let s := (s.put (SPT_STAT_PARTNER_RP n) x.cc.rp).setSpout n { x with asSource := false, absent := false }
  (s.usbPower n).raise 0x0A01 n

/-- CHECK before the spout attaches as Source (R323). -/
def State.toCheck (s : State) (n : Nat) : State :=
  (s.put (SPT_STAT_STATE n) 5).setSpout n { s.spout n with checking := true, absent := false }

/-- The spout attaches as Source, dry (R323, R324). -/
def State.attachSrc (s : State) (n : Nat) : State :=
  let x := s.spout n
  let s := ((s.put (SPT_STAT_STATE n) 6).put (SPT_STAT_PWR_ROLE n) 1).put (SPT_STAT_DATA_ROLE n) 1
  let s := (s.putB (SPT_STAT_VCONN n) x.cc.ra).setSpout n { x with asSource := true }
  let s := ((s.setVsel n 0).raiseReq n).usbPower n
  let s := s.raise 0x0A01 n
  if x.cc.ra then s.pd n 16 0 else s

/-- R321. DRP_TOGGLE. -/
def execDrpToggle (n : Nat) (s : State) : Host.Outcome State Fault Refusal :=
  s.onSpout n (fun s =>
    let x := s.spout n
    let st := s.sptSt n
    if (st = 1 ∨ st = 2) ∧ !x.checking ∧ s.get (SPT_CFG_MODE n) = 3 then
      let s := if x.checkDue then s.setSpout n { x with checkDue := false, checking := true } else s
      s.put (SPT_STAT_STATE n) (3 - st)
    else s)

/-- What a change of the partner's terminations does in each attach state. -/
def State.ccChange (s : State) (n : Nat) (cc : CcState) : State :=
  match s.sptSt n with
  | 1 => if cc.rd then s.seePartner n cc 3 else s
  | 2 => if 0 < cc.rp then s.seePartner n cc 4 else s
  | 3 => if cc.rd then s.putB (SPT_STAT_ORIENT n) cc.cc2 else (s.removal n).unattach n
  | 4 => if 0 < cc.rp then s.putB (SPT_STAT_ORIENT n) cc.cc2 else (s.removal n).unattach n
  | 5 => s.setSpout n { s.spout n with absent := !cc.rd }
  | 6 => s.setSpout n { s.spout n with absent := !cc.rd && cc.rp == 0 }
  | 7 => s.put (SPT_STAT_PARTNER_RP n) cc.rp
  | 8 => if cc.rd then s.toCheck n else s
  | 9 => if 0 < cc.rp then s.attachSnk n else s
  | 0xA => if 0 < cc.rp then s.attachSnk n else s
  | 0xB => if cc.rd then s.toCheck n else s
  | _ => s

/-- R321, R322. CC_TERMINATION_CHANGE. While the policy is paused the change is only seen (R325). -/
def execCcTerminationChange (n : Nat) (cc : CcState) (s : State) : Host.Outcome State Fault Refusal :=
  .next (if s.ctlOn n then
    let s := s.setSpout n { s.spout n with cc := cc }
    if s.policyOn n then s.ccChange n cc else s
  else s)

/-- R322. ATTACH_DEBOUNCE_EXPIRY: the termination has stood for 150 ms. (DEDUCED, log 142) -/
def execAttachDebounceExpiry (n : Nat) (s : State) : Host.Outcome State Fault Refusal :=
  s.onSpout n (fun s =>
    let x := s.spout n
    let drp := s.get (SPT_CFG_MODE n) == 3
    match s.sptSt n with
    | 3 => if !x.cc.rd then s else if drp && s.get (SPT_CFG_TRY n) == 2 then s.put (SPT_STAT_STATE n) 0xA else s.toCheck n
    | 4 =>
      if x.cc.rp = 0 then s
      else if drp && s.get (SPT_CFG_TRY n) == 1 then s.put (SPT_STAT_STATE n) 8
      else s.attachSnk n
    | _ => s)

/-- R322. DETACH_DEBOUNCE_EXPIRY. -/
def execDetachDebounceExpiry (n : Nat) (s : State) : Host.Outcome State Fault Refusal :=
  s.onSpout n (fun s =>
    if s.engaged n && (s.spout n).absent then
      (if s.attached n then s.detach n else (s.withdraw n).removal n).unattach n
    else s)

/-- R321. TRY_TIMEOUT. (PRESUMED, log 145) -/
def execTryTimeout (n : Nat) (s : State) : Host.Outcome State Fault Refusal :=
  s.onSpout n (fun s =>
    match s.sptSt n with
    | 8 => s.put (SPT_STAT_STATE n) 9
    | 9 => (s.removal n).unattach n
    | 0xA => s.put (SPT_STAT_STATE n) 0xB
    | 0xB => (s.removal n).unattach n
    | _ => s)

/-- R321. ERROR_RECOVERY_TIMEOUT. The state holds while HSW_INJ.CC_OVP forces its detector (R364). (DESIGN CHOICE, log 194) -/
def execErrorRecoveryTimeout (n : Nat) (s : State) : Host.Outcome State Fault Refusal :=
  s.onSpout n (fun s => if s.sptSt n = 0xD ∧ !s.is (HSW_INJ_CC_OVP n) then s.unattach n else s)

/-- R369. VBUS_SENSE_CHANGE: SPT<n>_VBUS_S crosses 4.4 V. -/
def execVbusSenseChange (n : Nat) (above : Bool) (s : State) : Host.Outcome State Fault Refusal :=
  .next (if s.ctlOn n then
    let x := s.spout n
    (s.setSpout n { x with vbus := above, absent := if s.sptSt n = 7 then !above else x.absent }).usbPower n
  else s)

/-! ## Moisture and corrosion (R335 to R338) -/

/-- The spout enters WET (R337). -/
def State.enterWet (s : State) (n : Nat) : State :=
  let s := if s.attached n then s.detach n else ((s.withdraw n).removal n).muxSafe n
  let s := ((s.put (SPT_STAT_STATE n) 0xC).put (SPT_STAT_WET n) 1).put (SPT_WET_STAT_WET n) 1
  ((((s.put (SPT_WET_STAT_DRY_CNT n) 0).put (SPT_STAT_VCONN n) 0).bump (SPT_WET_STAT_WET_COUNT n)).raise 0x0A0A n).detect 0x2D n

/-- A dry check in WET (R337). (DESIGN CHOICE, log 146) -/
def State.dryCheck (s : State) (n : Nat) : State :=
  let k := s.get (SPT_WET_STAT_DRY_CNT n) + 1
  let s := s.put (SPT_WET_STAT_DRY_CNT n) k
  if 3 ≤ k then (((s.put (SPT_STAT_WET n) 0).put (SPT_WET_STAT_WET n) 0).unattach n).raise 0x0A0B n else s

/-- The lines that a check skips (R335): 0 CC1, 1 CC2, 2 SBU1, 3 SBU2. -/
def State.skipped (s : State) (n : Nat) : Nat → Bool
  | 0 => ((s.engaged n) && !s.is (SPT_STAT_ORIENT n)) || (s.is (SPT_STAT_VCONN n) && s.is (SPT_STAT_ORIENT n)) ||
      ((s.engaged n) && (s.spout n).cc.ra && s.is (SPT_STAT_ORIENT n))
  | 1 => ((s.engaged n) && s.is (SPT_STAT_ORIENT n)) || (s.is (SPT_STAT_VCONN n) && !s.is (SPT_STAT_ORIENT n)) ||
      ((s.engaged n) && (s.spout n).cc.ra && !s.is (SPT_STAT_ORIENT n))
  | _ => s.get (SPT_ALT_STAT_MUX n) == 1

/-- The largest of a list of numbers. -/
def largest (l : List Nat) : Nat := l.foldl max 0

/-- R336. MOISTURE_CHECK_DUE. -/
def execMoistureCheckDue (n : Nat) (s : State) : Host.Outcome State Fault Refusal :=
  s.onSpout n (fun s =>
    let x := s.spout n
    let st := s.sptSt n
    if st = 1 ∨ st = 2 then
      (if s.get (SPT_CFG_MODE n) = 3 then s.setSpout n { x with checkDue := true } else s.setSpout n { x with checking := true })
    else if st = 6 ∨ st = 7 ∨ st = 0xC then s.setSpout n { x with checking := true }
    else s)

/-- R335, R337, R338. MOISTURE_CHECK_DONE: Yx in 0.1 µS and G in nS of the four lines in order; those of skipped lines are not
looked at. -/
def execMoistureCheckDone (n : Nat) (yx g : List Nat) (s : State) : Host.Outcome State Fault Refusal :=
  s.onSpout n (fun s =>
    let x := s.spout n
    if !x.checking then s
    else
      let lines := [0, 1, 2, 3].filter (fun i => !s.skipped n i)
      let y := lines.map (fun i => if s.is (SPT_INJ_WET n) then 255 else yx.getD i 0)
      let gs := largest (lines.map (fun i => g.getD i 0))
      let wet := y.any (fun v => decide (s.get (SPT_WET_CFG_WET_THR n) < v))
      let dry := y.all (fun v => decide (v < s.get (SPT_WET_CFG_DRY_THR n)))
      let day := if lines.isEmpty then x.dayG.getD 0 else max (x.dayG.getD 0) gs
      let s := s.setSpout n { x with checking := false, dayG := some day }
      let s := (s.put (SPT_WET_STAT_LAST_YX n) (min (largest y) 255)).putB (SPT_WET_STAT_MEAS_SKIP n) lines.isEmpty
      match s.sptSt n with
      | 5 => if wet then s.enterWet n else if dry then s.attachSrc n else s.setSpout n { s.spout n with checking := true }
      | 0xC => if dry then s.dryCheck n else s.put (SPT_WET_STAT_DRY_CNT n) 0
      | _ => if wet then s.enterWet n else s)

/-- R338. LEAK_LOG_DAY. The first day's entry is entry 1, the one after NEWEST's reset value. (DESIGN CHOICE, log 197) -/
def execLeakLogDay (n : Nat) (s : State) : Host.Outcome State Fault Refusal :=
  s.onSpout n (fun s =>
    let x := s.spout n
    let old := s.get (SPT_LEAK_IDX_NEWEST n)
    let i := (old + 1) % 32
    let s := s.put (SPT_LEAK_IDX_NEWEST n) i
    match x.dayG with
    | none => ((s.put (SPT_LEAK_LOG_VALID n i) 0).put (SPT_LEAK_LOG_G n i) 0).setSpout n { x with rises := 0 }
    | some g =>
      let g := min g 0xFFFF
      let prev := s.get (SPT_LEAK_LOG_G n old)
      let up := s.is (SPT_LEAK_LOG_VALID n old) && decide (prev * 110 < g * 100)
      let rises := if up then x.rises + 1 else 0
      let s := ((s.put (SPT_LEAK_LOG_VALID n i) 1).put (SPT_LEAK_LOG_G n i) g).setSpout n { x with rises := rises, dayG := none }
      if s.get (SPT_WET_CFG_CORR_THR n) * 10 < g ∨ 4 ≤ rises then (s.raise 0x0A0C n).detect 0x2E n else s)

/-! ## Contracts (R320, R326, R327, R362) -/

/-- R327. REQUEST: object position and operating current in 10 mA. -/
def execRequest (n objpos iop : Nat) (s : State) : Host.Outcome State Fault Refusal :=
  s.onSpout n (fun s =>
    let x := s.spout n
    if s.attached n && s.isSource n then
      match (if objpos = 0 then none else x.offered[objpos - 1]?) with
      | some (v, i) =>
        if iop ≤ i then
          ((s.setSpout n { x with asked := some (objpos, iop, v), askedCur := i }).pd n 3 0).setVsel n v
        else s.pd n 4 0
      | none => s.pd n 4 0
    else s)

/-- Discovery starts after the first contract (R331). -/
def State.startDiscovery (s : State) (n : Nat) : State :=
  let x := s.spout n
  let first := !x.hadContract
  let s := s.setSpout n { x with hadContract := true }
  if first && s.is (SPT_POLICY_AUTO_ALT n) then
    (s.setSpout n { s.spout n with disc := 1 }).pd n 15 0
  else s

/-- A contract is shown (R327). -/
def State.showContract (s : State) (n objpos iop v : Nat) : State :=
  let s := ((s.put (SPT_CONTRACT_VALID n) 1).put (SPT_CONTRACT_OBJPOS n) objpos).put (SPT_CONTRACT_VSEL n) v
  let s := ((s.put (SPT_CONTRACT_IOP n) iop).put (SPT_STAT_PD n) 1).raise 0x0A03 n
  (s.startDiscovery n).evalWish n

/-- R327. VOUT_SETTLED. -/
def execVoutSettled (n : Nat) (s : State) : Host.Outcome State Fault Refusal :=
  s.onSpout n (fun s =>
    match (s.spout n).asked with
    | some (o, i, v) =>
      if s.is (HSW_STAT_PG n) then
        ((s.setSpout n { s.spout n with asked := none, pdoCur := (s.spout n).askedCur }).pd n 6 0).showContract n o i v
      else s
    | none => s)

/-- R327. CONTRACT_SETTLE_TIMEOUT. -/
def execContractSettleTimeout (n : Nat) (s : State) : Host.Outcome State Fault Refusal :=
  s.onSpout n (fun s =>
    if (s.spout n).asked.isSome then ((s.raise 0x0A04 n).detect 0x2F n).sendHardReset n else s)

/-- R320. SOURCE_CAPABILITIES: as Sink the hub requests the 5 V object at 100 mA. -/
def execSourceCapabilities (n : Nat) (s : State) : Host.Outcome State Fault Refusal :=
  s.onSpout n (fun s =>
    if s.attached n && !s.isSource n then (s.setSpout n { s.spout n with sinkReq := 1 }).pd n 2 (1 * 1024 + 10) else s)

/-- R319. GET_SINK_CAP. -/
def execGetSinkCap (n : Nat) (s : State) : Host.Outcome State Fault Refusal :=
  s.onSpout n (fun s => if s.attached n then s.pd n 7 0 else s)

/-- R326. GET_SOURCE_CAP. -/
def execGetSourceCap (n : Nat) (s : State) : Host.Outcome State Fault Refusal :=
  s.onSpout n (fun s => if s.attached n then s.sendCaps n else s)

/-- R362. GET_STATUS. -/
def execGetStatus (n : Nat) (s : State) : Host.Outcome State Fault Refusal :=
  s.onSpout n (fun s => if s.attached n then s.sendStatus n else s)

/-- R319. NOT_SUPPORTED_ANSWER: a message outside the supported set. -/
def execNotSupportedAnswer (n : Nat) (s : State) : Host.Outcome State Fault Refusal :=
  s.onSpout n (fun s => if s.attached n then s.pd n 12 0 else s)

/-- R319. SOFT_RESET: open requests of the protocol layer lapse; a Source offers its capabilities again. (DESIGN CHOICE, log
152) -/
def execSoftReset (n : Nat) (s : State) : Host.Outcome State Fault Refusal :=
  s.onSpout n (fun s =>
    if s.attached n then
      let s := (s.setSpout n { s.spout n with asked := none, sinkReq := 0, mine := 0, again := 0 }).pd n 3 0
      if s.isSource n then s.sendCaps n else s
    else s)

/-! ## Swaps (R329, R330, R359) -/

/-- The hub rejects the partner's request, and the result is recorded (R329). (DEDUCED, log 195) -/
def State.answerReject (s : State) (n kind : Nat) : State := (s.swapResult n kind 2).pd n 4 0

/-- The hub answers Wait: the swap waits for the partner's repeat. -/
def State.answerWait (s : State) (n kind : Nat) : State := (s.swapResult n kind 3).pd n 5 0

/-- A partner's request crosses the hub's own of the same kind (R330). -/
def State.crossed (s : State) (n kind : Nat) (stands : Bool) : State :=
  let s := s.answerWait n kind
  if stands then s else s.setSpout n { s.spout n with mine := 0, again := kind }

/-- R329, R330, R359. PR_SWAP from the partner. -/
def execPrSwap (n : Nat) (s : State) : Host.Outcome State Fault Refusal :=
  s.onSpout n (fun s =>
    let x := s.spout n
    if !s.attached n then s
    else if x.mine = 1 then s.crossed n 1 (s.isSource n)
    else if !s.is (SPT_POLICY_PRS_ACC n) || s.isSource n != s.is (SPT_POLICY_PR_WANT n) || x.swapping != 0 then s.answerReject n 1
    else if s.isSource n then (if s.is (HSW_STAT_FWARN n) then s.answerWait n 1 else (s.pd n 3 0).startPr n)
    else if s.get (HSW_STAT_STATE n) = 6 ∨ !s.is (HSW_STAT_SENSE_OK n) ∨ s.is HSW_BUS_STAT_REV then s.answerReject n 1
    else if s.get (HSW_STAT_STATE n) = 5 then s.answerWait n 1
    else (s.pd n 3 0).startPr n)

/-- R329, R330. DR_SWAP from the partner. -/
def execDrSwap (n : Nat) (s : State) : Host.Outcome State Fault Refusal :=
  s.onSpout n (fun s =>
    let x := s.spout n
    if !s.attached n then s
    else if x.mine = 2 then s.crossed n 2 (s.is (SPT_STAT_DATA_ROLE n))
    else if s.is (SPT_POLICY_DRS_ACC n) && s.is (SPT_STAT_DATA_ROLE n) == s.is (SPT_POLICY_DR_WANT n) && x.swapping == 0 then
      (s.pd n 3 0).flipData n
    else s.answerReject n 2)

/-- R329. VCONN_SWAP from the partner: the hub gives VCONN up at the partner's PS_RDY, or takes it over, where it sees Ra
(R324), and sends PS_RDY. (DESIGN CHOICE, log 148) -/
def execVconnSwap (n : Nat) (s : State) : Host.Outcome State Fault Refusal :=
  s.onSpout n (fun s =>
    if !s.attached n then s
    else if s.is (SPT_POLICY_VCS_ACC n) && (s.spout n).swapping == 0 then
      let s := s.pd n 3 0
      if s.is (SPT_STAT_VCONN n) then s.setSpout n { s.spout n with swapping := 3 }
      else ((s.putB (SPT_STAT_VCONN n) (s.spout n).cc.ra).pd n 6 0).swapDone n 3
    else s.answerReject n 3)

/-- R329, R320. ACCEPT: the partner accepts what the hub asked for. -/
def execAccept (n : Nat) (s : State) : Host.Outcome State Fault Refusal :=
  s.onSpout n (fun s =>
    let x := s.spout n
    if !s.attached n then s
    else if x.mine = 1 then s.startPr n
    else if x.mine = 2 then s.flipData n
    else if x.sinkReq = 1 then s.setSpout n { x with sinkReq := 2 }
    else s)

/-- R329. REJECT. -/
def execReject (n : Nat) (s : State) : Host.Outcome State Fault Refusal :=
  s.onSpout n (fun s =>
    let x := s.spout n
    if x.mine ≠ 0 then
      ((s.setSpout n { x with mine := 0, noPr := x.noPr || x.mine == 1, noDr := x.noDr || x.mine == 2 }).swapResult n x.mine 2).evalWish n
    else if x.sinkReq = 1 then s.setSpout n { x with sinkReq := 0 }
    else s)

/-- R330. WAIT: ten repeats in a row, then TIMEOUT. -/
def execWaitAnswer (n : Nat) (s : State) : Host.Outcome State Fault Refusal :=
  s.onSpout n (fun s =>
    let x := s.spout n
    if x.mine = 0 then s
    else if 10 ≤ s.get (SPT_SWAP_STAT_RETRIES n) then
      (s.setSpout n { x with mine := 0, noPr := x.noPr || x.mine == 1, noDr := x.noDr || x.mine == 2 }).swapResult n x.mine 4
    else (s.setSpout n { x with mine := 0, again := x.mine }).swapResult n x.mine 3)

/-- R330, R359. SWAP_RETRY_TIMER: the request is repeated while the wish stands; while the fault timer runs it waits for FWARN to
clear. -/
def execSwapRetryTimer (n : Nat) (s : State) : Host.Outcome State Fault Refusal :=
  s.onSpout n (fun s =>
    let x := s.spout n
    if x.again = 0 then s
    else
      let wish := if x.again = 1 then s.wishPr n else s.wishDr n
      if !wish then (s.setSpout n { x with again := 0 }).evalWish n
      else if x.again = 1 ∧ s.is (HSW_STAT_FWARN n) then s.setSpout n { x with again := 0 }
      else
        ((s.setSpout n { x with again := 0, mine := x.again }).bump (SPT_SWAP_STAT_RETRIES n)).pd n (if x.again = 1 then 8 else 9) 0)

/-- R330. PS_RDY from the partner. -/
def execPsRdy (n : Nat) (s : State) : Host.Outcome State Fault Refusal :=
  s.onSpout n (fun s =>
    let x := s.spout n
    if x.swapping = 1 then
      if s.isSource n then (s.setPower n false).swapDone n 1
      else if x.toSource then s
      else (s.setSpout n { x with toSource := true }).raiseReq n
    else if x.swapping = 3 then (s.put (SPT_STAT_VCONN n) 0).swapDone n 3
    else if x.sinkReq = 2 then (s.setSpout n { x with sinkReq := 0 }).showContract n 1 10 0
    else s)

/-- R330. HARD_RESET received; while the policy is paused it is acted on at step 6 (R325). -/
def execHardReset (n : Nat) (s : State) : Host.Outcome State Fault Refusal :=
  .next (if !decide (n < s.nSpouts) || s.halted then s
  else if s.policyOn n then (if s.attached n then s.hardResetRun n else s)
  else if s.attached n then s.setSpout n { s.spout n with hrPaused := true }
  else s)

/-- R330. HARD_RESET_VBUS_RESTORE. -/
def execHardResetVbusRestore (n : Nat) (s : State) : Host.Outcome State Fault Refusal :=
  s.onSpout n (fun s =>
    if (s.spout n).restoring && s.attached n then (s.setSpout n { s.spout n with restoring := false }).raiseReq n else s)

/-! ## Policy registers (R325, R328, R329) -/

/-- A write of SPT_POLICY that passed its checks: a Reject holds no longer; a wish is withdrawn or starts. -/
def State.sptPolicy (s : State) (n v : Nat) : State :=
  let s := ((s.put (SPT_POLICY_SWAP_EN n) (bits v 8 8)).put (SPT_POLICY_AUTO_ALT n) (bits v 7 7)).put (SPT_POLICY_VCS_ACC n) (bits v 6 6)
  let s := ((s.put (SPT_POLICY_DR_WANT n) (bits v 5 5)).put (SPT_POLICY_DRS_ACC n) (bits v 4 4)).put (SPT_POLICY_PR_WANT n) (bits v 3 3)
  let s := s.put (SPT_POLICY_PRS_ACC n) (bits v 2 2)
  let x := s.spout n
  let stands := if x.again = 1 then s.wishPr n else s.wishDr n
  (s.setSpout n { x with noPr := false, noDr := false, again := if stands then x.again else 0 }).evalWish n

/-- A write of SPT_PDO that passed its checks: capabilities go out again under a contract (R328). -/
def State.sptPdo (s : State) (n i v : Nat) : State :=
  let s := s.put (SPT_PDO_IMAX n i) (clampNat 50 500 (v % 1024))
  let s := if i = 0 then s else (s.put (SPT_PDO_EN n i) (bits v 31 31)).put (SPT_PDO_VSEL n i) (bits v 17 16)
  if s.policyOn n && s.is (SPT_CONTRACT_VALID n) && s.isSource n then s.sendCaps n else s

/-- A write of SPT_CFG that passed its checks. A wet spout stays in WET until its dry checks (R337). (DESIGN CHOICE, log 144) -/
def State.sptCfg (s : State) (n v : Nat) : State :=
  let s := ((s.put (SPT_CFG_TRY n) (min (bits v 11 10) 2)).put (SPT_CFG_RP n) (min (bits v 9 8) 2)).put (SPT_CFG_MODE n) (v % 4)
  let st := s.sptSt n
  if v % 4 = 0 then (if st = 0 ∨ st = 0xC then s else s.sptDisable n)
  else if s.policyOn n && decide (st ≤ 2) then s.unattach n
  else s

/-! ## Alternate modes (R331, R332, R340) -/

/-- Mode m, 1 DP or 2 SAM, is permitted on spout n. -/
def State.modeOn (s : State) (n m : Nat) : Bool :=
  decide (n < s.nWide) && (if m = 1 then s.is (SPT_ALT_CFG_DP_EN n) && s.hasDisplay else s.is (SPT_ALT_CFG_SAM_EN n))

/-- Enter Mode is sent. -/
def State.enterMode (s : State) (n m : Nat) (cmd : Bool) : State :=
  (s.setSpout n { s.spout n with disc := 0, entering := m, byCommand := cmd }).pd n 19 m

/-- The waiting SPT_MODE command has its answer. -/
def State.modeAnswer (s : State) (n code : Nat) : State :=
  let x := s.spout n
  if x.byCommand then
    let s := s.setSpout n { x with byCommand := false }
    match s.bkt.queue with
    | c :: _ => if c.op = 0x0A00 then { s with bkt := { s.bkt with stage := .ready 0 (leBytes 1 code) } } else s
    | [] => s
  else s

/-- R331. DISCOVER_RESPONSE: the VDOs, the SVIDs or the mode VDOs. The modes are asked for the SVID of AUTO_MODE alone. (DESIGN
CHOICE, log 196) -/
def execDiscoverResponse (n : Nat) (kind : DiscKind) (vdos : List Nat) (s : State) : Host.Outcome State Fault Refusal :=
  s.onSpout n (fun s =>
    let x := s.spout n
    let auto := s.get (SPT_ALT_CFG_AUTO_MODE n)
    let m := if s.modeOn n auto then auto else 0
    if !s.attached n then s
    else match kind with
    | .identity =>
      let s := s.setSpout n { x with partnerVdos := vdos, disc := if x.disc = 1 then 2 else x.disc }
      if x.disc = 1 then s.pd n 17 0 else s
    | .cableIdentity => s.setSpout n { x with cableVdos := vdos }
    | .svids =>
      if x.disc = 2 ∧ (m = 1 ∨ m = 2) ∧ vdos.contains (if m = 1 then 0xFF01 else 0x2F1C) then
        (s.setSpout n { x with disc := 3 }).pd n 18 0
      else s.setSpout n { x with disc := 0 }
    | .modes =>
      if x.disc = 3 ∧ s.is (SPT_STAT_DATA_ROLE n) ∧ (m = 1 ∨ (m = 2 ∧ bit (vdos.headD 0) 0)) then s.enterMode n m false
      else s.setSpout n { x with disc := 0 })

/-- R332. ENTER_MODE_ACK. -/
def execEnterModeAck (n : Nat) (s : State) : Host.Outcome State Fault Refusal :=
  s.onSpout n (fun s =>
    let x := s.spout n
    if x.entering = 0 then s
    else
      let s := ((s.setSpout n { x with entering := 0 }).put (SPT_ALT_STAT_MUX n) x.entering).raise 0x0A07 n
      (s.evalOutput n).modeAnswer n 0)

/-- R332. ENTER_MODE_NAK. -/
def execEnterModeNak (n : Nat) (s : State) : Host.Outcome State Fault Refusal :=
  s.onSpout n (fun s =>
    let x := s.spout n
    if x.entering = 0 then s else ((s.setSpout n { x with entering := 0 }).raise 0x0A08 n).modeAnswer n 1)

/-- R332. EXIT_MODE_ACK. -/
def execExitModeAck (n : Nat) (s : State) : Host.Outcome State Fault Refusal :=
  s.onSpout n (fun s =>
    let x := s.spout n
    if x.exiting then ((s.setSpout n { x with exiting := false }).raise 0x0A07 n).modeAnswer n 0 else s)

/-- R331. ATTENTION: HPD and link status of a DisplayPort partner. -/
def execAttention (n : Nat) (hpd irqLinkLost : Bool) (s : State) : Host.Outcome State Fault Refusal :=
  s.onSpout n (fun s => if s.get (SPT_ALT_STAT_MUX n) = 1 then s.hpdChange n hpd irqLinkLost else s)

/-- R340. SPT_MODE. (DESIGN CHOICE, log 16) -/
def cmdSptMode (c : BktCmd) (s : State) : BktStage × State :=
  let n := c.byte 4
  let op := c.byte 5
  let mux := s.get (SPT_ALT_STAT_MUX n)
  let m := op + 1
  let absent := decide (s.nSpouts ≤ n) || decide (s.nWide ≤ n)
  let denied := c.ch != 0 || (decide (op < 2) && !s.modeOn n m)
  let st := !s.is (SPT_STAT_DATA_ROLE n) || !s.is (SPT_STAT_PD n) || (decide (op < 2) && mux != 0 && mux != m) || (op == 2 && mux == 0)
  bktRun (s.bktCheck c absent (decide (2 < op)) denied st false) s (fun s =>
    if op < 2 then (.waiting, s.enterMode n m true)
    else
      let s := (s.muxSafe n).pd n 20 mux
      (.waiting, s.setSpout n { s.spout n with exiting := true, byCommand := true }))

/-- R340. SPT_HARD_RESET. -/
def cmdSptHardReset (c : BktCmd) (s : State) : BktStage × State :=
  let n := c.byte 4
  bktRun (s.bktCheck c (decide (s.nSpouts ≤ n)) false (c.ch != 0) (!s.attached n) false) s
    (fun s => answerOk [] (s.sendHardReset n))

/-- R340. SPT_DISC_READ. -/
def cmdSptDiscRead (c : BktCmd) (s : State) : BktStage × State :=
  let n := c.byte 4
  let l := if c.byte 5 = 0 then (s.spout n).partnerVdos else (s.spout n).cableVdos
  bktRun (s.bktCheck c (decide (s.nSpouts ≤ n)) (decide (1 < c.byte 5)) (c.ch != 0) l.isEmpty false) s
    (fun s => answerOk (fit 28 ((l.take 7).flatMap (leBytes 4))) s)

/-! ## The Spout Alternate Mode link (R333, R334) -/

/-- R333. SAM_LINK_UP. -/
def execSamLinkUp (n : Nat) (s : State) : Host.Outcome State Fault Refusal :=
  s.onSpout n (fun s =>
    if n < s.nWide ∧ s.get (SPT_ALT_STAT_MUX n) = 2 ∧ !s.is (SPT_ALT_STAT_SAM_UP n) then
      ((s.put (SPT_ALT_STAT_SAM_UP n) 1).raise 0x0A09 n).samGrant n
    else s)

/-- R333, R334. SAM_FRAME_RECEIVE: a frame with its header and, for data, its CRC-32C most significant byte first. (DESIGN
CHOICE, log 125) -/
def execSamFrameReceive (n : Nat) (raw : Bytes) (s : State) : Host.Outcome State Fault Refusal :=
  s.onSpout n (fun s =>
    if n < s.nWide ∧ s.is (SPT_ALT_STAT_SAM_UP n) then
      let h := beAt raw 0 8
      match h / 2 ^ 60 with
      | 0 =>
        let len := bits h 55 42
        if raw.length ≠ len + 12 ∨ len = 0 ∨ 16368 < len ∨ crc32c (raw.take (8 + len)) ≠ beAt raw (8 + len) 4 then
          s.bump (SPT_ALT_STAT_CRC_ERR n)
        else if s.noRoom len then s
        else
          let x := s.spout n
          let s := s.setSpout n { x with samOut := x.samOut - cellsFor len }
          let k := bits h 59 56
          let d := slice raw 8 len
          let port := 12 + n
          let ctx := s.get (SPT_STREAM_CTX n k)
          let (id, s) := s.landStream { data := d, stamp := s.hubTime, src := port, port := port, ctx := ctx,
                                        gen := s.sliceGen (s.ctxSlice ctx),
                                        early := s.is (CTX_CFG_EARLY ctx) && decide (256 < len) }
          (if s.is (SPT_STREAM_EN n k) then s.pendChain id ctx else s.sump id 9).settle
      | 1 => s.setSpout n { s.spout n with samTx := (s.spout n).samTx + bits h 41 26 }
      | _ => s
    else s)

end Sys2Proof.Machine
end

