-- ==== Sys2Proof/Machine/Slices.lean ====
section
/-! DEFINITION. Slices: binding, the local steps of a reset, propagation, removal and reconciliation (R297 to R314). -/
namespace Sys2Proof.Machine

/-- The next generation of slice sl. -/
def State.nextGen (s : State) (sl : Nat) : Nat := (s.sliceGen sl + 1) % 256

/-- A host context of slice sl. -/
def State.ownContext (s : State) (sl c : Nat) : Bool := !isSystem c && decide (c < s.nCtx) && s.ctxSlice c == sl

/-- The contexts of slice sl. -/
def State.contextsOf (s : State) (sl : Nat) : List Nat := (List.range s.nCtx).filter (s.ownContext sl)

/-- Step 2 and the pending chains of step 4: the contexts go OFF (R195). -/
def State.offContexts (s : State) (sl : Nat) : State := (s.contextsOf sl).foldl (fun s c => s.turnOff c 0xD) s

/-- Step 4: frames of the slice in direct queues. -/
def State.flushQueues (s : State) (sl : Nat) : State :=
  (List.range 35).foldl
    (fun s p =>
      let q := s.directQ p
      let gone := q.filter (fun id => (s.frame id).slice == sl)
      if gone.isEmpty then s
      else gone.foldl (fun s id => s.sump id 0xD) (s.setDirectQ p (q.filter (fun id => (s.frame id).slice != sl)))) s

/-- Step 4: the timers of the slice's contexts. -/
def State.disarm (s : State) (sl : Nat) : State :=
  { s with pumps := { s.pumps with timers := s.pumps.timers.filter (fun e => !s.ownContext sl (e.1 / 4)) } }

/-- Step 5: requests and tags of the slice. (DESIGN CHOICE, log 119) -/
def State.abandonSlice (s : State) (sl : Nat) : State :=
  let dnGone := s.brg.dnWait.filter (fun r => r.slice == sl)
  let upGone := s.brg.upWait.filter (fun r => r.slice == sl)
  let s := { s with brg := { s.brg with
    dnWait := s.brg.dnWait.filter (fun r => r.slice != sl), upWait := s.brg.upWait.filter (fun r => r.slice != sl) } }
  let s := dnGone.foldl (fun s r => if r.write && r.unit == 0 then s else s.completeTo r.unit 0 2 []) s
  let s := upGone.foldl (fun s r => s.completeTo r.unit 0 1 []) s
  let dn := (s.brg.dn.filter (fun e => e.2.req.slice == sl && e.2.req.win.isSome)).map (·.1)
  let up := (s.brg.up.filter (fun e => e.2.req.slice == sl)).map (·.1)
  let s := dn.foldl State.abandonDn s
  up.foldl (fun s t => s.abandonUp t 1) s

/-- Step 6: the wells of the slice. -/
def State.flushWells (s : State) (sl : Nat) : State :=
  (s.wellNos.filter (fun n => s.get (WEL_CFG_SLICE n) == sl)).foldl (fun s n => (s.flushWell n).2) s

/-- R38. Commands busy on channel sl lose their responses, but for an executing SLC_RESET that the slice placed there. -/
def State.discardChannel (s : State) (sl : Nat) : State :=
  let busy := s.bkt.queue.any (fun c => c.ch == sl)
  let itself := match s.bkt.queue with
    | c :: _ => c.ch == sl && c.op == 0x0901
    | [] => false
  if busy && !itself && !s.bkt.discard.contains sl then { s with bkt := { s.bkt with discard := sl :: s.bkt.discard } } else s

/-- R309. The local steps, with the generation that the slice takes. (DEDUCED, log 118) -/
def State.sliceSteps (s : State) (sl gen : Nat) (remove : Bool) : State :=
  let s := (s.put (SLC_STAT_GEN sl) gen).bump (SLC_STAT_RESETS sl)
  let s := if remove then s.put (SLC_STAT_REMOVING sl) 1 else s.put (SLC_STAT_RESETTING sl) 1
  let s := (s.discardChannel sl).offContexts sl
  let s := s.haltThreads (s.ownContext sl) 0xD true
  let s := ((s.flushQueues sl).disarm sl).abandonSlice sl
  let s := s.flushWells sl
  let s := s.zeroSlots (fun s k => s.slotOwner k == sl && s.slotVol k)
  (s.usbSliceReset sl).settle

/-- R312. What a removal does beyond the steps of a reset. (DESIGN CHOICE, log 49) -/
def State.sliceRemove (s : State) (sl : Nat) : State :=
  let s := (s.put (SLC_BIND_BOUND sl) 0).put (SLC_BIND_PASID sl) 0
  let s := s.zeroSlots (fun s k => s.slotOwner k == sl)
  let s := (List.range 128).foldl (fun s k => if s.slotOwner k = sl then s.put (SEC_SLOT_ATTR_ATTR k) 0 else s) s
  let s := (List.range 256).foldl
    (fun s g => if (s.get (PMP_PAGE_STATE g) = 1 ∨ s.get (PMP_PAGE_STATE g) = 2) ∧ s.get (PMP_PAGE_SLICE g) = sl then s.freePage g else s) s
  let s := (s.contextsOf sl).foldl (fun s c => s.put (CTX_OWNER_SLICE c) 0) s
  let s := (List.range 512).foldl
    (fun s n => if s.get (WEL_CFG_SLICE n) = sl then (s.put (WEL_CFG_SLICE n) 0).put (WEL_CFG_EN n) 0 else s) s
  let s := (List.range 64).foldl
    (fun s n => if s.get (BRG_WIN_CFG_SLICE n) = sl then (s.put (BRG_WIN_CFG_SLICE n) 0).put (BRG_WIN_CFG_EN n) 0 else s) s
  let s := (List.range 4096).foldl
    (fun s n => if s.get (MSG_RT_SLICE n) = sl then (s.put (MSG_RT_SLICE n) 0).put (MSG_RT_EN n) 0 else s) s
  let s := (List.range 256).foldl
    (fun s n => if s.get (ALT_ALLOT_CFG_SLICE n) = sl then (s.put (ALT_ALLOT_CFG_SLICE n) 0).put (ALT_ALLOT_CFG_EN n) 0 else s) s
  let s := (s.unput (MSG_VEC_RANGE_BASE sl)).unput (MSG_VEC_RANGE_COUNT sl)
  let s := ((s.unput (SLC_PORTS_PORTS sl)).unput (SLC_RCTX_COUNT sl)).unput (SLC_RCTX_BASE sl)
  s.usbSliceRemove sl

/-- The wells of the frames that have started and not ended. -/
def State.startedWells (s : State) : List Nat :=
  s.cis.tx.filterMap (fun e => e.2.well) ++
    s.links.flatMap (fun e => (e.2.cur.map (·.2) ++ e.2.pack.elim [] (·.done) ++ e.2.aside.elim [] (·.done)).filterMap (·.well))

/-- Steps 1 to 7 of a reset of slice sl have not ended on this hub: step 6 waits for frames in transmission (R38, R309). -/
def State.stepsRun (s : State) (sl : Nat) : Bool :=
  s.resetting sl && s.startedWells.any (fun n => s.get (WEL_CFG_SLICE n) == sl)

/-! ## Between hubs (R297, R298, R310, R312) -/

/-- The members of this hub's group other than itself, as they stand: 0 to 3. -/
def State.otherMembers (s : State) : List Nat :=
  if s.hasCascade then [0, 1, 2, 3].filter (fun j => j != s.get CLK_STRAP_CAS_ID && (assocGet {} s.cas.members j).present) else []

/-- Those that can be reached. -/
def State.reachable (s : State) : List Nat := s.otherMembers.filter (fun j => (s.pathTo j).isSome)

/-- Members as bits 4 to 7 (R314). -/
def memberBits (l : List Nat) : Nat := l.foldl (fun m j => setBit m (4 + j) true) 0

/-- Members that cannot be reached, as bits 4 to 7. -/
def State.cutOff (s : State) : Nat := memberBits (s.otherMembers.filter (fun j => (s.pathTo j).isNone))

/-- A record that every hub of this group is to have goes to each that can be reached. -/
def State.tellMembers (s : State) (x : Fab) : State := s.reachable.foldl (fun s j => s.sendFab { x with dest := s.memberHub j }) s

/-- The same, and to the far end of the trunk, from where it goes to the group there. -/
def State.tellHubs (s : State) (x : Fab) : State := (s.sendFab { x with dest := s.farHub }).tellMembers x

/-- A reset notice, a removal notice or a report of slice sl. It takes the way of all wellhead traffic, system contexts in class
CTL, and is held and replayed there (R27, R297, R311). (DESIGN CHOICE, log 181) -/
def State.sliceFab (s : State) (kind : FabKind) (sl : Nat) : Fab :=
  { kind := kind, dest := s.farHub, src := s.origin, slice := sl, gen := s.sliceGen sl }

/-- The kind of a notice. -/
def noticeKind (remove : Bool) : FabKind := if remove then .remove else .reset

/-- The reset or removal ends on the dock hub (R310, R312). -/
def State.endReset (s : State) (r : SliceReset) : State :=
  let s := { s with resets := s.resets.filter (fun x => x.slice != r.slice) }
  if r.remove then ((s.sliceRemove r.slice).put (SLC_STAT_REMOVING r.slice) 0).raise 0x0903 r.slice
  else (s.put (SLC_STAT_RESETTING r.slice) 0).raise 0x0902 r.slice

/-- The results of SLC_RESET and SLC_REMOVE. -/
def State.resetResult (s : State) (r : SliceReset) : Bytes := leBytes 1 (s.sliceGen r.slice) ++ leBytes 1 r.unreached

/-- A tag or a delayed-read slot still holds a generation of slice sl (R308). -/
def State.genHeld (s : State) (sl gen : Nat) : Bool :=
  s.brg.dn.any (fun e => e.2.req.slice == sl && e.2.req.gen == gen) || s.brg.up.any (fun e => e.2.req.slice == sl && e.2.req.gen == gen) ||
    s.brg.slots.any (fun e => e.2.slice == sl && e.2.gen == gen)

/-- SLC_RESET and SLC_REMOVE share their course (R308 to R312, R314). -/
def State.resetCommand (s : State) (c : BktCmd) (remove : Bool) : BktStage × State :=
  let sl := c.byte 4
  let bad := decide (63 < sl)
  let denied := !s.dock || sl == 0 || (c.ch != 0 && (remove || c.ch != sl))
  let busy := s.resetting sl || s.genHeld sl (s.nextGen sl)
  bktRun (s.bktCheck c false bad denied (!s.bound sl) busy) s (fun s =>
    let s := s.sliceSteps sl (s.nextGen sl) remove
    let peer := s.pathOut.isSome
    let r : SliceReset := { slice := sl, remove := remove, ch := c.ch, waiting := peer.toNat + memberBits s.reachable,
                            unreached := (!peer).toNat + s.cutOff }
    let s := s.tellHubs (s.sliceFab (noticeKind remove) sl)
    if r.waiting = 0 then
      let s := s.endReset r
      (.ready 0 (s.resetResult r), s)
    else (.waiting, { s with resets := s.resets ++ [r] }))

/-- R310. SLC_RESET. -/
def cmdSlcReset (c : BktCmd) (s : State) : BktStage × State := s.resetCommand c false

/-- R312. SLC_REMOVE. -/
def cmdSlcRemove (c : BktCmd) (s : State) : BktStage × State := s.resetCommand c true

/-- R297, R299, R300. SLC_BIND: every other hub takes the binding. -/
def cmdSlcBind (c : BktCmd) (s : State) : BktStage × State :=
  let sl := c.byte 4
  let p := c.le 8 4
  let held := (List.range 64).any (fun n => n != sl && s.bound n && s.get (SLC_BIND_PASID n) == p)
  let bad := decide (63 < sl) || decide (0xFFFFF < p) || held
  let busy := sl == 0 && s.brg.up.any (fun e => e.2.req.slice == 0)
  bktRun (s.bktCheck c false bad (!s.dock || c.ch != 0) (sl != 0 && s.bound sl) busy) s (fun s =>
    let s := ((s.put (SLC_BIND_BOUND sl) 1).put (SLC_BIND_PASID sl) p).raise 0x0901 sl
    answerOk [] (s.tellHubs { s.sliceFab .bind sl with addr := p }))

/-- A reset in propagation takes its next form: it ends when nothing is awaited. A hub that has carried it on reports. -/
def State.stepReset (s : State) (r : SliceReset) : State :=
  if r.waiting = 0 then
    match r.report with
    | some h =>
      ({ s with resets := s.resets.filter (fun x => x.slice != r.slice) }).sendFab
        { s.sliceFab .report r.slice with dest := h, code := r.unreached }
    | none =>
      let s := s.endReset r
      { s with bkt := { s.bkt with stage := .ready 0 (s.resetResult r) } }
  else { s with resets := s.resets.map (fun (x : SliceReset) => if x.slice = r.slice then r else x) }

/-- Hub `hub`, 0 the peer and 4 to 7 members 0 to 3, has finished step 7, but for the hubs behind it that could not be reached. -/
def SliceReset.heard (r : SliceReset) (hub unreached : Nat) : SliceReset :=
  { r with waiting := setBit r.waiting hub false, unreached := r.unreached ||| unreached }

/-- R310. SLICE_RESET_REPORT. -/
def execSliceResetReport (hub : Nat) (s : State) : Host.Outcome State Fault Refusal :=
  .next (match s.resets with
  | r :: _ => if s.running && bit r.waiting hub then s.stepReset (r.heard hub 0) else s
  | [] => s)

/-- A report that has come from a hub (R310). -/
def State.takeReport (s : State) (x : Fab) : State :=
  let hub := if x.src % 2 = s.origin % 2 then 4 + x.src / 2 else 0
  match s.resets.find? (fun r => r.slice == x.slice && bit r.waiting hub) with
  | some r => s.stepReset (r.heard hub x.code)
  | none => s

/-- R310. SLICE_RESET_BOUND: 5 ms have passed; the hubs that have not reported are named. -/
def execSliceResetBound (s : State) : Host.Outcome State Fault Refusal :=
  .next (match s.resets with
  | r :: _ => if s.running then s.stepReset { r with waiting := 0, unreached := r.unreached ||| r.waiting } else s
  | [] => s)

/-- The steps of a reset, or of a removal, on a hub other than the dock hub (R309, R312). -/
def State.farReset (s : State) (remove : Bool) (sl gen : Nat) : State :=
  let s := s.sliceSteps sl gen remove
  if remove then (s.sliceRemove sl).put (SLC_STAT_REMOVING sl) 0 else s.put (SLC_STAT_RESETTING sl) 0

/-- A notice, and to which hub the report goes. A notice that has come over the trunk goes on to the group (R297, R310); of one that
reconciliation has overtaken only the report is left. -/
def State.takeNotice (s : State) (remove : Bool) (sl gen src : Nat) (onward : Bool) : State :=
  if sl = 0 then s
  else
    let s := if s.sliceGen sl = gen then s else s.farReset remove sl gen
    let r : SliceReset := { slice := sl, remove := remove, ch := 0, waiting := if onward then memberBits s.reachable else 0,
                            unreached := if onward then s.cutOff else 0, report := some src }
    if r.waiting = 0 then s.stepReset r
    else ({ s with resets := s.resets ++ [r] }).tellMembers (s.sliceFab (noticeKind remove) sl)

/-- R310, R312. SLICE_RESET_NOTICE at a far hub: the steps, and the report to the far end of the trunk. -/
def execSliceResetNotice (remove : Bool) (sl : Nat) (s : State) : Host.Outcome State Fault Refusal :=
  .next (if s.running && decide (1 ≤ sl ∧ sl < 64) then s.takeNotice remove sl (s.nextGen sl) s.farHub true else s)

/-- A change of a binding that the dock hub has carried over (R297). -/
def State.takeBind (s : State) (sl p : Nat) : State := (s.put (SLC_BIND_BOUND sl) 1).put (SLC_BIND_PASID sl) (p % 2 ^ 20)

/-- A removal came between: the slice was bound here, and the dock hub's record shows it unbound, or bound to another PASID, which only a
removal allows (R300, R312). -/
def State.removedBetween (s : State) (r : SliceRec) : Bool :=
  r.slice != 0 && s.bound r.slice && (!r.bound || s.get (SLC_BIND_PASID r.slice) != r.pasid % 2 ^ 20)

/-- One record of the dock hub at reconciliation (R298, R312): with another generation come the steps of a reset, or those of a removal that
this hub has missed. -/
def State.reconcileOne (s : State) (r : SliceRec) : State :=
  let sl := r.slice
  if 64 ≤ sl then s
  else
    let changed := s.bound sl != r.bound || (r.bound && s.get (SLC_BIND_PASID sl) != r.pasid % 2 ^ 20) || s.sliceGen sl != r.gen % 256
    if !changed then s
    else
      let s := if s.sliceGen sl = r.gen % 256 then s else s.farReset (s.removedBetween r) sl (r.gen % 256)
      let s := (s.putB (SLC_BIND_BOUND sl) r.bound).put (SLC_BIND_PASID sl) (if r.bound then r.pasid else 0)
      s.raise 0x0905 sl

/-- R298. Reconciliation with the dock hub's records. (DESIGN CHOICE, log 120) -/
def State.reconcile (s : State) (recs : List SliceRec) : State := recs.foldl State.reconcileOne s

/-- The slice records of this hub, four bytes each: the generation, and the binding with BOUND in bit 23. (DESIGN CHOICE, log
181) -/
def State.recordBytes (s : State) : Bytes :=
  (List.range 64).flatMap (fun n =>
    leBytes 1 (s.sliceGen n) ++ leBytes 3 (s.get (SLC_BIND_PASID n) + s.get (SLC_BIND_BOUND n) * 2 ^ 23))

/-- The records of a hub whose bytes came. -/
def parseSliceRecs (b : Bytes) : List SliceRec :=
  (List.range (min 64 (b.length / 4))).map (fun n =>
    ⟨n, bit (leAt b (4 * n + 1) 3) 23, leAt b (4 * n + 1) 3 % 2 ^ 20, leAt b (4 * n) 1⟩)

end Sys2Proof.Machine
end

