-- ==== Sys2Proof/Machine/Group.lean ====
section
/-! DEFINITION. The cascade group as one hub sees it: members, the roles of trunks, islanding, the standby's switchover, the loss of a member (R42 to R46, R118 to R120, R434 to R443). -/
namespace Sys2Proof.Machine

/-- This hub takes part in a cascade group (R435): its part has cascade ports and CAS_CTRL.EN is 1. -/
def State.cascading (s : State) : Bool := s.hasCascade && s.is CAS_CTRL_EN

/-- This hub's member number (R429). -/
def State.self (s : State) : Nat := s.get CLK_STRAP_CAS_ID

/-- Member j as this hub holds it. -/
def State.member (s : State) (j : Nat) : Member := assocGet {} s.cas.members j

/-- Writing member j. -/
def State.setMember (s : State) (j : Nat) (m : Member) : State :=
  { s with cas := { s.cas with members := assocSet {} j m s.cas.members } }

/-- The TRUNK byte of HELLO and LINK_STATE (R434). -/
def State.trunkCode (s : State) : Nat := if s.trunkUp then max 1 s.trunk.role else 0

/-- The link to member j is up. -/
def State.direct (s : State) (j : Nat) : Bool := s.cascading && j != s.self && s.linkUp (s.portTo j)

/-- The LINKS byte of HELLO and LINK_STATE. -/
def State.linkMask (s : State) : Nat := ([0, 1, 2, 3].filter s.direct).foldl (fun m j => setBit m j true) 0

/-- Some member with a link to this hub shows a link to member j. -/
def State.seen (s : State) (j : Nat) : Bool :=
  [0, 1, 2, 3].any (fun k => k != j && s.direct k && bit (s.member k).links j)

/-- The members present, this hub included (R435). -/
def State.present (s : State) (j : Nat) : Bool := j == s.self || (s.cascading && (s.member j).present)

/-- The trunk role of member j: 0 none, 1 active, 2 standby, 3 spare. -/
def State.roleOf (s : State) (j : Nat) : Nat :=
  if j = s.self then s.trunkCode else if s.present j then (s.member j).trunk else 0

/-- The lowest-numbered member with a trunk role. -/
def State.holder (s : State) (r : Nat) : Option Nat := [0, 1, 2, 3].find? (fun j => s.roleOf j == r)

/-- The coordinator: the holder of the active trunk, else the lowest-numbered member present (R435). -/
def State.coordinator (s : State) : Nat := (s.holder 1).getD (([0, 1, 2, 3].find? s.present).getD s.self)

/-! ## What the wellhead controllers of a group and of its peer tell one another (R281, R298, R445, R449) -/

/-- The members present, this hub included. -/
def State.groupSize (s : State) : Nat := ([0, 1, 2, 3].filter s.present).length

/-- The group holds three or four members (R449). -/
def State.bigGroup (s : State) : Bool := decide (3 ≤ s.groupSize)

/-- A group of three or four stands on either side of the trunk (R281). -/
def State.wideTopology (s : State) : Bool := s.bigGroup || decide (3 ≤ s.brg.peerGroup)

/-- R281. Such a group has formed since start-up step 6: the bridge drains towards DELAYED. -/
def State.orderCheck (s : State) : State :=
  if s.is GLB_HUB_STAT_SYS_RUN && !s.is BRG_ORD_MODE && s.wideTopology then s.put BRG_ORD_DRAIN 1 else s

/-- The dock hub, whose slice records prevail: the coordinator of the dock side (R298). (DESIGN CHOICE, log 183) -/
def State.prevails (s : State) : Bool := s.dock && s.coordinator == s.self

/-- This hub takes the dock hub's slice records (R298). -/
def State.takeRecords (s : State) (recs : List SliceRec) : State := if s.prevails then s else s.reconcile recs

/-- The slice records as this hub sends them on. -/
def State.recordsFab (s : State) (dest : Nat) : Fab :=
  { kind := .bind, dest := dest, src := s.origin, code := 1, data := s.recordBytes }

/-- This hub tells the hub at the far end of the active trunk how large its group is (R281). -/
def State.tellSize (s : State) : State := s.sendFab { kind := .group, dest := s.farHub, src := s.origin, code := s.groupSize }

/-- The same as the trunk comes into use, with the dock hub's slice records (R298). -/
def State.tellPeer (s : State) : State :=
  let s := s.tellSize
  if s.prevails then s.sendFab (s.recordsFab s.farHub) else s

/-- A member that joins takes the dock hub's slice records from the dock hub, or from the holder of the trunk to it (R298, R435). -/
def State.tellSlices (s : State) (m : Nat) : State :=
  if s.prevails || (!s.dock && s.trunkUp && s.trunk.role == 1) then s.sendFab (s.recordsFab (s.memberHub m)) else s

/-- The coordinator tells member m the size of the peer's group, its discard timer and its bank (R281, R445, R449). LEN 0 names no timer,
WIN 0 no bank. -/
def State.tellMember (s : State) (m : Nat) : State :=
  if s.coordinator = s.self then
    s.sendFab { kind := .group, dest := s.memberHub m, src := s.origin, code := s.brg.peerGroup, win := s.bankInUse + 1,
                len := if s.bigGroup then s.get BRG_ORD_DRD_TO else 0 }
  else s

/-- What another hub has told of groups: the size of the group beyond the trunk, the coordinator's discard timer, the coordinator's bank,
which a trunk that is not active takes without a swap. What has come over the trunk goes on to the group. -/
def State.takeGroup (s : State) (x : Fab) : State :=
  let far := x.src % 2 != s.origin % 2
  let s := if x.code = 0 then s else ({ s with brg := { s.brg with peerGroup := x.code } }).orderCheck
  if far then s.tellMembers { x with src := s.origin, win := 0, len := 0 }
  else if x.src / 2 != s.coordinator then s
  else
    let s := if x.len = 0 then s else s.put BRG_ORD_DRD_TO (clampNat 1 16000 x.len)
    if x.win = 0 || s.trunkCode == 1 then s
    else
      let s := s.put ALT_CAL_STAT_TBL (1 - (2 - x.win))
      if s.trunkUp then s.selectTable (max 1 s.allot.lanes) else s

/-- The body of HELLO and LINK_STATE (R434). -/
def State.linkState (s : State) : Bytes :=
  leBytes 1 s.self ++ leBytes 1 (if s.dock then 1 else 0) ++ leBytes 1 s.linkMask ++ leBytes 1 s.trunkCode

/-- Sending LINK_STATE on every up cascade link (R434, R441). -/
def State.tellLinks (s : State) : State :=
  if s.cascading then [1, 2, 3].foldl (fun s p => if s.linkUp p then s.sendCtl p 0x11 s.linkState else s) s else s

/-! ## Islanding (R42 to R46, R440) -/

/-- The hub's tunnels have a trunk: its own, or in a group the active one or a standby that is taking over (R120, R440). -/
def State.carried (s : State) : Bool :=
  if s.cascading then (s.holder 1).isSome || s.cas.switching else s.trunkUp

/-- The wells bound to port 0. -/
def State.trunkWells (s : State) : List Nat := (List.range 512).filter (fun n => s.get (WEL_CFG_PORT n) == 0)

/-- Entry to islanded operation (R42). -/
def State.enterIsland (s : State) : State :=
  let s := (s.put GLB_HUB_STAT_ISLAND 1).raise 0x0002 0
  let s := { s with cis := { s.cis with shedSeen := [] } }
  let s := s.trunkWells.foldl (fun s n => s.markCheck n) s
  ((s.flushDirect 0).usbIsland).settle

/-- The end of islanded operation (R46): over-age frames of the wells bound to port 0 go to the sump first, and the marks act again behind
them (R175). -/
def State.leaveIsland (s : State) : State :=
  let s := s.trunkWells.foldl (fun s n => s.sweepWell n) s
  let s := (s.put GLB_HUB_STAT_ISLAND 0).raise 0x0003 0
  let s := s.trunkWells.foldl (fun s n => s.markCheck n) s
  (s.usbReturn).settle

/-- ISLAND follows the trunk, from start-up step 6 on (R42, R440, R520). -/
def State.islandCheck (s : State) : State :=
  let want := s.is GLB_HUB_STAT_SYS_RUN && !s.carried
  if want && !s.islanded then s.enterIsland
  else if !want && s.islanded then s.leaveIsland
  else s

/-! ## The group's registers and roles (R438 to R440, R452) -/

/-- CAS_GRP_STAT and the standby bits of GLB_HUB_STAT, from what this hub holds. (DESIGN CHOICE, log 85) -/
def State.showGroup (s : State) : State :=
  if !s.hasCascade then s
  else
    let old := s.is CAS_GRP_STAT_ACT_V
    let act := s.holder 1
    let stby := s.holder 2
    let sw := s.cas.switching
    let now := act.isNone && stby.isSome && (old || sw)
    let s := { s with cas := { s.cas with switching := now } }
    let s := (s.putB CAS_GRP_STAT_ACT_V act.isSome).put CAS_GRP_STAT_ACT (act.getD 0)
    let s := (s.putB CAS_GRP_STAT_STBY_V stby.isSome).put CAS_GRP_STAT_STBY (stby.getD 0)
    let s := s.put CAS_GRP_STAT_MEMBERS (([0, 1, 2, 3].filter s.present).foldl (fun m j => setBit m j true) 0)
    let s := s.put CAS_GRP_STAT_DIRECT s.linkMask
    let s := s.putB GLB_HUB_STAT_STBY_HELD (s.trunkCode == 2)
    if act.isSome && sw then (s.put GLB_HUB_STAT_STBY_ACT 1).raise 0x1006 (act.getD 0)
    else if act.isNone && !now then s.put GLB_HUB_STAT_STBY_ACT 0
    else s

/-- The lowest-numbered spare becomes the standby when there is none (R438). -/
def State.promote (s : State) : State :=
  if s.cascading && !s.dock && s.trunkCode == 3 && (s.holder 2).isNone && s.holder 3 == some s.self then
    (({ s with trunk := { s.trunk with role := 2 } }).showGroup.raise 0x1006 (s.get CAS_GRP_STAT_ACT)).tellLinks
  else s

/-- A parcel of a trunk that a standby has taken over: one of which nothing was sent goes the new way, the others are lost.
(DESIGN CHOICE, log 173) -/
def State.redirect (s : State) (x : Parcel) : State :=
  if x.first then (parseFab x.data).elim s s.sendFab else x.write.elim s (fun w => s.lostWrite 5 w)

/-- A frozen trunk whose switchover has come to nothing is handled as lost (R120); when a standby has taken it over, this hub's parcels go
there. -/
def State.thaw (s : State) : State :=
  let l := s.link 0
  if l.frozen && !l.up && !s.cas.switching then
    if s.is CAS_GRP_STAT_ACT_V then
      l.parcels.foldl State.redirect (s.setLink 0 { l with frozen := false, parcels := [], posted := [] })
    else s.loseLink 0
  else s

/-- The group has changed. -/
def State.groupUpdate (s : State) : State := ((s.showGroup.promote).thaw).islandCheck

/-- The role of a trunk that comes up (R438). (DESIGN CHOICE, log 82) -/
def State.assignRole (s : State) : Nat :=
  if !s.cascading || (s.dock && s.otherMembers.isEmpty) then 1
  else if s.dock then 2
  else if (s.holder 1).isNone && !s.cas.switching && s.is CAS_CTRL_ACT_EN then 1
  else if (s.holder 2).isNone && s.is CAS_CTRL_STBY_EN then 2
  else 3

/-! ## The standby's switchover (R118, R119, R443) -/

/-- The STBY_TAKE record (R112). (DEDUCED, log 83) -/
def stbyTakeContent (e next ctl spo : Nat) : Bytes := beBytes 2 e ++ beBytes 2 next ++ beBytes 4 ctl ++ beBytes 4 spo

/-- The standby trunk is in use: ISO slots wait for the first cycle boundary at least 8 µs later, and run on the bank that its holder has
in use (R119, R445). -/
def State.trunkTaken (s : State) : State :=
  let s := { s with trunk := { s.trunk with role := 1 },
                    allot := { s.allot with calOn := false, calFrom := s.hubTime + 8000 } }
  let s := s.selectTable (max 1 s.allot.lanes)
  (((s.raise 0x0004 0).tellLinks).groupUpdate).tellPeer

/-- Step 7 of R119: this side holds the peer's STBY_TAKE and every forwarded flit. -/
def State.tryTake (s : State) : State :=
  let l := s.link 0
  match l.stbyTake with
  | none => s
  | some e =>
    let n := (l.txNext + 4096 - e) % 4096
    let have_ := (l.held.filter (fun h => decide ((h.lseq + 4096 - e) % 4096 < n))).length
    if s.trunk.role == 2 && l.stbyState.isSome && !l.frozen && have_ == n then
      let s := s.setLink 0 { l with
        held := l.held.filter (fun h => decide ((h.lseq + 4096 - e) % 4096 < n)), stbyTake := none, stbyState := none, tookOver := true }
      (s.startReplay 0).trunkTaken
    else s

/-- Steps 2 to 4 of R443: numbers, credits and epochs restart, and STBY_TAKE with restart is sent: its control flit is the first
of the new numbering. (DEDUCED, log 83) -/
def State.sendRestart (s : State) : State :=
  let (c, d) := s.initialGrant 0
  let s := s.startLink 0
  (s.setLink 0 { s.link 0 with frozen := true }).sendCtl 0 7 (stbyTakeContent 0xFFFF 0 c d)

/-- A STBY_TAKE on the standby trunk (R119, R443): one with restart prevails over one without, and tells the hub whose trunk was lost. -/
def State.stbyTaken (s : State) (e ctl spo : Nat) : State :=
  let late := e == 0xFFFF && s.trunk.role == 1 && (s.link 0).tookOver
  if !(s.trunk.role == 2 || late) || !s.trunkUp then s
  else if e = 0xFFFF then
    let s := if (s.link 0).frozen then s else s.sendRestart
    let s := s.setLink 0 { s.link 0 with frozen := false, expect := 1, got := true }
    let s := s.trunkTaken
    s.tellMembers { s.sliceFab .restart 0 with dest := s.origin }
  else if (s.link 0).frozen then s
  else
    let l := s.link 0
    let s := s.setLink 0 { l with
      stbyTake := some (e % 4096), synced := true, est := assocPut 1 (ctl % 2 ^ 32) (assocPut 2 (spo % 2 ^ 32) []) }
    s.tryTake

/-- The hub whose trunk was lost learns that the standbys have restarted: its replay buffer is handled under R117 (R443). -/
def State.takeRestart (s : State) : State := if (s.link 0).up then s else s.loseLink 0

/-- The lost active trunk's state goes to the standby holder over the cascade (R119 step 4). Frames partly sent and chains
partly received are handled here as where no standby takes over, and the credits of landed cells lapse. (DESIGN CHOICE, log 173)
-/
def State.freezeTrunk (s : State) : State :=
  let l := s.link 0
  let p := (s.pathTo (s.get CAS_GRP_STAT_STBY)).getD 0
  let g := fun (m : List (Nat × Nat)) k => assocGet 0 m k
  let s := s.dropFlow 0
  let l' := s.link 0
  let s := s.emit (.stbyState p l.expect l.txNext (g l.grant 1) (g l.grant 2) (g l.used 1) (g l.used 2)
    (g l.taken 1) (g l.taken 2))
  let s := l.held.foldl (fun s h => s.emit (.stbyFlit p h.lseq h.ftype h.cls h.segn h.body)) s
  s.setLink 0 { l' with up := false, frozen := true }

/-! ## Losing a member (R441, R442) -/

/-- Member m is marked down: the posted writes that the link to it has not seen acknowledged are lost, and requests towards it end
(R442). -/
def State.markDown (s : State) (m : Nat) : State :=
  if m = s.self ∨ !(s.member m).present then s
  else
    let p := s.portTo m
    let wasActive := s.roleOf m == 1
    let s := s.setMember m {}
    let s := (s.raise 0x1003 m).detect 0x26 m
    let lost := (s.link p).posted
    let s := s.setLink p { s.link p with posted := [] }
    let s := lost.foldl (fun s w => s.lostWrite 6 w) s
    let dn := (s.brg.dn.filter (fun e => s.crossesCascade e.2.req.hub && s.nextMember e.2.req.hub == m)).map (·.1)
    let up := if s.upCrosses && s.nextMember 1 == m then s.brg.up.map (·.1) else []
    let s := dn.foldl State.abandonDn s
    let s := up.foldl (fun s t => s.abandonUp t 2) s
    let s := s.groupUpdate
    if wasActive && s.trunkCode == 2 && s.cas.switching then s.sendRestart else s

/-- The check of R441 for a member to which the link is down: no member with a link to this hub shows a link to it, and every
other present member has such a link. (DESIGN CHOICE, log 84) -/
def State.memberCheck (s : State) (m : Nat) : State :=
  if (s.member m).present && !s.direct m && !s.seen m &&
      [0, 1, 2, 3].all (fun k => k == m || k == s.self || !s.present k || s.direct k) then s.markDown m
  else s

/-- A cascade link is declared down (R432, R441). -/
def State.casLinkDown (s : State) (p cause : Nat) : State :=
  if !s.linkUp p then s
  else
    let m := s.memberAt p
    let s := ((s.loseLink p).put (CAS_PORT_STAT_STATE (p - 1)) 4).put (CAS_PORT_STAT_CAUSE (p - 1)) cause
    let s := ((s.bump (CAS_PORT_STAT_DOWNS (p - 1))).raise 0x1002 (p - 1)).detect 0x24 (p - 1)
    let s := s.setMember m { s.member m with awaited := some (0, s.hubTime) }
    let s := s.tellLinks.groupUpdate
    [0, 1, 2, 3].foldl (fun s m => s.memberCheck m) s

end Sys2Proof.Machine
end

