-- ==== Sys2Proof/Machine/Trunk.lean ====
section
/-! DEFINITION. Trunk lanes and priming: the priming states, lane faults, power states of lanes, PRBS checking, the optical engine, re-admission (R49 to R83). -/
namespace Sys2Proof.Machine

/-- The priming state (R55). -/
def State.primeState (s : State) : Nat := s.get TRK_PRIME_STAT_STATE

/-- The four physical lanes. -/
def fourLanes : List Nat := [0, 1, 2, 3]

/-- R541, R542. Input i is masked, so that its unit sees it inactive. -/
def State.inputMasked (s : State) (i : Nat) : Bool := bit (s.get FLT_IN_STAT_CHAT) i || bit (s.get FLT_IN_STAT_STUCK) i

/-! ## Coefficients (R64 to R66) -/

/-- The clamp of R64. -/
def clampEq (p m q : Nat) : Coef :=
  let p1 := min p 15
  let q1 := min q 23
  let q1 := if 23 < p1 + q1 then 23 - p1 else q1
  ⟨p1, min (max m (17 + p1 + q1)) (63 - p1 - q1), q1⟩

/-- Preset k (R65). -/
def presetEq (k : Nat) : Coef :=
  match k with
  | 0 => ⟨0, 63, 0⟩
  | 1 => ⟨0, 53, 10⟩
  | 2 => ⟨0, 48, 15⟩
  | 3 => ⟨4, 51, 8⟩
  | 4 => ⟨4, 47, 12⟩
  | 5 => ⟨8, 47, 8⟩
  | 6 => ⟨6, 41, 16⟩
  | _ => ⟨0, 40, 23⟩

/-- The coefficients of transmit lane n. -/
def State.laneEq (s : State) (n : Nat) : Coef := ⟨s.get (TRK_LANE_EQ_PRE n), s.get (TRK_LANE_EQ_MAIN n), s.get (TRK_LANE_EQ_POST n)⟩

/-- Writing them. -/
def State.setLaneEq (s : State) (n : Nat) (c : Coef) : State :=
  ((s.put (TRK_LANE_EQ_PRE n) c.pre).put (TRK_LANE_EQ_MAIN n) c.main).put (TRK_LANE_EQ_POST n) c.post

/-- Coefficients that priming chooses, which a lane under EQ_OVR does not take (R66). -/
def State.primeEq (s : State) (n : Nat) (c : Coef) : State := if s.is (TRK_LANE_CTRL_EQ_OVR n) then s else s.setLaneEq n c

/-! ## Training records (R63, R93) -/

/-- The 16 bytes of a record of a kind. -/
def trainBytes (kind : Nat) (r : TrainRec) : Bytes :=
  ([kind, r.lane, r.lmask, r.maxr, r.fec, r.role, r.rate, r.res, r.eqMode, r.eqPre, r.eqMain, r.eqPost, r.stepAt, r.round, 0, 0].map
    (BitVec.ofNat 8))

/-- The record of a training-flit body: its kind and its fields; none where the kind is reserved. -/
def parseTrain (b : Bytes) : Option (Nat × TrainRec) :=
  let f := fun i => leAt b i 1
  if 1 ≤ f 0 ∧ f 0 ≤ 7 then
    some (f 0, { lane := f 1 % 4, lmask := f 2 % 16, maxr := f 3 % 4, fec := f 4 % 2, role := f 5, rate := f 6 % 4, res := f 7, eqMode := f 8,
                 eqPre := f 9, eqMain := f 10, eqPost := f 11, stepAt := f 12, round := f 13 })
  else none

/-- A training flit: every header field but FTYPE and HCRC is 0 (R93). -/
def trainFlit (kind : Nat) (r : TrainRec) : Bytes := flitHeader 5 0 0 0 0 false 0 0 0 ++ fit 248 (trainBytes kind r)

/-- LMASK: the receive lanes in lock, by the logical number that the peer gives the lane (R63, R75), so that bit i of a received
mask is this hub's transmit lane i. (DESIGN CHOICE, log 161) -/
def State.lockedLanes (s : State) : Nat :=
  (bitList (s.get TRK_PRIME_STAT_RX_LANES &&& s.trunk.heard) 4).foldl (fun m n => setBit m (s.get (TRK_LANE_STAT_LOGICAL n)) true) 0

/-- What every record of this hub carries. -/
def State.trainBase (s : State) : TrainRec :=
  { lmask := s.lockedLanes, maxr := s.trunk.maxRate, fec := 1, role := if s.dock then 1 else 0,
    rate := s.get TRK_PRIME_STAT_RATE, eqPre := s.get TRK_CTRL_PRESET }

/-- Sending a record of a kind on every enabled lane, each with its own number. (DEDUCED, log 73) -/
def State.sendTrain (s : State) (kind : Nat) (r : TrainRec) : State :=
  (bitList (s.get TRK_CTRL_LANE_EN) 4).foldl (fun s n => s.emit (.train n (trainFlit kind { r with lane := n }))) s

/-! ## The detectors of receive lanes (R67, R74) -/

/-- LOS and LOL of lane n show their conditions or their injection. -/
def State.showDetectors (s : State) (n : Nat) : State :=
  (s.putB (TRK_LANE_STAT_LOS n) (bit s.trunk.losNow n || s.is (TRK_LANE_INJ_LOS n))).putB (TRK_LANE_STAT_LOL n)
    (bit s.trunk.lolNow n || s.is (TRK_LANE_INJ_LOL n))

/-- The LOS condition of lane n: with it goes the light that was seen. -/
def State.setLos (s : State) (n : Nat) (v : Bool) : State :=
  { s with trunk := { s.trunk with losNow := setBit s.trunk.losNow n v, light := setBit s.trunk.light n (!v) } }.showDetectors n

/-- The LOL condition of lane n. -/
def State.setLol (s : State) (n : Nat) (v : Bool) : State :=
  { s with trunk := { s.trunk with lolNow := setBit s.trunk.lolNow n v } }.showDetectors n

/-- Fresh equaliser settings of receive lane n: no row carries them. -/
def State.drawEq (s : State) (n : Nat) : State :=
  let (k, s) := s.draw
  let (j, s) := s.draw
  let v := Config.freeNat k
  let s := ((s.put (TRK_LANE_RXEQ0_DFE4 n) (bits v 28 23)).put (TRK_LANE_RXEQ0_DFE3 n) (bits v 22 17)).put (TRK_LANE_RXEQ0_DFE2 n)
    (bits v 16 11)
  let s := ((s.put (TRK_LANE_RXEQ0_DFE1 n) (bits v 10 4)).put (TRK_LANE_RXEQ0_CTLE n) (bits v 3 0)).put (TRK_LANE_RXEQ1_DFE5 n)
    (Config.freeNat j)
  { s with trunk := { s.trunk with adapted := setBit s.trunk.adapted n false } }

/-- Adaptation of receive lane n runs: the receiver has had a signal since reset, and neither ADAPT_HOLD nor a quiet or a deep direction
freezes it (R67). -/
def State.adapting (s : State) (n : Nat) : Bool :=
  (decide (2 ≤ s.primeState) || s.get TRK_PRIME_STAT_ATTEMPTS != 0) && !s.is (TRK_LANE_CTRL_ADAPT_HOLD n) && !s.rxQuiet &&
    s.get TRK_PWR_RX_STATE == 0

/-- A read of the equaliser settings of lane n finds those of the moment, or those at which adaptation was frozen. -/
def State.readEq (s : State) (n : Nat) : State := if s.adapting n || bit s.trunk.adapted n then s.drawEq n else s

/-- Receive lanes of a mask that adapt have moved. -/
def State.adaptMove (s : State) (mask : Nat) : State :=
  (bitList mask 4).foldl
    (fun s n => if s.is (TRK_LANE_CTRL_ADAPT_HOLD n) then s
      else { s with trunk := { s.trunk with adapted := setBit s.trunk.adapted n true } }) s

/-! ## PRBS checking (R72, R73, R83) -/

/-- The source of lane n's checker in force: 0 off, 1 the whole lane out of service, 2 idle-flit bodies in service. -/
def State.sqNow (s : State) (n : Nat) : Nat := assocGet 0 s.trunk.sq n

/-- The checker of receive lane n runs; from UP until QUAL it does so in service whatever SQ_MODE holds (R73). -/
def State.checking (s : State) (n : Nat) : Bool :=
  if s.is (TRK_LANE_STAT_IN_SVC n) then
    (!s.is (TRK_LANE_STAT_QUAL n) || s.sqNow n == 2) && s.get TRK_PWR_RX_STATE == 0 && !s.rxQuiet
  else s.sqNow n == 1

/-- Adding k to the count of bits that lane n's checker has checked. -/
def State.addBits (s : State) (n k : Nat) : State :=
  let v := s.get (TRK_LANE_BITS_LO_BITS n) + 2 ^ 32 * s.get (TRK_LANE_BITS_HI_BITS n) + k
  (s.put (TRK_LANE_BITS_LO_BITS n) (v % 2 ^ 32)).put (TRK_LANE_BITS_HI_BITS n) (v / 2 ^ 32 % 2 ^ 32)

/-- Out of service every bit of the lane is checked: those since the last count, in steps of 10 ns. -/
def State.prbsAdvance (s : State) (n : Nat) : State :=
  let t := assocGet 0 s.trunk.sqTime n
  let k := (s.hubTime - t) / 10
  let s' := { s with trunk := { s.trunk with sqTime := assocPut n (t + 10 * k) s.trunk.sqTime } }
  if s.sqNow n = 1 && !s.is (TRK_LANE_STAT_IN_SVC n) then
    (if s.is (TRK_LANE_STAT_LOS n) || s.is (TRK_LANE_STAT_LOL n) then s' else s'.addBits n (k * rate10 (s.get TRK_PRIME_STAT_RATE)))
  else s

/-- SQ_MODE of lane n comes into force; out-of-service checking waits while the lane is in service (R72). (DEDUCED, log 167) -/
def State.applySq (s : State) (n : Nat) : State :=
  let m := s.get (TRK_LANE_CTRL_SQ_MODE n)
  if m = 1 && s.is (TRK_LANE_STAT_IN_SVC n) then s
  else
    let s := s.prbsAdvance n
    { s with trunk := { s.trunk with sq := assocSet 0 n m s.trunk.sq,
                                     sqTime := if m = 1 ∧ s.sqNow n ≠ 1 then assocPut n s.hubTime s.trunk.sqTime else s.trunk.sqTime } }

/-- Idle-flit body bytes checked without error on receive lane n (R72, R73). -/
def State.checkBody (s : State) (n bytes : Nat) : State :=
  if s.checking n then
    let s := s.addBits n (8 * bytes)
    if s.is (TRK_LANE_STAT_QUAL n) then s
    else { s with trunk := { s.trunk with clean := assocMod 0 n (· + 8 * bytes) s.trunk.clean } }
  else s

/-- The codeword turns that the body of the next received flit lies in, with its bytes there: the middle flit of five lies in two. -/
def State.bodyTurns (s : State) : List (Nat × Nat) :=
  let l := s.link 0
  let k := max 1 s.trunk.dealing.length
  let here := (l.rxTurn + k - 1) % k
  match l.rxPhase with
  | 0 => [(l.rxTurn, 248)]
  | 2 => [(here, 120), (l.rxTurn, 128)]
  | _ => [(here, 248)]

/-- The receive lane of a codeword turn of the trunk. -/
def State.turnLane (s : State) (t : Nat) : Option Nat :=
  s.rxLane (s.trunk.dealing.getD (t % max 1 s.trunk.dealing.length) 0)

/-- A good idle flit has been received: its body is checked on the lanes that carried it. -/
def State.checkIdle (s : State) (turns : List (Nat × Nat)) : State :=
  turns.foldl (fun s e => (s.turnLane e.1).elim s (fun n => s.checkBody n e.2)) s

/-- A checked bit of lane n was wrong: it is counted, and the clean count starts afresh (R72, R73). -/
def State.cleanBroken (s : State) (n : Nat) : State :=
  let s := (s.bump (TRK_LANE_ERRS_ERRS n)).put (TRK_LANE_STAT_PRBS_ERR n) 1
  { s with trunk := { s.trunk with clean := assocDel n s.trunk.clean } }

/-- R73. PRBS_ERROR: the clean count starts afresh. -/
def execPrbsError (n : Nat) (s : State) : Host.Outcome State Fault Refusal :=
  .next (if s.linksLive && decide (n < 4) && s.checking n then
    let s := s.cleanBroken n
    if s.is (TRK_LANE_STAT_IN_SVC n) && !s.is (TRK_LANE_STAT_QUAL n) then (s.raise 0x0207 n).detect 0x1C n else s
  else s)

/-- R73. LANE_QUALIFIED: 10^10 bits have passed without error. -/
def execLaneQualified (n : Nat) (s : State) : Host.Outcome State Fault Refusal :=
  .next (if s.linksLive && decide (n < 4) && s.is (TRK_LANE_STAT_IN_SVC n) && !s.is (TRK_LANE_STAT_QUAL n) &&
      decide (10 ^ 10 ≤ assocGet 0 s.trunk.clean n) then
    (s.put (TRK_LANE_STAT_QUAL n) 1).raise 0x0208 n
  else s)

/-! ## Priming (R54 to R62) -/

/-- Entering a priming state. -/
def State.toPrime (s : State) (st : Nat) : State := s.put TRK_PRIME_STAT_STATE st

/-- µs since the priming timer started. (DESIGN CHOICE, log 157) -/
def State.primeTime (s : State) : State :=
  s.put TRK_PRIME_TIME_TIME (s.trunk.timer.elim 0 (fun t => (s.hubTime - t) / 1000))

/-- Priming fails (R61). (DESIGN CHOICE, log 77) -/
def State.failPriming (s : State) (cause : Nat) : State :=
  let s := ((s.toPrime 0xA).bump TRK_PRIME_STAT_ATTEMPTS).put TRK_PRIME_STAT_CAUSE cause
  let s := s.primeTime
  let s := { s with trunk := { s.trunk with timer := none, returned := false } }
  (s.raise 0x0202 0).detect 0x1D cause

/-- Priming is under way. -/
def State.primingNow (s : State) : Bool := decide (1 ≤ s.primeState ∧ s.primeState ≤ 8)

/-- LOCK, with the priming timer running (R54, R62). -/
def State.enterLock (s : State) : State :=
  let s := { s with trunk := { s.trunk with timer := some (s.trunk.timer.getD s.hubTime) } }
  (s.put TRK_PRIME_STAT_RX_LANES 0).toPrime 2

/-- R54, R55. DETECT ends once the engines carry light and LOS stands deasserted on an enabled lane that has had a signal: LOS
reads 0 after reset before any signal, and such a lane does not count. (DESIGN CHOICE, log 166) -/
def State.detectCheck (s : State) : State :=
  if s.primeState == 1 && s.is TRK_OE_EN &&
      fourLanes.any (fun n => bit (s.get TRK_CTRL_LANE_EN) n && bit s.trunk.light n && !s.is (TRK_LANE_STAT_LOS n)) then s.enterLock
  else s

/-- Receive lanes, their corrections and qualification as priming starts (R75, R80). -/
def State.clearLane (s : State) (n : Nat) : State :=
  let s := ((s.put (TRK_LANE_STAT_IN_SVC n) 0).put (TRK_LANE_STAT_QUAL n) 0).put (TRK_LANE_STAT_POL_INV n) 0
  let s := (s.put (TRK_LANE_STAT_LOGICAL n) 0).put (TRK_LANE_STAT_PSTATE n) (if bit (s.get TRK_CTRL_LANE_EN) n then 0 else 3)
  (s.primeEq n (presetEq (s.get TRK_CTRL_PRESET))).applySq n

/-- The level of TRK_OE_FLT_N: no row carries its rise, so a level that has been low may have risen since. (DESIGN CHOICE, log
78) -/
def State.senseOe (s : State) : State :=
  if s.is TRK_OE_FLT then
    let (k, s) := s.draw
    s.put TRK_OE_FLT (Config.freeNat k % 2)
  else s

/-- R60. TRK_OE_FLT_N is low, and its input is not masked. -/
def State.oeFaulty (s : State) : Bool := s.is TRK_OE_FLT && !s.inputMasked 9

/-- This hub's trunk primes: a member of a cascade does so with ACT_EN or STBY_EN at 1 (R438). -/
def State.mayPrime (s : State) : Bool := !s.cascading || s.is CAS_CTRL_ACT_EN || s.is CAS_CTRL_STBY_EN

/-- Priming starts from DETECT (R54, R60, R61). A trunk held by a contained fault waits for FLT_RECOVER (R524, R544), and one that is
neither to be active nor standby does not prime (R438). -/
def State.startPriming (s : State) : State :=
  if !s.mayPrime then s.toPrime 0
  else if s.heldPort 0 then s.toPrime 0xB
  else
    let s := s.senseOe
    let s := { s with trunk := { s.trunk with
      timer := none, returned := false, maxRate := s.get TRK_CTRL_MAX_RATE, goodRate := 0, goodEq := [], fellBack := false, relock := 0, own := none,
      peer := none, step := none, round := 0, acked := 0, peerEq := [], heard := 0, confirmed := false, ts2 := none, readmit := none,
      dealing := [] } }
    let s := ((s.put TRK_PRIME_STAT_RX_LANES 0).put TRK_PRIME_STAT_TX_LANES 0).put TRK_PRIME_STAT_RATE 0
    let s := fourLanes.foldl State.clearLane (s.toPrime 1)
    if s.oeFaulty then s.failPriming 6 else (s.sendTrain 1 s.trainBase).detectCheck

/-- What follows a declaration that the trunk is down (R61): priming, or DOWN. -/
def State.afterDown (s : State) : State := if s.is TRK_CTRL_AUTO then s.startPriming else s.toPrime 0xB

/-- A lane leaves service as the trunk goes down: its checker follows SQ_MODE, and it is in L0 (R68, R72). -/
def State.laneDown (s : State) (n : Nat) : State :=
  if s.is (TRK_LANE_STAT_IN_SVC n) then
    (((s.put (TRK_LANE_STAT_IN_SVC n) 0).put (TRK_LANE_STAT_QUAL n) 0).put (TRK_LANE_STAT_PSTATE n) 0).applySq n
  else s

/-- The link layer declares the trunk down (R42, R117, R119, R572): a re-admission in progress has come to nothing (R80). -/
def State.trunkDown (s : State) : State :=
  if !s.trunkUp then s
  else
    let takes := s.trunk.role == 1 && s.cascading && s.is CAS_GRP_STAT_STBY_V && s.get CAS_GRP_STAT_STBY != s.self &&
      (s.pathTo (s.get CAS_GRP_STAT_STBY)).isSome
    let s := if takes then s.freezeTrunk else s.loseLink 0
    let s := s.put GLB_HUB_STAT_TRK_UP 0
    let s := if s.trunk.readmit.isSome then s.endReadmit 6 else s
    let s := { s with trunk := { s.trunk with role := 0, calWait := false, l2dAsked := false, l2dEnter := false, clean := [], bursts := [] } }
    let s := s.calendarDown
    let s := fourLanes.foldl State.laneDown s
    let s := (s.put TRK_PWR_TX_STATE 0).put TRK_PWR_RX_STATE 0
    ((s.raise 0x0302 0).tellLinks).groupUpdate

/-- CONFIG (R55). -/
def State.enterConfig (s : State) : State :=
  let s := { s with trunk := { s.trunk with relock := 0, heard := 0, confirmed := false, ts2 := none } }
  (s.toPrime 3).sendTrain 1 s.trainBase

/-- CHECK at the rate in use (R56). -/
def State.enterCheck (s : State) : State := { s.toPrime 4 with trunk := { s.trunk with own := none, peer := none } }

/-- READY (R55). -/
def State.enterReady (s : State) : State := (s.toPrime 8).sendTrain 7 s.trainBase

/-- STEP to the next rate (R55, R63): the hub's own STEP record names a count of 16 to 255 that the spec leaves to it. (DESIGN
CHOICE, log 75) -/
def State.enterStep (s : State) : State :=
  let (d, s) := s.draw
  let n := 16 + Config.freeNat d % 240
  let r := s.get TRK_PRIME_STAT_RATE + 1
  let s := { s.toPrime 5 with trunk := { s.trunk with step := some (r, n), relock := 0 } }
  s.sendTrain 5 { s.trainBase with rate := r, stepAt := n }

/-- A round of requests for new peer coefficients, which the spec leaves to the receiver (R55): the record on lane n asks for
the peer's transmit lane n. (DESIGN CHOICE, log 74) -/
def State.askEq (s : State) (round : Nat) : State :=
  let s := { s with trunk := { s.trunk with round := round, acked := 0 } }
  (bitList (s.get TRK_CTRL_LANE_EN) 4).foldl
    (fun s n =>
      let (d, s) := s.draw
      let w := Config.freeNat d
      s.emit (.train n (trainFlit 3 { s.trainBase with lane := n, eqMode := 1, eqPre := w % 16, eqMain := w / 16 % 64,
                                                       eqPost := w / 1024 % 24, round := round }))) s

/-- EQ (R55). -/
def State.enterEq (s : State) : State := ({ s.toPrime 6 with trunk := { s.trunk with peerEq := [] } }).askEq 1

/-- FALLBACK: the previous rate, with the coefficients that passed there (R55, R57). -/
def State.enterFallback (s : State) : State :=
  let good := s.trunk.goodEq
  let s := s.put TRK_PRIME_STAT_RATE s.trunk.goodRate
  let s := good.foldl (fun s e => s.primeEq e.1 e.2) s
  let s := { s.toPrime 7 with trunk := { s.trunk with fellBack := true, relock := 0, own := none, peer := none, step := none } }
  s.raise 0x0203 0

/-- A step check has passed at both ends (R55, R57). -/
def State.checkPassed (s : State) : State :=
  if s.primeState = 7 then s.enterReady
  else
    let r := s.get TRK_PRIME_STAT_RATE
    let s := { s with trunk := { s.trunk with goodRate := r, goodEq := fourLanes.map (fun n => (n, s.laneEq n)) } }
    if r < s.trunk.maxRate then s.enterStep else s.enterReady

/-- A step check has failed (R57). -/
def State.checkFailed (s : State) : State :=
  if s.primeState = 7 ∨ s.get TRK_PRIME_STAT_RATE = 0 then s.failPriming 5 else s.enterFallback

/-- The step check ends when both results are known (R56). -/
def State.judge (s : State) : State :=
  match s.trunk.own, s.trunk.peer with
  | some a, some b => if a && b then s.checkPassed else s.checkFailed
  | _, _ => s

/-- Every receive lane of the mask stands in another mask. -/
def State.coversRx (s : State) (m : Nat) : Bool := m &&& s.get TRK_PRIME_STAT_RX_LANES == s.get TRK_PRIME_STAT_RX_LANES

/-- The last lane of a direction is lost in priming: back to DETECT, the timer running on (R60). -/
def State.backToDetect (s : State) : State :=
  let s := { s with trunk := { s.trunk with
    returned := true, own := none, peer := none, step := none, relock := 0, heard := 0, confirmed := false, ts2 := none } }
  let s := (((s.put TRK_PRIME_STAT_RATE 0).put TRK_PRIME_STAT_TX_LANES 0).put TRK_PRIME_STAT_RX_LANES 0).toPrime 1
  (s.sendTrain 1 s.trainBase).detectCheck

/-- The transmit lanes that the peer shows in lock: the others are out of the mask, and without one priming returns to DETECT (R60). -/
def State.peerLanes (s : State) (r : TrainRec) : State :=
  let tx := s.get TRK_PRIME_STAT_TX_LANES &&& r.lmask
  if 4 ≤ s.primeState ∧ s.primeState ≤ 8 then
    (if tx = 0 then s.backToDetect else s.put TRK_PRIME_STAT_TX_LANES tx)
  else s

/-- CONFIG goes on (R55, R58, R59): TS2 goes out once every lane of the mask has brought a record, and CONFIG ends once each has brought
the peer's TS2. (DESIGN CHOICE, log 76) -/
def State.configStep (s : State) : State :=
  let s := if s.coversRx s.trunk.heard && !s.trunk.confirmed then
      ({ s with trunk := { s.trunk with confirmed := true } }).sendTrain 2 s.trainBase
    else s
  match s.trunk.ts2 with
  | some r =>
    if s.trunk.confirmed && s.coversRx s.trunk.relock then
      let tx := r.lmask &&& s.get TRK_CTRL_LANE_EN
      if tx = 0 then s.failPriming 4
      else
        let s := { s with trunk := { s.trunk with maxRate := min s.trunk.maxRate (r.maxr % 4) } }
        (s.put TRK_PRIME_STAT_TX_LANES tx).enterCheck
    else s
  | none => s

/-- A receive lane locks (R55, R75): its polarity is settled in LOCK. -/
def State.lockLane (s : State) (n : Nat) (inverted : Bool) : State :=
  let rx := s.get TRK_PRIME_STAT_RX_LANES
  let s := s.adaptMove (2 ^ n)
  match s.primeState with
  | 2 =>
    let s := (s.putB (TRK_LANE_STAT_POL_INV n) inverted).put TRK_PRIME_STAT_RX_LANES (setBit rx n true)
    if s.get TRK_PRIME_STAT_RX_LANES = s.get TRK_CTRL_LANE_EN then s.enterConfig else s
  | 5 =>
    if s.trunk.step.isNone && bit rx n then
      let s := { s with trunk := { s.trunk with relock := setBit s.trunk.relock n true } }
      if s.coversRx s.trunk.relock then s.enterEq else s
    else s
  | 7 => { s with trunk := { s.trunk with relock := setBit s.trunk.relock n true } }
  | _ => s

/-- A receive lane is left out of the mask in priming (R60); in CONFIG the peer learns of it by another TS2. -/
def State.leaveOut (s : State) (n : Nat) : State :=
  let s := s.put TRK_PRIME_STAT_RX_LANES (setBit (s.get TRK_PRIME_STAT_RX_LANES) n false)
  if s.primeState = 2 then s
  else if s.get TRK_PRIME_STAT_RX_LANES = 0 then s.backToDetect
  else if s.primeState = 3 then (if s.trunk.confirmed then s.sendTrain 2 s.trainBase else s).configStep
  else if s.primeState = 5 && s.trunk.step.isNone && s.coversRx s.trunk.relock then s.enterEq
  else s

/-- A priming state exceeds its bound (R55). -/
def State.stateTimeout (s : State) : State :=
  match s.primeState with
  | 2 => if s.get TRK_PRIME_STAT_RX_LANES = 0 then s.backToDetect else s.enterConfig
  | 3 => s.failPriming 1
  | 4 => if s.get TRK_PRIME_STAT_RATE = 0 then s.failPriming 1 else s.enterFallback
  | 5 => s.enterFallback
  | 6 => s.enterCheck
  | 7 => s.failPriming 1
  | 8 => s.failPriming 1
  | _ => s

/-! ## Lane faults (R74, R77, R79) -/

/-- The removal of receive lane n (R77 step 3): the servo of R398 holds from now on. -/
def State.removeLane (s : State) (n : Nat) : State :=
  let s := ((s.put (TRK_LANE_STAT_IN_SVC n) 0).put (TRK_LANE_STAT_QUAL n) 0).put (TRK_LANE_STAT_REMOVED n) 1
  let s := (s.put TRK_PRIME_STAT_RX_LANES (setBit (s.get TRK_PRIME_STAT_RX_LANES) n false)).applySq n
  let s := ({ s with trunk := { s.trunk with clean := assocDel n s.trunk.clean } }.raise 0x0204 n).ptpHold
  let left := (fourLanes.filter (fun i => s.is (TRK_LANE_STAT_IN_SVC i))).map (fun i => s.get (TRK_LANE_STAT_LOGICAL i))
  if left.isEmpty then s.trunkDown.afterDown
  else
    let l := s.link 0
    let e := (l.laneRx + 1) % 256
    let s := s.setLink 0 { l with laneRx := e }
    s.sendMarker 1 (leBytes 1 e ++ leBytes 1 (s.get (TRK_LANE_STAT_LOGICAL n)) ++
      leBytes 1 (left.foldl (fun m i => setBit m i true) 0))

/-- What an asserted detector of receive lane n does, real or forced (R60, R74, R77). -/
def State.laneFault (s : State) (n : Nat) (kind : LaneFaultKind) : State :=
  let s := match kind with
    | .los => s.detect 0x19 n
    | .lol => s.detect 0x1A n
    | .burst => if s.primeState = 9 then s.detect 0x1B n else s
    | .exit => s
  if s.primeState == 9 then (if s.is (TRK_LANE_STAT_IN_SVC n) then s.removeLane n else s)
  else if (kind = .los ∨ kind = .lol) ∧ 2 ≤ s.primeState ∧ s.primeState ≤ 8 ∧ bit (s.get TRK_PRIME_STAT_RX_LANES) n then s.leaveOut n
  else s

/-- The condition of a detector of receive lane n arises. -/
def State.laneSignal (s : State) (n : Nat) (kind : LaneFaultKind) : State :=
  match kind with
  | .los => s.setLos n true
  | .lol => s.setLol n true
  | _ => s

/-- R77. LANE_FAULT. -/
def execLaneFault (n : Nat) (kind : LaneFaultKind) (s : State) : Host.Outcome State Fault Refusal :=
  .next (if s.linksLive && decide (n < 4) then (s.laneSignal n kind).laneFault n kind else s)

/-- The BURST detector of a lane that comes into service while it is forced (R74). -/
def State.forcedBurst (s : State) (n : Nat) : State :=
  if s.is (TRK_LANE_STAT_IN_SVC n) && s.is (TRK_LANE_INJ_BURST n) then s.laneFault n .burst else s

/-- Corrected symbols are credited to the receive lane that carried their codeword: more than BURST_MAX of them within 1 µs assert BURST
(R74, R87). -/
def State.creditBurst (s : State) (n symbols : Nat) : State :=
  if symbols = 0 then s
  else
    let l := (s.trunk.bursts.filter (fun e => decide (s.hubTime < e.2.1 + 1000))) ++ [(n, s.hubTime, symbols)]
    let s := { s with trunk := { s.trunk with bursts := l } }
    let sum := ((l.filter (fun e => e.1 == n)).map (fun e => e.2.2)).sum
    if s.get (TRK_LANE_THR_BURST_MAX n) < sum && s.is (TRK_LANE_STAT_IN_SVC n) then s.laneFault n .burst else s

/-! ## UP (R46, R55, R73, R85) -/

/-- Receive lane n in service: qualification begins, and the corrections of priming hold (R55, R73). -/
def State.serveLane (s : State) (n : Nat) : State :=
  let s := s.prbsAdvance n
  let s := ((s.put (TRK_LANE_STAT_IN_SVC n) 1).put (TRK_LANE_STAT_QUAL n) 0).put (TRK_LANE_STAT_PSTATE n) 0
  { s with trunk := { s.trunk with clean := assocDel n s.trunk.clean } }

/-- The logical lanes of the receive lanes in service, rising: the order in which a new dealing order takes them (R85). -/
def State.servedOrder (s : State) : List Nat :=
  fourLanes.filter (fun k => fourLanes.any (fun n => s.is (TRK_LANE_STAT_IN_SVC n) && s.get (TRK_LANE_STAT_LOGICAL n) == k))

/-- What the trunk holds of an earlier time is gone as it comes up; it takes its role (R438) and its dealing order, and the calendar may wait
(R46). -/
def State.freshTrunk (s : State) (waits : Bool) : State :=
  let s := { s with trunk := { s.trunk with timer := none, returned := false, lastRate := some (s.get TRK_PRIME_STAT_RATE) } }
  let s := { s with trunk := { s.trunk with role := s.assignRole, calWait := waits, dealing := s.servedOrder } }
  { s with trunk := { s.trunk with l2dAsked := false, l2dEnter := false, bursts := [] }, ptp := {} }

/-- The link layer declares the trunk up (R46, R55, R85, R99, R123, R298, R438). A hub whose time is not disciplined through the trunk does
not wait for it. -/
def State.trunkComesUp (s : State) (recs : List SliceRec) : State :=
  let waits := s.islanded && !s.dock && s.is ETH_PTP_CFG_EN
  let s := (s.toPrime 9).primeTime
  let s := (bitList (s.get TRK_PRIME_STAT_RX_LANES) 4).foldl State.serveLane s
  let s := ((s.freshTrunk waits).raise 0x0201 0).startLink 0
  let s := s.newDealing (s.get TRK_PRIME_STAT_TX_LANES)
  let s := (s.put GLB_HUB_STAT_TRK_UP 1).calendarUp (max 1 (countBits (s.get TRK_PRIME_STAT_TX_LANES) 4))
  let s := (((s.raise 0x0301 0).takeRecords recs).tellLinks).groupUpdate
  let s := if s.trunk.role = 1 then s.tellPeer else s
  fourLanes.foldl State.forcedBurst s

/-- R54. LANE_SIGNAL_DETECT. -/
def execLaneSignalDetect (n : Nat) (s : State) : Host.Outcome State Fault Refusal :=
  .next (if s.linksLive && decide (n < 4) then (s.setLos n false).detectCheck else s)

/-- R55, R57. PRIMING_STATE_TIMEOUT. -/
def execPrimingStateTimeout (s : State) : Host.Outcome State Fault Refusal :=
  .next (if s.linksLive then s.stateTimeout else s)

/-- R54, R60. PRIMING_TIMEOUT: 50 ms since the timer started. -/
def execPrimingTimeout (s : State) : Host.Outcome State Fault Refusal :=
  .next (if s.linksLive && s.primingNow && s.trunk.timer.any (fun t => decide (t + 50000000 ≤ s.hubTime)) then
    s.failPriming (if s.trunk.returned then 4 else 1)
  else s)

/-- R61. PRIMING_RESTART_TIMER: 100 ms after FAILED. -/
def execPrimingRestartTimer (s : State) : Host.Outcome State Fault Refusal :=
  .next (if s.linksLive && s.primeState == 0xA && s.is TRK_CTRL_AUTO then s.startPriming else s)

/-- R75. LANE_LOCK: clock recovery of an enabled lane has found the alignment marker; a forced LOL keeps the lane out. -/
def execLaneLock (n : Nat) (inverted : Bool) (s : State) : Host.Outcome State Fault Refusal :=
  .next (if s.linksLive && decide (n < 4) && bit (s.get TRK_CTRL_LANE_EN) n && !s.is (TRK_LANE_STAT_LOS n) then
    let s := s.setLol n false
    if s.primingNow && !s.is (TRK_LANE_STAT_LOL n) then s.lockLane n inverted else s
  else s)

/-- R62. The peer restarts: the trunk is declared down and LOCK entered at 2.5 Gb/s. -/
def State.peerRestart (s : State) : State :=
  let s := s.trunkDown.startPriming
  if s.primeState = 1 then s.enterLock else s

/-- A TS1 or a TS2 on receive lane n in CONFIG gives the lane's logical number (R75). -/
def State.hearLane (s : State) (n : Nat) (r : TrainRec) : State :=
  let s := s.put (TRK_LANE_STAT_LOGICAL n) r.lane
  { s with trunk := { s.trunk with heard := setBit s.trunk.heard n true } }

/-- R59, R62, R75. TS1 on receive lane n. -/
def execTs1 (n : Nat) (r : TrainRec) (s : State) : Host.Outcome State Fault Refusal :=
  .next (if !s.linksLive || decide (4 ≤ n) then s
    else if s.primeState == 9 && s.is (TRK_LANE_STAT_IN_SVC n) then s.peerRestart
    else if s.primeState == 3 && bit (s.get TRK_PRIME_STAT_RX_LANES) n then (s.hearLane n r).configStep
    else s)

/-- R58, R59. What a TS2 on receive lane n settles in CONFIG. -/
def State.confirm (s : State) (n : Nat) (r : TrainRec) : State :=
  let s := s.hearLane n r
  if r.role = (if s.dock then 1 else 0) then s.failPriming 2
  else if r.fec % 2 = 0 then s.failPriming 3
  else ({ s with trunk := { s.trunk with relock := setBit s.trunk.relock n true, ts2 := some r } }).configStep

/-- R59. TS2 on receive lane n. (DESIGN CHOICE, log 76) -/
def execTs2 (n : Nat) (r : TrainRec) (s : State) : Host.Outcome State Fault Refusal :=
  .next (if s.linksLive && s.primeState == 3 && decide (n < 4) && bit (s.get TRK_PRIME_STAT_RX_LANES) n then s.confirm n r else s)

/-- EQ_ACK goes out: on each lane with the coefficients that the lane sends with (R55, R66). -/
def State.sendEqAck (s : State) (round : Nat) : State :=
  (bitList (s.get TRK_CTRL_LANE_EN) 4).foldl
    (fun s n =>
      let c := s.laneEq n
      s.emit (.train n (trainFlit 4 { s.trainBase with lane := n, eqMode := 1, eqPre := c.pre, eqMain := c.main, eqPost := c.post,
                                                       round := round }))) s

/-- R55, R64, R66. EQ_REQ for transmit lane n. -/
def execEqReq (n : Nat) (r : TrainRec) (s : State) : Host.Outcome State Fault Refusal :=
  .next (if s.linksLive && s.primeState == 6 && decide (n < 4) && decide (r.round ≤ 8) then
    let s := s.peerLanes r
    if s.primeState = 6 then
      (s.primeEq n (if r.eqMode = 0 then presetEq (r.eqPre % 8) else clampEq r.eqPre r.eqMain r.eqPost)).sendEqAck r.round
    else s
  else s)

/-- R55. EQ_ACK on receive lane n: once every lane of the mask has acknowledged the round, whether a further one follows is the
receiver's choice. -/
def execEqAck (n : Nat) (r : TrainRec) (s : State) : Host.Outcome State Fault Refusal :=
  .next (if s.linksLive && s.primeState == 6 && decide (n < 4) then
    let s := s.peerLanes r
    if s.primeState = 6 ∧ r.round = s.trunk.round then
      let s := { s with trunk := { s.trunk with
        acked := setBit s.trunk.acked n true, peerEq := assocPut n ⟨r.eqPre, r.eqMain, r.eqPost⟩ s.trunk.peerEq } }
      if s.coversRx s.trunk.acked then
        let (d, s) := s.draw
        if r.round < 8 ∧ Config.freeNat d % 2 = 1 then s.askEq (r.round + 1) else s
      else s
    else s
  else s)

/-- R55, R63. STEP. -/
def execStepRec (r : TrainRec) (s : State) : Host.Outcome State Fault Refusal :=
  .next (match s.trunk.step with
    | some (t, _) =>
      if s.linksLive && s.primeState == 5 && r.rate == t && decide (16 ≤ r.stepAt ∧ r.stepAt ≤ 255) then
        ({ s with trunk := { s.trunk with step := some (t, r.stepAt) } }).peerLanes r
      else s
    | none => s)

/-- R55. RATE_CHANGE: the agreed count of training flits has gone by. -/
def execRateChange (s : State) : Host.Outcome State Fault Refusal :=
  .next (match s.trunk.step with
    | some (t, _) =>
      if s.linksLive && s.primeState == 5 then
        { s.put TRK_PRIME_STAT_RATE t with trunk := { s.trunk with step := none, relock := 0 } }
      else s
    | none => s)

/-! ## Re-admission (R80) -/

/-- The transmit lane being re-admitted has passed: the hub raises its lane epoch and announces the table for the larger count, at whose
swap the lane rejoins (R80, R113). -/
def State.joinSoon (s : State) : State :=
  let l := s.link 0
  let s := s.setLink 0 { l with laneTx := (l.laneTx + 1) % 256 }
  let s := { s with trunk := { s.trunk with joining := true } }
  s.armFallback (countBits (s.get TRK_PRIME_STAT_TX_LANES) 4 + 1)

/-- The receive lane being re-admitted has passed: the peer learns of it by a RESULT whose LMASK shows the lane, and the lane rejoins at the
swap that the peer then announces. -/
def State.joinWait (s : State) (n : Nat) : State :=
  let s := { s with trunk := { s.trunk with joining := true } }
  s.sendTrain 6 { s.trainBase with lmask := setBit s.lockedLanes (s.get (TRK_LANE_STAT_LOGICAL n)) true }

/-- The step check of a re-admission ends. (DESIGN CHOICE, log 17) -/
def State.readmitResult (s : State) (dir n : Nat) (pass : Bool) : State :=
  if s.trunk.joining then s
  else if !pass then s.endReadmit 6
  else if dir = 1 then s.joinSoon
  else s.joinWait n

/-- R80, R85. The receive lane that waits to rejoin is in service once the received cycle of the swap has come. -/
def State.joinRx (s : State) : State :=
  match s.trunk.readmit, s.trunk.joinAt with
  | some (0, n), some c =>
    if s.trunk.joining && decide ((s.link 0).rxCycle = c) then
      let s := s.serveLane n
      let s := s.put TRK_PRIME_STAT_RX_LANES (setBit (s.get TRK_PRIME_STAT_RX_LANES) n true)
      let s := { s with trunk := { s.trunk with dealing := s.servedOrder } }
      let s := s.setLink 0 { s.link 0 with rxTurn := 0 }
      ((s.raise 0x0205 n).endReadmit 0).forcedBurst n
    else s
  | _, _ => s

/-- A RESULT of the peer outside a check of this hub shows a transmit lane in lock that is out of service: the peer has re-admitted it. -/
def State.peerReadmits (s : State) (r : TrainRec) : State :=
  match fourLanes.find? (fun n => bit r.lmask n && bit (s.get TRK_CTRL_LANE_EN) n && !bit (s.get TRK_PRIME_STAT_TX_LANES) n) with
  | some n => if r.res = 0 then ({ s with trunk := { s.trunk with readmit := some (1, n), byPeer := true } }).joinSoon else s
  | none => s

/-- A RESULT record (R63): the peer's pass or fail; on a trunk that is up, its check of a lane being re-admitted. -/
def State.takeResult (s : State) (r : TrainRec) : State :=
  if s.trunkUp then
    match s.trunk.readmit with
    | some (1, n) => s.readmitResult 1 n (r.res == 0)
    | some _ => s
    | none => s.peerReadmits r
  else if s.primeState == 4 || s.primeState == 7 then
    let s := s.peerLanes r
    if s.primeState = 1 ∨ s.primeState = 2 then s else ({ s with trunk := { s.trunk with peer := some (r.res == 0) } }).judge
  else s

/-- R63. RESULT. -/
def execResult (r : TrainRec) (s : State) : Host.Outcome State Fault Refusal := .next (if s.linksLive then s.takeResult r else s)

/-- R56, R80. STEP_CHECK_COMPLETE: the receive lanes that failed. -/
def execStepCheckComplete (failMask : Nat) (s : State) : Host.Outcome State Fault Refusal :=
  .next (if !s.linksLive then s
    else match s.trunk.readmit with
      | some (0, n) => if s.trunkUp then s.readmitResult 0 n (!bit failMask n) else s
      | _ =>
        if s.primeState == 4 || (s.primeState == 7 && s.coversRx s.trunk.relock) then
          let pass := failMask &&& s.get TRK_PRIME_STAT_RX_LANES == 0
          let s := { s with trunk := { s.trunk with own := some pass } }
          (s.sendTrain 6 { s.trainBase with res := if pass then 0 else 1 }).judge
        else s)

/-- R55. READY. -/
def execReady (dockRecs : List SliceRec) (s : State) : Host.Outcome State Fault Refusal :=
  .next (if s.linksLive && s.primeState == 8 then s.trunkComesUp dockRecs else s)

/-- R80, R82. TRK_LANE_READMIT: while the trunk is not up, and for a lane in service, it returns STATE. (DESIGN CHOICE, log 17;
DESIGN CHOICE, log 162) -/
def cmdLaneReadmit (c : BktCmd) (s : State) : BktStage × State :=
  let dir := c.byte 4
  let n := c.byte 5
  let served := if dir = 0 then s.is (TRK_LANE_STAT_IN_SVC n) else bit (s.get TRK_PRIME_STAT_TX_LANES) n
  let bad := decide (1 < dir ∨ 3 < n)
  bktRun (s.bktCheck c false bad (c.ch != 0) (!s.trunkUp || served || s.trunk.readmit.isSome) false) s (fun s =>
    (.waiting, { s with trunk := { s.trunk with readmit := some (dir, n), joining := false, joinAt := none, byPeer := false } }))

/-! ## The optical engine (R76, R82) -/

/-- R82. The check of TRK_OE_READ and TRK_OE_WRITE; an I²C address has 7 bits, and another is a bad argument. (DESIGN CHOICE,
log 163) -/
def State.oeCheck (s : State) (c : BktCmd) : Nat :=
  s.bktCheck c false (decide (c.byte 6 < 1 ∨ 32 < c.byte 6 ∨ 127 < c.byte 4)) (c.ch != 0) false false

/-- R82. TRK_OE_READ: the transfer goes out, and its answer ends the command. -/
def cmdOeRead (c : BktCmd) (s : State) : BktStage × State :=
  bktRun (s.oeCheck c) s (fun s => (.atEnd, s.emit (.i2c false (c.byte 4) (c.byte 5) [])))

/-- R82. TRK_OE_WRITE. -/
def cmdOeWrite (c : BktCmd) (s : State) : BktStage × State :=
  bktRun (s.oeCheck c) s (fun s => (.atEnd, s.emit (.i2c true (c.byte 4) (c.byte 5) (c.bytes 8 (c.byte 6)))))

/-- The end of TRK_OE_READ. -/
def endOeRead (c : BktCmd) (io : BktIo) : Nat × Bytes :=
  match io with
  | .bytes b => (0, fit (c.byte 6) b)
  | _ => (6, [])

/-- The end of TRK_OE_WRITE. -/
def endOeWrite (io : BktIo) : Nat × Bytes := if io = .noAnswer then (6, []) else (0, [])

/-- R55, R76. A write of TRK_OE: setting EN lets DETECT go on, clearing it declares the trunk down. FLT shows the pin, whose latch alone a
write clears. -/
def State.oeWrite (s : State) (v : Nat) : State :=
  let s := if bit v 4 then s.put TRK_OE_LOS_LATCH 0 else s
  let s := if bit v 3 then s.put TRK_OE_FLT_LATCH 0 else s
  let was := s.is TRK_OE_EN
  let s := s.putB TRK_OE_EN (bit v 0)
  if was && !bit v 0 && s.trunkUp then s.trunkDown.afterDown
  else if s.linksLive then s.detectCheck
  else s

/-- TRK_OE_FLT_N goes low (R60, R76). -/
def State.oeFault (s : State) : State :=
  let s := ((s.put TRK_OE_FLT 1).put TRK_OE_FLT_LATCH 1).raise 0x0206 0
  let s := s.detect 0x1E 0
  if s.trunkUp then s.trunkDown.afterDown else if s.primingNow then s.failPriming 6 else s

/-- R60, R76. OE_FAULT. A masked input is not seen (R542). -/
def execOeFault (s : State) : Host.Outcome State Fault Refusal :=
  .next (if !s.linksLive || s.inputMasked 9 then s else s.oeFault)

/-- R76. OE_LOS. -/
def execOeLos (s : State) : Host.Outcome State Fault Refusal :=
  .next (if s.linksLive && !s.inputMasked 10 then (s.put TRK_OE_LOS 1).put TRK_OE_LOS_LATCH 1 else s)

/-- R76. OE_LOS_FALL. -/
def execOeLosFall (s : State) : Host.Outcome State Fault Refusal :=
  .next (if s.linksLive then s.put TRK_OE_LOS 0 else s)

/-! ## Power states of lanes (R68 to R71) -/

/-- Every lane in service is qualified, and the trunk is no standby (R71). -/
def State.settledTrunk (s : State) : Bool :=
  s.trunkUp && s.trunk.role == 1 && fourLanes.all (fun n => !s.is (TRK_LANE_STAT_IN_SVC n) || s.is (TRK_LANE_STAT_QUAL n))

/-- An owned slot starts within the next t ns (R69). -/
def State.ownedWithin (s : State) (t : Nat) : Bool :=
  let k := ceilDiv (t * 1024 * max 1 (s.get ALT_CAL_STAT_LANES) * s.calRate) 22282240
  (List.range (k + 1)).any (fun i => (s.slotOwner? (((s.link 0).txSlot + i) % 1024)).isSome)

/-- Nothing waits to be sent on the trunk's link. -/
def State.trunkQuiet (s : State) : Bool :=
  let l := s.link 0
  l.pack.isNone && l.cur.isEmpty && l.ctl.isEmpty && l.markers.isEmpty && l.replay.isEmpty && l.parcels.isEmpty && !l.nakDue &&
    !l.syncDue

/-- R69. L0Q_IDLE_TIMEOUT: only idle flits have gone for IDLE µs. -/
def execL0qIdleTimeout (s : State) : Host.Outcome State Fault Refusal :=
  .next (if s.linksLive && s.settledTrunk && s.is TRK_PWR_L0Q_EN && s.get ALT_CAL_STAT_PROFILE == 2 &&
      s.get TRK_PWR_TX_STATE == 0 && decide ((s.link 0).lastBusy + s.get TRK_PWR_IDLE * 1000 ≤ s.hubTime) && !s.ownedWithin 1000 &&
      s.trunkQuiet then s.put TRK_PWR_TX_STATE 1
    else s)

/-- Neither calendar table owns a slot (R53, R70). -/
def State.noOwnedSlots (s : State) : Bool :=
  let n := max 1 s.allot.lanes
  s.get TRK_PRIME_STAT_RATE == 0 || ((s.ownedSlots 0 (s.tableFor 0 n)).isEmpty && (s.ownedSlots 1 (s.tableFor 1 n)).isEmpty)

/-- The trunk could be in L2d as far as this hub is concerned. -/
def State.l2dReady (s : State) : Bool := s.settledTrunk && s.noOwnedSlots

/-- L2d in both directions (R68, R70). -/
def State.enterL2d (s : State) : State :=
  let s := { s with trunk := { s.trunk with l2dAsked := false, l2dEnter := false } }
  fourLanes.foldl (fun s n => if s.is (TRK_LANE_STAT_IN_SVC n) then s.put (TRK_LANE_STAT_PSTATE n) 2 else s)
    ((s.put TRK_PWR_TX_STATE 2).put TRK_PWR_RX_STATE 2)

/-- While L2D_REQ stands and nothing waits to be sent, the hub asks the peer: at once, and after a refusal once in each cycle
(R70). (DESIGN CHOICE, log 165) -/
def State.askL2d (s : State) : State :=
  if s.linksLive && s.is TRK_PWR_L2D_REQ && s.l2dReady && !s.trunk.l2dAsked && !s.trunk.l2dEnter && s.trunkQuiet &&
      s.get TRK_PWR_TX_STATE != 2 then
    let s := s.sendCtl 0 5 []
    { s with trunk := { s.trunk with l2dAsked := true } }
  else s

/-- A trunk that has accepted L2d, or whose peer has, enters it once what was due before has gone. -/
def State.l2dCheck (s : State) : State := if s.trunk.l2dEnter && s.l2dReady && s.trunkQuiet then s.enterL2d else s

/-- A write of TRK_PWR (R69, R70). -/
def State.pwrWrite (s : State) (v : Nat) : State :=
  let s := (s.put TRK_PWR_IDLE (clampNat 1 1000 (bits v 11 2))).putB TRK_PWR_L0Q_EN (bit v 0)
  let s := s.putB TRK_PWR_L2D_REQ (bit v 1)
  let s := if !bit v 0 && s.get TRK_PWR_TX_STATE == 1 then s.put TRK_PWR_TX_STATE 0 else s
  if bit v 1 then s.askL2d else s.wakeTrunk

/-- R70. L2D_REQ of the peer: this hub accepts, whatever its own L2D_REQ holds, unless its trunk is not settled or a table of
its own owns slots; its answer goes as every control record goes. (DESIGN CHOICE, log 164) -/
def State.l2dAnswer (s : State) : State :=
  if s.linksLive && s.trunkUp then
    let ok := s.l2dReady
    let s := s.sendCtl 0 6 [if ok then 0#8 else 1#8]
    { s with trunk := { s.trunk with l2dEnter := ok } }
  else s

/-- R70. L2D_REQ. -/
def execL2dReq (s : State) : Host.Outcome State Fault Refusal := .next s.l2dAnswer

/-- The peer's answer to this hub's L2D_REQ. -/
def State.l2dAnswered (s : State) (refused : Bool) : State :=
  if s.linksLive && s.l2dReady && s.is TRK_PWR_L2D_REQ && s.trunk.l2dAsked && !refused then
    ({ s with trunk := { s.trunk with l2dAsked := false, l2dEnter := true } }).l2dCheck
  else s

/-- R70. L2D_ACK. -/
def execL2dAck (refused : Bool) (s : State) : Host.Outcome State Fault Refusal := .next (s.l2dAnswered refused)

/-- R70. PEER_SIGNAL_DETECTED. -/
def execPeerSignalDetected (s : State) : Host.Outcome State Fault Refusal :=
  .next (if s.linksLive then s.wakeTrunk else s)

/-- R85. ALIGNMENT_MARKER: the receiver restarts de-striping in the new order. -/
def execAlignmentMarker (order : List Nat) (s : State) : Host.Outcome State Fault Refusal :=
  .next (if s.linksLive && s.trunkUp then
    ({ s with trunk := { s.trunk with dealing := order } }).setLink 0 { s.link 0 with rxTurn := 0 }
  else s)

/-! ## Register writes with an effect (R61, R67, R72, R74, R83) -/

/-- A write of TRK_CTRL (R54, R58, R61). -/
def State.trkCtrl (s : State) (v : Nat) : State :=
  let s := (s.put TRK_CTRL_LANE_EN (bits v 11 8)).put TRK_CTRL_PRESET (bits v 6 4)
  let s := (s.put TRK_CTRL_MAX_RATE (bits v 3 2)).putB TRK_CTRL_AUTO (bit v 1)
  if !s.linksLive then s else if bit v 0 then s.trunkDown.startPriming else s.detectCheck

/-- A write of TRK_LANE_CTRL n: setting ADAPT_HOLD freezes the settings of the moment (R67, R72, R83). -/
def State.laneCtrl (s : State) (n v : Nat) : State :=
  let s := if bit v 5 && s.adapting n then s.drawEq n else s
  let s := (s.putB (TRK_LANE_CTRL_ADAPT_HOLD n) (bit v 5)).putB (TRK_LANE_CTRL_EQ_OVR n) (bit v 4)
  let s := ((s.prbsAdvance n).put (TRK_LANE_CTRL_SQ_MODE n) (min 2 (bits v 1 0))).applySq n
  if bit v 8 then ((s.put (TRK_LANE_ERRS_ERRS n) 0).put (TRK_LANE_BITS_LO_BITS n) 0).put (TRK_LANE_BITS_HI_BITS n) 0 else s

/-- A write of TRK_LANE_INJ n, where injection is permitted (R74, R83): a forced detector acts like a real one while its bit is 1. -/
def State.laneInj (s : State) (n v : Nat) : State :=
  let los := bit v 0 && !s.is (TRK_LANE_STAT_LOS n)
  let lol := bit v 1 && !s.is (TRK_LANE_STAT_LOL n)
  let burst := bit v 2 && !s.is (TRK_LANE_INJ_BURST n)
  let s := ((s.putB (TRK_LANE_INJ_LOS n) (bit v 0)).putB (TRK_LANE_INJ_LOL n) (bit v 1)).putB (TRK_LANE_INJ_BURST n) (bit v 2)
  let s := s.showDetectors n
  let s := if bit v 3 then { s with trunk := { s.trunk with prbsInj := setBit s.trunk.prbsInj n true } } else s
  let s := if los then s.laneFault n .los else s
  let s := if lol then s.laneFault n .lol else s
  let s := if burst then s.laneFault n .burst else s
  if s.linksLive then s.detectCheck else s

end Sys2Proof.Machine
end

