-- ==== Sys2Proof/Machine/Cascade.lean ====
section
/-! DEFINITION. Cascade ports, HELLO and LINK_STATE, and group-wide swaps (R428 to R452). -/
namespace Sys2Proof.Machine

/-- Cascade port p, 1 to 3, may run (R430, R452): both EN bits are set, no injection holds it down, and no contained fault. -/
def State.casPortOn (s : State) (p : Nat) : Bool :=
  s.linksLive && s.hasCascade && decide (1 ≤ p ∧ p ≤ 3) && s.is CAS_CTRL_EN && s.is (CAS_PORT_CTRL_EN (p - 1)) &&
    !s.is (CAS_PORT_CTRL_INJ_DOWN (p - 1)) && !s.heldPort p && !bit (s.get CLK_GATE_GATED) (15 + p)

/-- Cascade port p starts: markers and idle flits go out, and the receivers adapt (R430). -/
def State.casStart (s : State) (p : Nat) : State :=
  if s.casPortOn p then (s.put (CAS_PORT_STAT_STATE (p - 1)) 1).sendMarkers p else s

/-- R430. CAS_PORT_START. -/
def execCasPortStart (port : Nat) (s : State) : Host.Outcome State Fault Refusal :=
  .next (if s.get (CAS_PORT_STAT_STATE (port - 1)) = 0 then s.casStart port else s)

/-- R430. CAS_LOCK_TIMEOUT: the link is not up 2 ms after its start. -/
def execCasLockTimeout (port : Nat) (s : State) : Host.Outcome State Fault Refusal :=
  .next (let st := s.get (CAS_PORT_STAT_STATE (port - 1))
    if s.casPortOn port && (st == 1 || st == 2) then
      (s.put (CAS_PORT_STAT_STATE (port - 1)) 4).put (CAS_PORT_STAT_CAUSE (port - 1)) 1
    else s)

/-- R430. CAS_RESTART_TIMER. -/
def execCasRestartTimer (port : Nat) (s : State) : Host.Outcome State Fault Refusal :=
  .next (if s.get (CAS_PORT_STAT_STATE (port - 1)) = 4 then s.casStart port else s)

/-- A member shows in the group for the first time (R281, R298, R435, R450). -/
def State.join (s : State) (m : Nat) : State :=
  if m = s.self ∨ (s.member m).present then s
  else
    let s := ((s.setMember m { s.member m with present := true, awaited := none }).raise 0x1004 m).orderCheck
    (if s.coordinator = s.self then s.tellSize else s).tellSlices m

/-- What a HELLO or a LINK_STATE of member m tells (R434, R435, R441); the coordinator answers with what holds for the group. -/
def State.hearMember (s : State) (m links trunk : Nat) : State :=
  let s := s.setMember m { s.member m with links := links % 16, trunk := trunk % 4 }
  let s := s.join m
  let s := (bitList links 4).foldl (fun s k => s.join k) s
  let s := s.groupUpdate
  let s := [0, 1, 2, 3].foldl (fun s m => s.memberCheck m) s
  s.tellMember m

/-- R430. This hub's HELLO goes out once both lanes are locked. (DEDUCED, log 207) -/
def State.sendHello (s : State) (p : Nat) : State :=
  if s.get (CAS_PORT_STAT_STATE (p - 1)) = 2 then s
  else (s.put (CAS_PORT_STAT_STATE (p - 1)) 2).emit
    (.cascade p 0x10 s.self (if s.dock then 1 else 0) (s.linkMask + 16 * s.trunkCode))

/-- Why a HELLO is refused (R431); 0 where it is accepted. -/
def State.helloRefused (s : State) (p casId role : Nat) : Nat :=
  if casId = s.self then 3
  else if casId ≠ s.memberAt p then 2
  else if role ≠ (if s.dock then 1 else 0) then 4
  else 0

/-- R431. HELLO on cascade port p. (DESIGN CHOICE, log 80) -/
def State.helloReceived (s : State) (p casId role links trunk : Nat) (recs : List SliceRec) : State :=
  let st := s.get (CAS_PORT_STAT_STATE (p - 1))
  if !s.casPortOn p || !(st == 1 || st == 2) then s
  else
    let s := s.sendHello p
    match s.helloRefused p casId role with
    | 0 =>
      let s := (s.put (CAS_PORT_STAT_STATE (p - 1)) 3).put (CAS_PORT_STAT_PEER_ID (p - 1)) casId
      let s := (s.startLink p).raise 0x1001 (p - 1)
      let s := (s.hearMember (s.memberAt p) links trunk).takeRecords recs
      s.tellLinks
    | cause =>
      (((s.put (CAS_PORT_STAT_STATE (p - 1)) 4).put (CAS_PORT_STAT_CAUSE (p - 1)) cause).raise 0x1005 (p - 1)).detect 0x25 (p - 1)

/-- R431. HELLO. -/
def execHello (port casId role links trunk : Nat) (dockRecs : List SliceRec) (s : State) : Host.Outcome State Fault Refusal :=
  .next (s.helloReceived port casId role links trunk dockRecs)

/-- R432. CAS_LINK_FAULT: LOS or LOL on a lane. (DEDUCED, log 81) -/
def execCasLinkFault (port : Nat) (s : State) : Host.Outcome State Fault Refusal :=
  .next (if s.casPortOn port then s.casLinkDown port 1 else s)

/-- R432. CAS_SILENCE_TIMEOUT. -/
def execCasSilenceTimeout (port : Nat) (s : State) : Host.Outcome State Fault Refusal :=
  .next (if s.casPortOn port then s.casLinkDown port 5 else s)

/-- LINK_STATE on cascade port p (R434, R441). -/
def State.linkStateReceived (s : State) (p links trunk : Nat) : State :=
  if s.casPortOn p && s.linkUp p then s.hearMember (s.memberAt p) links trunk else s

/-- R441. LINK_STATE: the sender is the member at the port. -/
def execLinkState (port casId role links trunk : Nat) (s : State) : Host.Outcome State Fault Refusal :=
  .next (if casId = s.memberAt port ∧ role = (if s.dock then 1 else 0) then s.linkStateReceived port links trunk else s)

/-- R441. MEMBER_DOWN_TIMEOUT: 50 µs after this hub declared its link to member m down. -/
def execMemberDownTimeout (m : Nat) (s : State) : Host.Outcome State Fault Refusal :=
  .next (if s.linksLive && s.cascading && decide (m < 4) && (s.member m).awaited.isSome && !s.direct m then
    let s := s.setMember m { s.member m with awaited := none }
    if s.seen m then s else s.markDown m
  else s)

/-- Holding cascade port p down, or stopping it (R435, R452). -/
def State.casHold (s : State) (p st : Nat) : State := (s.casLinkDown p 0).put (CAS_PORT_STAT_STATE (p - 1)) st

/-- A write of CAS_PORT_CTRL of port p (R430, R452); the injection bit only where injection is permitted. -/
def State.casPortCtrl (s : State) (p v : Nat) (inject : Bool) : State :=
  let i := p - 1
  let s := (s.put (CAS_PORT_CTRL_PRESET i) (bits v 2 0)).putB (CAS_PORT_CTRL_EN i) (bit v 4)
  let s := if inject then s.putB (CAS_PORT_CTRL_INJ_DOWN i) (bit v 8) else s
  if !s.is (CAS_PORT_CTRL_EN i) then s.casHold p 0
  else if s.is (CAS_PORT_CTRL_INJ_DOWN i) then s.casHold p 4
  else if s.get (CAS_PORT_STAT_STATE i) = 0 then s.casStart p
  else s

/-- A write of CAS_CTRL (R430, R435, R438): a trunk that may prime from now on starts. -/
def State.casCtrl (s : State) (v : Nat) : State :=
  let could := s.mayPrime
  let s := ((s.putB CAS_CTRL_STBY_EN (bit v 2)).putB CAS_CTRL_ACT_EN (bit v 1)).putB CAS_CTRL_EN (bit v 0)
  let s := if s.linksLive && !could && s.mayPrime && s.primeState == 0 then s.startPriming else s
  if bit v 0 then
    let s := [1, 2, 3].foldl (fun s p => if s.get (CAS_PORT_STAT_STATE (p - 1)) = 0 then s.casStart p else s) s
    s.groupUpdate
  else
    let s := [1, 2, 3].foldl (fun s p => s.casHold p 0) s
    let s := { s with cas := { s.cas with members := [], switching := false } }
    let s := if s.trunkUp then { s with trunk := { s.trunk with role := 1 } } else s
    s.groupUpdate

/-! ## The group-wide calendar (R444 to R446) -/

/-- R444. A member refuses a group swap. -/
def State.refusesSwap (s : State) (bank : Nat) : Bool :=
  s.get ALT_CAL_STAT_PROFILE != 3 || s.is ALT_CAL_STAT_SWAP_ARMED ||
    (s.trunkUp && !s.tableValid bank (s.tableFor bank (max 1 (s.get ALT_CAL_STAT_LANES))))

/-- R444. A member arms the swap for its first cycle boundary at or after T; one without a trunk arms nothing. (DESIGN CHOICE,
log 86) -/
def State.armGroup (s : State) (bank t : Nat) : State :=
  if s.trunkUp && bank != s.bankInUse then
    ({ s.put ALT_CAL_STAT_SWAP_ARMED 1 with allot := { s.allot with groupSwap := some t } }).groupSwapDue
  else s.put CAS_GRP_STAT_GSWAP 0

/-- Sending a group-swap record to every other member present, by its way. -/
def State.tellGroup (s : State) (kind : Nat) (body : Bytes) : State :=
  s.otherMembers.foldl (fun s j => match s.pathTo j with
    | some p => s.sendCtl p kind body
    | none => s) s

/-- The other members present, as bits. -/
def State.otherMask (s : State) : Nat := s.otherMembers.foldl (fun m j => setBit m j true) 0

/-- CAS_GRP_STAT as a word (R452). -/
def State.groupWord (s : State) : Nat :=
  s.get CAS_GRP_STAT_ACT_V * 2 ^ 31 + s.get CAS_GRP_STAT_ACT * 2 ^ 28 + s.get CAS_GRP_STAT_STBY_V * 2 ^ 27 +
    s.get CAS_GRP_STAT_STBY * 2 ^ 24 + s.get CAS_GRP_STAT_MEMBERS * 2 ^ 20 + s.get CAS_GRP_STAT_DIRECT * 2 ^ 16 +
    s.get CAS_GRP_STAT_GSWAP * 16 + s.self

/-- R444, R451. CAS_GRP_SWAP. -/
def cmdGrpSwap (c : BktCmd) (s : State) : BktStage × State :=
  let t := if c.le 8 8 = 0 then s.hubTime + 2000000 else c.le 8 8
  let bank := c.byte 4
  let bad := decide (1 < bank ∨ t < s.hubTime + 2000000 ∨ s.hubTime + 1000000000 < t)
  let st := s.coordinator != s.self || s.refusesSwap bank || s.cas.swap.isSome
  bktRun (s.bktCheck c (!s.hasCascade) bad (c.ch != 0) st false) s (fun s =>
    let s := s.put CAS_GRP_STAT_GSWAP 1
    if s.otherMask = 0 then answerOk (leBytes 8 t) (s.armGroup bank t)
    else
      let r := s.cas.nextReq
      let s := { s with cas := { s.cas with nextReq := (r + 1) % 256, swap := some ⟨r, bank, t, s.otherMask, 0, s.hubTime⟩ } }
      (.waiting, s.tellGroup 0x12 (leBytes 1 r ++ leBytes 1 bank ++ beBytes 8 t)))

/-- R451. CAS_GRP_INFO. -/
def cmdGrpInfo (c : BktCmd) (s : State) : BktStage × State :=
  bktRun (s.bktCheck c (!s.hasCascade) false (c.ch != 0) false false) s (fun s =>
    answerOk (leBytes 4 s.groupWord ++ leBytes 1 s.coordinator) s)

/-- A group swap ends at the coordinator with a status. -/
def State.endGroupSwap (s : State) (st : Nat) (res : Bytes) : State :=
  { s with cas := { s.cas with swap := none }, bkt := { s.bkt with stage := .ready st res } }

/-- R444, R446. A group swap is called off. -/
def State.abortSwap (s : State) (g : GroupSwap) (st : Nat) : State :=
  ((s.tellGroup 0x15 (leBytes 1 g.req)).put CAS_GRP_STAT_GSWAP 0).endGroupSwap st []

/-- R444. GSWAP_PREP at a member. -/
def State.swapPrep (s : State) (p req bank t : Nat) : State :=
  if !(s.casPortOn p && s.linkUp p) then s
  else if s.refusesSwap bank || decide (1 < bank) then s.sendCtl p 0x13 (leBytes 1 req ++ [1#8])
  else
    let s := { s with cas := { s.cas with prep := some ⟨req, bank, t, 0, p, s.hubTime⟩ } }
    (s.put CAS_GRP_STAT_GSWAP 1).sendCtl p 0x13 (leBytes 1 req ++ [0#8])

/-- R444. GSWAP_ACK at the coordinator: the answer of a member reached on port p. -/
def State.swapAck (s : State) (p req : Nat) (refuse : Bool) : State :=
  match s.cas.swap with
  | none => s
  | some g =>
    if !(s.casPortOn p && s.linkUp p) || g.req != req then s
    else if refuse then s.abortSwap g 5
    else
      let direct := s.memberAt p
      let from_ := if bit g.waiting direct then some direct else (bitList g.waiting 4).find? (fun j => s.pathTo j == some p)
      let left := from_.elim g.waiting (fun j => setBit g.waiting j false)
      if left = 0 then
        ((s.tellGroup 0x14 (leBytes 1 req)).armGroup g.bank g.time).endGroupSwap 0 (leBytes 8 g.time)
      else { s with cas := { s.cas with swap := some { g with waiting := left } } }

/-- R444. GSWAP_COMMIT at a member. -/
def State.swapCommit (s : State) (p req : Nat) : State :=
  match s.cas.prep with
  | some g =>
    if s.casPortOn p && s.linkUp p && g.req == req then
      ({ s with cas := { s.cas with prep := none } }).armGroup g.bank g.time
    else s
  | none => s

/-- A member drops what it has prepared. (DEDUCED, log 87) -/
def State.dropPrep (s : State) : State := { s.put CAS_GRP_STAT_GSWAP 0 with cas := { s.cas with prep := none } }

/-- R446. GSWAP_ABORT at a member. -/
def State.swapAbort (s : State) (p req : Nat) : State :=
  match s.cas.prep with
  | some g => if s.casPortOn p && s.linkUp p && g.req == req then s.dropPrep else s
  | none => s

/-- R444. GSWAP_PREP. -/
def execGswapPrep (port req bank time : Nat) (s : State) : Host.Outcome State Fault Refusal := .next (s.swapPrep port req bank time)

/-- R444. GSWAP_ACK. -/
def execGswapAck (port req : Nat) (refuse : Bool) (s : State) : Host.Outcome State Fault Refusal := .next (s.swapAck port req refuse)

/-- R444. GSWAP_COMMIT. -/
def execGswapCommit (port req : Nat) (s : State) : Host.Outcome State Fault Refusal := .next (s.swapCommit port req)

/-- R446. GSWAP_ABORT. -/
def execGswapAbort (port req : Nat) (s : State) : Host.Outcome State Fault Refusal := .next (s.swapAbort port req)

/-- R446. GSWAP_TIMEOUT: answers are missing 100 µs after GSWAP_PREP. -/
def execGswapTimeout (s : State) : Host.Outcome State Fault Refusal :=
  .next (match s.cas.swap with
    | some g => if s.running then s.abortSwap g 6 else s
    | none => s)

/-- R446. GSWAP_PREP_DISCARD: 200 µs without GSWAP_COMMIT. -/
def execGswapPrepDiscard (s : State) : Host.Outcome State Fault Refusal :=
  .next (if s.running && s.cas.prep.isSome then s.dropPrep else s)

end Sys2Proof.Machine
end

