-- ==== Sys2Proof/Machine/ConduitRows.lean ====
section
/-! DEFINITION. The commands of the Conduit links: flits received and sent, timers, records, the standby's switchover (R88 to R122, R130). -/
namespace Sys2Proof.Machine

/-- Link p works: it is up and its transmitter is not silent. -/
def State.linkLive (s : State) (p : Nat) : Bool :=
  s.linksLive && s.linkUp p && (p == 0 || s.casPortOn p)

/-! ## Records (R111 to R115, R137) -/

/-- An epoch is newer than the one held (R113). -/
def newer (e held : Nat) : Bool := decide (1 ≤ (e + 256 - held) % 256 ∧ (e + 256 - held) % 256 ≤ 127)

/-- LANE_DROP at the sending hub (R85, R115): the lane stops, codewords are dealt in a new order, a replay starts, the fallback is
announced; the servo of R398 holds. -/
def State.laneDropped (s : State) (epoch mask : Nat) : State :=
  let l := s.link 0
  if s.linkLive 0 && newer (epoch % 256) l.laneTx then
    let s := (s.setLink 0 { l with laneTx := epoch % 256 }).put TRK_PRIME_STAT_TX_LANES mask
    let n := countBits (mask % 16) 4
    if n = 0 then s.trunkDown.afterDown else (((s.newDealing (mask % 16)).ptpHold).startReplay 0).laneCountChange n
  else s

/-- The boundary of an announced fallback ends the first part of the servo's hold, and one to more lanes takes in a receive lane that waits to
rejoin (R80, R398). -/
def State.noteBoundary (s : State) (lanes cycle : Nat) : State :=
  let joins := s.trunk.joining && s.trunk.readmit.elim false (fun e => e.1 == 0) &&
    decide (countBits (s.get TRK_PRIME_STAT_RX_LANES) 4 < lanes)
  { s with ptp := { s.ptp with boundary := some cycle },
           trunk := { s.trunk with joinAt := if joins then some cycle else s.trunk.joinAt } }

/-- FALLBACK_ANN at the receiving hub (R113, R114, R137). -/
def State.fallbackAnnounced (s : State) (epoch lanes tbl cycle : Nat) : State :=
  let l := s.link 0
  let e := epoch % 256
  if s.linkLive 0 && newer e l.annRx then
    (s.setLink 0 { l with
      annRx := e, laneRx := if newer e l.laneRx then e else l.laneRx,
      announced := l.announced ++ [(cycle, tbl % 2 == 1)] }).noteBoundary lanes cycle
  else s

/-- SWAP at the receiving hub (R113, R114): a second arrival has no further effect. -/
def State.swapAnnounced (s : State) (tbl cycle : Nat) : State :=
  let l := s.link 0
  let r := (cycle, tbl % 2 == 1)
  if s.linkLive 0 && !l.announced.contains r then s.setLink 0 { l with announced := l.announced ++ [r] } else s

/-- CREDIT_SYNC (R110, R438): a dock-side member takes its trunk as active at the first one. -/
def State.creditRecord (s : State) (p ctl spo : Nat) : State :=
  if s.linkLive p then
    let s := s.creditSynced p ctl spo
    if p == 0 && s.dock && s.trunk.role == 2 && (s.link 0).stbyState.isNone && !(s.link 0).frozen && !s.cas.switching then
      ((({ s with trunk := { s.trunk with role := 1 } }).tellLinks).groupUpdate).tellPeer
    else s
  else s

/-- One record of a flit on link p; `ok`: the flit was accepted in order (R113). -/
def State.applyRecord (s : State) (p : Nat) (ok : Bool) (r : Nat × Bytes) : State :=
  let b := r.2
  match r.1 with
  | 1 => if p = 0 then s.laneDropped (leAt b 0 1) (leAt b 2 1) else s
  | 2 => if p = 0 then s.fallbackAnnounced (leAt b 0 1) (leAt b 1 1) (leAt b 2 1) (beAt b 3 4) else s
  | 3 => if p = 0 then s.swapAnnounced (leAt b 0 1) (beAt b 2 4) else s
  | 4 => s.creditRecord p (beAt b 0 4) (beAt b 4 4)
  | 5 => if p = 0 ∧ ok then s.l2dAnswer else s
  | 6 => if p = 0 ∧ ok then s.l2dAnswered (leAt b 0 1 != 0) else s
  | 7 => if p = 0 then s.stbyTaken (beAt b 0 2) (beAt b 4 4) (beAt b 8 4) else s
  | 0x10 => s.helloReceived p (leAt b 0 1) (leAt b 1 1) (leAt b 2 1) (leAt b 3 1) []
  | 0x11 => s.linkStateReceived p (leAt b 2 1) (leAt b 3 1)
  | 0x12 => s.swapPrep p (leAt b 0 1) (leAt b 1 1) (beAt b 2 8)
  | 0x13 => s.swapAck p (leAt b 0 1) (leAt b 1 1 != 0)
  | 0x14 => s.swapCommit p (leAt b 0 1)
  | 0x15 => s.swapAbort p (leAt b 0 1)
  | _ => s

/-! ## Received flits (R87, R91 to R103) -/

/-- The replay of link p has come to its limit (R105, R433). -/
def State.replayCheck (s : State) (p : Nat) : State :=
  if s.replayLimit p then
    if p = 0 then (((s.raise 0x0303 0).detect 0x22 0).trunkDown).startPriming else s.casLinkDown p 6
  else s

/-- A flit behind the decoder that passes R91. -/
def goodFlit (raw : Bytes) (bad : Bool) : Bool :=
  !bad && crc8 (fit 8 raw) == 0 && classOk (parseHeader raw).ftype (parseHeader raw).cls

/-- What lanes learn of a received flit of the trunk: symbols corrected in the codeword that it begins, and adaptation (R67, R74, R87). -/
def State.laneNews (s : State) (begins : Option Nat) (symbols : Nat) : State :=
  let s := s.adaptMove (s.get TRK_PRIME_STAT_RX_LANES)
  begins.elim s (fun n => if symbols ≤ 15 then s.creditBurst n symbols else s)

/-- A training flit on a trunk that is up: a TS1 is a restart by the peer, a RESULT belongs to a re-admission (R62, R80). -/
def State.trainIn (s : State) (raw : Bytes) : State :=
  match parseTrain (slice raw 8 248) with
  | some (1, _) => if s.primeState = 9 then s.peerRestart else s
  | some (6, r) => s.takeResult r
  | _ => s

/-- What a good flit of the trunk does beside its sequence and its body: an idle flit is checked (R72), a training flit read, and a received
cycle may be one that was announced. -/
def State.trunkFlit (s : State) (raw : Bytes) (turns : List (Nat × Nat)) : State :=
  let s := match (parseHeader raw).ftype with
    | 0 => s.checkIdle turns
    | 5 => s.trainIn raw
    | _ => s
  let s := if s.ptp.boundary == some (s.link 0).rxCycle then s.ptpBoundary else s
  s.joinRx

/-- A flit on link p. A dock-side member that has just taken its trunk as active expects the number behind this flit's. -/
def State.flitIn (s : State) (p : Nat) (raw : Bytes) (unc : Bool) (symbols : Nat) : State :=
  let standby := s.ignoresSeq p
  let l := s.link p
  let turns := s.bodyTurns
  let begins := if p = 0 ∧ l.beginsWord ∧ !unc then s.turnLane l.rxTurn else none
  let (bad, s) := s.decodeFlit p unc symbols
  let s := if p = 0 then s.laneNews begins symbols else s
  let good := goodFlit raw bad
  let (s, recs, ok) := s.receiveFlit p raw bad
  let s := recs.foldl (fun s r => s.applyRecord p ok r) s
  let s := if standby && s.linkUp p && !s.ignoresSeq p && s.dock && recs.any (fun r => r.1 == 4) then
      s.setLink p { s.link p with expect := ((parseHeader raw).lseq + 1) % 4096, got := true }
    else s
  let s := if p = 0 ∧ good ∧ s.linkUp 0 then s.trunkFlit raw turns else s
  s.replayCheck p

/-! ## Flit slots (R69, R130) -/

/-- Something waits for a sporadic slot of the trunk, in L0q (R69). -/
def State.trunkWants (s : State) : Bool :=
  !s.trunkQuiet || !(s.directQ 0).isEmpty || (s.peekLevels 0 (fun s n => State.sporadicSendable 0 s n) 8).isSome

/-- A slot of a quiet direction: at 1/64 of the flit rate an alignment marker goes out on each lane (R68). -/
def State.quietSlot (s : State) : State :=
  let l := s.link 0
  let s := if l.txSlot % 64 = 0 then s.sendMarkers 0 else s
  s.setLink 0 { l with txSlot := l.txSlot + 1 }

/-- The flit of the slot on the trunk: a quiet direction becomes active 100 ns ahead of an owned slot, or when something waits (R69). -/
def State.trunkSlot (s : State) : State :=
  let l := s.link 0
  if l.txSlot ≥ 1024 || s.get TRK_PWR_TX_STATE == 2 then s
  else
    let s := if l.txSlot = 0 then { s with trunk := { s.trunk with l2dAsked := false } } else s
    let s := s.askL2d
    let s := if s.get TRK_PWR_TX_STATE == 1 && (s.ownedWithin 100 || s.trunkWants) then s.put TRK_PWR_TX_STATE 0 else s
    let s := if s.get TRK_PWR_TX_STATE == 1 then s.quietSlot
      else match s.slotOwner? l.txSlot with
        | some k => s.sendOwned k
        | none => s.sendSporadic 0
    s.l2dCheck

/-- R130, R433. FLIT_SLOT. -/
def execFlitSlot (port : Nat) (s : State) : Host.Outcome State Fault Refusal :=
  .next (if !s.linkLive port then s
    else if s.replayLimit port then s.replayCheck port
    else if port = 0 then s.trunkSlot
    else
      let (sent, s) := s.sendCascadeIso port
      if sent then s else s.sendSporadic port)

/-- A flit that a standby has sent itself since the lost trunk's state came (R119). -/
def Link.ownFlit (l : Link) (h : Held) : Bool :=
  l.stbyState.elim true (fun n => decide ((h.lseq + 4096 - n) % 4096 < (l.txNext + 4096 - n) % 4096))

/-- The held flits that a timeout replays: at a standby only its own, until it takes over. -/
def State.replayable (s : State) (p : Nat) : List Held :=
  let l := s.link p
  if p = 0 ∧ s.trunk.role = 2 then l.held.filter l.ownFlit else l.held

/-- R104. REPLAY_TIMEOUT. -/
def execReplayTimeout (port : Nat) (s : State) : Host.Outcome State Fault Refusal :=
  .next (match s.replayable port with
    | h :: rest =>
      if s.linkLive port && decide (h.time + s.get CND_RETRY_TIMEOUT * 1000 ≤ s.hubTime) then
        let s := if port = 0 then (s.linkCnt 0 10).detect 0x21 0 else s
        let s := s.startReplay port
        (s.setLink port { s.link port with replay := (h :: rest).map (·.lseq), replayFrom := some h.lseq }).replayCheck port
      else s
    | [] => s)

/-- R102. NAK_HOLD_EXPIRY. -/
def execNakHoldExpiry (port : Nat) (s : State) : Host.Outcome State Fault Refusal :=
  .next (if s.linkLive port then s.setLink port { s.link port with nakHeld := false } else s)

/-- R96. PACK_WINDOW_EXPIRY: the flit being packed goes in the next slot. -/
def execPackWindowExpiry (port : Nat) (s : State) : Host.Outcome State Fault Refusal :=
  .next (match (s.link port).pack with
    | some k =>
      if s.linkLive port && decide (k.since + 10 * s.get CND_CTRL_PACK_WIN ≤ s.hubTime) then s.setPack port (some { k with full := true })
      else s
    | none => s)

/-- R107. ASEQ_IDLE_TIMEOUT: a quiet direction sends an idle flit, of the class of its slot (R89). -/
def execAseqIdleTimeout (s : State) : Host.Outcome State Fault Refusal :=
  .next (if s.linkLive 0 && s.get TRK_PWR_TX_STATE == 1 && s.aseqOut 0 != (s.link 0).aseqSent && decide ((s.link 0).txSlot < 1024) then
    let cls := if (s.slotOwner? (s.link 0).txSlot).isSome then 0 else 2
    (s.put TRK_PWR_TX_STATE 0).sendIdle 0 cls
  else s)

/-! ## Records as commands -/

/-- R115. LANE_DROP. -/
def execLaneDrop (epoch lane mask : Nat) (s : State) : Host.Outcome State Fault Refusal :=
  .next (s.laneDropped epoch (setBit (mask % 16) (lane % 4) false))

/-- R137. FALLBACK_ANN. -/
def execFallbackAnn (epoch lanes tbl cycle : Nat) (s : State) : Host.Outcome State Fault Refusal :=
  .next (if 1 ≤ lanes ∧ lanes ≤ 4 then s.fallbackAnnounced epoch lanes tbl cycle else s)

/-- R114. SWAP. -/
def execSwapRec (tbl lanes cycle : Nat) (s : State) : Host.Outcome State Fault Refusal :=
  .next (if 1 ≤ lanes ∧ lanes ≤ 4 then s.swapAnnounced tbl cycle else s)

/-- R110. CREDIT_SYNC. -/
def execCreditSync (port ctl spo : Nat) (s : State) : Host.Outcome State Fault Refusal := .next (s.creditRecord port ctl spo)

/-! ## The standby (R119) -/

/-- Credits of class c that the standby owes beyond those it takes over: the cells in which the lost trunk's flits landed are
not its own. (DESIGN CHOICE, log 173) -/
def State.oweCredits (s : State) (c initial : Nat) : State :=
  let l := s.link 0
  let n := initial - (assocGet 0 l.grant c - assocGet 0 l.taken c)
  { s with cis := { s.cis with due := s.cis.due ++ List.replicate n (0, c) } }

/-- R119. STBY_STATE_RECEIVE: the lost trunk's state at the standby holder, which sends STBY_TAKE. -/
def execStbyStateReceive (e next ctl spo : Nat) (used taken : Nat × Nat) (s : State) : Host.Outcome State Fault Refusal :=
  .next (if s.linkLive 0 && s.trunk.role == 2 && !(s.link 0).frozen then
    let l := s.link 0
    let s := s.setLink 0 { l with
      expect := e % 4096, got := true, txNext := next % 4096, held := [], stbyState := some (next % 4096),
      grant := assocPut 1 ctl (assocPut 2 spo []), used := assocPut 1 (used.1 % 2 ^ 32) (assocPut 2 (used.2 % 2 ^ 32) []),
      taken := assocPut 1 taken.1 (assocPut 2 taken.2 []) }
    let (c, d) := s.initialGrant 0
    let s := (s.oweCredits 1 c).oweCredits 2 d
    (s.sendCtl 0 7 (stbyTakeContent (e % 4096) (next % 4096) ctl spo)).tryTake
  else s)

/-- The posted writes that begin in a forwarded flit: they are lost with it, if it is lost (R117). -/
def postedIn (lseq segn : Nat) (body : Bytes) : List Posted :=
  ((parseSegs segn 0 body).1.filter (fun r => r.first && r.ctx == 0)).filterMap
    (fun r => (parseFab r.data).bind (fun x => x.posted.map (fun w => { w with lseq := lseq })))

/-- R119. STBY_FLIT_FORWARD: the flit stands before what the standby has sent itself. Its transmissions and its waiting time
count from here (R104, R105). (DESIGN CHOICE, log 172) -/
def execStbyFlitForward (lseq cls : Nat) (body : Bytes) (ftype segn : Nat) (s : State) : Host.Outcome State Fault Refusal :=
  .next (if s.linkLive 0 && s.trunk.role == 2 && (s.link 0).stbyState.isSome then
    let l := s.link 0
    let h : Held := ⟨lseq % 4096, ftype, cls, segn, fit 248 body, 1, s.hubTime⟩
    (s.setLink 0 { l with
      held := l.held.filter (fun g => !l.ownFlit g) ++ [h] ++ l.held.filter l.ownFlit,
      posted := l.posted ++ (if ftype = 1 then postedIn (lseq % 4096) segn body else []) }).tryTake
  else s)

/-- R119. STBY_TAKE. -/
def execStbyTake (e next ctl spo : Nat) (s : State) : Host.Outcome State Fault Refusal :=
  .next (if s.linkLive 0 && decide (next < 4096) then s.stbyTaken e ctl spo else s)

/-! ## Register writes (R122) -/

/-- A write of CND_CTRL. -/
def State.cndCtrl (s : State) (v : Nat) : State :=
  let s := s.put CND_CTRL_PACK_WIN (bits v 7 0)
  if bit v 31 then (List.range 16).foldl (fun s i => s.put (CND_CNT_COUNT i) 0) s else s

/-- A write of CND_INJ, where injection is permitted. -/
def State.cndInj (s : State) (v : Nat) : State :=
  let hold := bit v 3
  let l := s.link 0
  let frozen := if hold then some (l.aseqFrozen.getD (s.aseqOut 0)) else none
  let s := s.setLink 0 { l with aseqFrozen := frozen, injHcrc := l.injHcrc || bit v 0, injUncorr := l.injUncorr || bit v 1 }
  (s.putB CND_INJ_ACK_HOLD hold).putB CND_INJ_NAK_DROP (bit v 2)

end Sys2Proof.Machine
end

