-- ==== Sys2Proof/Machine/Ports.lean ====
section
/-! DEFINITION. The ports other than links: how a frame is classified and policed on arrival (R20, R144, R199), how a port takes its next frame and transmits it (R139, R258, R333, R375, R400, R407). -/
namespace Sys2Proof.Machine

/-! ## Classification (R199) -/

/-- What the class entries look at: the outer VLAN tag, if any, and the EtherType after any VLAN tag. -/
structure EthHead where
  tag : Option Nat
  etype : Nat

/-- Reading them. -/
def ethHead (d : Bytes) : EthHead :=
  ⟨if isVlan (beAt d 12 2) then some (beAt d 14 2) else none, beAt d (etypeAt d (d.length / 4) 12) 2⟩

/-- Entry i of Ethernet port e is enabled and matches. -/
def State.clsMatches (s : State) (e i : Nat) (h : EthHead) : Bool :=
  let vid := s.is (CTX_ETH_CLS0_M_VID e i)
  let pcp := s.is (CTX_ETH_CLS0_M_PCP e i)
  s.is (CTX_ETH_CLS0_EN e i) &&
    ((!vid && !pcp) ||
      match h.tag with
      | none => false
      | some t =>
        (!vid || t % 4096 == s.get (CTX_ETH_CLS0_VID e i)) &&
          (!pcp || maskMatch (t / 8192) (s.get (CTX_ETH_CLS0_PCP e i)) (s.get (CTX_ETH_CLS0_PCP_MASK e i)))) &&
    (!s.is (CTX_ETH_CLS0_M_ETYPE e i) || h.etype == s.get (CTX_ETH_CLS1_ETYPE e i))

/-- The context of a frame on port p, with the class entry that chose it, 0xFF for none: the first entry that matches on an
Ethernet port, else the port default. (DEDUCED, log 27) -/
def State.classify (s : State) (p : Nat) (d : Bytes) : Option (Nat × Nat) :=
  let e := p - 4
  match (if 4 ≤ p ∧ p ≤ 11 then (List.range 16).find? (fun i => s.clsMatches e i (ethHead d)) else none) with
  | some i => some (s.get (CTX_ETH_CLS0_CTX e i), i)
  | none => if s.is (CTX_PORT_DEF_EN p) then some (s.get (CTX_PORT_DEF_CTX p), 0xFF) else none

/-- A frame is at hand on port p: it goes on to a context, or to the sump (R20, R144, R199, R200); one longer than 256 bytes
counts as dispatched early where its context asks for it (R209). (DEDUCED, log 188) -/
def State.placeFrame (s : State) (p id : Nat) (c : Option (Nat × Nat)) : State :=
  let f := s.frame id
  match c with
  | none => s.sump id 9
  | some (c, i) =>
    let s := s.setFrame id { f with
      ctx := c, cls := i, gen := s.sliceGen (s.ctxSlice c), early := s.is (CTX_CFG_EARLY c) && decide (256 < f.data.length) }
    if s.nCtx ≤ c ∨ s.idleContext c then s.sump id 9
    else if 16384 < f.data.length then (s.sump id 5).raise 0x0704 c
    else
      let (ok, s) := if 4 ≤ p ∧ p ≤ 11 then s.police c f.data.length else (true, s)
      if ok then s.pendChain id c else s.sump id 3

/-- A frame of port p lands whole and is placed; one that finds no cell or no descriptor is held off by its source. -/
def State.landFrame (s : State) (p stamp : Nat) (d : Bytes) (c : Option (Nat × Nat)) : State :=
  if s.freeCells < cellsFor d.length ∨ s.freeFds = 0 then s
  else
    let (id, s) := s.landStream { data := d, stamp := stamp, src := p, port := p }
    (s.placeFrame p id c).settle

/-- A frame finishes arriving on port p (R20): at its quota an Ethernet port discards it and counts an overrun (R167), and the sources of
ports 28, 29, 31, 33 and 34 are held off while their port is back-pressured (R166). -/
def State.ingress (s : State) (p stamp : Nat) (d : Bytes) (c : Option (Nat × Nat)) : State :=
  if 4 ≤ p ∧ p ≤ 11 then
    if s.get (WEL_PORT_Q_QUOTA p) ≤ s.get (WEL_PORT_USE_USE p) ∨ s.noRoom d.length then s.bump (ETH_CNT_COUNT (p - 4) 3)
    else (s.bump (ETH_CNT_COUNT (p - 4) 0)).landFrame p stamp d c
  else if 28 ≤ p ∧ s.backPressured p then s
  else s.landFrame p stamp d c

/-- R20, R199. FRAME_INGRESS: a frame finishes landing on a port whose receiver is no link, engine or recirculation; the unit
rules of R334, R375 and R408 act in the rows of their units. The stamp of an Ethernet frame is corrected (R399). -/
def execFrameIngress (port : Nat) (data : Bytes) (s : State) : Host.Outcome State Fault Refusal :=
  .next (if s.running && s.portPresent port && decide (4 ≤ port ∧ port ≠ 30 ∧ port ≠ 32) && !data.isEmpty &&
      !(port == 29 && s.dock) && !(decide (port ≤ 11) && !s.is (ETH_STAT_LINK (port - 4))) &&
      !decide (12 ≤ port ∧ port ≤ 27 ∧ s.nWide ≤ port - 12) && !s.heldPort port then
    let late := if port ≤ 11 then s.get (ETH_TS_LAT_RX (port - 4)) else 0
    s.ingress port (s.hubTime - late) data (s.classify port data)
  else s)

/-! ## Taking the next frame (R139, R258) -/

/-- The partner of wide spout n has credits for the frame (R333): its first 8 bytes are the header. -/
def State.samRoom (s : State) (n id : Nat) : Bool := decide (cellsFor ((s.frame id).data.length - 8) ≤ (s.spout n).samTx)

/-- Port p can move a frame at all (R26, R172, R258, R333, R410). -/
def State.portOpen (s : State) (p : Nat) : Bool :=
  s.portPresent p && !s.heldPort p &&
    (if p ≤ 3 then false
     else if p ≤ 11 then s.is (ETH_STAT_LINK (p - 4))
     else if p ≤ 27 then decide (p - 12 < s.nWide) && s.is (SPT_ALT_STAT_SAM_UP (p - 12))
     else if p ≤ 29 then (if s.dock then p == 28 else s.is (PCI_RP_STAT_LINK (p - 28)))
     else true)

/-- The head of well n may go out on port p. -/
def wellReady (p : Nat) (s : State) (n : Nat) : Bool :=
  State.localSendable p s n &&
    (if 12 ≤ p ∧ p ≤ 27 then ((s.well n).q.head?).elim false (s.samRoom (p - 12))
     else if p = 31 then s.usbWellReady n
     else true)

/-- The next frame of port p. On a wide spout the direct queue waits for credits as the wells do. -/
def State.takeNext (s : State) (p : Nat) : Option (Option Nat × Nat) × State :=
  if 4 ≤ p ∧ p ≤ 11 then s.nextFrame p
  else
    match s.directQ p with
    | id :: q =>
      if 12 ≤ p ∧ p ≤ 27 ∧ !s.samRoom (p - 12) id then (none, s)
      else (some (none, id), (s.setDirectQ p q).capture 2 none p 0 (s.frame id))
    | [] =>
      match s.selectLevels p (wellReady p) 8 with
      | (some (n, id), s) => (some (some n, id), s)
      | (none, s) => (none, s)

/-- A frame sent to port 32 pends on the context that the sending program named, with its argument (R26, R257). (DESIGN CHOICE,
log 29) -/
def State.recirculate (s : State) (well : Option Nat) (id : Nat) : State :=
  let f := s.frame id
  let s := s.dropCells well id
  let s := s.setFrame id { f with
    recirc := true, msg := false, timer := false, early := false, port := f.src, arg := f.word % 2 ^ 32 }
  s.pendChain id f.rctx

/-- The frame that port p takes starts: a LOCAL OUT slot takes it from its well (R375), port 32 recirculates it, another port
transmits it. -/
def State.startFrame (s : State) (p : Nat) (well : Option Nat) (id : Nat) : State :=
  if p = 32 then s.recirculate well id
  else
    match (if p = 31 then well.bind s.usbWell else none) with
    | some (k, e) => s.setSlot k e { s.slot k e with out := some id, moved := 0, begun := false, zlp := false }
    | none =>
      let s := if 12 ≤ p ∧ p ≤ 27 then
          let x := s.spout (p - 12)
          s.setSpout (p - 12) { x with samTx := x.samTx - cellsFor ((s.frame id).data.length - 8) }
        else s
      { s with cis := { s.cis with tx := assocPut p ⟨id, well, s.hubTime⟩ s.cis.tx } }

/-- R139, R258. PORT_SCHEDULE: port `port` is ready to send. The links' slots are FLIT_SLOT. -/
def execPortSchedule (port : Nat) (s : State) : Host.Outcome State Fault Refusal :=
  .next (if s.running && s.portOpen port && (assocFind s.cis.tx port).isNone then
    match s.takeNext port with
    | (some (w, id), s) => (s.startFrame port w id).settle
    | (none, s) => s.settle
  else s)

/-! ## PAUSE and PFC holds (R404) -/

/-- 512 bit times at the speed of port n, in ns, for a number of quanta, rounded up. -/
def State.quantaTime (s : State) (n quanta : Nat) : Nat := ceilDiv (quanta * 512000) (max 1 (s.ethSpeed n))

/-- The holds as ETH_STAT shows them. -/
def State.showHolds (s : State) (n : Nat) : State :=
  let e := s.ethPort n
  let held := (List.range 8).foldl (fun m t => if s.hubTime < assocGet 0 e.pfcTo t then setBit m t true else m) 0
  (s.putB (ETH_STAT_PAUSED n) (decide (s.hubTime < e.pauseTo))).put (ETH_STAT_RX_HELD n) held

/-- The holds of a received PAUSE or PFC frame start, and replace the time that remains. -/
def State.startHold (s : State) (n : Nat) (x : Bool × Nat × List Nat) : State :=
  let e := s.ethPort n
  let till := fun i => s.hubTime + s.quantaTime n (x.2.2.getD i 0 % 65536)
  s.setEth n (if x.1 then
      { e with pfcTo := (List.range 8).foldl (fun l t => if bit x.2.1 t then assocSet 0 t (till t) l else l) e.pfcTo }
    else { e with pauseTo := till 0 })

/-- The frame in transmission on Ethernet port n has ended: the holds that came during it start. -/
def State.startHolds (s : State) (n : Nat) : State :=
  let l := (s.ethPort n).waits
  (l.foldl (fun s x => s.startHold n x) (s.setEth n { s.ethPort n with waits := [] })).showHolds n

/-! ## Transmission (R155, R333, R399, R400, R407) -/

/-- The registers show the head capture of Ethernet port n (R400). -/
def State.showCaps (s : State) (n : Nat) : State :=
  match (s.ethPort n).caps with
  | [] => ((((s.put (ETH_TXTS_ID_VALID n) 0).put (ETH_TXTS_LO_TIME n) 0).put (ETH_TXTS_HI_TIME n) 0).put
      (ETH_TXTS_ID_MTYPE n) 0).put (ETH_TXTS_ID_SEQ n) 0
  | c :: _ => ((((s.put (ETH_TXTS_ID_VALID n) 1).put (ETH_TXTS_LO_TIME n) c.time).put (ETH_TXTS_HI_TIME n) (c.time / 2 ^ 32)).put
      (ETH_TXTS_ID_MTYPE n) c.mtype).put (ETH_TXTS_ID_SEQ n) c.seq

/-- R400. The transmit capture of a frame that started at a time. -/
def State.captureTx (s : State) (n : Nat) (f : Frame) (time : Nat) : State :=
  match gptpOf f.data with
  | some (mtype, seq) =>
    if !s.is (ETH_CFG_TSCAP n) || f.sys then s
    else
      let e := s.ethPort n
      if 16 ≤ e.caps.length then (s.bump (ETH_CNT_COUNT n 7)).raise 0x0D05 n
      else (s.setEth n { e with caps := e.caps ++ [⟨time + s.get (ETH_TS_LAT_TX n), mtype, seq⟩] }).showCaps n
  | none => s

/-- R407. The posted writes of a frame's data to a root port: at most 512 bytes each, none across a 4 KiB boundary; at most k of
them. -/
def State.postWrites (s : State) (m addr : Nat) (d : Bytes) : Nat → State
  | 0 => s
  | k + 1 =>
    if d.isEmpty then s
    else
      let n := min (min 512 (4096 - addr % 4096)) d.length
      (s.emit (.rootReq m true addr n (d.take n) 0)).postWrites m (addr + n) (d.drop n) k

/-- What a port puts on its wire for a frame; port 30 hands the frame, a line record, to the intake (R416). -/
def State.sendFrame (s : State) (p id time : Nat) : State :=
  let f := s.frame id
  if 4 ≤ p ∧ p ≤ 11 then ((s.emit (.frame p f.data)).bump (ETH_CNT_COUNT (p - 4) 4)).captureTx (p - 4) f time
  else if 12 ≤ p ∧ p ≤ 27 then s.emit (.frame p (f.data ++ beBytes 4 (crc32c f.data)))
  else if (p = 28 ∨ p = 29) ∧ !s.dock then
    if f.data.length ≤ 8 then s.bump (PCI_RP_STAT_SHORT (p - 28))
    else s.postWrites (p - 28) (beAt f.data 0 8) (f.data.drop 8) f.data.length
  else if p = 30 then s.intake f.slice f.data
  else s.emit (.frame p f.data)

/-- R155. FRAME_TRANSMIT_DONE: the frame in transmission on port `port` is out; its extents are released. -/
def execFrameTransmitDone (port : Nat) (s : State) : Host.Outcome State Fault Refusal :=
  .next (match assocFind s.cis.tx port with
    | some x =>
      if s.running then
        let s := s.sendFrame port x.frame x.time
        let s := (x.well.elim s s.accrue).accruePort port
        let s := { s with cis := { s.cis with tx := assocDel port s.cis.tx } }
        let s := if 4 ≤ port ∧ port ≤ 11 then s.startHolds (port - 4) else s
        let s := s.sentFrame x.well x.frame
        (if 12 ≤ port ∧ port ≤ 27 then s.samGrant (port - 12) else s).settle
      else s
    | none => s)

/-! ## Wells and the dipper (R163, R164, R170, R180, R183) -/

/-- R163. The fields of WEL_CFG of well n as slice sl writes them: EN is judged as it stood. The owning slice names a port by
R303, and a slice other than 0 keeps SLICE (R305). (DEDUCED, log 31) -/
def State.welFields (s : State) (sl n v : Nat) : State :=
  let port := bits v 5 0
  let may := port == 32 || s.slicePort sl port || (sl == 0 && s.get (WEL_CFG_SLICE n) != 0)
  let free := !s.is (WEL_CFG_EN n) && s.get (WEL_DEPTH_CELLS n) == 0 && s.portPresent port
  let s := if free && may then s.put (WEL_CFG_PORT n) port else s
  let s := if free && sl == 0 then s.put (WEL_CFG_SLICE n) (bits v 21 16) else s
  ((s.put (WEL_CFG_EN n) (bits v 31 31)).put (WEL_CFG_BP_PRI n) (bits v 29 27)).put (WEL_CFG_ISL_MODE n) (bits v 30 30)

/-- A write of WEL_CFG of well n: a new ISL_MODE is a mark check (R173). -/
def State.welCfg (s : State) (sl n v : Nat) : State :=
  let t := (s.accrue n).welFields sl n v
  if t.get (WEL_CFG_ISL_MODE n) = s.get (WEL_CFG_ISL_MODE n) then t else t.markCheck n

/-- R170. AGE_SWEEP. -/
def execAgeSweep (s : State) : Host.Outcome State Fault Refusal :=
  .next (if s.running then (s.wellNos.foldl State.sweepWell s).settle else s)

/-- R180. DIPPER_RECORD_WRITTEN. -/
def execDipperRecordWritten (s : State) : Host.Outcome State Fault Refusal :=
  .next (if s.running then s.dipperWrite else s)

/-- R183. WEL_FLUSH: a frame of the well whose transmission has started completes first, and the command with it. -/
def cmdWelFlush (c : BktCmd) (s : State) : BktStage × State :=
  let n := c.le 4 2
  let bad := decide (511 < n)
  let denied := c.ch != 0 && (bad || c.ch != s.get (WEL_CFG_SLICE n))
  bktRun (s.bktCheck c false bad denied false false) s (fun s =>
    let (k, s) := s.flushWell n
    if s.sending n then (.waiting, { s with cis := { s.cis with flush := some (n, k) } }.settle)
    else answerOk (leBytes 4 k) s.settle)

/-- R181. A write of WEL_DIP_CTRL: writing 1 to EN starts afresh. -/
def State.dipCtrl (s : State) (v : Nat) : State :=
  let s := ((s.put WEL_DIP_CTRL_POINTS (bits v 19 16)).put WEL_DIP_CTRL_CAUSES (bits v 15 0)).put WEL_DIP_CTRL_EN (bits v 31 31)
  let s := s.put WEL_DIP_CTRL_STOP (bits v 30 30)
  if bit v 31 then
    let s := ((s.put WEL_DIP_WPTR_INDEX 0).put WEL_DIP_WPTR_WRAPS 0).put WEL_DIP_CTRL_FULL 0
    { s with cis := { s.cis with dipMatch := 0 } }
  else s

end Sys2Proof.Machine
end

