-- ==== Sys2Proof/Machine/WindlassCore.lean ====
section
/-! DEFINITION. The Windlass core instructions: ALU, bit fields, immediates, branches, jumps, special registers, local memory and the packet window (07). -/
namespace Sys2Proof.Machine

/-! ## The ALU group (R218 to R221) -/

/-- An ALU operation at any width: the sources, gb as the full register for counts, and C. -/
abbrev AluOp := (w : Nat) → BitVec w → BitVec w → W64 → Bool → AluRes w

/-- The result of an ALU operation in its 64-bit or 32-bit form (R219). -/
def aluResult (f : AluOp) (w32 : Bool) (a b : W64) (c : Bool) : W64 × Flags :=
  if w32 then
    let r := f 32 (a.setWidth 32) (b.setWidth 32) b c
    (r.r.setWidth 64, flagsOf r)
  else
    let r := f 64 a b b c
    (r.r, flagsOf r)

/-- An ALU instruction: gd receives the result, and with S the flags are written (R220). -/
def alu (i : Instr) (p t : Nat) (gd ga gb : BitVec 4) (m : AluMod) (f : AluOp) (s : State) : State :=
  s.issue p t i (fun _ th =>
    let (r, fl) := aluResult f m.w32 (th.reg ga) (th.reg gb) th.flg.c
    let th := th.setReg gd r
    .upd (if m.setFlags then { th with flg := fl } else th).next)

/-- A plain result, with C and V clear. -/
def plain {w : Nat} (r : BitVec w) : AluRes w := { r := r }

/-- Leading zero bits: w for zero. -/
def clz {w : Nat} (a : BitVec w) : Nat := if a.toNat = 0 then w else w - 1 - Nat.log2 a.toNat

/-- Trailing zero bits: w for zero. -/
def ctz {w : Nat} (a : BitVec w) : Nat := ((List.range w).find? (fun i => a.getLsbD i)).getD w

/-- The value with its bytes in reverse order. -/
def byteSwap {w : Nat} (a : BitVec w) : BitVec w := BitVec.ofNat w (leNat (beBytes (w / 8) a.toNat))

def opAdd : AluOp := fun _ a b _ _ => addFlags a b false
def opSub : AluOp := fun _ a b _ _ => subFlags a b false
def opAnd : AluOp := fun _ a b _ _ => plain (a &&& b)
def opOr : AluOp := fun _ a b _ _ => plain (a ||| b)
def opXor : AluOp := fun _ a b _ _ => plain (a ^^^ b)
def opAndn : AluOp := fun _ a b _ _ => plain (a &&& ~~~b)
def opSll : AluOp := fun w a _ g _ =>
  let n := shiftCount w g
  { r := a <<< n, c := decide (0 < n) && a.getLsbD (w - n) }
def opSrl : AluOp := fun w a _ g _ =>
  let n := shiftCount w g
  { r := a >>> n, c := decide (0 < n) && a.getLsbD (n - 1) }
def opSra : AluOp := fun w a _ g _ =>
  let n := shiftCount w g
  { r := a.sshiftRight n, c := decide (0 < n) && a.getLsbD (n - 1) }
def opRol : AluOp := fun w a _ g _ => plain (a.rotateLeft (shiftCount w g))
def opRor : AluOp := fun w a _ g _ => plain (a.rotateRight (shiftCount w g))
def opMul : AluOp := fun _ a b _ _ => plain (a * b)
def opMulhu : AluOp := fun w a b _ _ => plain (BitVec.ofNat w (a.toNat * b.toNat / 2 ^ w))
def opMin : AluOp := fun _ a b _ _ => plain (if a.sle b then a else b)
def opMax : AluOp := fun _ a b _ _ => plain (if a.sle b then b else a)
def opMinu : AluOp := fun _ a b _ _ => plain (if a.ule b then a else b)
def opMaxu : AluOp := fun _ a b _ _ => plain (if a.ule b then b else a)
def opClz : AluOp := fun w a _ _ _ => plain (BitVec.ofNat w (clz a))
def opCtz : AluOp := fun w a _ _ _ => plain (BitVec.ofNat w (ctz a))
def opPopc : AluOp := fun w a _ _ _ => plain (BitVec.ofNat w (countBits a.toNat w))
def opBswap : AluOp := fun _ a _ _ _ => plain (byteSwap a)
def opAddc : AluOp := fun _ a b _ c => addFlags a b c
def opSubb : AluOp := fun _ a b _ c => subFlags a b (!c)

/-- R221. ADD: gd = ga + gb. -/
def execWAdd (p t : Nat) (gd ga gb : BitVec 4) (m : AluMod) (s : State) : Host.Outcome State Fault Refusal :=
  .next (alu (.wAdd p t gd ga gb m) p t gd ga gb m opAdd s)

/-- R221. SUB: gd = ga − gb. -/
def execWSub (p t : Nat) (gd ga gb : BitVec 4) (m : AluMod) (s : State) : Host.Outcome State Fault Refusal :=
  .next (alu (.wSub p t gd ga gb m) p t gd ga gb m opSub s)

/-- R221. AND: gd = ga & gb. -/
def execWAnd (p t : Nat) (gd ga gb : BitVec 4) (m : AluMod) (s : State) : Host.Outcome State Fault Refusal :=
  .next (alu (.wAnd p t gd ga gb m) p t gd ga gb m opAnd s)

/-- R221. OR: gd = ga | gb. -/
def execWOr (p t : Nat) (gd ga gb : BitVec 4) (m : AluMod) (s : State) : Host.Outcome State Fault Refusal :=
  .next (alu (.wOr p t gd ga gb m) p t gd ga gb m opOr s)

/-- R221. XOR: gd = ga ^ gb. -/
def execWXor (p t : Nat) (gd ga gb : BitVec 4) (m : AluMod) (s : State) : Host.Outcome State Fault Refusal :=
  .next (alu (.wXor p t gd ga gb m) p t gd ga gb m opXor s)

/-- R221. ANDN: gd = ga & ~gb. -/
def execWAndn (p t : Nat) (gd ga gb : BitVec 4) (m : AluMod) (s : State) : Host.Outcome State Fault Refusal :=
  .next (alu (.wAndn p t gd ga gb m) p t gd ga gb m opAndn s)

/-- R221. SLL: shift left. -/
def execWSll (p t : Nat) (gd ga gb : BitVec 4) (m : AluMod) (s : State) : Host.Outcome State Fault Refusal :=
  .next (alu (.wSll p t gd ga gb m) p t gd ga gb m opSll s)

/-- R221. SRL: shift right, zero fill. -/
def execWSrl (p t : Nat) (gd ga gb : BitVec 4) (m : AluMod) (s : State) : Host.Outcome State Fault Refusal :=
  .next (alu (.wSrl p t gd ga gb m) p t gd ga gb m opSrl s)

/-- R221. SRA: shift right, sign fill. -/
def execWSra (p t : Nat) (gd ga gb : BitVec 4) (m : AluMod) (s : State) : Host.Outcome State Fault Refusal :=
  .next (alu (.wSra p t gd ga gb m) p t gd ga gb m opSra s)

/-- R221. ROL: rotate left. -/
def execWRol (p t : Nat) (gd ga gb : BitVec 4) (m : AluMod) (s : State) : Host.Outcome State Fault Refusal :=
  .next (alu (.wRol p t gd ga gb m) p t gd ga gb m opRol s)

/-- R221. ROR: rotate right. -/
def execWRor (p t : Nat) (gd ga gb : BitVec 4) (m : AluMod) (s : State) : Host.Outcome State Fault Refusal :=
  .next (alu (.wRor p t gd ga gb m) p t gd ga gb m opRor s)

/-- R221. MUL: low half of the product. -/
def execWMul (p t : Nat) (gd ga gb : BitVec 4) (m : AluMod) (s : State) : Host.Outcome State Fault Refusal :=
  .next (alu (.wMul p t gd ga gb m) p t gd ga gb m opMul s)

/-- R221. MULHU: high half of the unsigned product. -/
def execWMulhu (p t : Nat) (gd ga gb : BitVec 4) (m : AluMod) (s : State) : Host.Outcome State Fault Refusal :=
  .next (alu (.wMulhu p t gd ga gb m) p t gd ga gb m opMulhu s)

/-- R221. MIN: signed minimum. -/
def execWMin (p t : Nat) (gd ga gb : BitVec 4) (m : AluMod) (s : State) : Host.Outcome State Fault Refusal :=
  .next (alu (.wMin p t gd ga gb m) p t gd ga gb m opMin s)

/-- R221. MAX: signed maximum. -/
def execWMax (p t : Nat) (gd ga gb : BitVec 4) (m : AluMod) (s : State) : Host.Outcome State Fault Refusal :=
  .next (alu (.wMax p t gd ga gb m) p t gd ga gb m opMax s)

/-- R221. MINU: unsigned minimum. -/
def execWMinu (p t : Nat) (gd ga gb : BitVec 4) (m : AluMod) (s : State) : Host.Outcome State Fault Refusal :=
  .next (alu (.wMinu p t gd ga gb m) p t gd ga gb m opMinu s)

/-- R221. MAXU: unsigned maximum. -/
def execWMaxu (p t : Nat) (gd ga gb : BitVec 4) (m : AluMod) (s : State) : Host.Outcome State Fault Refusal :=
  .next (alu (.wMaxu p t gd ga gb m) p t gd ga gb m opMaxu s)

/-- R221. ADDC: gd = ga + gb + C. -/
def execWAddc (p t : Nat) (gd ga gb : BitVec 4) (m : AluMod) (s : State) : Host.Outcome State Fault Refusal :=
  .next (alu (.wAddc p t gd ga gb m) p t gd ga gb m opAddc s)

/-- R221. SUBB: gd = ga − gb − (1 − C). -/
def execWSubb (p t : Nat) (gd ga gb : BitVec 4) (m : AluMod) (s : State) : Host.Outcome State Fault Refusal :=
  .next (alu (.wSubb p t gd ga gb m) p t gd ga gb m opSubb s)

/-- R221. CLZ: leading zero bits. -/
def execWClz (p t : Nat) (gd ga : BitVec 4) (m : AluMod) (s : State) : Host.Outcome State Fault Refusal :=
  .next (alu (.wClz p t gd ga m) p t gd ga 0#4 m opClz s)

/-- R221. CTZ: trailing zero bits. -/
def execWCtz (p t : Nat) (gd ga : BitVec 4) (m : AluMod) (s : State) : Host.Outcome State Fault Refusal :=
  .next (alu (.wCtz p t gd ga m) p t gd ga 0#4 m opCtz s)

/-- R221. POPC: count of 1 bits. -/
def execWPopc (p t : Nat) (gd ga : BitVec 4) (m : AluMod) (s : State) : Host.Outcome State Fault Refusal :=
  .next (alu (.wPopc p t gd ga m) p t gd ga 0#4 m opPopc s)

/-- R221. BSWAP: bytes in reverse order. -/
def execWBswap (p t : Nat) (gd ga : BitVec 4) (m : AluMod) (s : State) : Host.Outcome State Fault Refusal :=
  .next (alu (.wBswap p t gd ga m) p t gd ga 0#4 m opBswap s)

/-- R221, R225. CSEL: the condition is read from flg as it stands before the instruction. -/
def execWCsel (p t : Nat) (gd ga gb cond : BitVec 4) (m : AluMod) (s : State) : Host.Outcome State Fault Refusal :=
  .next (s.issue p t (.wCsel p t gd ga gb cond m) (fun _ th =>
    let (r, fl) := aluResult (fun _ a b _ _ => plain (if condHolds cond th.flg then a else b)) m.w32
      (th.reg ga) (th.reg gb) th.flg.c
    let th := th.setReg gd r
    .upd (if m.setFlags then { th with flg := fl } else th).next))

/-- R215, R216. ILL: a word with a reserved opcode, function, selector or condition, or a must-be-zero field that is not zero. -/
def execWIll (p t : Nat) (word : W32) (s : State) : Host.Outcome State Fault Refusal :=
  .next (s.issue p t (.wIll p t word) (fun _ _ => .trap 1))

/-! ## Bit fields (R222) -/

/-- The field of w bits of a from bit pos. -/
def fieldOf (a : W64) (pos w : Nat) : Nat := bits a.toNat (pos + w - 1) pos

/-- R222. BFX: the field zero-extended, or sign-extended from its top bit with X. -/
def execWBfx (p t : Nat) (gd ga : BitVec 4) (pos wm1 : BitVec 6) (sx : Bool) (s : State) : Host.Outcome State Fault Refusal :=
  .next (s.issue p t (.wBfx p t gd ga pos wm1 sx) (fun _ th =>
    let w := fieldWidth pos wm1
    let v := fieldOf (th.reg ga) pos.toNat w
    .upd (th.setReg gd (if sx then BitVec.ofInt 64 (signed w v) else BitVec.ofNat 64 v)).next))

/-- R222. BFI: the field of gd is replaced by the low bits of ga. -/
def execWBfi (p t : Nat) (gd ga : BitVec 4) (pos wm1 : BitVec 6) (s : State) : Host.Outcome State Fault Refusal :=
  .next (s.issue p t (.wBfi p t gd ga pos wm1) (fun _ th =>
    let w := fieldWidth pos wm1
    let mask : W64 := BitVec.ofNat 64 ((2 ^ w - 1) * 2 ^ pos.toNat)
    .upd (th.setReg gd ((th.reg gd &&& ~~~mask) ||| ((th.reg ga <<< pos.toNat) &&& mask))).next))

/-! ## Immediates (R223) -/

/-- An immediate instruction whose result is a function of ga. -/
def immOp (i : Instr) (p t : Nat) (gd ga : BitVec 4) (f : W64 → W64) (s : State) : State :=
  s.issue p t i (fun _ th => .upd (th.setReg gd (f (th.reg ga))).next)

/-- The shift count of an immediate form: the immediate taken unsigned and clamped to 63. -/
def immCount (imm : BitVec 18) : Nat := min imm.toNat 63

/-- R223. ADDI: gd = ga + imm. -/
def execWAddi (p t : Nat) (gd ga : BitVec 4) (imm : BitVec 18) (s : State) : Host.Outcome State Fault Refusal :=
  .next (immOp (.wAddi p t gd ga imm) p t gd ga (fun a => a + imm.signExtend 64) s)

/-- R223. ANDI: gd = ga & imm. -/
def execWAndi (p t : Nat) (gd ga : BitVec 4) (imm : BitVec 18) (s : State) : Host.Outcome State Fault Refusal :=
  .next (immOp (.wAndi p t gd ga imm) p t gd ga (fun a => a &&& imm.setWidth 64) s)

/-- R223. ORI: gd = ga | imm. -/
def execWOri (p t : Nat) (gd ga : BitVec 4) (imm : BitVec 18) (s : State) : Host.Outcome State Fault Refusal :=
  .next (immOp (.wOri p t gd ga imm) p t gd ga (fun a => a ||| imm.setWidth 64) s)

/-- R223. XORI: gd = ga ^ imm. -/
def execWXori (p t : Nat) (gd ga : BitVec 4) (imm : BitVec 18) (s : State) : Host.Outcome State Fault Refusal :=
  .next (immOp (.wXori p t gd ga imm) p t gd ga (fun a => a ^^^ imm.setWidth 64) s)

/-- R223. SHOR: gd = (ga << 18) | imm. -/
def execWShor (p t : Nat) (gd ga : BitVec 4) (imm : BitVec 18) (s : State) : Host.Outcome State Fault Refusal :=
  .next (immOp (.wShor p t gd ga imm) p t gd ga (fun a => (a <<< 18) ||| imm.setWidth 64) s)

/-- R223. SLLI: gd = ga << n. -/
def execWSlli (p t : Nat) (gd ga : BitVec 4) (imm : BitVec 18) (s : State) : Host.Outcome State Fault Refusal :=
  .next (immOp (.wSlli p t gd ga imm) p t gd ga (fun a => a <<< immCount imm) s)

/-- R223. SRLI: gd = ga >> n, zero fill. -/
def execWSrli (p t : Nat) (gd ga : BitVec 4) (imm : BitVec 18) (s : State) : Host.Outcome State Fault Refusal :=
  .next (immOp (.wSrli p t gd ga imm) p t gd ga (fun a => a >>> immCount imm) s)

/-- R223. SRAI: gd = ga >> n, sign fill. -/
def execWSrai (p t : Nat) (gd ga : BitVec 4) (imm : BitVec 18) (s : State) : Host.Outcome State Fault Refusal :=
  .next (immOp (.wSrai p t gd ga imm) p t gd ga (fun a => a.sshiftRight (immCount imm)) s)

/-- R223. CMPI: flg from ga − imm, as for SUB. -/
def execWCmpi (p t : Nat) (ga : BitVec 4) (imm : BitVec 18) (s : State) : Host.Outcome State Fault Refusal :=
  .next (s.issue p t (.wCmpi p t ga imm) (fun _ th =>
    .upd { th with flg := flagsOf (subFlags (th.reg ga) (imm.signExtend 64) false) }.next))

/-! ## Branches and jumps (R224 to R226) -/

/-- The thread goes on at pc + 4 × off where the test holds, else at pc + 4. -/
def Thread.branch (th : Thread) (taken : Bool) (off : Int) : Thread := { th with pc := pcAdd th.pc (if taken then off else 1) }

/-- A compare-and-branch instruction. -/
def branchOp (i : Instr) (p t : Nat) (ga gb : BitVec 4) (off : BitVec 18) (f : W64 → W64 → Bool) (s : State) : State :=
  s.issue p t i (fun _ th => .upd (th.branch (f (th.reg ga) (th.reg gb)) off.toInt))

/-- R224. BEQ: branch when ga = gb. -/
def execWBeq (p t : Nat) (ga gb : BitVec 4) (off : BitVec 18) (s : State) : Host.Outcome State Fault Refusal :=
  .next (branchOp (.wBeq p t ga gb off) p t ga gb off (fun a b => a == b) s)

/-- R224. BNE: branch when ga ≠ gb. -/
def execWBne (p t : Nat) (ga gb : BitVec 4) (off : BitVec 18) (s : State) : Host.Outcome State Fault Refusal :=
  .next (branchOp (.wBne p t ga gb off) p t ga gb off (fun a b => a != b) s)

/-- R224. BLT: branch when ga < gb signed. -/
def execWBlt (p t : Nat) (ga gb : BitVec 4) (off : BitVec 18) (s : State) : Host.Outcome State Fault Refusal :=
  .next (branchOp (.wBlt p t ga gb off) p t ga gb off (fun a b => a.slt b) s)

/-- R224. BGE: branch when ga ≥ gb signed. -/
def execWBge (p t : Nat) (ga gb : BitVec 4) (off : BitVec 18) (s : State) : Host.Outcome State Fault Refusal :=
  .next (branchOp (.wBge p t ga gb off) p t ga gb off (fun a b => !a.slt b) s)

/-- R224. BLTU: branch when ga < gb unsigned. -/
def execWBltu (p t : Nat) (ga gb : BitVec 4) (off : BitVec 18) (s : State) : Host.Outcome State Fault Refusal :=
  .next (branchOp (.wBltu p t ga gb off) p t ga gb off (fun a b => a.ult b) s)

/-- R224. BGEU: branch when ga ≥ gb unsigned. -/
def execWBgeu (p t : Nat) (ga gb : BitVec 4) (off : BitVec 18) (s : State) : Host.Outcome State Fault Refusal :=
  .next (branchOp (.wBgeu p t ga gb off) p t ga gb off (fun a b => !a.ult b) s)

/-- R225. BC: branch when the condition holds on flg. -/
def execWBc (p t : Nat) (cond : BitVec 4) (off : BitVec 18) (s : State) : Host.Outcome State Fault Refusal :=
  .next (s.issue p t (.wBc p t cond off) (fun _ th => .upd (th.branch (condHolds cond th.flg) off.toInt)))

/-- R226. J. -/
def execWJ (p t : Nat) (off : BitVec 26) (s : State) : Host.Outcome State Fault Refusal :=
  .next (s.issue p t (.wJ p t off) (fun _ th => .upd (th.branch true off.toInt)))

/-- R226. JL: gd = pc + 4, and pc = pc + 4 × off. -/
def execWJl (p t : Nat) (gd : BitVec 4) (off : BitVec 18) (s : State) : Host.Outcome State Fault Refusal :=
  .next (s.issue p t (.wJl p t gd off) (fun _ th =>
    .upd ((th.setReg gd (BitVec.ofNat 64 (pcAdd th.pc 1))).branch true off.toInt)))

/-- R226. JALR: ga is read before gd is written; a target that is not a multiple of 4 raises ALIGN. -/
def execWJalr (p t : Nat) (gd ga : BitVec 4) (s : State) : Host.Outcome State Fault Refusal :=
  .next (s.issue p t (.wJalr p t gd ga) (fun _ th =>
    let x := (th.reg ga).toNat
    if x % 4 ≠ 0 then .trap 5
    else .upd { (th.setReg gd (BitVec.ofNat 64 (pcAdd th.pc 1))) with pc := x % 2 ^ 20 }))

/-- R211, R227. MFS: a selector above 4 raises ILL. -/
def execWMfs (p t : Nat) (gd : BitVec 4) (sel : BitVec 14) (s : State) : Host.Outcome State Fault Refusal :=
  .next (s.issue p t (.wMfs p t gd sel) (fun s th =>
    match sel.toNat with
    | 0 => .upd (th.setReg gd (BitVec.ofNat 64 th.pc)).next
    | 1 => .upd (th.setReg gd (BitVec.ofNat 64 th.ctx)).next
    | 2 => .upd (th.setReg gd (BitVec.ofNat 64 th.gen)).next
    | 3 => .upd (th.setReg gd th.flg.word).next
    | 4 => .upd (th.setReg gd (BitVec.ofNat 64 s.hubTime)).next
    | _ => .trap 1))

/-- R227. MTS: only flg is writable; a word with any other selector is an ILL row (`decodeWindlass`). -/
def execWMts (p t : Nat) (ga : BitVec 4) (sel : BitVec 14) (s : State) : Host.Outcome State Fault Refusal :=
  .next (s.issue p t (.wMts p t ga sel) (fun _ th =>
    .upd { th with flg := Flags.ofWord (th.reg ga) }.next))

/-! ## Local memory (R228) -/

/-- A load of n bytes: ALIGN for an address that is not a multiple of n, else the clamped address is read. -/
def loadOp (i : Instr) (p t : Nat) (gd ga : BitVec 4) (imm : BitVec 18) (n : Nat) (sx : Bool) (s : State) : State :=
  s.issue p t i (fun _ th =>
    let a := localAddr (th.reg ga) imm
    if a.toNat % n ≠ 0 then .trap 5
    else
      let v := leNat (memRead th.mem (localClamp a n) n)
      .upd (th.setReg gd (if sx then sext64 n v else BitVec.ofNat 64 v)).next)

/-- A store of the low n bytes of gd. -/
def storeOp (i : Instr) (p t : Nat) (gd ga : BitVec 4) (imm : BitVec 18) (n : Nat) (s : State) : State :=
  s.issue p t i (fun _ th =>
    let a := localAddr (th.reg ga) imm
    if a.toNat % n ≠ 0 then .trap 5
    else .upd { th with mem := memWrite th.mem (localClamp a n) (leBytes n (th.reg gd).toNat) }.next)

/-- R228. LD8. -/
def execWLd8 (p t : Nat) (gd ga : BitVec 4) (imm : BitVec 18) (s : State) : Host.Outcome State Fault Refusal :=
  .next (loadOp (.wLd8 p t gd ga imm) p t gd ga imm 1 false s)

/-- R228. LD16. -/
def execWLd16 (p t : Nat) (gd ga : BitVec 4) (imm : BitVec 18) (s : State) : Host.Outcome State Fault Refusal :=
  .next (loadOp (.wLd16 p t gd ga imm) p t gd ga imm 2 false s)

/-- R228. LD32. -/
def execWLd32 (p t : Nat) (gd ga : BitVec 4) (imm : BitVec 18) (s : State) : Host.Outcome State Fault Refusal :=
  .next (loadOp (.wLd32 p t gd ga imm) p t gd ga imm 4 false s)

/-- R228. LD64. -/
def execWLd64 (p t : Nat) (gd ga : BitVec 4) (imm : BitVec 18) (s : State) : Host.Outcome State Fault Refusal :=
  .next (loadOp (.wLd64 p t gd ga imm) p t gd ga imm 8 false s)

/-- R228. LD8S. -/
def execWLd8s (p t : Nat) (gd ga : BitVec 4) (imm : BitVec 18) (s : State) : Host.Outcome State Fault Refusal :=
  .next (loadOp (.wLd8s p t gd ga imm) p t gd ga imm 1 true s)

/-- R228. LD16S. -/
def execWLd16s (p t : Nat) (gd ga : BitVec 4) (imm : BitVec 18) (s : State) : Host.Outcome State Fault Refusal :=
  .next (loadOp (.wLd16s p t gd ga imm) p t gd ga imm 2 true s)

/-- R228. LD32S. -/
def execWLd32s (p t : Nat) (gd ga : BitVec 4) (imm : BitVec 18) (s : State) : Host.Outcome State Fault Refusal :=
  .next (loadOp (.wLd32s p t gd ga imm) p t gd ga imm 4 true s)

/-- R228. ST8. -/
def execWSt8 (p t : Nat) (gd ga : BitVec 4) (imm : BitVec 18) (s : State) : Host.Outcome State Fault Refusal :=
  .next (storeOp (.wSt8 p t gd ga imm) p t gd ga imm 1 s)

/-- R228. ST16. -/
def execWSt16 (p t : Nat) (gd ga : BitVec 4) (imm : BitVec 18) (s : State) : Host.Outcome State Fault Refusal :=
  .next (storeOp (.wSt16 p t gd ga imm) p t gd ga imm 2 s)

/-- R228. ST32. -/
def execWSt32 (p t : Nat) (gd ga : BitVec 4) (imm : BitVec 18) (s : State) : Host.Outcome State Fault Refusal :=
  .next (storeOp (.wSt32 p t gd ga imm) p t gd ga imm 4 s)

/-- R228. ST64. -/
def execWSt64 (p t : Nat) (gd ga : BitVec 4) (imm : BitVec 18) (s : State) : Host.Outcome State Fault Refusal :=
  .next (storeOp (.wSt64 p t gd ga imm) p t gd ga imm 8 s)

/-! ## The packet window (R230 to R233) -/

/-- The field that a window access reads: most significant byte first; bytes past the window length read as 0 (R232). -/
def windowField (win : Bytes) (o n : Nat) : Nat := beAt win o n

/-- A WST writes the frame itself; bytes at or above the window length are discarded (R232, R233). -/
def windowStore (win : Bytes) (o : Nat) (d : Bytes) : Bytes := (overlay win o d).take win.length

/-- R231. WLD. -/
def execWWld (p t : Nat) (gd : BitVec 4) (off : BitVec 8) (size : BitVec 3) (gx : BitVec 4) (s : State) :
    Host.Outcome State Fault Refusal :=
  .next (s.issue p t (.wWld p t gd off size gx) (fun s th =>
    let n := windowBytes size
    .upd (th.setReg gd (BitVec.ofNat 64 (windowField (s.chain th).window (windowOffset off (th.reg gx) n) n))).next))

/-- R231. WLDS: sign-extended from the top bit of the field. -/
def execWWlds (p t : Nat) (gd : BitVec 4) (off : BitVec 8) (size : BitVec 3) (gx : BitVec 4) (s : State) :
    Host.Outcome State Fault Refusal :=
  .next (s.issue p t (.wWlds p t gd off size gx) (fun s th =>
    let n := windowBytes size
    .upd (th.setReg gd (sext64 n (windowField (s.chain th).window (windowOffset off (th.reg gx) n) n))).next))

/-- R231. WST. -/
def execWWst (p t : Nat) (gd : BitVec 4) (off : BitVec 8) (size : BitVec 3) (gx : BitVec 4) (s : State) :
    Host.Outcome State Fault Refusal :=
  .next (s.issue p t (.wWst p t gd off size gx) (fun s th =>
    match th.chain with
    | none => .upd th.next
    | some id =>
      let n := windowBytes size
      let w := windowStore (s.frame id).window (windowOffset off (th.reg gx) n) (beBytes n (th.reg gd).toNat)
      .eff (s.writeFrame id 0 w) th.next))

/-- R231. WCMP: flg from the zero-extended field minus gd, as for SUB. -/
def execWWcmp (p t : Nat) (gd : BitVec 4) (off : BitVec 8) (size : BitVec 3) (gx : BitVec 4) (s : State) :
    Host.Outcome State Fault Refusal :=
  .next (s.issue p t (.wWcmp p t gd off size gx) (fun s th =>
    let n := windowBytes size
    let v : W64 := BitVec.ofNat 64 (windowField (s.chain th).window (windowOffset off (th.reg gx) n) n)
    .upd { th with flg := flagsOf (subFlags v (th.reg gd) false) }.next))

end Sys2Proof.Machine
end

