-- ==== Sys2Proof/Machine/WindlassTunnel.lean ====
section
/-! DEFINITION. The Windlass tunnel operations: segment chain, lookups, hashes, SEAL and OPEN, placements, messages, context atomics, timers and thread control (08), and the end of a long operation. -/
namespace Sys2Proof.Machine

/-! ## Segment chain (R243 to R245, R266) -/

/-- A local address clamped to 0 to 0x800 − n. -/
def localAt (v : W64) (n : Nat) : Nat := (clampInt 0 (0x800 - (n : Int)) v.toInt).toNat

/-- A fetch of n bytes from offset o of the chain ends the dispatch (R200): its offset lies past 16,383, or the chain is too long and
the range goes past 16,384 bytes. -/
def Frame.cutsAt (f : Frame) (o n : Nat) : Bool := decide (16383 < o) || (f.overLong && decide (16384 < o + n))

/-- FETCH and PUT. -/
def chainCopy (i : Instr) (op : LOp) (p t : Nat) (gd ga gb : BitVec 4) (nm1 : BitVec 8) (s : State) : State :=
  s.issue p t i (fun s th =>
    let n := nm1.toNat + 1
    let o := (th.reg ga).toNat
    if (s.chain th).cutsAt o n then .cut
    else .long ⟨op, gd.toNat, 0, o, localAt (th.reg gb) n, n⟩)

/-- R245. FETCH. -/
def execWFetch (p t : Nat) (gd ga gb : BitVec 4) (nm1 : BitVec 8) (s : State) : Host.Outcome State Fault Refusal :=
  .next (chainCopy (.wFetch p t gd ga gb nm1) .fetch p t gd ga gb nm1 s)

/-- R245. PUT. -/
def execWPut (p t : Nat) (gd ga gb : BitVec 4) (nm1 : BitVec 8) (s : State) : Host.Outcome State Fault Refusal :=
  .next (chainCopy (.wPut p t gd ga gb nm1) .put p t gd ga gb nm1 s)

/-- R245, R266. TRIM: the count clamps to the chain's length at issue. -/
def execWTrim (p t : Nat) (gd ga : BitVec 4) (s : State) : Host.Outcome State Fault Refusal :=
  .next (s.issue p t (.wTrim p t gd ga) (fun s th =>
    .long ⟨.trim, gd.toNat, 0, min (th.reg ga).toNat (s.chain th).data.length, 0, 0⟩))

/-- R245, R266. PREP: the count clamps to 256 and to what the longest chain leaves. -/
def execWPrep (p t : Nat) (gd ga : BitVec 4) (s : State) : Host.Outcome State Fault Refusal :=
  .next (s.issue p t (.wPrep p t gd ga) (fun s th =>
    .long ⟨.prep, gd.toNat, 0, min (th.reg ga).toNat (min 256 (16384 - (s.chain th).data.length)), 0, 0⟩))

/-- R245, R266. APND: what it appends clamps to what the longest chain leaves at issue. -/
def execWApnd (p t : Nat) (gd ga : BitVec 4) (nm1 : BitVec 8) (s : State) : Host.Outcome State Fault Refusal :=
  .next (s.issue p t (.wApnd p t gd ga nm1) (fun s th =>
    .long ⟨.apnd, gd.toNat, 0, localAt (th.reg ga) (nm1.toNat + 1), 0, min (nm1.toNat + 1) (16384 - (s.chain th).data.length)⟩))

/-- R245, R266. CUT: the length clamps to the chain's length at issue. -/
def execWCut (p t : Nat) (gd ga : BitVec 4) (s : State) : Host.Outcome State Fault Refusal :=
  .next (s.issue p t (.wCut p t gd ga) (fun s th =>
    .long ⟨.cut, gd.toNat, 0, min (th.reg ga).toNat (s.chain th).data.length, 0, 0⟩))

/-- R245. LEN: the bytes landed; Z tells whether the chain is closed. -/
def execWLen (p t : Nat) (gd : BitVec 4) (s : State) : Host.Outcome State Fault Refusal :=
  .next (s.issue p t (.wLen p t gd) (fun s th =>
    let f := s.chain th
    let th := th.setReg gd (BitVec.ofNat 64 f.data.length)
    .upd { th with flg := { th.flg with z := f.closed } }.next))

/-! ## Lookups (R246 to R248) -/

/-- The table lies in pages that the context's slice may look up (R247). -/
def State.tablePages (s : State) (c base size : Nat) : Bool :=
  (List.range ((base + size - 1) / 4096 - base / 4096 + 1)).all (fun i =>
    let g := base / 4096 + i
    let st := s.get (PMP_PAGE_STATE g)
    if isSystem c then st == 3 else (st == 1 || st == 2) && s.get (PMP_PAGE_SLICE g) == s.ctxSlice c)

/-- A lookup: the table is checked, RIGHTS before ALIGN. -/
def lookupOp (i : Instr) (op : LOp) (p t : Nat) (gd ga gb k : BitVec 4) (s : State) : State :=
  s.issue p t i (fun s th =>
    let k := min k.toNat 12
    let base := (th.reg gb).toNat
    let size := 64 * 2 ^ k
    if 0x100000 < base + size ∨ !s.tablePages th.ctx base size then .trap 4
    else if base % 64 ≠ 0 then .trap 5
    else .long ⟨op, gd.toNat, 0, (th.reg ga).toNat, base, k⟩)

/-- R246. LKPX. -/
def execWLkpx (p t : Nat) (gd ga gb : BitVec 4) (k : BitVec 4) (s : State) : Host.Outcome State Fault Refusal :=
  .next (lookupOp (.wLkpx p t gd ga gb k) .lkpx p t gd ga gb k s)

/-- R246. LKPD. -/
def execWLkpd (p t : Nat) (gd ga gb : BitVec 4) (k : BitVec 4) (s : State) : Host.Outcome State Fault Refusal :=
  .next (lookupOp (.wLkpd p t gd ga gb k) .lkpd p t gd ga gb k s)

/-- The little-endian number of n bytes of tank 1. -/
def State.tank1Le (s : State) (a n : Nat) : Nat := leNat (s.tankRead 1 a n)

/-- The result of a lookup, if it hits. -/
def State.lookup (s : State) (o : LongOp) : Option Nat :=
  if o.op = .lkpx then
    let b := o.b + 64 * (crc32c (leBytes 8 o.a) % 2 ^ o.k)
    (((List.range 4).map (fun i => b + 16 * i)).find?
      (fun e => bit (s.tank1Le (e + 8) 8) 63 && s.tank1Le e 8 == o.a)).map (fun e => s.tank1Le (e + 8) 8 % 2 ^ 63)
  else
    let v := s.tank1Le (o.b + 8 * min o.a (8 * 2 ^ o.k - 1)) 8
    if bit v 63 then some (v % 2 ^ 63) else none

/-! ## Hash and CRC (R249) -/

/-- R249. HASH: CRC-32C of the eight bytes of ga from gb, without inversion. -/
def execWHash (p t : Nat) (gd ga gb : BitVec 4) (s : State) : Host.Outcome State Fault Refusal :=
  .next (s.issue p t (.wHash p t gd ga gb) (fun _ th =>
    .upd (th.setReg gd (BitVec.ofNat 64 (crc32cRaw ((th.reg gb).toNat % 2 ^ 32) (leBytes 8 (th.reg ga).toNat)))).next))

/-- A CRC over the chain, whose initial value has w bits: offset and length clamp to the chain's length at issue (R266). -/
def crcOp (i : Instr) (op : LOp) (w p t : Nat) (gd ga gb : BitVec 4) (fin : Bool) (s : State) : State :=
  s.issue p t i (fun s th =>
    let len := (s.chain th).data.length
    let o := min (th.reg ga).toNat len
    .long ⟨op, gd.toNat, (th.reg gd).toNat % 2 ^ w, o, min (th.reg gb).toNat (len - o), fin.toNat⟩)

/-- R249. CRC32C over the chain. -/
def execWCrc32c (p t : Nat) (gd ga gb : BitVec 4) (fin : Bool) (s : State) : Host.Outcome State Fault Refusal :=
  .next (crcOp (.wCrc32c p t gd ga gb fin) .crc32c 32 p t gd ga gb fin s)

/-- R249. CRC16 over the chain. -/
def execWCrc16 (p t : Nat) (gd ga gb : BitVec 4) (fin : Bool) (s : State) : Host.Outcome State Fault Refusal :=
  .next (crcOp (.wCrc16 p t gd ga gb fin) .crc16 16 p t gd ga gb fin s)

/-! ## SEAL and OPEN (R250 to R254) -/

/-- The range of a SEAL or OPEN on a chain of len bytes: offset, length of the additional data, length of the payload, at most cap
(R250, R266). -/
def sealRange (v len cap : Nat) : Nat × Nat × Nat :=
  let x := min (v % 2 ^ 14) len
  let a := min (v / 2 ^ 16 % 2 ^ 14) (len - x)
  (x, a, min (v / 2 ^ 32 % 2 ^ 14) (min (len - x - a) cap))

/-- SEAL or OPEN: RIGHTS for the slot, ALIGN for the IV, then CRYPTO (R238, R253). -/
def cryptoOp (i : Instr) (op : LOp) (use : Nat) (p t : Nat) (gd ga gb : BitVec 4) (s : State) : State :=
  s.issue p t i (fun s th =>
    let ken := s.is (CTX_KEY_KEN th.ctx)
    let k := s.get (CTX_KEY_SLOT th.ctx)
    match (if ken then refTrap [s.refSlot th.ctx k] else none) with
    | some code => .trap code
    | none =>
      if (th.reg ga).toNat % 4 ≠ 0 then .trap 5
      else if !ken || !s.slotUsable k || s.slotUse k != use || (op == .seal && decide (16368 < (s.chain th).data.length)) then
        .trap 6
      else
        let len := (s.chain th).data.length
        let (x, a, n) := sealRange (th.reg gb).toNat len (if op == .seal then 16368 - len else len)
        .long ⟨op, gd.toNat, 0, localAt (th.reg ga) 12, x + 2 ^ 16 * a + 2 ^ 32 * n, k⟩)

/-- R250, R251. SEAL. -/
def execWSeal (p t : Nat) (gd ga gb : BitVec 4) (s : State) : Host.Outcome State Fault Refusal :=
  .next (cryptoOp (.wSeal p t gd ga gb) .seal 0 p t gd ga gb s)

/-- R250, R252. OPEN. -/
def execWOpen (p t : Nat) (gd ga gb : BitVec 4) (s : State) : Host.Outcome State Fault Refusal :=
  .next (cryptoOp (.wOpen p t gd ga gb) .unseal 1 p t gd ga gb s)

/-! ## The end of a long operation (R242 to R254, R261) -/

/-- The bytes a long operation waits for have landed, and the cells and the descriptor it needs are free (R244). -/
def State.longReady (s : State) (th : Thread) (o : LongOp) : Bool :=
  let f := s.chain th
  let len := f.data.length
  let landed (n : Nat) : Bool := f.closed || decide (n ≤ len)
  let room (n : Nat) : Bool :=
    n == 0 || (decide (newCells f n ≤ s.freeCells) && (th.chain.isSome || decide (0 < s.freeFds)))
  let span := o.b % 2 ^ 16 + o.b / 2 ^ 16 % 2 ^ 16 + o.b / 2 ^ 32
  match o.op with
  | .fetch => landed (o.a + o.k)
  | .put => landed (o.a + o.k)
  | .prep => o.a == 0 || (decide (0 < s.freeCells) && (th.chain.isSome || decide (0 < s.freeFds)))
  | .apnd => f.closed && room o.k
  | .cut => f.closed
  | .crc32c => landed (o.a + o.b)
  | .crc16 => landed (o.a + o.b)
  | .seal => landed span && room 16
  | .unseal => landed (span + 16)
  | _ => true

/-- The range of an outstanding SEAL or OPEN. -/
def LongOp.range (o : LongOp) : Nat × Nat × Nat := (o.b % 2 ^ 16, o.b / 2 ^ 16 % 2 ^ 16, o.b / 2 ^ 32)

/-- A user word of a context. -/
def State.userWord (s : State) (c i : Nat) : Nat := s.get (CTX_USER_LO_DATA c i) + 2 ^ 32 * s.get (CTX_USER_HI_DATA c i)

/-- Writing a user word. -/
def State.setUserWord (s : State) (c i v : Nat) : State :=
  (s.put (CTX_USER_LO_DATA c i) v).put (CTX_USER_HI_DATA c i) (v / 2 ^ 32)

/-- The new value that a context atomic gives a word (R261). -/
def atomicValue (o : LongOp) (old : Nat) : Nat :=
  match o.op with
  | .cld => old
  | .cst => o.b
  | .cadd => (old + o.b) % 2 ^ 64
  | .cand => old &&& o.b
  | .cor => old ||| o.b
  | .cxch => o.b
  | _ => if old = o.d then o.b else old

/-- The effect of a long operation on the hub, the value of gd where it has one, and the thread before its gd is written.
(DESIGN CHOICE, log 24) -/
def State.longEffect (s : State) (th : Thread) (o : LongOp) : State × Option Nat × Thread :=
  let f := s.chain th
  let len := f.data.length
  match o.op with
  | .fetch =>
    (s, some (min o.k (len - min o.a len)), { th with mem := memWrite th.mem o.b (slice f.data o.a o.k) })
  | .put =>
    let n := min o.k (len - min o.a len)
    match th.chain with
    | some id => (s.writeFrame id o.a (memRead th.mem o.b n), some n, th)
    | none => (s, some 0, th)
  | .trim =>
    match th.chain with
    | some id => (s.trimFrame id o.a, some (len - o.a), th)
    | none => (s, some 0, th)
  | .prep =>
    if o.a = 0 then (s, some len, th)
    else
      let (id, s) := s.bornChain th
      (s.prependZeros id o.a, some (len + o.a), { th with chain := some id })
  | .apnd =>
    if o.k = 0 then (s, some len, th)
    else
      let (id, s) := s.bornChain th
      (s.growFrame id (f.data ++ memRead th.mem o.a o.k), some (len + o.k), { th with chain := some id })
  | .cut =>
    match th.chain with
    | some id => (s.cutFrame id (min o.a len), some (min o.a len), th)
    | none => (s, some 0, th)
  | .lkpx =>
    let r := s.lookup o
    (s, some (r.getD 0), { th with flg := { th.flg with z := r.isNone } })
  | .lkpd =>
    let r := s.lookup o
    (s, some (r.getD 0), { th with flg := { th.flg with z := r.isNone } })
  | .crc32c =>
    let r := crc32cRaw o.d (slice f.data o.a o.b)
    (s, some (if o.k = 1 then r ^^^ 0xFFFFFFFF else r), th)
  | .crc16 =>
    let r := crc16Raw o.d (slice f.data o.a o.b)
    (s, some (if o.k = 1 then r ^^^ 0xFFFF else r), th)
  | .seal =>
    let (x, a, n) := o.range
    let (ct, tag) := gcmSeal (s.slotKey o.k) (memRead th.mem o.a 12) (slice f.data x a) (slice f.data (x + a) n)
    let (id, s) := s.bornChain th
    (s.growFrame id (f.data.take (x + a) ++ ct ++ tag ++ f.data.drop (x + a + n)), some (len + 16),
      { th with chain := some id })
  | .unseal =>
    let (x, a, n) := o.range
    let y := x + a + n
    let r := if len < y + 16 then none
      else gcmOpen (s.slotKey o.k) (memRead th.mem o.a 12) (slice f.data x a) (slice f.data (x + a) n) (slice f.data y 16)
    match r, th.chain with
    | some pt, some id =>
      let s := s.setFrame id { f with data := f.data.take (x + a) ++ pt ++ f.data.drop (y + 16) ++ zeros 16 }
      (s.cutFrame id (len - 16), some 0, { th with flg := { th.flg with z := true } })
    | _, _ => (s.slotFail o.k, some 1, { th with flg := { th.flg with z := false } })
  | op =>
    let old := s.userWord o.a o.gd
    let fl := if op = .ccas then { th.flg with z := old == o.d } else th.flg
    (s.setUserWord o.a o.gd (atomicValue o old), some old, { th with flg := fl })

/-- The register that a long operation writes: an atomic keeps the word number in `gd` and its register in `k`. -/
def LongOp.dest (o : LongOp) : BitVec 4 :=
  match o.op with
  | .cld | .cst | .cadd | .cand | .cor | .cxch | .ccas => BitVec.ofNat 4 o.k
  | _ => BitVec.ofNat 4 o.gd

/-- A thread's long operation ends: its effects, its result, and READY. -/
def State.longDone (s : State) (p t : Nat) (o : LongOp) : State :=
  let th := s.thread p t
  let (s, r, th) := s.longEffect th o
  let th := match r with
    | some v => th.setReg o.dest (BitVec.ofNat 64 v)
    | none => th
  s.setThread p t { th.next with st := .ready, waiting := none }

/-- The operation of thread t of pump p may end: a SEAL or OPEN only when an engine has taken it (R254). -/
def State.engineHas (s : State) (p t : Nat) (o : LongOp) : Bool :=
  !decide (o.op = .seal ∨ o.op = .unseal) || s.takenOps.contains (p * 32 + t)

/-- A FETCH or PUT that waited meets a chain that is too long (R200). -/
def State.longCut (s : State) (th : Thread) (o : LongOp) : Bool :=
  decide (o.op = .fetch ∨ o.op = .put) && (s.chain th).cutsAt o.a o.k

/-- R242, R244. A long operation completes, once the bytes have landed and the cells are free that it waits for. -/
def execLongOperationDone (p t : Nat) (s : State) : Host.Outcome State Fault Refusal :=
  .next (let th := s.thread p t
    match th.st, th.waiting with
    | .wait, some (.long o) =>
      if s.running && s.longReady th o && s.engineHas p t o then
        (if s.longCut th o then (s.sumpOverLong p t).stopThread p t 5 else s.longDone p t o).settle
      else s
    | _, _ => s)

/-- R189. An instruction-cache line fill completes: 256 lines per pump are held. -/
def execIcacheFillDone (p t : Nat) (s : State) : Host.Outcome State Fault Refusal :=
  .next (let th := s.thread p t
    match th.st, th.waiting with
    | .wait, some (.fill l) =>
      if s.running then
        let held := ((l :: (assocGet [] s.pumps.icache p).erase l)).take 256
        let s := { s with pumps := { s.pumps with icache := assocSet [] p held s.pumps.icache } }
        s.setThread p t { th with st := .ready, waiting := none }
      else s
    | _, _ => s)

/-! ## ENQ and FWD (R255 to R259) -/

/-- R255, R256, R303. ENQ: D takes the well from CTX_WELL. -/
def execWEnq (p t : Nat) (ga gb : BitVec 4) (d l c : Bool) (s : State) : Host.Outcome State Fault Refusal :=
  .next (s.issue p t (.wEnq p t ga gb d l c) (fun s th =>
    let n := if d then s.get (CTX_WELL_WELL th.ctx) else (th.reg ga).toNat
    let b := (th.reg gb).toNat
    match refTrap (s.refWell th.ctx n :: (if n ≤ 511 then s.refNamed th.ctx (s.get (WEL_CFG_PORT n)) (bits b 41 32) else [])) with
    | some code => .trap code
    | none =>
      .tail (.enq n (if l then clampNat 1 (max 1 (s.chain th).data.length) (b % 65536) else 0) (bits b 41 32) (bits b 55 48) c)))

/-- R257. FWD. -/
def execWFwd (p t : Nat) (ga gb : BitVec 4) (c : Bool) (s : State) : Host.Outcome State Fault Refusal :=
  .next (s.issue p t (.wFwd p t ga gb c) (fun s th =>
    let port := (th.reg ga).toNat
    let b := (th.reg gb).toNat
    match refTrap (s.refPort th.ctx port :: s.refNamed th.ctx port (bits b 41 32)) with
    | some code => .trap code
    | none => .tail (.fwd port b c)))

/-! ## Messages (R260) -/

/-- Messages of pump p in its queue. -/
def State.pumpMessages (s : State) (p : Nat) : Nat := (s.msgs.filter (fun m => m.pump == some p)).length

/-- R260. MSG: 0 in gd when the pump's queue of 64 takes it, else 1. -/
def execWMsg (p t : Nat) (gd ga gb : BitVec 4) (s : State) : Host.Outcome State Fault Refusal :=
  .next (s.issue p t (.wMsg p t gd ga gb) (fun s th =>
    let n := (th.reg ga).toNat
    match refTrap [s.refEntry th.ctx n] with
    | some code => .trap code
    | none =>
      if s.pumpMessages p < 64 then
        .eff (s.queueMsg ⟨s.hubTime, 0, 0, n, 0, s.origin, none, (th.reg gb).toNat, n, some p⟩) (th.setReg gd 0#64).next
      else .eff s.discardNote (th.setReg gd 1#64).next))

/-! ## Context atomics (R261, R262) -/

/-- A context atomic: SELF takes the dispatching context. -/
def atomicOp (i : Instr) (op : LOp) (p t : Nat) (gd ga gb : BitVec 4) (self : Bool) (w : BitVec 3) (s : State) : State :=
  s.issue p t i (fun s th =>
    let c := if self then th.ctx else (th.reg ga).toNat
    match (if self then none else refTrap [s.refCtx th.ctx c]) with
    | some code => .trap code
    | none => .long ⟨op, w.toNat, (th.reg gd).toNat, c, (th.reg gb).toNat, gd.toNat⟩)

/-- R261. CLD. -/
def execWCld (p t : Nat) (gd ga : BitVec 4) (self : Bool) (w : BitVec 3) (s : State) : Host.Outcome State Fault Refusal :=
  .next (atomicOp (.wCld p t gd ga self w) .cld p t gd ga 0#4 self w s)

/-- R261. CST. -/
def execWCst (p t : Nat) (gd ga gb : BitVec 4) (self : Bool) (w : BitVec 3) (s : State) : Host.Outcome State Fault Refusal :=
  .next (atomicOp (.wCst p t gd ga gb self w) .cst p t gd ga gb self w s)

/-- R261. CADD. -/
def execWCadd (p t : Nat) (gd ga gb : BitVec 4) (self : Bool) (w : BitVec 3) (s : State) : Host.Outcome State Fault Refusal :=
  .next (atomicOp (.wCadd p t gd ga gb self w) .cadd p t gd ga gb self w s)

/-- R261. CAND. -/
def execWCand (p t : Nat) (gd ga gb : BitVec 4) (self : Bool) (w : BitVec 3) (s : State) : Host.Outcome State Fault Refusal :=
  .next (atomicOp (.wCand p t gd ga gb self w) .cand p t gd ga gb self w s)

/-- R261. COR. -/
def execWCor (p t : Nat) (gd ga gb : BitVec 4) (self : Bool) (w : BitVec 3) (s : State) : Host.Outcome State Fault Refusal :=
  .next (atomicOp (.wCor p t gd ga gb self w) .cor p t gd ga gb self w s)

/-- R261. CXCH. -/
def execWCxch (p t : Nat) (gd ga gb : BitVec 4) (self : Bool) (w : BitVec 3) (s : State) : Host.Outcome State Fault Refusal :=
  .next (atomicOp (.wCxch p t gd ga gb self w) .cxch p t gd ga gb self w s)

/-- R261. CCAS: Z tells whether the swap took place. -/
def execWCcas (p t : Nat) (gd ga gb : BitVec 4) (self : Bool) (w : BitVec 3) (s : State) : Host.Outcome State Fault Refusal :=
  .next (atomicOp (.wCcas p t gd ga gb self w) .ccas p t gd ga gb self w s)

/-! ## Timers (R263, R264) -/

/-- Arming timer k of context c. -/
def State.armTimer (s : State) (c k time arg : Nat) : State :=
  { s with pumps := { s.pumps with timers := assocPut (c * 4 + k) ⟨time, arg⟩ s.pumps.timers } }

/-- R263, R266. TSET: the delay clamps to 1,000 to 1,000,000,000 ns. -/
def execWTset (p t : Nat) (ga gb : BitVec 4) (k : BitVec 2) (s : State) : Host.Outcome State Fault Refusal :=
  .next (s.issue p t (.wTset p t ga gb k) (fun s th =>
    .eff (s.armTimer th.ctx k.toNat (s.hubTime + clampNat 1000 1000000000 (th.reg ga).toNat)
      ((th.reg gb).toNat % 2 ^ 32)) th.next))

/-- R263, R266. TSETA: the time clamps to tim to tim + 1,000,000,000 ns. -/
def execWTseta (p t : Nat) (ga gb : BitVec 4) (k : BitVec 2) (s : State) : Host.Outcome State Fault Refusal :=
  .next (s.issue p t (.wTseta p t ga gb k) (fun s th =>
    .eff (s.armTimer th.ctx k.toNat (clampNat s.hubTime (s.hubTime + 1000000000) (th.reg ga).toNat)
      ((th.reg gb).toNat % 2 ^ 32)) th.next))

/-- R263. TCLR: 1 in gd if the timer was armed. -/
def execWTclr (p t : Nat) (gd : BitVec 4) (k : BitVec 2) (s : State) : Host.Outcome State Fault Refusal :=
  .next (s.issue p t (.wTclr p t gd k) (fun s th =>
    let n := th.ctx * 4 + k.toNat
    let armed := (assocFind s.pumps.timers n).isSome
    .eff { s with pumps := { s.pumps with timers := assocDel n s.pumps.timers } }
      (th.setReg gd (if armed then 1#64 else 0#64)).next))

/-! ## Thread control (R265) -/

/-- R265. YLD. (DEDUCED, log 23) -/
def execWYld (p t : Nat) (ga : BitVec 4) (cond : BitVec 2) (s : State) : Host.Outcome State Fault Refusal :=
  .next (s.issue p t (.wYld p t ga cond) (fun s th =>
    let v := (th.reg ga).toNat
    match cond.toNat with
    | 0 =>
      let m := s.readyOthers p t
      .upd { th.next with st := if m = 0 then .ready else .park, park := 0, parkSet := m }
    | 1 =>
      let time := clampNat s.hubTime (s.hubTime + 1000000) v
      .upd { th.next with st := if time ≤ s.hubTime then .ready else .park, park := 1, parkTime := time }
    | 2 => .upd { th.next with st := if s.landedEnough th v then .ready else .park, park := 2, parkTime := v }
    | _ => .trap 1))

/-- R265. END. -/
def execWEnd (p t : Nat) (s : State) : Host.Outcome State Fault Refusal := .next (s.issue p t (.wEnd p t) (fun _ _ => .tail .endOp))

/-- R265. DROP. -/
def execWDrop (p t : Nat) (s : State) : Host.Outcome State Fault Refusal := .next (s.issue p t (.wDrop p t) (fun _ _ => .tail .drop))

/-- R265. TRAP raises USER. -/
def execWTrap (p t : Nat) (s : State) : Host.Outcome State Fault Refusal := .next (s.issue p t (.wTrap p t) (fun _ _ => .trap 7))

/-- R265. Hub time reaches the time named by YLD with condition 0b01. -/
def execParkTimeReached (p t : Nat) (s : State) : Host.Outcome State Fault Refusal :=
  .next (let th := s.thread p t
    if s.running && th.st == .park && th.park == 1 && decide (th.parkTime ≤ s.hubTime) then
      s.setThread p t { th with st := .ready }
    else s)

/-! ## Dispatch and timers -/

/-- R201. An idle thread takes the chain that is its turn. -/
def execChainDispatch (p t : Nat) (s : State) : Host.Outcome State Fault Refusal :=
  .next (if s.running && !s.power.dryEntry && decide (p < s.nPumps ∧ t < 32) && (s.thread p t).st == .idle then
      match s.nextChain p t with
      | some e => (s.dispatch p t e).settle
      | none => s
    else s)

/-- Timer k of context c expires: a timer chain is pending on the context (R264). -/
def State.timerFires (s : State) (key : Nat) (arg : Nat) : State :=
  let s := { s with pumps := { s.pumps with timers := assocDel key s.pumps.timers } }
  let (id, s) := s.newFrame { stamp := s.hubTime, timer := true, arg := arg }
  s.congestion.pendChain id (key / 4)

/-- Every armed timer whose time has come expires (R402). -/
def State.expireTimers (s : State) : State :=
  ((s.pumps.timers.filter (fun e => decide (e.2.time ≤ s.hubTime))).foldl (fun s e => s.timerFires e.1 e.2.arg) s).settle

/-- R264. An armed timer whose time has come makes a timer chain pending on its context. -/
def execContextTimerExpiry (c k : Nat) (s : State) : Host.Outcome State Fault Refusal :=
  .next (match assocFind s.pumps.timers (c * 4 + k) with
    | some tm =>
      if s.running && decide (k < 4 ∧ tm.time ≤ s.hubTime) then (s.timerFires (c * 4 + k) tm.arg).settle else s
    | none => s)

end Sys2Proof.Machine
end

