-- ==== Sys2Proof/Machine/EthRows.lean ====
section
/-! DEFINITION. The Ethernet ports and the root ports: reception, flow control, links, MDIO, hub time steps, device requests and configuration accesses (R390 to R411). -/
namespace Sys2Proof.Machine

/-- Ethernet port n exists and its unit works. -/
def State.ethOn (s : State) (n : Nat) : Bool := s.running && decide (n < 8) && !s.heldPort (n + 4)

/-! ## PAUSE and PFC (R403, R404) -/

/-- A received PAUSE or PFC frame: counted, and where HONOUR is 1 its holds replace the time that remains, from the end of the
frame in transmission. (DESIGN CHOICE, log 123) -/
def State.pauseReceived (s : State) (n : Nat) (pfc : Bool) (vector : Nat) (quanta : List Nat) : State :=
  let s := s.bump (ETH_CNT_COUNT n 5)
  if !s.is (ETH_FC_CFG_HONOUR n) then s
  else
    let e := s.ethPort n
    let s := (s.accruePort (n + 4)).setEth n { e with waits := e.waits ++ [(pfc, vector, quanta)] }
    if (assocFind s.cis.tx (n + 4)).isSome then s else s.startHolds n

/-- R404. PAUSE_FRAME_RECEIVE. -/
def execPauseFrameReceive (n : Nat) (pfc : Bool) (vector : Nat) (quanta : List Nat) (s : State) :
    Host.Outcome State Fault Refusal :=
  .next (if s.ethOn n && s.is (ETH_STAT_LINK n) then s.pauseReceived n pfc vector quanta else s)

/-- R404. PAUSE_HOLD_EXPIRY: holds whose time has passed end. -/
def execPauseHoldExpiry (n : Nat) (s : State) : Host.Outcome State Fault Refusal :=
  .next (if s.ethOn n then s.showHolds n else s)

/-- R403. FLOW_CONTROL_REPEAT: the frame of a condition that persists goes out again. -/
def execFlowControlRepeat (n : Nat) (s : State) : Host.Outcome State Fault Refusal :=
  .next (if s.ethOn n && s.is (ETH_STAT_LINK n) then
    let q := s.get (ETH_FC_CFG_QUANTA n)
    let x := s.get (ETH_STAT_TX_XOFF n)
    let s := if x ≠ 0 then s.sendPause n x q else s
    if (s.ethPort n).paused then s.sendPause n 0x100 q else s
  else s)

/-! ## Reception (R392, R399, R404) -/

/-- The frame is addressed to the reserved MAC control address and carries a MAC control opcode. -/
def macControl (d : Bytes) : Option Nat :=
  if beAt d 0 6 = 0x0180C2000001 ∧ beAt d 12 2 = 0x8808 then some (beAt d 14 2) else none

/-- R392. ETH_FRAME_RECEIVE: `data` is the frame without its FCS. -/
def execEthFrameReceive (n : Nat) (data : Bytes) (fcsOk : Bool) (s : State) : Host.Outcome State Fault Refusal :=
  .next (if s.ethOn n && s.is (ETH_STAT_LINK n) then
    let len := data.length + 4
    if !fcsOk then s.bump (ETH_CNT_COUNT n 1)
    else if len < 64 ∨ s.get (ETH_CFG_MAXLEN n) < len then s.bump (ETH_CNT_COUNT n 2)
    else
      match macControl data with
      | some 0x0001 => s.pauseReceived n false 0 [beAt data 16 2]
      | some 0x0101 => s.pauseReceived n true (beAt data 16 2 % 256) ((List.range 8).map (fun t => beAt data (18 + 2 * t) 2))
      | _ =>
        s.ingress (n + 4) (s.hubTime - s.get (ETH_TS_LAT_RX n)) data (s.classify (n + 4) data)
  else s)

/-! ## Links, PHYs and MDIO (R390, R391, R393, R400) -/

/-- The speed of a port whose PHY reports a link at a speed code: none for a rate that is not supported. -/
def State.linkSpeed (s : State) (n speed : Nat) : Option Nat :=
  if s.is (ETH_CFG_IF n) then some 4
  else
    let v := if s.get (ETH_CFG_FORCE n) = 0 then speed else s.get (ETH_CFG_FORCE n)
    if 1 ≤ v ∧ v ≤ 4 then some v else none

/-- The link of port n goes down. -/
def State.ethDown (s : State) (n : Nat) : State :=
  if s.is (ETH_STAT_LINK n) then
    let s := (s.put (ETH_STAT_LINK n) 0).put (ETH_STAT_SPEED n) 0
    let s := s.accruePort (n + 4)
    let s := (s.setEth n { s.ethPort n with pauseTo := 0, pfcTo := [], waits := [] }).showHolds n
    (((s.raise 0x0D02 n).flushDirect (n + 4)).detect 0x39 n).settle
  else s

/-- R391. ETH_LINK_CHANGE. -/
def execEthLinkChange (n : Nat) (up : Bool) (speed : Nat) (s : State) : Host.Outcome State Fault Refusal :=
  .next (if s.ethOn n then
    match (if up && s.is (ETH_CFG_EN n) then s.linkSpeed n speed else none) with
    | none => s.ethDown n
    | some v =>
      let was := s.is (ETH_STAT_LINK n)
      let s := (s.put (ETH_STAT_LINK n) 1).put (ETH_STAT_SPEED n) v
      if was then s else (s.raise 0x0D01 n).settle
  else s)

/-- R391, R542. ETH_PHY_INTERRUPT: the unit of a masked input sees it inactive. -/
def execEthPhyInterrupt (n : Nat) (s : State) : Host.Outcome State Fault Refusal :=
  .next (if s.ethOn n && !s.inputMasked n then s.raise 0x0D06 n else s)

/-- R393. A write of ETH_MDIO_CMD: GO starts a transaction, and is ignored while BUSY is 1. The command that runs stands in the
latch store. -/
def State.mdioCmd (s : State) (v : Nat) : State :=
  let busy := s.is ETH_MDIO_CMD_BUSY
  let s := ((s.put ETH_MDIO_CMD_CL45 (bits v 29 29)).put ETH_MDIO_CMD_READ (bits v 28 28)).put ETH_MDIO_CMD_PHYAD (bits v 25 21)
  let s := (s.put ETH_MDIO_CMD_DEV (bits v 20 16)).put ETH_MDIO_CMD_REG (bits v 15 0)
  if bit v 31 && !busy then
    ({ s.put ETH_MDIO_CMD_BUSY 1 with latch := assocPut ETH_MDIO_CMD_GO.addr (v % 2 ^ 30) s.latch }).emit
      (.mdio (v % 2 ^ 30) (s.get ETH_MDIO_DATA_DATA))
  else s

/-- R393. MDIO_DONE. -/
def execMdioDone (data : Nat) (s : State) : Host.Outcome State Fault Refusal :=
  .next (if s.running && s.is ETH_MDIO_CMD_BUSY then
    let read := bit ((assocFind s.latch ETH_MDIO_CMD_GO.addr).getD 0) 28
    let s := { s with latch := assocDel ETH_MDIO_CMD_GO.addr s.latch }
    (if read then s.put ETH_MDIO_DATA_DATA data else s).put ETH_MDIO_CMD_BUSY 0
  else s)

/-- R400. A write of ETH_TXTS_ID: POP removes the head capture. -/
def State.txtsId (s : State) (n v : Nat) : State :=
  if bit v 30 then
    let e := s.ethPort n
    (s.setEth n { e with caps := e.caps.drop 1 }).showCaps n
  else s

/-! ## Hub time (R401, R402) -/

/-- Hub time moves from before to the present value: received holds keep the time that remains to them. -/
def State.shiftHolds (s : State) (before : Nat) : State :=
  let shift := fun (t : Nat) => if before < t then t + s.hubTime - before else 0
  let move := fun (x : Eth) => { x with pauseTo := shift x.pauseTo, pfcTo := x.pfcTo.map (fun h => (h.1, shift h.2)) }
  { s with eth := s.eth.map (fun (e : Nat × Eth) => (e.1, move e.2)) }

/-- R402. HUB_TIME_STEP: hub time takes the servo's value; `offset` is the offset measured. While the hub is islanded hub time
runs free (R45, R397), and while the servo holds it does not step (R398). Timers armed by hub time expire at once where the step
passes them. (DEDUCED, log 160) -/
def execHubTimeStep (newTime : Nat) (offset : Int) (s : State) : Host.Outcome State Fault Refusal :=
  .next (if s.running && s.is ETH_PTP_CFG_EN && !s.islanded && s.ptp.hold == 0 then
    let s := s.wellNos.foldl State.accrue s
    let before := s.hubTime
    let s := ({ s with hubTime := newTime, trunk := { s.trunk with calWait := false } }).bump ETH_PTP_STAT_STEPS
    let s := (s.shiftParts before).shiftHolds before
    let s := s.put ETH_PTP_STAT_OFFSET (unsigned 16 (clampInt (-32767) 32767 offset))
    let s := s.raise 0x0D03 0
    let s := (List.range 8).foldl State.gateStep s
    (if s.trunkUp then s.startSlew else s).expireTimers
  else s)

/-! ## Root ports (R405 to R410) -/

/-- Root port m exists and its unit works. -/
def State.rootPort (s : State) (m : Nat) : Bool := s.running && !s.dock && decide (m < 2) && !s.heldPort (28 + m)

/-- The base of an inbound window: bits below its size read 0. -/
def State.iwinBase (s : State) (m w : Nat) : Nat :=
  let z := 2 ^ s.get (PCI_RP_IWIN_CFG_SIZE m w)
  (s.get (PCI_RP_IWIN_LO_BASE m w) + 2 ^ 32 * s.get (PCI_RP_IWIN_HI_BASE m w)) / z * z

/-- The inbound window that holds a whole range. (DESIGN CHOICE, log 52) -/
def State.iwin (s : State) (m addr len : Nat) : Option Nat :=
  (List.range 4).find? (fun w =>
    s.is (PCI_RP_IWIN_CFG_EN m w) &&
      decide (s.iwinBase m w ≤ addr ∧ addr + len ≤ s.iwinBase m w + 2 ^ s.get (PCI_RP_IWIN_CFG_SIZE m w)))

/-- A device request that no window takes. -/
def State.refuseDevice (s : State) (m : Nat) (write : Bool) : State :=
  (if write then s else s.emit (.cpl (16 + m) 0 1 [])).raiseEvery 1000000 0x0E05 m 0

/-- A poisoned write of the device on root port m is discarded whole, and this hub's bridge, which accepted it, records it (R285). -/
def State.poisonedDevice (s : State) (m sl addr : Nat) : State :=
  let (t, s) := s.writeTag (256 + m)
  s.lostWrite 2 ⟨0, 0, sl, s.sliceGen sl, t, addr, s.origin⟩

/-- R408 to R410. DEVICE_REQUEST: the data credits of a write are not there while the port is back-pressured (R166). -/
def execDeviceRequest (m : Nat) (write : Bool) (addr len : Nat) (data : WriteData) (s : State) :
    Host.Outcome State Fault Refusal :=
  .next (if s.rootPort m && s.is (PCI_RP_STAT_LINK m) && !(write && s.backPressured (28 + m)) then
    let len := if write then data.bytes.length else len
    let region := s.get (PCI_RP_MSI_LO_BASE m) + 2 ^ 32 * s.get (PCI_RP_MSI_HI_BASE m)
    if write && addr / 4096 == region / 4096 then
      if data.poisoned then s.poisonedDevice m 0 addr else s.raise 0x0E03 (m * 2048 + leAt data.bytes 0 2 % 2048)
    else
      match s.iwin m addr len with
      | none => s.refuseDevice m write
      | some w =>
        let sl := s.get (PCI_RP_IWIN_CFG_SLICE m w)
        if s.is (PCI_RP_IWIN_CFG_TARGET m w) then
          if write && data.poisoned then s.poisonedDevice m sl addr
          else if write then
            let c := s.get (PCI_RP_IWIN_CFG_CTX m w)
            s.landFrame (28 + m) s.hubTime (beBytes 8 addr ++ data.bytes) (some (c, 0xFF))
          else s.emit (.cpl (16 + m) 0 1 [])
        else if s.islanded then
          (if write then s else s.emit (.cpl (16 + m) 0 1 [])).bump (PCI_RP_STAT_ISL_DROP m)
        else if write then s.writeUp (16 + m) sl addr data.bytes data.poisoned
        else s.issueUp ⟨none, 16 + m, sl, s.sliceGen sl, false, 0, 1, addr, len, []⟩
  else s)

/-- R409. ROOT_PORT_ERROR_MESSAGE. -/
def execRootPortErrorMessage (m : Nat) (s : State) : Host.Outcome State Fault Refusal :=
  .next (if s.rootPort m then ((s.bump (PCI_RP_STAT_ERRS m)).raise 0x0E04 m).detect 0x3A m else s)

/-- A configuration access has its answer: it completes its tag, or goes to the unit that asked. -/
def State.answerConfig (s : State) (m : Nat) (a : CfgAcc) (v : Nat) : State :=
  let data := if a.write then [] else leBytes 4 v
  match a.tag with
  | some t => s.completeDn t (((assocFind s.brg.dn t).map (·.req.gen)).getD 0) .ok data
  | none => s.emit (.cpl (16 + m) 0 0 data)

/-- The oldest configuration access of root port m is put to the device. -/
def State.putConfig (s : State) (m : Nat) : State :=
  match assocFind s.cfgs m with
  | some a => s.emit (.config m a.fn a.off a.write a.v)
  | none => s

/-- The configuration access under way on root port m ends with a value, and the next one starts. -/
def State.endConfig (s : State) (m : Nat) (a : CfgAcc) (v : Nat) : State :=
  (({ s with cfgs := s.cfgs.erase (m, a) }).answerConfig m a v).putConfig m

/-- The link of root port m goes down: the configuration accesses under way find no link. -/
def State.rootDown (s : State) (m : Nat) : State :=
  if s.is (PCI_RP_STAT_LINK m) then
    let s := ((s.put (PCI_RP_STAT_LINK m) 0).put (PCI_RP_STAT_GEN m) 0).put (PCI_RP_STAT_WIDTH m) 0
    let l := s.cfgs.filter (fun e => e.1 == m)
    let s := { s with cfgs := s.cfgs.filter (fun e => e.1 != m) }
    let s := l.foldl (fun s e => s.answerConfig m e.2 0xFFFFFFFF) s
    ((s.raise 0x0E02 m).detect 0x3B m).settle
  else s

/-- A configuration access to a function of the device on root port m (R406): one at a time on a port, in order. (DESIGN CHOICE,
log 51) -/
def State.configStart (s : State) (m : Nat) (a : CfgAcc) : State :=
  if s.rootPort m && s.is (PCI_RP_STAT_LINK m) then
    let first := (assocFind s.cfgs m).isNone
    let s := { s with cfgs := s.cfgs ++ [(m, a)] }
    if first then s.putConfig m else s
  else s.answerConfig m a 0xFFFFFFFF

end Sys2Proof.Machine
end

