-- ==== Sys2Proof/Machine/VaultOps.lean ====
section
/-! DEFINITION. The vault's own work: debug and the test root, lifecycle changes, tamper, and the lifecycle and key commands (R453 to R480). -/
namespace Sys2Proof.Machine

/-! ## Debug, the test root and JTAG (R469 to R471, R478) -/

/-- The access level of the JTAG port (R471, R478): 0 off, 1 boundary scan only, 2 full. -/
def State.jtagLevel (s : State) : Nat :=
  let lc := s.get SEC_STAT_LC
  if lc = 0 ∨ lc = 4 then (if s.is SEC_STAT_DEBUG then 2 else 1) else if lc = 3 then 2 else 0

/-- SEC_STAT.JTAG. -/
def State.showJtag (s : State) : State := s.put SEC_STAT_JTAG s.jtagLevel

/-- TEST_ROOT clears, and every TEST slot is zeroed with it (R470). -/
def State.clearTestRoot (s : State) : State :=
  if s.is SEC_STAT_TEST_ROOT then (s.zeroSlots (fun s k => s.slotTest k)).put SEC_STAT_TEST_ROOT 0 else s

/-- Debug opens or closes, with its event (R469, R470). The wipe is the caller's. -/
def State.setDebug (s : State) (opened : Bool) : State :=
  if opened then
    if s.is SEC_STAT_DEBUG then s else ((s.put SEC_STAT_DEBUG 1).put SEC_STAT_TEST_ROOT 1).raise 0x1103 0
  else if s.is SEC_STAT_DEBUG then (s.put SEC_STAT_DEBUG 0).raise 0x1104 0
  else s

/-- The core rail is up (R458, R499). -/
def State.coreUp (s : State) : Bool := s.power.phase != .held && s.power.phase != .dry && s.power.phase != .powerFail

/-- Injection bits act in this lifecycle state (R478, R480). -/
def State.injectable (s : State) : Bool :=
  s.get SEC_STAT_LC == 0 || s.get SEC_STAT_LC == 1 || s.get SEC_STAT_LC == 3 || s.get SEC_STAT_LC == 4

/-- Tamper injection acts in this lifecycle state (R478, R480). -/
def State.tamperInjectable (s : State) : Bool := s.get SEC_STAT_LC == 0 || s.get SEC_STAT_LC == 4

/-! ## The reset-safe state of R539 -/

/-- BIST ends with the given result, and the hub holds in the reset-safe state until a release of PORST_N (R460, R539). -/
def State.holdSafe (s : State) (result : Nat) : State :=
  let s := { s with bist := {}, power := { s.power with phase := .bistFail, faultLow := true, epLink := false } }
  let s := (s.put FLT_BIST_RES_RESULT result).put TRK_OE_EN 0
  (List.range s.nSpouts).foldl State.sptDisable s

/-! ## SEAL and OPEN that an engine has taken (R254, R466, R474) -/

/-- The operations taken on the slots that the test picks complete. -/
def State.drainOps (s : State) (pick : Nat → Bool) : State :=
  s.takenOps.foldl
    (fun s k =>
      let th := s.thread (k / 32) (k % 32)
      match th.waiting with
      | some (.long o) =>
        if (th.sealSlot.elim false pick) && s.longReady th o then s.longDone (k / 32) (k % 32) o else s
      | _ => s) s

/-! ## The root (R454) -/

/-- The root is lost. -/
def State.zeroRoot (s : State) : State :=
  { s with vault := { s.vault with root := 0 } }.put SEC_STAT_ROOT_VALID 0

/-- The executing bucket command, if its effect is still to come. -/
def State.executing (s : State) : Option BktCmd :=
  match s.bkt.stage with
  | .atEnd => s.bkt.queue.head?
  | _ => none

/-- The root is in use: a derivation from it is under way (R457). -/
def State.rootInUse (s : State) : Bool := s.executing.elim false (fun c => c.op == 0x1112 && c.byte 4 == 0xFF)

/-! ## Tamper (R457 to R460) -/

/-- The detector of a tamper source and its instance (R533). -/
def tamperDetector : TamperSrc → Nat × Nat
  | .mesh k => (0x3E, k)
  | .encl => (0x3F, 0)
  | .supply => (0x40, 0)
  | .temp => (0x41, 0)
  | .refclk => (0x42, 0)

/-- The detector of a source may assert (R457). -/
def State.tamperArmed (s : State) : TamperSrc → Bool
  | .mesh k => decide (k < 4) && bit (s.get SEC_TMP_CFG_MESH_EN) k
  | .encl => s.is SEC_TMP_CFG_ENCL_EN
  | .supply => true
  | .temp => true
  | .refclk => s.rootInUse

/-- SEC_TMP_STAT shows the source. -/
def State.tamperShow (s : State) : TamperSrc → State
  | .mesh k => s.put SEC_TMP_STAT_MESH (setBit (s.get SEC_TMP_STAT_MESH) (k % 4) true)
  | .encl => s.put SEC_TMP_STAT_ENCL 1
  | .supply => s.put SEC_TMP_STAT_SUPPLY 1
  | .temp => s.put SEC_TMP_STAT_TEMP 1
  | .refclk => s.put SEC_TMP_STAT_REFCLK 1

/-- The executing command is a key command or a lifecycle change that a tamper abandons (R460). -/
def State.tamperMeets (s : State) : Bool :=
  s.executing.elim false (fun c => decide (0x1112 ≤ c.op ∧ c.op ≤ 0x1114) || s.vault.change.isSome)

/-- A tamper detector asserts (R458, R460): the zeroing, the record of it, the wipe and event 0x1101, a running BIST, and last the
fault ladder (R48). -/
def State.tamper (s : State) (src : TamperSrc) (inj : Bool) : State :=
  let s := s.zeroRoot.zeroSlots (fun _ _ => true)
  let s := ((s.tamperShow src).bump SEC_TMP_STAT_COUNT).put SEC_TMP_TIME_SECONDS (s.get SEC_VTIME_SECONDS)
  if !s.coreUp then { s with power := { s.power with atStep6 := s.power.atStep6 ++ [(0x1101, 0)] } }
  else
    let s := if s.tamperMeets then { s with bkt := { s.bkt with tampered := true } } else s
    let s := s.wipeSecure.raise 0x1101 0
    let s := if s.bist.running then s.holdSafe 4 else s
    s.detectI (tamperDetector src).1 (tamperDetector src).2 0 inj

/-! ## Lifecycle changes (R472 to R475) -/

/-- The changes of R473, and whether each requires a token. -/
def lcChange : Nat → Nat → Option Bool
  | 0, 1 => some false
  | 1, 2 => some false
  | 2, 3 => some true
  | 3, 2 => some false
  | 1, 4 => some true
  | 2, 4 => some true
  | 3, 4 => some true
  | 0, 5 => some false
  | 4, 5 => some false
  | 1, 5 => some true
  | 2, 5 => some true
  | 3, 5 => some true
  | _, _ => none

/-- Steps 2 and 3 of R474: no SEAL or OPEN is taken on a slot that the change zeroes or makes unusable, the secure tank is wiped and
the zeroing of R473 done. -/
def State.startChange (s : State) (lc2 : Nat) : State :=
  let lc := s.get SEC_STAT_LC
  let s := { s with vault := { s.vault with change := some lc2, nonce := none, parts := [] }, bkt := { s.bkt with tampered := false } }
  let s := s.wipeSecure
  if 4 ≤ lc2 then
    let s := s.drainOps (fun _ => true)
    s.zeroRoot.zeroSlots (fun _ _ => true)
  else if (lc = 0 ∧ lc2 = 1) ∨ (lc = 3 ∧ lc2 = 2) then
    let s := s.drainOps (fun k => s.slotTest k)
    s.zeroSlots (fun s k => s.slotTest k)
  else if lc2 = 3 then
    let s := s.drainOps (fun k => !s.slotTest k)
    s.keyLost (fun k => !s.slotTest k)
  else s

/-- Step 4 of R474: the fuses of the new state, and Field-Debug in vault logic (R472). -/
def State.burn (s : State) (lc2 : Nat) : State :=
  let f := s.fuses
  let f := match lc2 with
    | 1 => { f with provisioned := 3 }
    | 2 => if s.vault.fieldDebug then f else { f with field := 3 }
    | 4 => { f with ret := 3 }
    | 5 => { f with scrapped := 3 }
    | _ => f
  { s with fuses := f, vault := { s.vault with fieldDebug := lc2 == 3 } }

/-- The end of a change (R474 steps 4 and 5, R460): it waits for the wipe of step 3. (DEDUCED, log 91; DEDUCED, log 92) -/
def State.endChange (s : State) (lc2 : Nat) : BktStage × State :=
  if s.vault.wiping then (.atEnd, s)
  else if s.bkt.tampered then (.ready 5 [], { s with vault := { s.vault with change := none } })
  else
    let lc := s.get SEC_STAT_LC
    let s := { s with vault := { s.vault with change := none } }
    let s := ((s.burn lc2).put SEC_STAT_LC lc2).raise 0x1102 lc2
    let s := if lc = 0 ∧ lc2 = 1 then s.clearTestRoot else s
    (.ready 0 [], (s.setDebug (lc2 == 3 || lc2 == 4)).showJtag)

/-- The staged token, whole (R475). (DESIGN CHOICE, log 90) -/
def State.token (s : State) : Option Bytes :=
  (List.range 5).foldl
    (fun t i => match t, assocFind s.vault.parts i with
      | some b, some p => some (b ++ p)
      | _, _ => none) (some [])

/-- The device identifier, as SEC_DEVID0 to 3 show it. -/
def State.devid (s : State) : Bytes := leBytes 16 s.fuses.devid

/-- The token fits the owner's key, this hub, the nonce and the target (R475). -/
def State.tokenGood (s : State) (t : Bytes) (lc2 : Nat) : Bool :=
  some (sha384 (slice t 48 96)) == s.fuses.ownerHash && slice t 0 16 == s.devid && some (slice t 16 16) == s.vault.nonce &&
    leAt t 32 1 == lc2 && ecdsaVerify (beAt t 48 48) (beAt t 96 48) (slice t 0 48) (beAt t 144 48) (beAt t 192 48)

/-! ## The lifecycle commands (R476) -/

/-- The word of SEC_STAT. -/
def State.secStat (s : State) : Nat :=
  s.get SEC_STAT_LC * 2 ^ 28 + s.get SEC_STAT_DEBUG * 2 ^ 27 + s.get SEC_STAT_ROOT_VALID * 2 ^ 26 +
    s.get SEC_STAT_TEST_ROOT * 2 ^ 25 + s.get SEC_STAT_JTAG * 2 ^ 23 + s.get SEC_STAT_OWNER_SET * 2 ^ 22 +
    s.get SEC_STAT_TRNG_FAIL * 2 ^ 21 + s.get SEC_STAT_PASSES

/-- R476. SEC_INFO. -/
def cmdSecInfo (c : BktCmd) (s : State) : BktStage × State :=
  bktRun (s.bktCheck c false false false false false) s (fun s => answerOk (leBytes 4 s.secStat ++ s.devid) s)

/-- R476. SEC_OWNER_SET. -/
def cmdSecOwnerSet (c : BktCmd) (s : State) : BktStage × State :=
  bktRun (s.bktCheck c false false (c.ch != 0) (s.get SEC_STAT_LC != 0 || s.fuses.ownerHash.isSome) false) s (fun s =>
    answerOk [] ({ s with fuses := { s.fuses with ownerHash := some (c.bytes 8 48) } }.put SEC_STAT_OWNER_SET 1))

/-- R454, R456. SEC_ROOT_GEN: the root is a free value, the TRNG's. -/
def cmdSecRootGen (c : BktCmd) (s : State) : BktStage × State :=
  let state := !s.tamperInjectable || s.is SEC_STAT_ROOT_VALID
  bktRun (s.bktCheck c false false (c.ch != 0) state false) s (fun s =>
    if s.vault.trngBad then answer 6 s
    else
      let (n, s) := s.draw
      answerOk [] ({ s with vault := { s.vault with root := Config.freeNat n % 2 ^ 256 } }.put SEC_STAT_ROOT_VALID 1))

/-- R475. SEC_LC_CHALLENGE: the nonce is a free value, the TRNG's. (DESIGN CHOICE, log 95) -/
def cmdSecLcChallenge (c : BktCmd) (s : State) : BktStage × State :=
  bktRun (s.bktCheck c false false (c.ch != 0) false false) s (fun s =>
    if s.vault.trngBad then answer 6 s
    else
      let (n, s) := s.draw
      let x := leBytes 16 (Config.freeNat n)
      answerOk x { s with vault := { s.vault with nonce := some x, parts := [] } })

/-- R475. SEC_TOKEN_PUT. -/
def cmdSecTokenPut (c : BktCmd) (s : State) : BktStage × State :=
  bktRun (s.bktCheck c false (decide (4 < c.byte 4)) (c.ch != 0) false false) s (fun s =>
    answerOk [] { s with vault := { s.vault with parts := assocPut (c.byte 4) (c.bytes 8 48) s.vault.parts } })

/-- R473 to R475. SEC_LC_CHANGE: one that is refused leaves the challenge and the parts as they are. (DEDUCED, log 202) -/
def cmdSecLcChange (c : BktCmd) (s : State) : BktStage × State :=
  let lc := s.get SEC_STAT_LC
  let lc2 := c.byte 4
  let needs := lcChange lc lc2 == some true
  let bad := decide (5 < lc2) || (needs && s.token.isNone)
  let denied := c.ch != 0 || (needs && !(s.token.elim false (fun t => s.tokenGood t lc2)))
  let state := (lcChange lc lc2).isNone || (lc == 0 && lc2 == 1 && !(s.is SEC_STAT_ROOT_VALID && s.fuses.ownerHash.isSome))
  bktRun (s.bktCheck c false bad denied state false) s (fun s => (.atEnd, s.startChange lc2))

/-- R473. SEC_DEBUG_CLOSE. (DESIGN CHOICE, log 94) -/
def cmdSecDebugClose (c : BktCmd) (s : State) : BktStage × State :=
  let lc := s.get SEC_STAT_LC
  bktRun (s.bktCheck c false false (c.ch != 0) (!s.is SEC_STAT_DEBUG || (lc != 0 && lc != 3 && lc != 4)) false) s (fun s =>
    if lc = 3 then (.atEnd, s.startChange 2)
    else
      let s := (s.wipeSecure).setDebug false
      let s := s.drainOps (fun k => s.slotTest k)
      answerOk [] s.clearTestRoot.showJtag)

/-! ## The key commands (R461 to R468) -/

/-- Key commands are held off: detector 0x13 is contained (R527). -/
def State.keysHeld (s : State) : Bool := s.ladder.contained.any (fun e => e.1 == 0x13)

/-- The channel may act on slot k (R466). (DEDUCED, log 89) -/
def State.ownSlot (s : State) (c : BktCmd) (k : Nat) : Bool := c.ch == 0 || s.slotOwner k == c.ch

/-- The channel is that of a locked slot's owner (R465). -/
def State.ownLocked (s : State) (c : BktCmd) (k : Nat) : Bool := s.slotLock k && s.slotOwner k == c.ch

/-- R466. SEC_KEY_ASSIGN. -/
def cmdKeyAssign (c : BktCmd) (s : State) : BktStage × State :=
  let k := c.byte 4
  let bad := decide (127 < k) || decide (63 < c.byte 5)
  bktRun (s.bktCheck c false bad (c.ch != 0) (s.slotValid k || !s.bound (c.byte 5)) s.keysHeld) s (fun s =>
    answerOk [] (s.put (SEC_SLOT_ATTR_ATTR k) (c.byte 5 * 2 ^ 16)))

/-- R466. SEC_KEY_LOAD. -/
def cmdKeyLoad (c : BktCmd) (s : State) : BktStage × State :=
  let k := c.byte 4
  let denied := !s.ownSlot c k || s.ownLocked c k
  bktRun (s.bktCheck c false (decide (127 < k)) denied (s.slotValid k) s.keysHeld) s (fun s =>
    answerOk [] (s.writeSlot k (c.le 8 4) (c.bytes 12 32)))

/-- The source key of a derivation, if there is one (R462, R463, R467, R470). -/
def State.deriveKey (s : State) (src : Nat) : Option Bytes :=
  if src = 0xFF then
    if s.is SEC_STAT_TEST_ROOT then some (beBytes 32 Config.testRoot)
    else if s.is SEC_STAT_ROOT_VALID then some (beBytes 32 s.vault.root)
    else none
  else if s.slotUsable src && s.slotUse src == 3 then some (s.slotKey src)
  else none

/-- The message that SEC_KEY_DERIVE authenticates (R467). -/
def deriveMsg (c : BktCmd) : Bytes :=
  [0#8, 0#8, 0#8, 1#8] ++ c.bytes 12 24 ++ [0#8] ++ c.bytes 36 16 ++ [0#8, 0#8, 1#8, 0#8]

/-- R466, R467. SEC_KEY_DERIVE: its checks; the key is written at its end. -/
def cmdKeyDerive (c : BktCmd) (s : State) : BktStage × State :=
  let src := c.byte 4
  let k := c.byte 5
  let bad := decide (127 < k) || (decide (127 < src) && src != 0xFF)
  let denied := (if src = 0xFF then c.ch != 0 else !s.ownSlot c src) || !s.ownSlot c k || s.ownLocked c k
  bktRun (s.bktCheck c false bad denied (s.slotValid k || (s.deriveKey src).isNone) s.keysHeld) s (fun s =>
    (.atEnd, { s with bkt := { s.bkt with tampered := false, keyGen := s.sliceGen (s.slotOwner k) } }))

/-- The key to wrap and the wrapping key are fit for SEC_KEY_WRAP and SEC_KEY_UNWRAP (R462, R463). -/
def State.wrapper (s : State) (k : Nat) : Bool := s.slotUsable k && s.slotUse k == 2

/-- R466, R468. SEC_KEY_WRAP: its checks. -/
def cmdKeyWrap (c : BktCmd) (s : State) : BktStage × State :=
  let k := c.byte 4
  let w := c.byte 5
  let bad := decide (127 < k) || decide (127 < w)
  let state := !(s.slotUsable k && s.slotExport k && s.wrapper w)
  bktRun (s.bktCheck c false bad (!s.ownSlot c k || !s.ownSlot c w) state s.keysHeld) s (fun s =>
    (.atEnd, { s with bkt := { s.bkt with tampered := false } }))

/-- R466, R468. SEC_KEY_UNWRAP: its checks. -/
def cmdKeyUnwrap (c : BktCmd) (s : State) : BktStage × State :=
  let k := c.byte 4
  let w := c.byte 5
  let bad := decide (127 < k) || decide (127 < w)
  let denied := !s.ownSlot c k || s.ownLocked c k || !s.ownSlot c w
  bktRun (s.bktCheck c false bad denied (s.slotValid k || !s.wrapper w) s.keysHeld) s (fun s =>
    (.atEnd, { s with bkt := { s.bkt with tampered := false } }))

/-- R465, R466. SEC_KEY_ZERO: the operations an engine has taken on the slot complete first. -/
def cmdKeyZero (c : BktCmd) (s : State) : BktStage × State :=
  let k := c.byte 4
  bktRun (s.bktCheck c false (decide (127 < k)) (!s.ownSlot c k || (c.ch != 0 && s.slotLock k)) false s.keysHeld) s (fun s =>
    answerOk [] ((s.drainOps (· == k)).zeroSlots (fun _ n => n == k)))

/-- R466. SEC_KEY_INFO. -/
def cmdKeyInfo (c : BktCmd) (s : State) : BktStage × State :=
  let k := c.byte 4
  bktRun (s.bktCheck c false (decide (127 < k)) (!s.ownSlot c k) false s.keysHeld) s (fun s =>
    answerOk (leBytes 4 (s.attr k) ++
      leBytes 4 (s.get (SEC_SLOT_FAIL_THR_HIT k) * 2 ^ 31 + s.get (SEC_SLOT_FAIL_COUNT k))) s)

/-- The end of SEC_KEY_DERIVE (R311, R460, R467). (DEDUCED, log 96) -/
def endKeyDerive (c : BktCmd) (s : State) : BktStage × State :=
  let k := c.byte 5
  if s.bkt.tampered then (.ready 5 [1#8], s)
  else match s.deriveKey (c.byte 4) with
    | some key =>
      if s.slotValid k ∨ s.sliceGen (s.slotOwner k) ≠ s.bkt.keyGen then answer 5 s
      else answerOk [] (s.writeSlot k (c.le 8 4) (hmacSha256 key (deriveMsg c)))
    | none => answer 5 s

/-- The end of SEC_KEY_WRAP (R460, R468). -/
def endKeyWrap (c : BktCmd) (s : State) : BktStage × State :=
  let k := c.byte 4
  let w := c.byte 5
  if s.bkt.tampered then (.ready 5 [1#8], s)
  else if s.slotUsable k && s.slotExport k && s.wrapper w then
    answerOk (kwWrap (s.slotKey w) (s.slotKey k ++ leBytes 4 (bits (s.attr k) 30 26 * 2 ^ 26) ++ zeros 4)) s
  else answer 5 s

/-- The end of SEC_KEY_UNWRAP (R460, R466, R468). -/
def endKeyUnwrap (c : BktCmd) (s : State) : BktStage × State :=
  let k := c.byte 4
  let w := c.byte 5
  if s.bkt.tampered then (.ready 5 [1#8], s)
  else if s.slotValid k || !s.wrapper w then answer 5 s
  else match kwUnwrap (s.slotKey w) (c.bytes 8 48) with
    | some p =>
      if slice p 36 4 == zeros 4 then answerOk [] (s.writeSlot k (leAt p 32 4) (slice p 0 32)) else answer 4 (s.slotFail w)
    | none => answer 4 (s.slotFail w)

/-! ## Rows of the vault -/

/-- R457, R458. TAMPER. (DEDUCED, log 101) -/
def execTamper (src : TamperSrc) (s : State) : Host.Outcome State Fault Refusal :=
  .next (if s.tamperArmed src then s.tamper src false else s)

/-- The sources that a write of SEC_TMP_INJ names, in the bit order of SEC_TMP_STAT. -/
def tamperSources (v : Nat) : List TamperSrc :=
  ([TamperSrc.mesh 0, .mesh 1, .mesh 2, .mesh 3, .encl, .supply, .temp, .refclk].zipIdx.filter (fun e => bit v e.2)).map (·.1)

/-- A write of SEC_TMP_INJ (R480, R482). (DEDUCED, log 98) -/
def State.tamperInj (s : State) (v : Nat) : State :=
  if s.tamperInjectable then (tamperSources v).foldl (fun s x => s.tamper x true) s else s

/-- R455. REMASK_PASS: no value changes; a pass is skipped while the TRNG fails (R456). -/
def execRemaskPass (s : State) : Host.Outcome State Fault Refusal :=
  .next (if s.vault.trngBad then s else s.remask.addWrap SEC_STAT_PASSES 1)

/-- The TRNG's health tests fail (R456). -/
def State.trngFail (s : State) : State :=
  let s := { s with vault := { s.vault with trngBad := true } }.put SEC_STAT_TRNG_FAIL 1
  if s.coreUp then (s.raise 0x1105 0).detect 0x43 0 else s

/-- R456. TRNG_HEALTH_FAIL. -/
def execTrngHealthFail (s : State) : Host.Outcome State Fault Refusal :=
  .next (if s.vault.trngBad then s else s.trngFail)

/-- R456. TRNG_HEALTH_RESTORED: TRNG_FAIL stays until it is cleared by a write. -/
def execTrngHealthRestored (s : State) : Host.Outcome State Fault Refusal :=
  .next { s with vault := { s.vault with trngBad := false } }

/-- R475. NONCE_EXPIRY. -/
def execNonceExpiry (s : State) : Host.Outcome State Fault Refusal :=
  .next { s with vault := { s.vault with nonce := none } }

/-- R495, R497. SECURE_WIPE_DONE. (DEDUCED, log 99) -/
def execSecureWipeDone (s : State) : Host.Outcome State Fault Refusal :=
  .next (if s.vault.wiping then
    { s with vault := { s.vault with wiping := false },
             tanks := { s.tanks with wipes := min (s.tanks.wipes + 1) 0xFFFFFFFF } }.raise 0x1404 0
  else s)

end Sys2Proof.Machine
end

