-- ==== Sys2Proof/Machine/StartUp.lean ====
section
/-! DEFINITION. Start-up, resets, the power states, the clocks and the dock endpoint's reset (R498 to R523). -/
namespace Sys2Proof.Machine

/-! ## Step 2 (R1, R472, R514, R519, R553) -/

/-- GLB_ID, GLB_CAP0 and GLB_CAP1, loaded from fuses (R553, R554). (DESIGN CHOICE, log 4) -/
def State.loadVariant (s : State) : State :=
  let (part, cap0, cap1) := match s.fuses.variant with
    | 0 => (0x5120, 0xFFFFFFFF, 0xF80FFFFF)
    | 1 => (0x5116, 0x0000FFFF, 0x400FFFFF)
    | _ => (0x5108, 0x0000FFFF, 0x000300FF)
  let s := ((s.put GLB_ID_PART part).put GLB_ID_MAJOR (s.fuses.stepping / 16)).put GLB_ID_MINOR s.fuses.stepping
  let s := ((s.put GLB_CAP0_PUMPS cap0).put GLB_CAP1_CTX_HI (bits cap1 31 31)).put GLB_CAP1_DISPLAY (bits cap1 30 30)
  ((s.put GLB_CAP1_CASCADE (bits cap1 29 27)).put GLB_CAP1_WIDE (bits cap1 19 16)).put GLB_CAP1_SPOUTS (bits cap1 15 0)

/-- The lifecycle, debug and the test root at a release of PORST_N or a wake (R469, R470, R472, R475). -/
def State.loadLifecycle (s : State) : State :=
  let s := { s with vault := { s.vault with fieldDebug := false, nonce := none } }
  let s := (s.put SEC_STAT_LC s.lifecycle).put SEC_STAT_PASSES 0
  let s := (s.putB SEC_STAT_TRNG_FAIL s.vault.trngBad).putB SEC_STAT_OWNER_SET s.fuses.ownerHash.isSome
  let s := if s.lifecycle = 0 ∨ s.lifecycle = 4 then s.setDebug true else (s.setDebug false).clearTestRoot
  [0, 1, 2, 3].foldl (fun s i => s.put (SEC_DEVID_ID i) (leAt s.devid (4 * i) 4)) s.showJtag

/-- Steps 1 and 2 after a release of PORST_N, a restored supply or a wake (R514, R519). (DEDUCED, log 88) -/
def State.startCold (s : State) (st : Straps) (cause : Nat) : State :=
  let s := { s with hubTime := 0, timeRuns := true,
                    power := { s.power with phase := .pll, cold := true, coreEn := true, faultLow := true, dryEntry := false,
                                            wake := none, wakeAtEntry := false } }
  let s := (s.putB CLK_STRAP_ROLE st.dock).putB GLB_HUB_STAT_ROLE st.dock
  let s := ((s.put CLK_STRAP_CAS_ID (if s.hasCascade then st.casId else 0)).put CLK_STRAP_BOOT_SRC st.bootSrc).put CLK_RST_CAUSE_LAST cause
  s.loadVariant.loadLifecycle

/-- R519. PORST_N_RELEASE. -/
def execPorstNRelease (st : Straps) (s : State) : Host.Outcome State Fault Refusal :=
  .next (if s.power.phase = .held then s.startCold st 1 else s)

/-- R516, R517. PORST_N_ASSERT wins over everything. -/
def execPorstNAssert (s : State) : Host.Outcome State Fault Refusal := .next s.porstReset

/-- R499. POWER_FAIL: the core and what its supply feeds are lost. (DEDUCED, log 109) -/
def execPowerFail (s : State) : Host.Outcome State Fault Refusal :=
  .next (if s.coreUp && !s.power.dryEntry then
    let r := s.porstReset
    { r with power := { r.power with phase := .powerFail, coreEn := true, faultLow := true } }
  else s)

/-- R499. POWER_RESTORE. -/
def execPowerRestore (st : Straps) (s : State) : Host.Outcome State Fault Refusal :=
  .next (if s.power.phase = .powerFail then s.startCold st 1 else s)

/-! ## Steps 3 and 4 (R485, R515, R519, R537) -/

/-- A BIST sector whose units are present (R537). -/
def State.sectorPresent (s : State) (k : Nat) : Bool :=
  if k = 3 then decide (s.nPumps = 32) else if k = 6 then s.hasCascade else if k = 9 then s.hasDisplay else decide (k ≤ 9)

/-- Step 4 begins: after a release of PORST_N or a wake the tanks are zeroed (R485). -/
def State.beginLoad (s : State) : State :=
  let s := if s.power.cold then
      { s with tanks := { s.tanks with t0 := [], t1 := [], t2 := [], t3 := [], sec := [] } }
    else s
  { s with power := { s.power with phase := .auth } }

/-- R519. ROOT_PLL_LOCK ends step 2; power-on BIST runs where it is fused on, but not in Scrapped (R480). (DESIGN CHOICE, log
79) -/
def execRootPllLock (s : State) : Host.Outcome State Fault Refusal :=
  .next (if s.power.phase = .pll then
    let s := ((s.put CLK_PLL_STAT_ROOT_LOCK 1).put CLK_PLL_STAT_REFCLK_OK 1).put CLK_PLL_STAT_SERDES_LOCK 0x1F
    let todo := (bitList s.fuses.bistSectors 10).filter s.sectorPresent
    if s.power.cold && !todo.isEmpty && s.get SEC_STAT_LC != 5 then
      let s := { s with bist := ⟨true, true, todo⟩, power := { s.power with phase := .bist } }
      ((s.put FLT_BIST_RES_RESULT 0).put FLT_BIST_RES_SECTOR 0).put FLT_BIST_RES_RAN 0
    else s.beginLoad
  else s)

/-- The boot ROM accepts an image (R515). -/
def State.accepts (s : State) (i : Image) : Bool := i.sigOk && i.fits && decide (s.fuses.secVerMin ≤ i.secVer)

/-- The images in the order of BOOT_SRC, each with its code for CLK_RST_CAUSE.IMAGE (R514). -/
def State.bootOrder (s : State) (primary secondary : Option Image) : List (Nat × Image) :=
  let p := (primary.map (fun i => (1, i))).toList
  let q := (secondary.map (fun i => (2, i))).toList
  match s.get CLK_STRAP_BOOT_SRC with
  | 1 => q ++ p
  | 2 => p
  | _ => p ++ q

/-- Step 5 (R76, R430, R519). -/
def State.stepFive (s : State) : State :=
  let s := { s.put TRK_OE_EN 1 with power := { s.power with phase := .priming } }
  [1, 2, 3].foldl State.casStart s.startPriming

/-- The accepted image k is loaded: tank 0 and CLK_RST_CAUSE.IMAGE, and the BAR2 slot size. (DEDUCED, log 106; DEDUCED, log 107)
-/
def State.loadImage (s : State) (k : Nat) (i : Image) : State :=
  let s := { s.put CLK_RST_CAUSE_IMAGE k with
    power := { s.power with fw := ⟨i.version, i.build, i.secVer, i.sysCtx, i.sysProg.take 0x20000⟩ } }
  s.put BRG_BAR2_SLOT (clampNat 21 30 i.barSlot)

/-- What follows the load: step 5, but in Scrapped the hub stops after step 4 (R478). -/
def State.afterLoad (s : State) : State :=
  if s.get SEC_STAT_LC = 5 then { s with power := { s.power with phase := .scrapped } } else s.stepFive

/-- R515, R519. FIRMWARE_AUTHENTICATED. -/
def execFirmwareAuthenticated (primary secondary : Option Image) (s : State) : Host.Outcome State Fault Refusal :=
  .next (if s.power.phase = .auth then
    match (s.bootOrder primary secondary).find? (fun e => s.accepts e.2) with
    | none => { s with power := { s.power with phase := .authFail, faultLow := true } }.detect 0x09 0
    | some (k, i) => (s.loadImage k i).afterLoad
  else s)

/-! ## Step 6 (R28, R281, R325, R519, R520, R535) -/

/-- A system context of the image starts (R28, R29). -/
def State.startSystem (s : State) (e : Nat × Nat) : State :=
  if isSystem e.1 && !s.idleContext e.1 then (s.put (CTX_ENTRY_ENTRY e.1) e.2).put (CTX_STATE_STATE e.1) 1 else s

/-- Spout n's partner has gone while the policy was paused (R322, R325). -/
def State.goneWhilePaused (s : State) (n : Nat) : Bool :=
  let x := s.spout n
  match s.sptSt n with
  | 5 => !x.cc.rd
  | 6 => !x.cc.rd && x.cc.rp == 0
  | 7 => !x.vbus
  | _ => false

/-- Spout n at step 6: attach is enabled, or the policy resumes (R325). (DEDUCED, log 105) -/
def State.resumeSpout (s : State) (n : Nat) : State :=
  let st := s.sptSt n
  if s.engaged n then
    if s.goneWhilePaused n then (if s.attached n then s.detach n else (s.withdraw n).removal n).unattach n
    else if (s.spout n).hrPaused then (s.setSpout n { s.spout n with hrPaused := false }).hardResetRun n
    else if s.is (SPT_CONTRACT_VALID n) then
      let s := s.pd n 11 0
      if s.isSource n then s.sendCaps n else s
    else s
  else if s.get (SPT_CFG_MODE n) = 0 then s
  else
    let s := if st = 0 then s.unattach n else s
    s.ccChange n (s.spout n).cc

/-- The system programs come into tank 1, system contexts start, and the ordering mode follows the topology (R28, R196, R281).
(DEDUCED, log 46) -/
def State.startSystems (s : State) : State :=
  let s := s.tankWrite 1 0 s.power.fw.sysProg
  let s := s.power.fw.sysCtx.foldl State.startSystem s
  s.putB BRG_ORD_MODE s.wideTopology

/-- The reset record of R535. -/
def State.resetRecord (s : State) : State := s.logWrite (s.faultRecord 0 0 (s.get CLK_RST_CAUSE_LAST) false s.hubTime 0 0)

/-- The events that waited for step 6. -/
def State.raiseLate (s : State) : State :=
  s.power.atStep6.foldl (fun s e => s.raise e.1 e.2) { s with power := { s.power with atStep6 := [] } }

/-- Step 6: FAULT_N goes high (R558), SYS_RUN, the system contexts, the islanded state, spout attach, the reset record, the events that waited. -/
def State.stepSix (s : State) : State :=
  let s := ({ s with power := { s.power with phase := .run, faultLow := false } }.put GLB_HUB_STAT_SYS_RUN 1).startSystems.islandCheck
  ((List.range s.nSpouts).foldl State.resumeSpout s).resetRecord.raiseLate.settle

/-- R519, R520. SYSTEM_CONTEXT_START. -/
def execSystemContextStart (s : State) : Host.Outcome State Fault Refusal :=
  .next (if s.power.phase = .priming ∧ s.linksLive then s.stepSix else s)

/-! ## Warm and watchdog resets (R516, R521) -/

/-- R516, R524. WATCHDOG_EXPIRY. (DESIGN CHOICE, log 104) -/
def execWatchdogExpiry (s : State) : Host.Outcome State Fault Refusal :=
  .next (if s.firmware && !s.power.dryEntry then (s.detect 8 0).warmReset 4 else s)

/-- R521. CLK_WARM_RESET: the reset follows its response. -/
def cmdWarmReset (c : BktCmd) (s : State) : BktStage × State :=
  bktRun (s.bktCheck c false false (c.ch != 0) s.vault.change.isSome false) s (answer 0)

/-! ## Dry (R506 to R510) -/

/-- A slice reset or removal is under way at this hub. -/
def State.anyReset (s : State) : Bool :=
  !s.resets.isEmpty || (List.range 64).any (fun n => s.is (SLC_STAT_RESETTING n) || s.is (SLC_STAT_REMOVING n))

/-- Steps 1 and 2 of R508: spouts, trunk, root ports and dispatch. -/
def State.enterDry (s : State) : State :=
  let s := { s with power := { s.power with dryEntry := true } }.put CLK_PWR_STAT_ENTERING_DRY 1
  let s := (List.range s.nSpouts).foldl State.sptDisable s
  let s := s.put TRK_OE_EN 0
  let s := if s.trunkUp then s.trunkDown.afterDown else s
  if s.dock then s
  else [0, 1].foldl (fun s m => (s.rootDown m).put (PCI_RP_CTRL_PERST m) 1) s

/-- R508, R510. CLK_DRY_ENTER. -/
def cmdDryEnter (c : BktCmd) (s : State) : BktStage × State :=
  bktRun (s.bktCheck c false false (c.ch != 0) (s.vault.change.isSome || s.anyReset) false) s (fun s => answerOk [] s.enterDry)

/-- A wake source is enabled (R506). -/
def State.wakeEnabled (s : State) : WakeSrc → Bool
  | .wakeN => true
  | .timer => s.is CLK_WAKE_CFG_TIMER_EN
  | .light => s.is CLK_WAKE_CFG_LIGHT_EN
  | .tamper => s.is CLK_WAKE_CFG_TAMPER_EN

/-- The code of a wake source in GLB_WAKE_SRC.SRC. -/
def wakeCode : WakeSrc → Nat
  | .wakeN => 1
  | .timer => 2
  | .light => 3
  | .tamper => 4

/-- The registers that Dry keeps beside the VBAT domain: the AON domain's (R498, R507). (DESIGN CHOICE, log 102) -/
def keptDry (k : Nat) : Bool := keptVbat k || k / 32 == GLB_WAKE_SRC_SRC.addr || k / 32 == CLK_WAKE_CFG_TIMER.addr

/-- R479, R508. DRY_DISCHARGE_DONE: the vault acts, and the core rail is removed. -/
def execDryDischargeDone (s : State) : Host.Outcome State Fault Refusal :=
  .next (if s.power.dryEntry then
    let s := (s.put SEC_STAT_DEBUG 0).zeroSlots (fun s k => s.slotTest k || s.slotVol k)
    let s := { s with vault := { s.vault with fieldDebug := false } }
    let s := (s.put SEC_STAT_LC s.lifecycle).put SEC_STAT_JTAG 0
    let r := s.porstReset
    { r with regs := s.regs.filter (fun e => keptDry e.1),
             power := { r.power with phase := .dry, coreEn := s.power.wake.isSome, wake := s.power.wake, faultLow := s.power.faultLow } }
  else s)

/-- R506, R509. WAKE_SOURCE: in Dry, or latched during Dry entry. (DESIGN CHOICE, log 103) -/
def execWakeSource (src : WakeSrc) (s : State) : Host.Outcome State Fault Refusal :=
  .next (if s.power.dryEntry ∨ s.power.phase = .dry then
    let s := if s.power.dryEntry then s.put GLB_WAKE_SRC_ENTRY 1 else s
    if s.wakeEnabled src && s.power.wake.isNone then
      let s := s.put GLB_WAKE_SRC_SRC (wakeCode src)
      { s with power := { s.power with wake := some src, coreEn := s.power.coreEn || s.power.phase == .dry } }
    else s
  else s)

/-- R507. DRY_WAKE. -/
def execDryWake (st : Straps) (drySec : Nat) (s : State) : Host.Outcome State Fault Refusal :=
  .next (if s.power.phase = .dry ∧ s.power.wake.isSome then
    let s := s.keepRegs (fun k => k / 32 != CLK_WAKE_CFG_TIMER.addr)
    let s := (s.put GLB_WAKE_SRC_WOKE 1).put GLB_WAKE_SRC_DRY_SEC (min drySec 0xFFFFFF)
    let s := { s with power := { s.power with atStep6 := s.power.atStep6 ++ [(0x0101, s.get GLB_WAKE_SRC_SRC)] } }
    s.startCold st 2
  else s)

/-! ## Drowse (R500 to R503) -/

/-- A write of CLK_PWR_CTRL that passed its checks: the hub moves between Run and Drowse, and Run gates nothing. -/
def State.pwrCtrl (s : State) (v : Nat) : State :=
  let s := (s.put CLK_PWR_CTRL_IDLE (clampNat 10 10000 (v % 65536))).putB CLK_PWR_CTRL_DROWSE_EN (bit v 31)
  let s := s.put CLK_PWR_STAT_STATE (bits v 31 31)
  if bit v 31 then s
  else [0, 1, 2, 3].foldl (fun s k => s.put (USB_BUS_STAT_GATED k) 0) (s.put CLK_GATE_GATED 0)

/-- A LOCAL endpoint of bus k has a frame waiting. -/
def State.localWaiting (s : State) (k : Nat) : Bool :=
  (s.bus k).slots.any (fun e => s.slotSt k e.1 != 0 && s.slotLocal k e.1 && !e.2.dirIn &&
    (e.2.out.isSome || !(s.well e.2.well).q.isEmpty))

/-- The gate condition of domain d (R387, R502). -/
def State.domainIdle (s : State) (d : Nat) : Bool :=
  if 1 ≤ d ∧ d ≤ 7 then
    decide (4 * d < s.nPumps) && s.pumps.threads.all (fun e => e.1 / 128 != d || e.2.st == .idle) &&
      s.pumps.pend.all (fun e => e.pump / 4 != d)
  else if d = 8 then s.pumps.threads.all (fun e => e.2.sealSlot.isNone)
  else if 9 ≤ d ∧ d ≤ 12 then
    let k := d - 9
    (s.is (USB_BUS_STAT_SUSP k) || (List.range 16).all (fun p => !(s.mapped k p && s.portBit k p 0))) && !s.localWaiting k
  else if 13 ≤ d ∧ d ≤ 14 then
    let m := d - 13
    !s.dock && (!s.is (PCI_RP_CTRL_EN m) || (!s.is (PCI_RP_STAT_LINK m) && s.is (PCI_RP_CTRL_PERST m)))
  else if d = 15 then s.hasDisplay && !s.is DSP_CTRL_EN
  else if 16 ≤ d ∧ d ≤ 18 then s.hasCascade && (!s.is (CAS_PORT_CTRL_EN (d - 16)) || !s.is CAS_CTRL_EN)
  else if 19 ≤ d ∧ d ≤ 26 then !s.is (ETH_CFG_EN (d - 19))
  else false

/-- The gate bit of domain d; a USB engine shows it in its own status as well. -/
def State.setGate (s : State) (d : Nat) (g : Bool) : State :=
  let s := s.put CLK_GATE_GATED (setBit (s.get CLK_GATE_GATED) d g)
  if 9 ≤ d ∧ d ≤ 12 then s.putB (USB_BUS_STAT_GATED (d - 9)) g else s

/-- R387, R502. DOMAIN_IDLE_GATE. -/
def execDomainIdleGate (d : Nat) (s : State) : Host.Outcome State Fault Refusal :=
  .next (if s.running && s.is CLK_PWR_CTRL_DROWSE_EN && decide (d ≤ 26) && !bit (s.get CLK_KEEP_KEEP) d && s.domainIdle d then
    s.setGate d true
  else s)

/-- R503. DOMAIN_WAKE_DONE. -/
def execDomainWakeDone (d : Nat) (s : State) : Host.Outcome State Fault Refusal :=
  .next (if decide (d ≤ 26) && bit (s.get CLK_GATE_GATED) d then ((s.setGate d false).bump CLK_STALL_COUNT).settle else s)

/-! ## Clocks (R512, R513, R532) -/

/-- R512. LPO_TRIM: the error left after the trim, in ppm. -/
def execLpoTrim (err : Int) (s : State) : Host.Outcome State Fault Refusal :=
  .next (if s.is CLK_PLL_STAT_REFCLK_OK then
    let s := s.put CLK_PLL_STAT_LPO_ERR (unsigned 16 err)
    if err.natAbs ≤ 200 then { s with power := { s.power with trim := err } }.put CLK_PLL_STAT_LPO_TRIM 1
    else ((s.put CLK_PLL_STAT_LPO_TRIM 0).raise 0x0102 0).detect 4 0
  else s)

/-- The endpoint's link goes down. -/
def State.endpointDown (s : State) : State :=
  { s with power := { s.power with epLink := false }, brg := { s.brg with ep := { s.brg.ep with rate := 0, width := 0 } } }

/-- The links that SerDes PLL i serves go down (R513). -/
def State.pllLinksDown (s : State) (i : Nat) : State :=
  match i with
  | 0 => if s.trunkUp then s.trunkDown.afterDown else if s.primingNow then s.startPriming else s
  | 1 => [1, 2, 3].foldl (fun s p => s.casLinkDown p 1) s
  | 2 => (List.range s.nWide).foldl (fun s n =>
      let s := s.setSpout n { s.spout n with samTx := 0, samOut := 0 }
      (s.put (SPT_ALT_STAT_SAM_UP n) 0).evalOutput n) s
  | 3 => if s.dock then (if s.power.epLink then s.endpointDown.detect 0x2B 0 else s)
    else [0, 1].foldl State.rootDown s
  | _ => (List.range 8).foldl State.ethDown s

/-- A SerDes PLL loses lock (R513, R524). -/
def State.pllLost (s : State) (i : Nat) : State :=
  let s := s.put CLK_PLL_STAT_SERDES_LOCK (setBit (s.get CLK_PLL_STAT_SERDES_LOCK) i false)
  ((s.raise 0x0103 i).detect 3 i).pllLinksDown i

/-- R513. PLL_LOCK_LOST. -/
def execPllLockLost (i : Nat) (s : State) : Host.Outcome State Fault Refusal :=
  .next (if s.linksLive && decide (i ≤ 4) && bit (s.get CLK_PLL_STAT_SERDES_LOCK) i then s.pllLost i else s)

/-- REFCLK or the root PLL is lost (R457, R532): a root in use makes it a tamper, whose zeroing comes first; the core clocks stop and
the hub halts. -/
def State.clockLost (s : State) (rootPll : Bool) : State :=
  let s := if s.rootInUse then s.tamper .refclk false else s
  let s := { s with power := { s.power with clockStopped := true } }
  let s := (if rootPll then s else s.put CLK_PLL_STAT_REFCLK_OK 0).put CLK_PLL_STAT_ROOT_LOCK 0
  s.detect (if rootPll then 2 else 1) 0

/-- R532. REFCLK_LOST. -/
def execRefclkLost (rootPll : Bool) (s : State) : Host.Outcome State Fault Refusal :=
  .next (if s.coreUp && s.is CLK_PLL_STAT_ROOT_LOCK then s.clockLost rootPll else s)

/-! ## The flash copy (R536) -/

/-- The header of the flash copy. -/
def State.copyHeader (s : State) (log : Bytes) : Bytes :=
  leBytes 8 s.ladder.haltTime ++ leBytes 2 (s.get FLT_LOG_IDX_NEXT) ++ leBytes 2 s.ladder.haltSeq ++ s.devid ++
    leBytes 4 (crc32c log) ++ zeros 32

/-- R536. FLASH_COPY_DONE: the header at offset 0 of the first blank slot, the log from offset 0x1000. -/
def execFlashCopyDone (blank0 blank1 : Bool) (s : State) : Host.Outcome State Fault Refusal :=
  .next (if s.halted && s.is FLT_CTRL_FLASH_COPY && !s.is FLT_STAT_COPIED && !s.is FLT_STAT_COPY_FAIL then
    if blank0 || blank1 then
      let log := s.tankRead 3 0xE0000 0x20000
      (s.emit (.flash (if blank0 then 0 else 1) (s.copyHeader log ++ log))).put FLT_STAT_COPIED 1
    else s.put FLT_STAT_COPY_FAIL 1
  else s)

/-! ## The dock endpoint (R518, R533) -/

/-- R518. ENDPOINT_RESET: only the endpoint's core, configuration space and MSI-X state are reset; upstream requests end with
Unsupported Request. The link's rate and width stand as the link row gave them. (DEDUCED, log 108) -/
def execEndpointReset (hold : Bool) (s : State) : Host.Outcome State Fault Refusal :=
  .next (if s.coreUp && s.dock then
    if hold then
      let s := { s with power := { s.power with epReset := true }, msix := [] }
      let waiting := s.brg.upWait
      let s := { s with brg := { s.brg with upWait := [], ep := { rate := s.brg.ep.rate, width := s.brg.ep.width } } }
      let s := waiting.foldl (fun s r => s.completeTo r.unit 0 1 []) s
      (s.brg.up.map (·.1)).foldl (fun s t => s.abandonUp t 1) s
    else { s with power := { s.power with epReset := false } }
  else s)

/-- The rates, in codes 1 to 5, and widths that the endpoint supports (R268). -/
def endpointSpeed (rate width : Nat) : Bool := decide (1 ≤ rate ∧ rate ≤ 5) && [1, 2, 4, 8].contains width

/-- R268, R533. ENDPOINT_LINK_CHANGE: a rate, as a code from 1 for 2.5 GT/s, or a width that the endpoint does not support makes
no link. (DEDUCED, log 186) -/
def execEndpointLinkChange (up : Option (Nat × Nat)) (s : State) : Host.Outcome State Fault Refusal :=
  .next (if s.linksLive && s.dock then
    match up with
    | some (rate, width) =>
      if s.heldPort 28 || !endpointSpeed rate width then s
      else { s with power := { s.power with epLink := true },
                    brg := { s.brg with ep := { s.brg.ep with rate := rate, width := width } } }
    | none => if s.power.epLink then s.endpointDown.detect 0x2B 0 else s
  else s)

end Sys2Proof.Machine
end

