-- ==== Sys2Proof/Machine/FaultRows.lean ====
section
/-! DEFINITION. Fault handling, injection, BIST, the monitored inputs and the fault commands (R524 to R545). -/
namespace Sys2Proof.Machine

/-! ## Contain, and the end of a fault's handling (R524, R528 to R530) -/

/-- The unit of port p goes into reset (R524). -/
def State.holdPort (s : State) (p : Nat) : State :=
  let s := match p with
    | 0 => if s.trunkUp then s.trunkDown.afterDown else if s.primingNow then s.startPriming else s
    | 28 => if s.dock then s.endpointDown else s.rootDown 0
    | 29 => s.rootDown 1
    | 31 => (List.range 4).foldl (fun s k => if s.is (USB_BUS_CFG_EN k) then s.stopBus k else s) s
    | p =>
      if p ≤ 3 then s.casLinkDown p 1
      else if p ≤ 11 then s.ethDown (p - 4)
      else if p ≤ 15 then
        let n := p - 12
        (s.setSpout n { s.spout n with samTx := 0, samOut := 0 }).put (SPT_ALT_STAT_SAM_UP n) 0
      else s
  if s.portPresent p then s.flushDirect p else s

/-- The units of a contained detector go into reset: its ports, and for a detector of the pumps every thread (R524). (DESIGN
CHOICE, log 110) -/
def State.holdUnits (s : State) (det inst : Nat) : State :=
  let s := ((List.range 32).filter (detectorHolds det inst)).foldl State.holdPort s
  if s.pumpsHeld then s.haltThreads (fun _ => true) 8 true else s

/-- A summary record closes a queue that had lost faults (R530, R535). (DEDUCED, log 204) -/
def State.lostSummary (s : State) : State :=
  if s.ladder.lost = 0 then s
  else
    let r := s.faultRecord 0xFF 0 (min s.ladder.lost 0xFFFF) false s.hubTime 0 s.ladder.lostMax
    { s.logWrite r with ladder := { (s.logWrite r).ladder with lost := 0, lostMax := 0 } }

/-- The next fault of the queue is handled. -/
def State.nextFault (s : State) : State :=
  match s.ladder.queue with
  | [] => s.lostSummary
  | f :: l => { s with ladder := { s.ladder with queue := l } }.startFault f

/-- R528, R529. FAULT_HANDLING_DONE: the copy is part of the handling of a Halt. -/
def execFaultHandlingDone (s : State) : Host.Outcome State Fault Refusal :=
  .next (match s.ladder.cur with
  | none => s
  | some f =>
    if f.lvl = 5 then
      if s.is FLT_CTRL_FLASH_COPY && !s.is FLT_STAT_COPIED && !s.is FLT_STAT_COPY_FAIL then s
      else { s with ladder := { s.ladder with cur := none, haltDone := true } }.showQueue
    else
      let s := if f.lvl = 4 then s.holdUnits f.det f.inst else s
      ({ s with ladder := { s.ladder with cur := none } }.showQueue).nextFault.settle)

/-- A transaction of the fabric is timed out (R527): of the requests that wait at a unit of this hub, the oldest ends with
Unsupported Request. (DESIGN CHOICE, log 112) -/
def State.fabricTimeout (s : State) (block : Nat) : State :=
  let s := s.detect 0x17 block
  match s.brg.dn.find? (fun e => e.2.st == .issued && e.2.req.hub == 0 && block == 14) with
  | some (t, g) => s.completeDn t g.req.gen .unsupported []
  | none => s

/-- R533, R545. JUNCTION_TEMP_CROSSING: the reading passes WARN or CRIT upward. -/
def execJunctionTempCrossing (temp : Int) (s : State) : Host.Outcome State Fault Refusal :=
  .next (if s.coreUp then
    let old := signed 8 (s.get FLT_TEMP_NOW)
    let passes := fun (lim : Nat) => decide (old ≤ (lim : Int) ∧ (lim : Int) < temp)
    let s := s.put FLT_TEMP_NOW (unsigned 8 (clampInt (-128) 127 temp))
    let s := if passes (s.get FLT_TEMP_WARN) then s.detect 6 0 else s
    if passes (s.get FLT_TEMP_CRIT) then s.detect 7 0 else s
  else s)

/-! ## BIST (R537 to R540) -/

/-- Sector k fails (R538, R539): the Halt record, and the reset-safe state. -/
def State.bistFailed (s : State) (det k result : Nat) : State :=
  let s := { s with bist := {} }.put FLT_BIST_RES_SECTOR k
  (s.detect det k).holdSafe result

/-- Every sector has passed: start-up goes on, or a commanded run ends with a warm reset (R540). -/
def State.bistPassed (s : State) : State :=
  let on := s.bist.powerOn
  let s := { s with bist := {} }.put FLT_BIST_RES_RESULT 1
  if on then s.beginLoad
  else { s with power := { s.power with atStep6 := s.power.atStep6 ++ [(0x1204, 0)] } }.warmReset 3

/-- R538. BIST_SECTOR_DONE. -/
def execBistSectorDone (sig golden : W32) (s : State) : Host.Outcome State Fault Refusal :=
  .next (match s.bist.running, s.bist.todo with
  | true, k :: rest =>
    let s := (s.put (FLT_BIST_MISR_SIG k) sig.toNat).put FLT_BIST_RES_RAN (setBit (s.get FLT_BIST_RES_RAN) k true)
    if sig ≠ golden then s.bistFailed 0x0A k 2
    else if rest.isEmpty then s.bistPassed
    else { s with bist := { s.bist with todo := rest } }
  | _, _ => s)

/-- R538. BIST_SECTOR_TIMEOUT. -/
def execBistSectorTimeout (s : State) : Host.Outcome State Fault Refusal :=
  .next (match s.bist.running, s.bist.todo with
  | true, k :: _ => (s.put FLT_BIST_RES_RAN (setBit (s.get FLT_BIST_RES_RAN) k true)).bistFailed 0x0B k 3
  | _, _ => s)

/-- Step 2 of R540: the BIST hold, and a record of detector 0x0A with LEVEL 0. A run of no sector passes at once. -/
def State.enterBist (s : State) (mask : Nat) : State :=
  let s := { s with power := { s.power with phase := .bistHold }, bist := ⟨true, false, bitList mask 10⟩ }
  let s := ((s.put FLT_BIST_RES_RESULT 0).put FLT_BIST_RES_SECTOR 0).put FLT_BIST_RES_RAN 0
  let s := s.logWrite (s.faultRecord 0x0A 0 0 false s.hubTime s.ladder.queue.length 0)
  if s.bist.todo.isEmpty then s.bistPassed else s

/-! ## Monitored inputs (R541, R542) -/

/-- An input is masked, with detector 0x44 or 0x45 and event 0x1203 (R542). -/
def State.maskInput (s : State) (i det : Nat) : State :=
  let s := if det = 0x44 then s.put FLT_IN_STAT_STUCK (setBit (s.get FLT_IN_STAT_STUCK) i true)
    else s.put FLT_IN_STAT_CHAT (setBit (s.get FLT_IN_STAT_CHAT) i true)
  (s.detect det i).raise 0x1203 i

/-- The monitors work. -/
def State.monitors (s : State) : Bool := s.coreUp && !s.power.clockStopped

/-- R542. INPUT_ACTIVE_EDGE. -/
def execInputActiveEdge (i : Nat) (s : State) : Host.Outcome State Fault Refusal :=
  .next (if s.monitors && decide (i ≤ 11) then
    let near := match (assocGet {} s.inputs i).last with
      | some t => decide (s.hubTime ≤ t + 100000)
      | none => false
    let s := { s with inputs := assocSet {} i ⟨some s.hubTime⟩ s.inputs }
    if near then
      let s := s.bump (FLT_IN_CNT_COUNT i)
      if s.get FLT_IN_CFG_CHAT_THR ≤ s.get (FLT_IN_CNT_COUNT i) && !bit (s.get FLT_IN_STAT_CHAT) i then s.maskInput i 0x45 else s
    else s
  else s)

/-- R542. INPUT_STUCK. -/
def execInputStuck (i : Nat) (s : State) : Host.Outcome State Fault Refusal :=
  .next (if s.monitors && decide (i ≤ 11) && !bit (s.get FLT_IN_STAT_STUCK) i then s.maskInput i 0x44 else s)

/-- R542. INPUT_UNSTUCK. -/
def execInputUnstuck (i : Nat) (s : State) : Host.Outcome State Fault Refusal :=
  .next (if s.monitors && decide (i ≤ 11) then s.put FLT_IN_STAT_STUCK (setBit (s.get FLT_IN_STAT_STUCK) i false) else s)

/-! ## Injection (R534) -/

/-- Instance inst of detector det is present. -/
def State.instPresent (s : State) (det inst : Nat) : Bool :=
  if det = 0x03 then decide (inst ≤ 4) && (inst != 1 || s.hasCascade)
  else if det = 0x0A ∨ det = 0x0B then s.sectorPresent inst
  else if det = 0x0C then decide (inst ≤ 8)
  else if det = 0x10 then decide (inst < s.nPumps)
  else if det = 0x11 ∨ det = 0x3C then s.hasDisplay && decide (inst ≤ 5)
  else if det = 0x14 then inst == 0 || (s.hasCascade && decide (inst ≤ 3))
  else if det = 0x15 ∨ det = 0x29 then decide (inst < s.nCtx)
  else if det = 0x16 then decide (inst < s.nPumps * 32)
  else if det = 0x17 ∨ det = 0x18 then decide (inst ≤ 19) && (inst != 15 || s.hasDisplay) && (inst != 16 || s.hasCascade)
  else if 0x19 ≤ det ∧ det ≤ 0x1C then decide (inst ≤ 3)
  else if det = 0x1D then decide (inst ≤ 15)
  else if det = 0x24 ∨ det = 0x25 then s.hasCascade && decide (inst ≤ 2)
  else if det = 0x26 then s.hasCascade && decide (inst ≤ 3)
  else if det = 0x2A ∨ det = 0x2B then s.dock && inst == 0
  else if 0x2D ≤ det ∧ det ≤ 0x34 then decide (inst < s.nSpouts)
  else if det = 0x37 ∨ det = 0x38 then decide (inst ≤ 3)
  else if det = 0x39 then decide (inst ≤ 7)
  else if det = 0x3A ∨ det = 0x3B then !s.dock && decide (inst ≤ 1)
  else if det = 0x3D then s.hasDisplay && decide (inst < s.nWide)
  else if det = 0x44 ∨ det = 0x45 then decide (inst ≤ 11)
  else if det = 0x46 then decide (inst ≤ 63)
  else inst == 0

/-- Picking one of a list by a free value: the spec does not say which object an injected error falls on. -/
def State.choose {α : Type} (s : State) (l : List α) : Option α × State :=
  let (n, s) := s.draw
  (l[Config.freeNat n % max 1 l.length]?, s)

/-- The dispatch that met an error ends, its chain goes to the sump, and its context is isolated (R526). -/
def State.isolateDispatch (s : State) (p t : Nat) : State :=
  let c := (s.thread p t).ctx
  (s.stopThread p t 8).isolateContext c

/-- Cell h returns to the free list no more (R527): it leaves the list now where it is on it. -/
def State.retireCell (s : State) (h : Nat) : State :=
  let s := { s with cis := { s.cis with retired := h :: s.cis.retired } }
  if (assocFind s.cis.cells h).isSome then s
  else ({ s with cis := { s.cis with cells := assocPut h ⟨0, 0, 0⟩ s.cis.cells } }).put WEL_CIS_STAT_FREE_CELLS (s.freeCells - 1)

/-- A cistern cell reads uncorrectable (R527): the frame in it goes to the sump with cause FAULT, and the cell is retired; with no frame in
a well it is a free cell. -/
def State.cellError (s : State) : State :=
  let l := s.cis.wells.flatMap (fun w => w.2.q.map (fun id => (w.1, id)))
  let (x, s) := s.choose l
  let s := match x with
    | some (n, id) =>
      let a := (s.well n).tags.elim 0 (·.1)
      let first := (s.well n).q.head? == some id
      let (e, s) := s.choose (s.frame id).exts
      let s := s.retireCell ((e.map (fun (x : Ext) => x.cell)).getD s.freeCell)
      let s := s.leaveWell n id
      let s := if first then s.retag n a else s
      (s.sumpFrom (some n) id 8).markCheck n
    | none => s.retireCell s.freeCell
  s.congestion

/-- The running endpoint slots of bus k. -/
def State.runningSlots (s : State) (k : Nat) : List Nat :=
  ((s.bus k).slots.filter (fun e => s.slotSt k e.1 == 1)).map (·.1)

/-- The hardware action of detector det at instance inst, and its report (R533, R534). (DESIGN CHOICE, log 111) -/
def State.injected (s : State) (det inst : Nat) : State :=
  match det with
  | 0x01 => s.clockLost false
  | 0x02 => s.clockLost true
  | 0x03 => s.pllLost inst
  | 0x04 => ((s.put CLK_PLL_STAT_LPO_TRIM 0).raise 0x0102 0).detect 4 0
  | 0x05 =>
    let r := s.porstReset
    { r with power := { r.power with phase := .powerFail, coreEn := true, faultLow := true } }
  | 0x08 => (s.detect 8 0).warmReset 4
  | 0x0A => s.bistFailed 0x0A inst 2
  | 0x0B => s.bistFailed 0x0B inst 3
  | 0x0D => s.cellError.detect 0x0D 0
  | 0x10 =>
    let (x, s) := s.choose (s.pumps.threads.filter (fun e => e.2.st != .idle && e.1 / 32 == inst))
    (match x with
    | some e => s.isolateDispatch (e.1 / 32) (e.1 % 32)
    | none => s).detect 0x10 inst
  | 0x11 => (s.underrun inst).detect 0x11 inst
  | 0x12 =>
    (match s.cis.dipBuf with
    | _ :: l => ({ s with cis := { s.cis with dipBuf := l } }).bump WEL_DIP_MISS_COUNT
    | [] => s).detect 0x12 0
  | 0x13 => s.wipeSecure.detect 0x13 0
  | 0x14 =>
    let s := s.detect 0x14 inst
    if inst = 0 then (if s.trunkUp then (s.raise 0x0303 0).trunkDown.startPriming else s) else s.casLinkDown inst 6
  | 0x15 => (s.isolateContext inst).detect 0x15 inst
  | 0x16 =>
    let th := s.thread (inst / 32) (inst % 32)
    (if th.st = .idle then s else s.isolateDispatch (inst / 32) (inst % 32)).detect 0x16 inst
  | 0x17 => s.fabricTimeout inst
  | 0x19 => s.laneFault inst .los
  | 0x1A => s.laneFault inst .lol
  | 0x1B => if s.primeState = 9 then s.laneFault inst .burst else s.detect 0x1B inst
  | 0x1C => (s.cleanBroken inst).detect 0x1C inst
  | 0x1D => if s.primingNow then s.failPriming inst else s.detect 0x1D inst
  | 0x1E => s.oeFault
  | 0x1F => (s.linkCnt 0 2).detect 0x1F 0
  | 0x20 => (s.linkCnt 0 1).detect 0x20 0
  | 0x21 => (((s.linkCnt 0 10).detect 0x21 0).startReplay 0).replayCheck 0
  | 0x22 => if s.trunkUp then (((s.raise 0x0303 0).detect 0x22 0).trunkDown).startPriming else s.detect 0x22 0
  | 0x23 => ((s.linkCnt 0 13).raise 0x0304 0).detect 0x23 0
  | 0x24 => if s.linkUp (inst + 1) then s.casLinkDown (inst + 1) 1 else s.detect 0x24 inst
  | 0x25 =>
    let st := s.get (CAS_PORT_STAT_STATE inst)
    ((if st = 1 ∨ st = 2 then s.put (CAS_PORT_STAT_STATE inst) 4 else s).raise 0x1005 inst).detect 0x25 inst
  | 0x26 => if inst ≠ s.self ∧ (s.member inst).present then s.markDown inst else s.detect 0x26 inst
  | 0x27 => ((s.put WEL_CIS_STAT_GRES 1).raise 0x0503 0).detect 0x27 0
  | 0x28 => (s.raiseEvery 1000000 0x0504 0 0).detect 0x28 0
  | 0x29 => (if s.get (CTX_STATE_STATE inst) = 3 then s else s.enterFault inst).detect 0x29 inst
  | 0x2B => s.endpointDown.detect 0x2B 0
  | 0x2C => (s.raise 0x0802 0).detect 0x2C 0
  | 0x2D => if s.sptSt inst = 0xC then s.detect 0x2D inst else s.enterWet inst
  | 0x2E => (s.raise 0x0A0C inst).detect 0x2E inst
  | 0x2F =>
    let s := (s.raise 0x0A04 inst).detect 0x2F inst
    if s.policyOn inst && s.attached inst then s.sendHardReset inst else s
  | 0x30 => s.hswTrip inst 1
  | 0x31 => s.hswTrip inst 2
  | 0x32 => s.ccOvp inst
  | 0x33 => s.senseOpen inst
  | 0x34 =>
    (((s.openFets inst).setCtl inst { s.ctl inst with retryRun := false }).put (HSW_STAT_STATE inst) 6).raise 0x0B04 inst
      |>.detect 0x34 inst
  | 0x35 => if s.is HSW_BUS_STAT_PFW then s.detect 0x35 0 else s.pfwAssert
  | 0x36 => if s.is HSW_BUS_STAT_REV then s.detect 0x36 0 else s.cabinetReversed
  | 0x37 =>
    let (x, s) := s.choose (s.runningSlots inst)
    (match x with
    | some e => s.haltSlot inst e 4
    | none => s).detect 0x37 inst
  | 0x38 =>
    let (x, s) := s.choose (s.runningSlots inst)
    match x with
    | some e => s.usbResult inst e .babble
    | none => s.detect 0x38 inst
  | 0x39 => if s.is (ETH_STAT_LINK inst) then s.ethDown inst else s.detect 0x39 inst
  | 0x3A => ((s.bump (PCI_RP_STAT_ERRS inst)).raise 0x0E04 inst).detect 0x3A inst
  | 0x3B => if s.is (PCI_RP_STAT_LINK inst) then s.rootDown inst else s.detect 0x3B inst
  | 0x3C => s.underrun inst
  | 0x3D => ((s.put (DSP_OUT_STAT_STATE inst) 4).put (DSP_OUT_STAT_REASON inst) 1).detect 0x3D inst
  | 0x43 => s.trngFail
  | 0x44 => s.maskInput inst 0x44
  | 0x45 => s.maskInput inst 0x45
  | d => s.detect d inst

/-- A change that injects detector det: the detection's record carries INJ (R534). -/
def State.injecting (s : State) (det : Nat) (f : State → State) : State :=
  let s := f { s with ladder := { s.ladder with injecting := some det } }
  { s with ladder := { s.ladder with injecting := none } }

/-- A write of FLT_INJ_CMD that passed its checks (R480, R534). -/
def State.fltInj (s : State) (v : Nat) : State :=
  if !s.injectable then s
  else
    let det := bits v 23 16
    let inst := bits v 15 0
    let s := (s.put FLT_INJ_CMD_DET det).put FLT_INJ_CMD_INST inst
    if !bit v 31 || det == 0 || decide (0x3E ≤ det ∧ det ≤ 0x42) || decide (0x46 < det) || !s.instPresent det inst then s
    else (s.injecting det (fun s => s.injected det inst)).settle

/-! ## The fault commands (R540, R542, R544) -/

/-- Instance inst of detector det is absent here and present on a full part in one of the roles (R6). -/
def State.instAbsent (s : State) (det inst : Nat) : Bool :=
  let full := ({ s with fuses := { s.fuses with variant := 0 } }).loadVariant
  !s.instPresent det inst && ((full.putB GLB_HUB_STAT_ROLE true).instPresent det inst || (full.putB GLB_HUB_STAT_ROLE false).instPresent det inst)

/-- R6, R544. FLT_RECOVER. -/
def cmdFltRecover (c : BktCmd) (s : State) : BktStage × State :=
  let det := c.byte 4
  let inst := c.le 8 2
  bktRun (s.bktCheck c (s.instAbsent det inst) false (c.ch != 0) (!s.ladder.contained.contains (det, inst)) false) s (fun s =>
    let s := { s with ladder := { s.ladder with contained := s.ladder.contained.filter (fun e => e != (det, inst)) } }
    let s := if det = 3 then s.put CLK_PLL_STAT_SERDES_LOCK (setBit (s.get CLK_PLL_STAT_SERDES_LOCK) inst true) else s
    let s := if detectorHolds det inst 0 && !s.trunkUp then s.afterDown else s
    let s := ([1, 2, 3].filter (detectorHolds det inst)).foldl State.casStart s
    answerOk [] ((s.raise 0x1205 det).settle))

/-- R542, R544. FLT_INPUT_REARM. -/
def cmdInputRearm (c : BktCmd) (s : State) : BktStage × State :=
  let i := c.byte 4
  bktRun (s.bktCheck c false (decide (11 < i)) (c.ch != 0) (!bit (s.get FLT_IN_STAT_CHAT) i) false) s (fun s =>
    answerOk [] ((s.put FLT_IN_STAT_CHAT (setBit (s.get FLT_IN_STAT_CHAT) i false)).put (FLT_IN_CNT_COUNT i) 0))

/-- R540, R544. FLT_BIST_RUN: the run follows its response. (DESIGN CHOICE, log 19) -/
def cmdBistRun (c : BktCmd) (s : State) : BktStage × State :=
  let m := c.le 8 2
  let lc := s.get SEC_STAT_LC
  let absent := (bitList m 10).any (fun k => !s.sectorPresent k)
  let bad := m % 2 == 1 || decide (1024 ≤ m)
  bktRun (s.bktCheck c absent bad (c.ch != 0 || lc == 1 || lc == 2) (s.vault.change.isSome || s.anyReset) false) s (answer 0)

/-- R536, R544. FLT_LOG_THAW. -/
def cmdLogThaw (c : BktCmd) (s : State) : BktStage × State :=
  bktRun (s.bktCheck c false false (c.ch != 0) (!s.is FLT_STAT_FROZEN) false) s (fun s => answerOk [] (s.put FLT_STAT_FROZEN 0))

end Sys2Proof.Machine
end

