-- ==== Sys2Proof/Machine/BucketFlow.lean ====
section
/-! DEFINITION. The bucket: accepting a GO, running the commands one at a time, and the end of each (R32 to R40, R497). -/
namespace Sys2Proof.Machine

/-! ## Commands of this chapter and of the tanks -/

/-- R40. ECHO. -/
def cmdEcho (c : BktCmd) (s : State) : BktStage × State :=
  bktRun (s.bktCheck c false false false false false) s (answerOk (c.bytes 8 56))

/-- R40. FW_INFO. -/
def cmdFwInfo (c : BktCmd) (s : State) : BktStage × State :=
  let f := s.power.fw
  bktRun (s.bktCheck c false false false false false) s
    (answerOk (leBytes 4 f.version ++ leBytes 4 f.build ++ leBytes 4 f.secVer))

/-- R497. TNK_INFO: byte 4 = 1 clears the counters once read. -/
def cmdTnkInfo (c : BktCmd) (s : State) : BktStage × State :=
  let t := s.tanks
  bktRun (s.bktCheck c false false (c.ch != 0) false false) s (fun s =>
    answerOk (leBytes 4 t.collisions ++ leBytes 4 t.refusals ++ leBytes 4 t.doorbells ++ leBytes 4 t.wipes ++ leBytes 4 t.repeats)
      (if c.byte 4 = 1 then
        { s with tanks := { s.tanks with collisions := 0, refusals := 0, doorbells := 0, wipes := 0, repeats := 0 } }
      else s))

/-- The command of an opcode; none for an unassigned one. -/
def bktTable (op : Nat) : Option (BktCmd → State → BktStage × State) :=
  match op with
  | 0x0000 => some cmdEcho
  | 0x0001 => some cmdFwInfo
  | 0x0100 => some cmdDryEnter
  | 0x0101 => some cmdWarmReset
  | 0x0200 => some cmdOeRead
  | 0x0201 => some cmdOeWrite
  | 0x0202 => some cmdLaneReadmit
  | 0x0400 => some cmdCalCommit
  | 0x0401 => some cmdSwap
  | 0x0402 => some cmdProfile
  | 0x0500 => some cmdWelFlush
  | 0x0600 => some cmdPageAssign
  | 0x0601 => some cmdPageOpen
  | 0x0602 => some cmdPageSeal
  | 0x0603 => some cmdPageFree
  | 0x0900 => some cmdSlcBind
  | 0x0901 => some cmdSlcReset
  | 0x0902 => some cmdSlcRemove
  | 0x0A00 => some cmdSptMode
  | 0x0A01 => some cmdSptHardReset
  | 0x0A02 => some cmdSptDiscRead
  | 0x1000 => some cmdGrpSwap
  | 0x1001 => some cmdGrpInfo
  | 0x1100 => some cmdSecInfo
  | 0x1101 => some cmdSecOwnerSet
  | 0x1102 => some cmdSecRootGen
  | 0x1103 => some cmdSecLcChallenge
  | 0x1104 => some cmdSecTokenPut
  | 0x1105 => some cmdSecLcChange
  | 0x1106 => some cmdSecDebugClose
  | 0x1110 => some cmdKeyAssign
  | 0x1111 => some cmdKeyLoad
  | 0x1112 => some cmdKeyDerive
  | 0x1113 => some cmdKeyWrap
  | 0x1114 => some cmdKeyUnwrap
  | 0x1115 => some cmdKeyZero
  | 0x1116 => some cmdKeyInfo
  | 0x1200 => some cmdFltRecover
  | 0x1201 => some cmdInputRearm
  | 0x1202 => some cmdBistRun
  | 0x1203 => some cmdLogThaw
  | 0x1300 => some cmdRtSet
  | 0x1301 => some cmdRtGet
  | 0x1400 => some cmdTnkInfo
  | _ => none

/-- Scrapped denies a command whose unit is there and whose form is good (R35, R478). -/
def deniedInScrapped (r : BktStage × State) (s : State) : BktStage × State :=
  match r.1 with
  | .ready st _ => answer (if st = 3 ∨ st = 4 then st else 2) s
  | _ => answer 2 s

/-- Running a command: an unassigned opcode is BADARG (R34), and Scrapped denies all but three commands (R478). (DEDUCED, log
13) -/
def State.runCmd (s : State) (c : BktCmd) : BktStage × State :=
  match bktTable c.op with
  | none => answer 4 s
  | some f =>
    if s.get SEC_STAT_LC = 5 ∧ c.op ≠ 0x0000 ∧ c.op ≠ 0x0001 ∧ c.op ≠ 0x1100 then deniedInScrapped (f c s) s else f c s

/-! ## The response -/

/-- Writing the response registers of channel ch (R33). -/
def State.writeRsp (s : State) (c : BktCmd) (st : Nat) (res : Bytes) : State :=
  let b := leBytes 2 c.op ++ leBytes 2 c.seq ++ leBytes 1 st ++ zeros 3 ++ fit 56 res
  (List.range 16).foldl (fun s i => s.put (GLB_BKT_RSP_DATA c.ch i) (leAt b (4 * i) 4)) s

/-- The executing command ends with a status and results: its response, DONE and event 0x0001, unless the response is discarded
(R36, R38); a TIMEOUT is detected (R533). (DEDUCED, log 15; DEDUCED, log 18) -/
def State.finishCmd (s : State) (c : BktCmd) (st : Nat) (res : Bytes) : State :=
  let lost := s.bkt.discard.contains c.ch
  let s := { s with bkt := { s.bkt with queue := s.bkt.queue.drop 1, stage := .atEnd, discard := s.bkt.discard.filter (· != c.ch) } }
  let s := s.put (GLB_BKT_STAT_BUSY c.ch) 0
  let s := if lost then s
    else
      let s := (s.writeRsp c st res).put (GLB_BKT_STAT_DONE c.ch) 1
      if s.is (GLB_BKT_CTRL_IRQ_EN c.ch) then s.raise 0x0001 c.ch else s
  if st = 6 then s.detect 0x46 c.ch else s

/-- A command that has run holds its stage. -/
def staged (r : BktStage × State) : State := { r.2 with bkt := { r.2.bkt with stage := r.1 } }

/-- What command c leaves when it has run: its stage; CLK_DRY_ENTER has its response at once (R508). -/
def State.started (c : BktCmd) (r : BktStage × State) : State :=
  match r with
  | (.ready st res, s) => if c.op = 0x0100 ∧ st = 0 then s.finishCmd c st res else staged (.ready st res, s)
  | r => staged r

/-- The command at the front of the queue starts. -/
def State.startCmd (s : State) : State :=
  match s.bkt.queue with
  | [] => s
  | c :: _ =>
    if !s.firmware || s.power.dryEntry then s
    else State.started c (s.runCmd c)

/-! ## GO (R32, R36 to R39) -/

/-- Request byte string of channel ch (R33). -/
def State.request (s : State) (ch : Nat) : Bytes := (List.range 16).flatMap (fun i => leBytes 4 (s.get (GLB_BKT_REQ_DATA ch i)))

/-- Accepting a command (R36): LAST_SEQ, DONE and BUSY of its channel, and a place at the end of the queue. -/
def State.accept (s : State) (c : BktCmd) : State :=
  let s := ((s.put (GLB_BKT_STAT_LAST_SEQ c.ch) c.seq).put (GLB_BKT_STAT_DONE c.ch) 0).put (GLB_BKT_STAT_BUSY c.ch) 1
  { s with bkt := { s.bkt with queue := s.bkt.queue ++ [c] } }

/-- A GO on channel ch: it is rejected while BUSY and during a reset of the slice, and has no effect in Halt and Dry entry.
(DESIGN CHOICE, log 14) -/
def State.bktGo (s : State) (ch : Nat) : State :=
  if !s.firmware || s.power.dryEntry || decide (64 ≤ ch) then s
  else if s.is (GLB_BKT_STAT_BUSY ch) || s.stepsRun ch then s.put (GLB_BKT_STAT_REJ ch) 1
  else
    let b := s.request ch
    let c : BktCmd := ⟨ch, leAt b 0 2, leAt b 2 2, b.drop 4⟩
    if s.bkt.queue.isEmpty then (s.accept c).startCmd else s.accept c

/-- Writing a request register: ignored while BUSY (R33). -/
def State.reqWrite (s : State) (ch i v : Nat) : State :=
  if s.is (GLB_BKT_STAT_BUSY ch) then s else s.put (GLB_BKT_REQ_DATA ch i) v

/-- The 64 request bytes of a command (R33). -/
def requestBytes (op seq : Nat) (args : Bytes) : Bytes := leBytes 2 op ++ leBytes 2 seq ++ fit 60 args

/-- Writing the sixteen request registers of channel ch. -/
def State.fillRequest (s : State) (ch : Nat) (b : Bytes) : State :=
  (List.range 16).foldl (fun s i => s.reqWrite ch i (leAt b (4 * i) 4)) s

/-- The state once a command's request has been written and accepted. -/
def State.accepted (s : State) (c : BktCmd) : State := (s.fillRequest c.ch (requestBytes c.op c.seq c.args)).accept c

/-- A bucket command placed on channel ch by host software: the sixteen request registers, then GO. -/
def State.bktSubmit (s : State) (ch op seq : Nat) (args : Bytes) : State :=
  if !s.firmware || decide (64 ≤ ch) then s
  else (s.fillRequest ch (requestBytes op seq args)).bktGo ch

/-! ## The end of a command (R36) -/

/-- The end of a command whose effect comes at its end. (DEDUCED, log 93) -/
def State.endCmd (s : State) (c : BktCmd) (io : BktIo) : BktStage × State :=
  match c.op with
  | 0x0200 => let (st, res) := endOeRead c io; (.ready st res, s)
  | 0x0201 => let (st, res) := endOeWrite io; (.ready st res, s)
  | 0x1105 => match s.vault.change with
    | some t => s.endChange t
    | none => answer 5 s
  | 0x1106 => match s.vault.change with
    | some t => s.endChange t
    | none => answerOk [] s
  | 0x1112 => endKeyDerive c s
  | 0x1113 => endKeyWrap c s
  | 0x1114 => endKeyUnwrap c s
  | _ => answerOk [] s

/-- A command that waits: WEL_FLUSH ends once the frame that had started has gone (R183); SPT_MODE reports no answer of its partner within the
bound (R340), and TRK_LANE_READMIT times out (R80). -/
def State.endWait (s : State) (c : BktCmd) (io : BktIo) : BktStage × State :=
  match s.cis.flush with
  | some (n, k) => if s.sending n then (.waiting, s) else (.ready 0 (leBytes 4 k), { s with cis := { s.cis with flush := none } })
  | none =>
  if io ≠ .noAnswer then (.waiting, s)
  else match c.op with
    | 0x0A00 =>
      let n := c.byte 4
      (.ready 0 [2#8], s.setSpout n { s.spout n with entering := 0, exiting := false, byCommand := false })
    | 0x0202 => (.ready 6 [], { s with trunk := { s.trunk with readmit := none, joining := false, joinAt := none, byPeer := false } })
    | _ => (.waiting, s)

/-- What follows the response of a command: the warm reset of R521, the forced reset on entry to Scrapped (R474), and the BIST hold
of R540. -/
def State.afterCmd (s : State) (c : BktCmd) (st : Nat) : State :=
  if st ≠ 0 then s
  else if c.op = 0x0101 then s.warmReset 3
  else if c.op = 0x1105 ∧ s.get SEC_STAT_LC = 5 then (s.put FLT_STAT_FROZEN 1).warmReset 5
  else if c.op = 0x1202 then s.enterBist (c.le 8 2)
  else s

/-- R36 to R38. BUCKET_COMPLETE. -/
def execBucketComplete (io : BktIo) (s : State) : Host.Outcome State Fault Refusal :=
  .next (match s.bkt.queue with
  | [] => s
  | c :: _ =>
    if !s.firmware || s.power.dryEntry then s
    else
      let (g, s) := match s.bkt.stage with
        | .atEnd => s.endCmd c io
        | .waiting => s.endWait c io
        | g => (g, s)
      match g with
      | .ready st res => ((s.finishCmd c st res).afterCmd c st).startCmd
      | g => staged (g, s))

end Sys2Proof.Machine
end

