-- ==== Sys2Proof/Machine/RegTable.lean ====
section
/-! DEFINITION. The register table that host accesses go through: for each register kind its base, its array dimensions, and its fields with their access codes (R14). -/
namespace Sys2Proof.Machine

/-- Register kinds of block GLB (R552). -/
def rowsGLB : List RegRow := [
  ⟨0x10004000, [(0x100, 64), (0x4, 16)], fun ix => [(GLB_BKT_REQ_DATA (ix 0) (ix 1), .rw)]⟩,
  ⟨0x10004040, [(0x100, 64), (0x4, 16)], fun ix => [(GLB_BKT_RSP_DATA (ix 0) (ix 1), .ro)]⟩,
  ⟨0x10004080, [(0x100, 64)], fun ix => [(GLB_BKT_CTRL_IRQ_EN (ix 0), .rw), (GLB_BKT_CTRL_GO (ix 0), .w1s)]⟩,
  ⟨0x10004084, [(0x100, 64)], fun ix => [(GLB_BKT_STAT_LAST_SEQ (ix 0), .ro), (GLB_BKT_STAT_REJ (ix 0), .w1c), (GLB_BKT_STAT_DONE (ix 0), .w1c), (GLB_BKT_STAT_BUSY (ix 0), .ro)]⟩,
  ⟨0x10000100, [], fun _ => [(GLB_HUB_STAT_STBY_ACT, .ro), (GLB_HUB_STAT_STBY_HELD, .ro), (GLB_HUB_STAT_ISLAND, .ro), (GLB_HUB_STAT_TRK_UP, .ro), (GLB_HUB_STAT_SYS_RUN, .ro), (GLB_HUB_STAT_ROLE, .ro)]⟩,
  ⟨0x10000110, [], fun _ => [(GLB_WAKE_SRC_WOKE, .ro), (GLB_WAKE_SRC_ENTRY, .ro), (GLB_WAKE_SRC_SRC, .ro), (GLB_WAKE_SRC_DRY_SEC, .ro)]⟩,
  ⟨0x10000000, [], fun _ => [(GLB_ID_PART, .ro), (GLB_ID_MAJOR, .ro), (GLB_ID_MINOR, .ro)]⟩,
  ⟨0x10000008, [], fun _ => [(GLB_CAP0_PUMPS, .ro)]⟩,
  ⟨0x1000000C, [], fun _ => [(GLB_CAP1_CTX_HI, .ro), (GLB_CAP1_DISPLAY, .ro), (GLB_CAP1_CASCADE, .ro), (GLB_CAP1_WIDE, .ro), (GLB_CAP1_SPOUTS, .ro)]⟩,
  ⟨0x10000010, [], fun _ => [(GLB_TIME_LO_TIME, .ro)]⟩,
  ⟨0x10000014, [], fun _ => [(GLB_TIME_HI_TIME, .ro)]⟩,
  ⟨0x10000020, [], fun _ => [(GLB_SCRATCH_DATA, .rw)]⟩
  ]

/-- Register kinds of block TRK (R552). -/
def rowsTRK : List RegRow := [
  ⟨0x10020000, [], fun _ => [(TRK_CTRL_LANE_EN, .rw), (TRK_CTRL_PRESET, .rw), (TRK_CTRL_MAX_RATE, .rw), (TRK_CTRL_AUTO, .rw), (TRK_CTRL_PRIME, .w1s)]⟩,
  ⟨0x10020004, [], fun _ => [(TRK_PRIME_STAT_ATTEMPTS, .ro), (TRK_PRIME_STAT_CAUSE, .ro), (TRK_PRIME_STAT_RX_LANES, .ro), (TRK_PRIME_STAT_TX_LANES, .ro), (TRK_PRIME_STAT_RATE, .ro), (TRK_PRIME_STAT_STATE, .ro)]⟩,
  ⟨0x10020008, [], fun _ => [(TRK_PRIME_TIME_TIME, .ro)]⟩,
  ⟨0x1002000C, [], fun _ => [(TRK_PWR_RX_STATE, .ro), (TRK_PWR_TX_STATE, .ro), (TRK_PWR_IDLE, .rwc 1 1000), (TRK_PWR_L2D_REQ, .rw), (TRK_PWR_L0Q_EN, .rw)]⟩,
  ⟨0x10020010, [], fun _ => [(TRK_OE_LOS_LATCH, .w1c), (TRK_OE_FLT_LATCH, .w1c), (TRK_OE_LOS, .ro), (TRK_OE_FLT, .ro), (TRK_OE_EN, .rw)]⟩,
  ⟨0x10020100, [(0x40, 4)], fun ix => [(TRK_LANE_CTRL_PRBS_CLR (ix 0), .w1s), (TRK_LANE_CTRL_ADAPT_HOLD (ix 0), .rw), (TRK_LANE_CTRL_EQ_OVR (ix 0), .rw), (TRK_LANE_CTRL_SQ_MODE (ix 0), .rwc 0 2)]⟩,
  ⟨0x10020104, [(0x40, 4)], fun ix => [(TRK_LANE_EQ_POST (ix 0), .rwc 0 63), (TRK_LANE_EQ_MAIN (ix 0), .rwc 0 63), (TRK_LANE_EQ_PRE (ix 0), .rwc 0 63)]⟩,
  ⟨0x10020108, [(0x40, 4)], fun ix => [(TRK_LANE_RXEQ0_DFE4 (ix 0), .ro), (TRK_LANE_RXEQ0_DFE3 (ix 0), .ro), (TRK_LANE_RXEQ0_DFE2 (ix 0), .ro), (TRK_LANE_RXEQ0_DFE1 (ix 0), .ro), (TRK_LANE_RXEQ0_CTLE (ix 0), .ro)]⟩,
  ⟨0x1002010C, [(0x40, 4)], fun ix => [(TRK_LANE_RXEQ1_DFE5 (ix 0), .ro)]⟩,
  ⟨0x10020110, [(0x40, 4)], fun ix => [(TRK_LANE_STAT_REMOVED (ix 0), .w1c), (TRK_LANE_STAT_PRBS_ERR (ix 0), .w1c), (TRK_LANE_STAT_PSTATE (ix 0), .ro), (TRK_LANE_STAT_QUAL (ix 0), .ro), (TRK_LANE_STAT_LOGICAL (ix 0), .ro), (TRK_LANE_STAT_POL_INV (ix 0), .ro), (TRK_LANE_STAT_IN_SVC (ix 0), .ro), (TRK_LANE_STAT_LOL (ix 0), .ro), (TRK_LANE_STAT_LOS (ix 0), .ro)]⟩,
  ⟨0x10020114, [(0x40, 4)], fun ix => [(TRK_LANE_THR_BURST_MAX (ix 0), .rwc 1 255), (TRK_LANE_THR_LOL_SLIPS (ix 0), .rwc 1 15), (TRK_LANE_THR_LOS_TIME (ix 0), .rwc 0 19), (TRK_LANE_THR_LOS_LVL (ix 0), .rw)]⟩,
  ⟨0x10020118, [(0x40, 4)], fun ix => [(TRK_LANE_INJ_PRBS_ERR (ix 0), .w1s), (TRK_LANE_INJ_BURST (ix 0), .rw), (TRK_LANE_INJ_LOL (ix 0), .rw), (TRK_LANE_INJ_LOS (ix 0), .rw)]⟩,
  ⟨0x10020120, [(0x40, 4)], fun ix => [(TRK_LANE_BITS_LO_BITS (ix 0), .ro)]⟩,
  ⟨0x10020124, [(0x40, 4)], fun ix => [(TRK_LANE_BITS_HI_BITS (ix 0), .ro)]⟩,
  ⟨0x10020128, [(0x40, 4)], fun ix => [(TRK_LANE_ERRS_ERRS (ix 0), .ro)]⟩
  ]

/-- Register kinds of block CND (R552). -/
def rowsCND : List RegRow := [
  ⟨0x10030000, [], fun _ => [(CND_CTRL_CNT_CLR, .w1s), (CND_CTRL_PACK_WIN, .rw)]⟩,
  ⟨0x10030004, [], fun _ => [(CND_RETRY_REPLAY_MAX, .rwc 1 15), (CND_RETRY_NAK_HOLD, .rwc 5 2000), (CND_RETRY_TIMEOUT, .rwc 10 2000)]⟩,
  ⟨0x10030008, [], fun _ => [(CND_CRED_INIT_SPO, .rwc 16 16384), (CND_CRED_INIT_CTL, .rwc 16 16384)]⟩,
  ⟨0x1003000C, [], fun _ => [(CND_SEQ_TX_NEXT, .ro), (CND_SEQ_RX_EXPECT, .ro)]⟩,
  ⟨0x10030010, [], fun _ => [(CND_REPLAY_STAT_OLD_TX, .ro), (CND_REPLAY_STAT_REPLAYING, .ro), (CND_REPLAY_STAT_HELD, .ro)]⟩,
  ⟨0x10030014, [], fun _ => [(CND_CRED_STAT_SPO_AVAIL, .ro), (CND_CRED_STAT_CTL_AVAIL, .ro)]⟩,
  ⟨0x10030020, [], fun _ => [(CND_INJ_ACK_HOLD, .rw), (CND_INJ_NAK_DROP, .rw), (CND_INJ_UNCORR, .w1s), (CND_INJ_HCRC, .w1s)]⟩,
  ⟨0x10030100, [(0x4, 16)], fun ix => [(CND_CNT_COUNT (ix 0), .ro)]⟩
  ]

/-- Register kinds of block ALT (R552). -/
def rowsALT : List RegRow := [
  ⟨0x10040000, [], fun _ => [(ALT_CTRL_SLEW, .rwc 1 16), (ALT_CTRL_DEGRADE, .rw)]⟩,
  ⟨0x10040004, [], fun _ => [(ALT_CAL_STAT_BASE, .ro), (ALT_CAL_STAT_VALID_B, .ro), (ALT_CAL_STAT_VALID_A, .ro), (ALT_CAL_STAT_PROFILE, .ro), (ALT_CAL_STAT_ALIGNED, .ro), (ALT_CAL_STAT_FAILOVER, .ro), (ALT_CAL_STAT_SWAP_ARMED, .ro), (ALT_CAL_STAT_TBL, .ro), (ALT_CAL_STAT_LANES, .ro)]⟩,
  ⟨0x10040008, [], fun _ => [(ALT_CYCLE_CYCLE, .ro)]⟩,
  ⟨0x1004000C, [], fun _ => [(ALT_SWAP_AT_CYCLE, .ro)]⟩,
  ⟨0x10040010, [], fun _ => [(ALT_CAL_PHASE_PHASE, .rwc 0 4294967295)]⟩,
  ⟨0x10040014, [], fun _ => [(ALT_PHASE_ERR_ERR, .ro)]⟩,
  ⟨0x10040020, [(0x4, 4)], fun ix => [(ALT_CNT_COUNT (ix 0), .clr)]⟩,
  ⟨0x10040100, [(0x10, 256)], fun ix => [(ALT_ALLOT_RATE_RATE (ix 0), .rwc 0 204000)]⟩,
  ⟨0x10040104, [(0x10, 256)], fun ix => [(ALT_ALLOT_CFG_EN (ix 0), .rw), (ALT_ALLOT_CFG_SLICE (ix 0), .rw), (ALT_ALLOT_CFG_SCHED (ix 0), .rw), (ALT_ALLOT_CFG_MAXSEG (ix 0), .rwc 1 8)]⟩,
  ⟨0x10040108, [(0x10, 256)], fun ix => [(ALT_ALLOT_STAT_SPAN (ix 0), .ro), (ALT_ALLOT_STAT_SLOTS (ix 0), .ro)]⟩,
  ⟨0x10060000, [(0x4000, 2), (0x1000, 4), (0x4, 1024)], fun ix => [(ALT_CAL_ENT_OWN (ix 0) (ix 1) (ix 2), .rw), (ALT_CAL_ENT_ALLOT (ix 0) (ix 1) (ix 2), .rw)]⟩,
  ⟨0x10050000, [(0x2000, 8)], fun ix => [(ALT_GCL_CTRL_CFG_CHANGE (ix 0), .w1s), (ALT_GCL_CTRL_ENABLE (ix 0), .rw), (ALT_GCL_CTRL_PENDING (ix 0), .ro), (ALT_GCL_CTRL_LEN (ix 0), .rwc 1 256), (ALT_GCL_CTRL_INIT (ix 0), .rw)]⟩,
  ⟨0x10050008, [(0x2000, 8)], fun ix => [(ALT_GCL_BASE_LO_BASE (ix 0), .rw)]⟩,
  ⟨0x1005000C, [(0x2000, 8)], fun ix => [(ALT_GCL_BASE_HI_BASE (ix 0), .rw)]⟩,
  ⟨0x10050010, [(0x2000, 8)], fun ix => [(ALT_GCL_CYCLE_CYCLE (ix 0), .rwc 1000 1000000000)]⟩,
  ⟨0x10050014, [(0x2000, 8)], fun ix => [(ALT_GCL_EXT_EXT (ix 0), .rwc 0 1000000)]⟩,
  ⟨0x10050018, [(0x2000, 8)], fun ix => [(ALT_GCL_STAT_OPER_LEN (ix 0), .ro), (ALT_GCL_STAT_CUR (ix 0), .ro)]⟩,
  ⟨0x1005001C, [(0x2000, 8)], fun ix => [(ALT_GCL_OVR_COUNT (ix 0), .ro)]⟩,
  ⟨0x10050800, [(0x2000, 8), (0x8, 256)], fun ix => [(ALT_GCL_AS_STATES (ix 0) (ix 1), .rw)]⟩,
  ⟨0x10050804, [(0x2000, 8), (0x8, 256)], fun ix => [(ALT_GCL_AT_INTERVAL (ix 0) (ix 1), .rwc 10 1000000000)]⟩,
  ⟨0x10070000, [(0x10, 1024)], fun ix => [(ALT_POL_RATE_RATE (ix 0), .rwc 1 100000)]⟩,
  ⟨0x10070004, [(0x10, 1024)], fun ix => [(ALT_POL_BURST_BURST (ix 0), .rwc 64 1048576)]⟩,
  ⟨0x10070008, [(0x10, 1024)], fun ix => [(ALT_POL_DROP_COUNT (ix 0), .clr)]⟩,
  ⟨0x1007000C, [(0x10, 1024)], fun ix => [(ALT_POL_CTRL_EN (ix 0), .rw)]⟩
  ]

/-- Register kinds of block WEL (R552). -/
def rowsWEL : List RegRow := [
  ⟨0x10090020, [(0x40, 512)], fun ix => [(WEL_SCHED_CLASS (ix 0), .rw), (WEL_SCHED_ALLOT_ERR (ix 0), .ro), (WEL_SCHED_ALLOT (ix 0), .rw), (WEL_SCHED_PRIO (ix 0), .rw), (WEL_SCHED_WEIGHT (ix 0), .rwc 1 4095)]⟩,
  ⟨0x10090024, [(0x40, 512)], fun ix => [(WEL_SHAPER_EN (ix 0), .rw), (WEL_SHAPER_OVH (ix 0), .rwc 0 511)]⟩,
  ⟨0x10090028, [(0x40, 512)], fun ix => [(WEL_IDLE_IDLE (ix 0), .rwc 0 204000)]⟩,
  ⟨0x1009002C, [(0x40, 512)], fun ix => [(WEL_SEND_SEND (ix 0), .rwc 0 204000)]⟩,
  ⟨0x10090030, [(0x40, 512)], fun ix => [(WEL_HICRED_HICRED (ix 0), .rwc 0 16777215)]⟩,
  ⟨0x10090034, [(0x40, 512)], fun ix => [(WEL_LOCRED_LOCRED (ix 0), .rwc 0 4294967295)]⟩,
  ⟨0x10090038, [(0x40, 512)], fun ix => [(WEL_CREDIT_CREDIT (ix 0), .ro)]⟩,
  ⟨0x10080000, [], fun _ => [(WEL_CIS_STAT_GRES, .ro), (WEL_CIS_STAT_FREE_CELLS, .ro)]⟩,
  ⟨0x10080004, [], fun _ => [(WEL_CIS_FD_FREE_FD, .ro)]⟩,
  ⟨0x10080008, [], fun _ => [(WEL_TRK_ISO_RSV, .rwc 0 16384)]⟩,
  ⟨0x10080100, [(0x8, 35)], fun ix => [(WEL_PORT_Q_HDRM (ix 0), .rwc 0 4095), (WEL_PORT_Q_QUOTA (ix 0), .rwc 0 126976)]⟩,
  ⟨0x10080104, [(0x8, 35)], fun ix => [(WEL_PORT_USE_BP (ix 0), .ro), (WEL_PORT_USE_USE (ix 0), .ro)]⟩,
  ⟨0x10080400, [(0x4, 16)], fun ix => [(WEL_SUMP_CNT_COUNT (ix 0), .clr)]⟩,
  ⟨0x10080800, [], fun _ => [(WEL_DIP_CTRL_EN, .rw), (WEL_DIP_CTRL_STOP, .rw), (WEL_DIP_CTRL_FULL, .ro), (WEL_DIP_CTRL_POINTS, .rw), (WEL_DIP_CTRL_CAUSES, .rw)]⟩,
  ⟨0x10080804, [], fun _ => [(WEL_DIP_RING_SIZE, .rwc 1 8192), (WEL_DIP_RING_BASE, .rwc 0 255)]⟩,
  ⟨0x10080808, [], fun _ => [(WEL_DIP_MATCH0_PORT_MASK, .rw), (WEL_DIP_MATCH0_PORT, .rw), (WEL_DIP_MATCH0_WELL_MASK, .rw), (WEL_DIP_MATCH0_WELL, .rw)]⟩,
  ⟨0x1008080C, [], fun _ => [(WEL_DIP_MATCH1_CTX_MASK, .rw), (WEL_DIP_MATCH1_CTX, .rw)]⟩,
  ⟨0x10080810, [], fun _ => [(WEL_DIP_SAMPLE_N_M1, .rw)]⟩,
  ⟨0x10080814, [], fun _ => [(WEL_DIP_WPTR_WRAPS, .ro), (WEL_DIP_WPTR_INDEX, .ro)]⟩,
  ⟨0x10080818, [], fun _ => [(WEL_DIP_MISS_COUNT, .clr)]⟩,
  ⟨0x10090000, [(0x40, 512)], fun ix => [(WEL_CFG_EN (ix 0), .rw), (WEL_CFG_ISL_MODE (ix 0), .rw), (WEL_CFG_BP_PRI (ix 0), .rw), (WEL_CFG_SLICE (ix 0), .rw), (WEL_CFG_PORT (ix 0), .rw)]⟩,
  ⟨0x10090004, [(0x40, 512)], fun ix => [(WEL_HIMARK_HIGH (ix 0), .rwc 1 126976)]⟩,
  ⟨0x10090008, [(0x40, 512)], fun ix => [(WEL_LOMARK_LOW (ix 0), .rwc 0 126976)]⟩,
  ⟨0x1009000C, [(0x40, 512)], fun ix => [(WEL_AGE_LIMIT (ix 0), .rwc 10 1000000)]⟩,
  ⟨0x10090010, [(0x40, 512)], fun ix => [(WEL_DEPTH_CONG (ix 0), .ro), (WEL_DEPTH_CELLS (ix 0), .ro)]⟩,
  ⟨0x10090014, [(0x40, 512)], fun ix => [(WEL_FEED_HIGHPORTS (ix 0), .ro), (WEL_FEED_PORTS (ix 0), .ro)]⟩,
  ⟨0x10090018, [(0x40, 512)], fun ix => [(WEL_AGED_COUNT (ix 0), .clr)]⟩,
  ⟨0x1009001C, [(0x40, 512)], fun ix => [(WEL_SHED_COUNT (ix 0), .clr)]⟩
  ]

/-- Register kinds of block PMP (R552). -/
def rowsPMP : List RegRow := [
  ⟨0x10100000, [(0x1000, 32)], fun ix => [(PMP_STAT_GATED (ix 0), .ro), (PMP_STAT_SUBST (ix 0), .ro), (PMP_STAT_ACTIVE (ix 0), .ro)]⟩,
  ⟨0x10100008, [(0x1000, 32)], fun ix => [(PMP_ISSUE_LO_COUNT (ix 0), .ro)]⟩,
  ⟨0x1010000C, [(0x1000, 32)], fun ix => [(PMP_ISSUE_HI_COUNT (ix 0), .ro)]⟩,
  ⟨0x10100010, [(0x1000, 32)], fun ix => [(PMP_IC_MISS_COUNT (ix 0), .clr)]⟩,
  ⟨0x10100100, [(0x1000, 32), (0x4, 32)], fun ix => [(PMP_THR_STATE (ix 0) (ix 1), .ro), (PMP_THR_STEPS (ix 0) (ix 1), .ro), (PMP_THR_CTX (ix 0) (ix 1), .ro)]⟩,
  ⟨0x10180000, [(0x4, 256)], fun ix => [(PMP_PAGE_STATE (ix 0), .ro), (PMP_PAGE_SLICE (ix 0), .ro)]⟩,
  ⟨0x10190000, [(0x4, 64)], fun ix => [(PMP_LDSEL_PAGE (ix 0), .rw)]⟩,
  ⟨0x101C0000, [(0x1000, 64), (0x4, 1024)], fun ix => [(PMP_LDWIN_DATA (ix 0) (ix 1), .rw)]⟩
  ]

/-- Register kinds of block CTX (R552). -/
def rowsCTX : List RegRow := [
  ⟨0x10200000, [(0x100, 1024)], fun ix => [(CTX_STATE_TRAP (ix 0), .ro), (CTX_STATE_ACTIVE (ix 0), .ro), (CTX_STATE_CHK (ix 0), .ro), (CTX_STATE_STATE (ix 0), .rw)]⟩,
  ⟨0x10200004, [(0x100, 1024)], fun ix => [(CTX_CFG_ORDER (ix 0), .rw), (CTX_CFG_EARLY (ix 0), .rw), (CTX_CFG_PRI (ix 0), .rw), (CTX_CFG_STOP (ix 0), .rw), (CTX_CFG_MAXTHR (ix 0), .rwc 1 31), (CTX_CFG_PUMP (ix 0), .rw)]⟩,
  ⟨0x10200008, [(0x100, 1024)], fun ix => [(CTX_ENTRY_ENTRY (ix 0), .rw)]⟩,
  ⟨0x1020000C, [(0x100, 1024)], fun ix => [(CTX_OWNER_SLICE (ix 0), .rw), (CTX_OWNER_GEN (ix 0), .ro)]⟩,
  ⟨0x10200010, [(0x100, 1024)], fun ix => [(CTX_KEY_KEN (ix 0), .rw), (CTX_KEY_SLOT (ix 0), .rw)]⟩,
  ⟨0x10200014, [(0x100, 1024)], fun ix => [(CTX_WELL_WELL (ix 0), .rw)]⟩,
  ⟨0x10200018, [(0x100, 1024)], fun ix => [(CTX_BUDGET_STEPS (ix 0), .rwc 64 65535)]⟩,
  ⟨0x1020001C, [(0x100, 1024)], fun ix => [(CTX_FAULT_CODE (ix 0), .ro), (CTX_FAULT_PC (ix 0), .ro)]⟩,
  ⟨0x10200020, [(0x100, 1024)], fun ix => [(CTX_POL_TOK_TOKENS (ix 0), .ro)]⟩,
  ⟨0x10200024, [(0x100, 1024)], fun ix => [(CTX_DISP_COUNT (ix 0), .clr)]⟩,
  ⟨0x10200028, [(0x100, 1024)], fun ix => [(CTX_INSTR_LO_COUNT (ix 0), .clr)]⟩,
  ⟨0x1020002C, [(0x100, 1024)], fun ix => [(CTX_INSTR_HI_COUNT (ix 0), .ro)]⟩,
  ⟨0x10200030, [(0x100, 1024)], fun ix => [(CTX_FAULTS_COUNT (ix 0), .clr)]⟩,
  ⟨0x10200034, [(0x100, 1024)], fun ix => [(CTX_DROPS_COUNT (ix 0), .clr)]⟩,
  ⟨0x10200040, [(0x100, 1024), (0x8, 8)], fun ix => [(CTX_USER_LO_DATA (ix 0) (ix 1), .rw)]⟩,
  ⟨0x10200044, [(0x100, 1024), (0x8, 8)], fun ix => [(CTX_USER_HI_DATA (ix 0) (ix 1), .rw)]⟩,
  ⟨0x10240000, [(0x4, 35)], fun ix => [(CTX_PORT_DEF_EN (ix 0), .rw), (CTX_PORT_DEF_CTX (ix 0), .rw)]⟩,
  ⟨0x10241000, [(0x100, 8), (0x8, 16)], fun ix => [(CTX_ETH_CLS0_EN (ix 0) (ix 1), .rw), (CTX_ETH_CLS0_M_VID (ix 0) (ix 1), .rw), (CTX_ETH_CLS0_M_PCP (ix 0) (ix 1), .rw), (CTX_ETH_CLS0_M_ETYPE (ix 0) (ix 1), .rw), (CTX_ETH_CLS0_VID (ix 0) (ix 1), .rw), (CTX_ETH_CLS0_PCP (ix 0) (ix 1), .rw), (CTX_ETH_CLS0_PCP_MASK (ix 0) (ix 1), .rw), (CTX_ETH_CLS0_CTX (ix 0) (ix 1), .rw)]⟩,
  ⟨0x10241004, [(0x100, 8), (0x8, 16)], fun ix => [(CTX_ETH_CLS1_ETYPE (ix 0) (ix 1), .rw)]⟩
  ]

/-- Register kinds of block BRG (R552). -/
def rowsBRG : List RegRow := [
  ⟨0x10600000, [], fun _ => [(BRG_CTRL_LF_POP, .w1s), (BRG_CTRL_COMPAT, .rw)]⟩,
  ⟨0x10600004, [], fun _ => [(BRG_ORD_MODE, .ro), (BRG_ORD_DRAIN, .ro), (BRG_ORD_SLOTS, .ro), (BRG_ORD_DRD_TO, .rwc 1 16000)]⟩,
  ⟨0x10600008, [], fun _ => [(BRG_TIMERS_RD_TO, .rwc 10 5000)]⟩,
  ⟨0x1060000C, [], fun _ => [(BRG_TAG_STAT_UP_USED, .ro), (BRG_TAG_STAT_DN_USED, .ro)]⟩,
  ⟨0x10600010, [], fun _ => [(BRG_BAR2_SLOT, .ro)]⟩,
  ⟨0x10600020, [], fun _ => [(BRG_LATE_FAULT0_ADDR, .ro)]⟩,
  ⟨0x10600024, [], fun _ => [(BRG_LATE_FAULT1_ADDR, .ro)]⟩,
  ⟨0x10600028, [], fun _ => [(BRG_LATE_FAULT2_GEN, .ro), (BRG_LATE_FAULT2_SLICE, .ro), (BRG_LATE_FAULT2_TAG, .ro)]⟩,
  ⟨0x1060002C, [], fun _ => [(BRG_LATE_FAULT3_CAUSE, .ro), (BRG_LATE_FAULT3_WIN, .ro), (BRG_LATE_FAULT3_DEPTH, .ro), (BRG_LATE_FAULT3_VALID, .ro)]⟩,
  ⟨0x10600030, [], fun _ => [(BRG_LATE_FAULT4_TIME, .ro)]⟩,
  ⟨0x10600034, [], fun _ => [(BRG_LATE_FAULT5_TIME, .ro)]⟩,
  ⟨0x10600040, [(0x4, 8)], fun ix => [(BRG_CNT_COUNT (ix 0), .clr)]⟩,
  ⟨0x10601000, [(0x10, 64)], fun ix => [(BRG_WIN_CFG_EN (ix 0), .rw), (BRG_WIN_CFG_WMODE (ix 0), .rw), (BRG_WIN_CFG_SLICE (ix 0), .rw), (BRG_WIN_CFG_HUB (ix 0), .rw), (BRG_WIN_CFG_SPACE (ix 0), .rw), (BRG_WIN_CFG_SIZE (ix 0), .rwc 0 31)]⟩,
  ⟨0x10601004, [(0x10, 64)], fun ix => [(BRG_WIN_TGT_LO_BASE (ix 0), .rw)]⟩,
  ⟨0x10601008, [(0x10, 64)], fun ix => [(BRG_WIN_TGT_HI_BASE (ix 0), .rw)]⟩,
  ⟨0x1060100C, [(0x10, 64)], fun ix => [(BRG_WIN_STAT_WERR (ix 0), .w1c), (BRG_WIN_STAT_BUSY (ix 0), .ro)]⟩
  ]

/-- Register kinds of block MSG (R552). -/
def rowsMSG : List RegRow := [
  ⟨0x11100000, [(0x4, 4096)], fun ix => [(MSG_RT_EN (ix 0), .rw), (MSG_RT_SLICE (ix 0), .rw), (MSG_RT_PORT (ix 0), .rw), (MSG_RT_TARGET (ix 0), .rw)]⟩,
  ⟨0x11110000, [(0x80, 21), (0x4, 32)], fun ix => [(MSG_EVT_MAP_EN (ix 0) (ix 1), .rw), (MSG_EVT_MAP_INST (ix 0) (ix 1), .rw), (MSG_EVT_MAP_BASE (ix 0) (ix 1), .rw)]⟩,
  ⟨0x11120000, [(0x4, 64)], fun ix => [(MSG_VEC_RANGE_COUNT (ix 0), .rwc 0 4095), (MSG_VEC_RANGE_BASE (ix 0), .rw)]⟩,
  ⟨0x11121000, [(0x4, 6)], fun ix => [(MSG_CNT_COUNT (ix 0), .clr)]⟩
  ]

/-- Register kinds of block SLC (R552). -/
def rowsSLC : List RegRow := [
  ⟨0x10700000, [(0x400, 64)], fun ix => [(SLC_BIND_BOUND (ix 0), .ro), (SLC_BIND_PASID (ix 0), .ro)]⟩,
  ⟨0x10700004, [(0x400, 64)], fun ix => [(SLC_STAT_RESETTING (ix 0), .ro), (SLC_STAT_REMOVING (ix 0), .ro), (SLC_STAT_RESETS (ix 0), .ro), (SLC_STAT_GEN (ix 0), .ro)]⟩,
  ⟨0x10700008, [(0x400, 64)], fun ix => [(SLC_PORTS_PORTS (ix 0), .rw)]⟩,
  ⟨0x1070000C, [(0x400, 64)], fun ix => [(SLC_RCTX_COUNT (ix 0), .rwc 0 1024), (SLC_RCTX_BASE (ix 0), .rwc 32 1023)]⟩,
  ⟨0x10700010, [(0x400, 64)], fun ix => [(SLC_GEN_DROP_COUNT (ix 0), .clr)]⟩,
  ⟨0x10700014, [(0x400, 64)], fun ix => [(SLC_DENY_COUNT (ix 0), .clr)]⟩
  ]

/-- Register kinds of block SPT (R552). -/
def rowsSPT : List RegRow := [
  ⟨0x10800000, [(0x1000, 16)], fun ix => [(SPT_CFG_TRY (ix 0), .rwc 0 2), (SPT_CFG_RP (ix 0), .rwc 0 2), (SPT_CFG_MODE (ix 0), .rw)]⟩,
  ⟨0x10800004, [(0x1000, 16)], fun ix => [(SPT_POLICY_SWAP_EN (ix 0), .rw), (SPT_POLICY_AUTO_ALT (ix 0), .rw), (SPT_POLICY_VCS_ACC (ix 0), .rw), (SPT_POLICY_DR_WANT (ix 0), .rw), (SPT_POLICY_DRS_ACC (ix 0), .rw), (SPT_POLICY_PR_WANT (ix 0), .rw), (SPT_POLICY_PRS_ACC (ix 0), .rw)]⟩,
  ⟨0x10800008, [(0x1000, 16)], fun ix => [(SPT_STAT_STATE (ix 0), .ro), (SPT_STAT_ORIENT (ix 0), .ro), (SPT_STAT_PWR_ROLE (ix 0), .ro), (SPT_STAT_DATA_ROLE (ix 0), .ro), (SPT_STAT_VCONN (ix 0), .ro), (SPT_STAT_PD (ix 0), .ro), (SPT_STAT_WET (ix 0), .ro), (SPT_STAT_PARTNER_RP (ix 0), .ro)]⟩,
  ⟨0x10800010, [(0x1000, 16), (0x4, 4)], fun ix => [(SPT_PDO_EN (ix 0) (ix 1), .rw), (SPT_PDO_VSEL (ix 0) (ix 1), .rw), (SPT_PDO_IMAX (ix 0) (ix 1), .rwc 50 500)]⟩,
  ⟨0x10800020, [(0x1000, 16)], fun ix => [(SPT_CONTRACT_VALID (ix 0), .ro), (SPT_CONTRACT_OBJPOS (ix 0), .ro), (SPT_CONTRACT_VSEL (ix 0), .ro), (SPT_CONTRACT_IOP (ix 0), .ro)]⟩,
  ⟨0x10800024, [(0x1000, 16)], fun ix => [(SPT_SWAP_STAT_KIND (ix 0), .ro), (SPT_SWAP_STAT_RESULT (ix 0), .ro), (SPT_SWAP_STAT_RETRIES (ix 0), .ro), (SPT_SWAP_STAT_COUNT (ix 0), .ro)]⟩,
  ⟨0x10800030, [(0x1000, 16)], fun ix => [(SPT_ALT_CFG_SAM_EN (ix 0), .rw), (SPT_ALT_CFG_DP_EN (ix 0), .rw), (SPT_ALT_CFG_AUTO_MODE (ix 0), .rwc 0 2)]⟩,
  ⟨0x10800034, [(0x1000, 16)], fun ix => [(SPT_ALT_STAT_MUX (ix 0), .ro), (SPT_ALT_STAT_HPD (ix 0), .ro), (SPT_ALT_STAT_SAM_UP (ix 0), .ro), (SPT_ALT_STAT_CRC_ERR (ix 0), .ro)]⟩,
  ⟨0x10800040, [(0x1000, 16)], fun ix => [(SPT_WET_CFG_WET_THR (ix 0), .rwc 5 255), (SPT_WET_CFG_CORR_THR (ix 0), .rwc 1 255), (SPT_WET_CFG_DRY_THR (ix 0), .rwc 0 255)]⟩,
  ⟨0x10800044, [(0x1000, 16)], fun ix => [(SPT_WET_STAT_LAST_YX (ix 0), .ro), (SPT_WET_STAT_DRY_CNT (ix 0), .ro), (SPT_WET_STAT_WET (ix 0), .ro), (SPT_WET_STAT_MEAS_SKIP (ix 0), .ro), (SPT_WET_STAT_WET_COUNT (ix 0), .ro)]⟩,
  ⟨0x10800048, [(0x1000, 16)], fun ix => [(SPT_LEAK_IDX_NEWEST (ix 0), .ro)]⟩,
  ⟨0x10800050, [(0x1000, 16)], fun ix => [(SPT_INJ_WET (ix 0), .rw)]⟩,
  ⟨0x10800080, [(0x1000, 16), (0x4, 16)], fun ix => [(SPT_STREAM_EN (ix 0) (ix 1), .rw), (SPT_STREAM_CTX (ix 0) (ix 1), .rw)]⟩,
  ⟨0x10800100, [(0x1000, 16), (0x4, 32)], fun ix => [(SPT_LEAK_LOG_VALID (ix 0) (ix 1), .ro), (SPT_LEAK_LOG_G (ix 0) (ix 1), .ro)]⟩
  ]

/-- Register kinds of block HSW (R552). -/
def rowsHSW : List RegRow := [
  ⟨0x10900000, [(0x100, 16)], fun ix => [(HSW_CFG_EN (ix 0), .rw), (HSW_CFG_ILIM_PCT (ix 0), .rwc 110 200), (HSW_CFG_OC_MAX (ix 0), .rwc 10 140), (HSW_CFG_SHUNT (ix 0), .rwc 2 40)]⟩,
  ⟨0x10900004, [(0x100, 16)], fun ix => [(HSW_WIN_OV_PCT (ix 0), .rwc 105 120), (HSW_WIN_UV_PCT (ix 0), .rwc 80 95)]⟩,
  ⟨0x10900008, [(0x100, 16)], fun ix => [(HSW_TIMERS_PRE_TO (ix 0), .rwc 5 500), (HSW_TIMERS_RETRY (ix 0), .rwc 5 600), (HSW_TIMERS_INS_DLY (ix 0), .rwc 4 1000)]⟩,
  ⟨0x1090000C, [(0x100, 16)], fun ix => [(HSW_FLT_CFG_RETRY_MAX (ix 0), .rw), (HSW_FLT_CFG_SC_LIM (ix 0), .rwc 12 40), (HSW_FLT_CFG_FLT_T (ix 0), .rwc 1 500)]⟩,
  ⟨0x10900010, [(0x100, 16)], fun ix => [(HSW_STAT_STATE (ix 0), .ro), (HSW_STAT_PG (ix 0), .ro), (HSW_STAT_FWARN (ix 0), .ro), (HSW_STAT_GATE (ix 0), .ro), (HSW_STAT_PRE (ix 0), .ro), (HSW_STAT_BLEED (ix 0), .ro), (HSW_STAT_VIN_OK (ix 0), .ro), (HSW_STAT_SENSE_OK (ix 0), .ro), (HSW_STAT_REQ (ix 0), .ro), (HSW_STAT_CAUSE (ix 0), .ro), (HSW_STAT_TRIPS (ix 0), .ro)]⟩,
  ⟨0x10900014, [(0x100, 16)], fun ix => [(HSW_MEAS_VOUT (ix 0), .ro), (HSW_MEAS_VIN (ix 0), .ro)]⟩,
  ⟨0x10900018, [(0x100, 16)], fun ix => [(HSW_IMEAS_I (ix 0), .ro)]⟩,
  ⟨0x1090001C, [(0x100, 16)], fun ix => [(HSW_TRIP_CNT_COUNT (ix 0), .clr)]⟩,
  ⟨0x10900020, [(0x100, 16)], fun ix => [(HSW_CTRL_CLR_LATCH (ix 0), .w1s)]⟩,
  ⟨0x10900024, [(0x100, 16)], fun ix => [(HSW_INJ_CC_OVP (ix 0), .rw), (HSW_INJ_SENSE_OPEN (ix 0), .rw), (HSW_INJ_SC (ix 0), .w1s), (HSW_INJ_OC (ix 0), .rw)]⟩,
  ⟨0x10902000, [], fun _ => [(HSW_BUS_CFG_NOM, .rw), (HSW_BUS_CFG_WARN_PCT, .rwc 70 95)]⟩,
  ⟨0x10902004, [], fun _ => [(HSW_BUS_STAT_PFW, .ro), (HSW_BUS_STAT_REV, .ro), (HSW_BUS_STAT_PFW_LATCH, .w1c), (HSW_BUS_STAT_VCAB, .ro)]⟩
  ]

/-- Register kinds of block USB (R552). -/
def rowsUSB : List RegRow := [
  ⟨0x10A00000, [(0x4000, 4)], fun ix => [(USB_BUS_CFG_EN (ix 0), .rw), (USB_BUS_CFG_SLICE (ix 0), .rw)]⟩,
  ⟨0x10A00004, [(0x4000, 4)], fun ix => [(USB_BUS_STAT_RUN (ix 0), .ro), (USB_BUS_STAT_SUSP (ix 0), .ro), (USB_BUS_STAT_GATED (ix 0), .ro), (USB_BUS_STAT_ISL_STOP (ix 0), .ro), (USB_BUS_STAT_FRINDEX (ix 0), .ro)]⟩,
  ⟨0x10A00008, [(0x4000, 4)], fun ix => [(USB_DB_LO_ADDR (ix 0), .rw)]⟩,
  ⟨0x10A0000C, [(0x4000, 4)], fun ix => [(USB_DB_HI_ADDR (ix 0), .rw)]⟩,
  ⟨0x10A00010, [(0x4000, 4)], fun ix => [(USB_CMD_LO_ADDR (ix 0), .rw)]⟩,
  ⟨0x10A00014, [(0x4000, 4)], fun ix => [(USB_CMD_HI_ADDR (ix 0), .rw)]⟩,
  ⟨0x10A00018, [(0x4000, 4)], fun ix => [(USB_EVR_LO_ADDR (ix 0), .rw)]⟩,
  ⟨0x10A0001C, [(0x4000, 4)], fun ix => [(USB_EVR_HI_ADDR (ix 0), .rw)]⟩,
  ⟨0x10A00020, [(0x4000, 4)], fun ix => [(USB_EVR_SIZE_SIZE (ix 0), .rwc 16 65536)]⟩,
  ⟨0x10A00024, [(0x4000, 4)], fun ix => [(USB_INJ_XACT (ix 0), .w1s)]⟩,
  ⟨0x10A00040, [(0x4000, 4), (0x4, 4)], fun ix => [(USB_CNT_COUNT (ix 0) (ix 1), .clr)]⟩,
  ⟨0x10A00100, [(0x4000, 4), (0x4, 16)], fun ix => [(USB_PORTSC_STATUS (ix 0) (ix 1), .ro)]⟩,
  ⟨0x10A01000, [(0x4000, 4), (0x4, 256)], fun ix => [(USB_EP_STAT_STATE (ix 0) (ix 1), .ro), (USB_EP_STAT_LAST (ix 0) (ix 1), .ro), (USB_EP_STAT_MODE (ix 0) (ix 1), .ro), (USB_EP_STAT_ADDR (ix 0) (ix 1), .ro), (USB_EP_STAT_EPNUM (ix 0) (ix 1), .ro), (USB_EP_STAT_PORT (ix 0) (ix 1), .ro)]⟩,
  ⟨0x10A10000, [(0x4, 16)], fun ix => [(USB_SPT_MAP_EN (ix 0), .rw), (USB_SPT_MAP_PEND (ix 0), .ro), (USB_SPT_MAP_BUS (ix 0), .rw)]⟩
  ]

/-- Register kinds of block ETH (R552). -/
def rowsETH : List RegRow := [
  ⟨0x10B00000, [(0x1000, 8)], fun ix => [(ETH_CFG_EN (ix 0), .rw), (ETH_CFG_IF (ix 0), .rw), (ETH_CFG_TSCAP (ix 0), .rw), (ETH_CFG_FORCE (ix 0), .rwc 0 4), (ETH_CFG_MAXLEN (ix 0), .rwc 64 9600)]⟩,
  ⟨0x10B00004, [(0x1000, 8)], fun ix => [(ETH_STAT_LINK (ix 0), .ro), (ETH_STAT_SPEED (ix 0), .ro), (ETH_STAT_PAUSED (ix 0), .ro), (ETH_STAT_RX_HELD (ix 0), .ro), (ETH_STAT_TX_XOFF (ix 0), .ro)]⟩,
  ⟨0x10B00008, [(0x1000, 8)], fun ix => [(ETH_FC_CFG_MODE (ix 0), .rwc 0 2), (ETH_FC_CFG_HONOUR (ix 0), .rw), (ETH_FC_CFG_QUANTA (ix 0), .rwc 16 65535)]⟩,
  ⟨0x10B0000C, [(0x1000, 8)], fun ix => [(ETH_TS_LAT_TX (ix 0), .rw), (ETH_TS_LAT_RX (ix 0), .rw)]⟩,
  ⟨0x10B00010, [(0x1000, 8)], fun ix => [(ETH_TXTS_LO_TIME (ix 0), .ro)]⟩,
  ⟨0x10B00014, [(0x1000, 8)], fun ix => [(ETH_TXTS_HI_TIME (ix 0), .ro)]⟩,
  ⟨0x10B00018, [(0x1000, 8)], fun ix => [(ETH_TXTS_ID_VALID (ix 0), .ro), (ETH_TXTS_ID_POP (ix 0), .w1s), (ETH_TXTS_ID_MTYPE (ix 0), .ro), (ETH_TXTS_ID_SEQ (ix 0), .ro)]⟩,
  ⟨0x10B00040, [(0x1000, 8), (0x4, 8)], fun ix => [(ETH_CNT_COUNT (ix 0) (ix 1), .clr)]⟩,
  ⟨0x10B08000, [], fun _ => [(ETH_MDIO_CMD_GO, .w1s), (ETH_MDIO_CMD_BUSY, .ro), (ETH_MDIO_CMD_CL45, .rw), (ETH_MDIO_CMD_READ, .rw), (ETH_MDIO_CMD_PHYAD, .rw), (ETH_MDIO_CMD_DEV, .rw), (ETH_MDIO_CMD_REG, .rw)]⟩,
  ⟨0x10B08004, [], fun _ => [(ETH_MDIO_DATA_DATA, .rw)]⟩,
  ⟨0x10B08010, [], fun _ => [(ETH_PTP_CFG_EN, .rw), (ETH_PTP_CFG_DOMAIN, .rw), (ETH_PTP_CFG_PRIO1, .rw), (ETH_PTP_CFG_SLEW_MAX, .rwc 10 500)]⟩,
  ⟨0x10B08014, [], fun _ => [(ETH_PTP_STEP_THR, .rwc 1000 1000000000)]⟩,
  ⟨0x10B08018, [], fun _ => [(ETH_PTP_STAT_LOCKED, .ro), (ETH_PTP_STAT_SLAVE_VALID, .ro), (ETH_PTP_STAT_SLAVE_PORT, .ro), (ETH_PTP_STAT_STEPS, .ro), (ETH_PTP_STAT_OFFSET, .ro)]⟩
  ]

/-- Register kinds of block PCI (R552). -/
def rowsPCI : List RegRow := [
  ⟨0x10C00000, [(0x10000, 2)], fun ix => [(PCI_RP_CTRL_EN (ix 0), .rw), (PCI_RP_CTRL_PERST (ix 0), .rw), (PCI_RP_CTRL_MAX_GEN (ix 0), .rwc 1 5)]⟩,
  ⟨0x10C00004, [(0x10000, 2)], fun ix => [(PCI_RP_STAT_LINK (ix 0), .ro), (PCI_RP_STAT_GEN (ix 0), .ro), (PCI_RP_STAT_WIDTH (ix 0), .ro), (PCI_RP_STAT_ERRS (ix 0), .ro), (PCI_RP_STAT_SHORT (ix 0), .ro), (PCI_RP_STAT_ISL_DROP (ix 0), .ro)]⟩,
  ⟨0x10C00040, [(0x10000, 2)], fun ix => [(PCI_RP_MSI_LO_BASE (ix 0), .rw)]⟩,
  ⟨0x10C00044, [(0x10000, 2)], fun ix => [(PCI_RP_MSI_HI_BASE (ix 0), .rw)]⟩,
  ⟨0x10C00100, [(0x10000, 2), (0x10, 4)], fun ix => [(PCI_RP_IWIN_LO_BASE (ix 0) (ix 1), .rw)]⟩,
  ⟨0x10C00104, [(0x10000, 2), (0x10, 4)], fun ix => [(PCI_RP_IWIN_HI_BASE (ix 0) (ix 1), .rw)]⟩,
  ⟨0x10C00108, [(0x10000, 2), (0x10, 4)], fun ix => [(PCI_RP_IWIN_CFG_EN (ix 0) (ix 1), .rw), (PCI_RP_IWIN_CFG_TARGET (ix 0) (ix 1), .rw), (PCI_RP_IWIN_CFG_SLICE (ix 0) (ix 1), .rw), (PCI_RP_IWIN_CFG_CTX (ix 0) (ix 1), .rw), (PCI_RP_IWIN_CFG_SIZE (ix 0) (ix 1), .rwc 12 31)]⟩
  ]

/-- Register kinds of block DSP (R552). -/
def rowsDSP : List RegRow := [
  ⟨0x10D00000, [], fun _ => [(DSP_CTRL_EN, .rw), (DSP_CTRL_COMMIT, .w1s), (DSP_CTRL_PENDING, .ro), (DSP_CTRL_CERR, .w1c), (DSP_CTRL_RATE, .rw), (DSP_CTRL_LEAD, .rwc 1 4)]⟩,
  ⟨0x10D00004, [], fun _ => [(DSP_HTIM_HTOTAL, .rwc 0 65535), (DSP_HTIM_HACT, .rwc 640 5120)]⟩,
  ⟨0x10D00008, [], fun _ => [(DSP_VTIM_VTOTAL, .rwc 0 65535), (DSP_VTIM_VACT, .rwc 480 2160)]⟩,
  ⟨0x10D0000C, [], fun _ => [(DSP_HSYNC_POL, .rw), (DSP_HSYNC_SW, .rw), (DSP_HSYNC_FP, .rw)]⟩,
  ⟨0x10D00010, [], fun _ => [(DSP_VSYNC_POL, .rw), (DSP_VSYNC_SW, .rw), (DSP_VSYNC_FP, .rw)]⟩,
  ⟨0x10D00014, [], fun _ => [(DSP_PCLK_PCLK, .rwc 25000 1080000)]⟩,
  ⟨0x10D00018, [], fun _ => [(DSP_MVID_MVID, .ro)]⟩,
  ⟨0x10D0001C, [], fun _ => [(DSP_BG_RGB, .rw)]⟩,
  ⟨0x10D00020, [], fun _ => [(DSP_STAT_VBLANK, .ro), (DSP_STAT_LINE, .ro), (DSP_STAT_FRAMES, .ro)]⟩,
  ⟨0x10D00024, [], fun _ => [(DSP_LCMP0_EN, .rw), (DSP_LCMP0_LINE, .rw)]⟩,
  ⟨0x10D00028, [], fun _ => [(DSP_LCMP1_EN, .rw), (DSP_LCMP1_LINE, .rw)]⟩,
  ⟨0x10D00100, [(0x20, 6)], fun ix => [(DSP_LYR_CFG_EN (ix 0), .rw), (DSP_LYR_CFG_STATIC (ix 0), .rw), (DSP_LYR_CFG_SLICE (ix 0), .rw), (DSP_LYR_CFG_FMT (ix 0), .rw), (DSP_LYR_CFG_HSCL (ix 0), .rwc 0 2), (DSP_LYR_CFG_VSCL (ix 0), .rwc 0 2), (DSP_LYR_CFG_ISL (ix 0), .rwc 0 2), (DSP_LYR_CFG_ALPHA (ix 0), .rw)]⟩,
  ⟨0x10D00104, [(0x20, 6)], fun ix => [(DSP_LYR_POS_Y (ix 0), .rw), (DSP_LYR_POS_X (ix 0), .rw)]⟩,
  ⟨0x10D00108, [(0x20, 6)], fun ix => [(DSP_LYR_SIZE_H (ix 0), .rwc 1 4096), (DSP_LYR_SIZE_W (ix 0), .rwc 1 5120)]⟩,
  ⟨0x10D0010C, [(0x20, 6)], fun ix => [(DSP_LYR_RING_BASE (ix 0), .rw), (DSP_LYR_RING_LINES (ix 0), .rwc 1 4096)]⟩,
  ⟨0x10D00110, [(0x20, 6)], fun ix => [(DSP_LYR_STRIDE_STRIDE (ix 0), .rwc 0 65535)]⟩,
  ⟨0x10D00114, [(0x20, 6)], fun ix => [(DSP_LYR_AUX_AUX (ix 0), .rw)]⟩,
  ⟨0x10D00118, [(0x20, 6)], fun ix => [(DSP_LYR_STAT_ON (ix 0), .ro), (DSP_LYR_STAT_SWAP_UR (ix 0), .w1c), (DSP_LYR_STAT_CFGERR (ix 0), .w1c), (DSP_LYR_STAT_DROPS (ix 0), .ro)]⟩,
  ⟨0x10D0011C, [(0x20, 6)], fun ix => [(DSP_LYR_CNT_OVERRUN (ix 0), .ro), (DSP_LYR_CNT_UNDERRUN (ix 0), .clr)]⟩,
  ⟨0x10D00200, [(0x10, 4)], fun ix => [(DSP_OUT_CFG_EN (ix 0), .rw)]⟩,
  ⟨0x10D00204, [(0x10, 4)], fun ix => [(DSP_OUT_STAT_STATE (ix 0), .ro), (DSP_OUT_STAT_REASON (ix 0), .ro), (DSP_OUT_STAT_RETRAINS (ix 0), .ro)]⟩
  ]

/-- Register kinds of block CAS (R552). -/
def rowsCAS : List RegRow := [
  ⟨0x10E00000, [], fun _ => [(CAS_CTRL_STBY_EN, .rw), (CAS_CTRL_ACT_EN, .rw), (CAS_CTRL_EN, .rw)]⟩,
  ⟨0x10E00004, [], fun _ => [(CAS_GRP_STAT_ACT_V, .ro), (CAS_GRP_STAT_ACT, .ro), (CAS_GRP_STAT_STBY_V, .ro), (CAS_GRP_STAT_STBY, .ro), (CAS_GRP_STAT_MEMBERS, .ro), (CAS_GRP_STAT_DIRECT, .ro), (CAS_GRP_STAT_GSWAP, .ro), (CAS_GRP_STAT_SELF, .ro)]⟩,
  ⟨0x10E00100, [(0x100, 3)], fun ix => [(CAS_PORT_CTRL_INJ_DOWN (ix 0), .rw), (CAS_PORT_CTRL_EN (ix 0), .rw), (CAS_PORT_CTRL_PRESET (ix 0), .rw)]⟩,
  ⟨0x10E00104, [(0x100, 3)], fun ix => [(CAS_PORT_STAT_STATE (ix 0), .ro), (CAS_PORT_STAT_CAUSE (ix 0), .ro), (CAS_PORT_STAT_PEER_ID (ix 0), .ro), (CAS_PORT_STAT_DOWNS (ix 0), .ro)]⟩,
  ⟨0x10E00110, [(0x100, 3), (0x4, 4)], fun ix => [(CAS_PORT_CNT_COUNT (ix 0) (ix 1), .clr)]⟩
  ]

/-- Register kinds of block SEC (R552). -/
def rowsSEC : List RegRow := [
  ⟨0x10F00000, [], fun _ => [(SEC_STAT_LC, .ro), (SEC_STAT_DEBUG, .ro), (SEC_STAT_ROOT_VALID, .ro), (SEC_STAT_TEST_ROOT, .ro), (SEC_STAT_JTAG, .ro), (SEC_STAT_OWNER_SET, .ro), (SEC_STAT_TRNG_FAIL, .w1c), (SEC_STAT_PASSES, .ro)]⟩,
  ⟨0x10F00004, [], fun _ => [(SEC_CFG_FAIL_THR, .rwc 1 255), (SEC_CFG_MASK, .rwc 1 240)]⟩,
  ⟨0x10F00008, [], fun _ => [(SEC_TMP_CFG_ENCL_EN, .rw), (SEC_TMP_CFG_MESH_EN, .rw)]⟩,
  ⟨0x10F0000C, [], fun _ => [(SEC_TMP_STAT_COUNT, .ro), (SEC_TMP_STAT_REFCLK, .w1c), (SEC_TMP_STAT_TEMP, .w1c), (SEC_TMP_STAT_SUPPLY, .w1c), (SEC_TMP_STAT_ENCL, .w1c), (SEC_TMP_STAT_MESH, .w1c)]⟩,
  ⟨0x10F00010, [], fun _ => [(SEC_TMP_TIME_SECONDS, .ro)]⟩,
  ⟨0x10F00014, [], fun _ => [(SEC_VTIME_SECONDS, .ro)]⟩,
  ⟨0x10F00018, [], fun _ => [(SEC_TMP_INJ_SRC, .w1s)]⟩,
  ⟨0x10F00020, [(0x4, 4)], fun ix => [(SEC_DEVID_ID (ix 0), .ro)]⟩,
  ⟨0x10F01000, [(0x10, 128)], fun ix => [(SEC_SLOT_ATTR_ATTR (ix 0), .ro)]⟩,
  ⟨0x10F01004, [(0x10, 128)], fun ix => [(SEC_SLOT_FAIL_THR_HIT (ix 0), .clr), (SEC_SLOT_FAIL_COUNT (ix 0), .clr)]⟩
  ]

/-- Register kinds of block CLK (R552). -/
def rowsCLK : List RegRow := [
  ⟨0x10010000, [], fun _ => [(CLK_PWR_CTRL_DROWSE_EN, .rw), (CLK_PWR_CTRL_IDLE, .rwc 10 10000)]⟩,
  ⟨0x10010004, [], fun _ => [(CLK_PWR_STAT_STATE, .ro), (CLK_PWR_STAT_ENTERING_DRY, .ro)]⟩,
  ⟨0x10010008, [], fun _ => [(CLK_GATE_GATED, .ro)]⟩,
  ⟨0x1001000C, [], fun _ => [(CLK_KEEP_KEEP, .rw)]⟩,
  ⟨0x10010010, [], fun _ => [(CLK_STALL_COUNT, .clr)]⟩,
  ⟨0x10010014, [], fun _ => [(CLK_PLL_STAT_REFCLK_OK, .ro), (CLK_PLL_STAT_ROOT_LOCK, .ro), (CLK_PLL_STAT_SERDES_LOCK, .ro), (CLK_PLL_STAT_LPO_TRIM, .ro), (CLK_PLL_STAT_LPO_ERR, .ro)]⟩,
  ⟨0x10010018, [], fun _ => [(CLK_STRAP_BOOT_SRC, .ro), (CLK_STRAP_CAS_ID, .ro), (CLK_STRAP_ROLE, .ro)]⟩,
  ⟨0x1001001C, [], fun _ => [(CLK_RST_CAUSE_IMAGE, .ro), (CLK_RST_CAUSE_RESETS, .ro), (CLK_RST_CAUSE_LAST, .ro)]⟩,
  ⟨0x10010020, [], fun _ => [(CLK_WAKE_CFG_TIMER_EN, .rw), (CLK_WAKE_CFG_LIGHT_EN, .rw), (CLK_WAKE_CFG_TAMPER_EN, .rw), (CLK_WAKE_CFG_TIMER, .rwc 1 16777215)]⟩
  ]

/-- Register kinds of block FLT (R552). -/
def rowsFLT : List RegRow := [
  ⟨0x11000000, [], fun _ => [(FLT_STAT_LEVEL, .ro), (FLT_STAT_HALT, .ro), (FLT_STAT_FROZEN, .ro), (FLT_STAT_COPIED, .ro), (FLT_STAT_COPY_FAIL, .ro), (FLT_STAT_QDEPTH, .ro)]⟩,
  ⟨0x11000004, [], fun _ => [(FLT_CTRL_FLASH_COPY, .rw)]⟩,
  ⟨0x11000008, [], fun _ => [(FLT_LOG_IDX_WRAPS, .ro), (FLT_LOG_IDX_NEXT, .ro)]⟩,
  ⟨0x1100000C, [], fun _ => [(FLT_OVF_COUNT, .clr)]⟩,
  ⟨0x11000010, [], fun _ => [(FLT_TEMP_WARN, .rwc 60 110), (FLT_TEMP_CRIT, .rwc 0 255), (FLT_TEMP_NOW, .ro)]⟩,
  ⟨0x11000014, [], fun _ => [(FLT_INJ_CMD_GO, .w1s), (FLT_INJ_CMD_DET, .rw), (FLT_INJ_CMD_INST, .rw)]⟩,
  ⟨0x11000020, [], fun _ => [(FLT_BIST_CFG_BUDGET, .rwc 1 200)]⟩,
  ⟨0x11000024, [], fun _ => [(FLT_BIST_RES_RESULT, .ro), (FLT_BIST_RES_SECTOR, .ro), (FLT_BIST_RES_RAN, .ro)]⟩,
  ⟨0x11000040, [(0x4, 10)], fun ix => [(FLT_BIST_MISR_SIG (ix 0), .ro)]⟩,
  ⟨0x11000080, [], fun _ => [(FLT_IN_STAT_CHAT, .ro), (FLT_IN_STAT_STUCK, .ro)]⟩,
  ⟨0x11000084, [], fun _ => [(FLT_IN_CFG_CHAT_THR, .rwc 2 65535)]⟩,
  ⟨0x110000C0, [(0x4, 12)], fun ix => [(FLT_IN_CNT_COUNT (ix 0), .ro)]⟩,
  ⟨0x11000400, [(0x4, 71)], fun ix => [(FLT_DET_CFG_DEFAULT (ix 0), .ro), (FLT_DET_CFG_LEVEL (ix 0), .rwc 0 15), (FLT_DET_CFG_COUNT (ix 0), .ro)]⟩
  ]

/-- The register kinds of a block, by block ID (R548). -/
def blockRows : Nat → List RegRow
  | 0 => rowsGLB
  | 1 => rowsCLK
  | 2 => rowsTRK
  | 3 => rowsCND
  | 4 => rowsALT
  | 5 => rowsWEL
  | 6 => rowsPMP
  | 7 => rowsCTX
  | 8 => rowsBRG
  | 9 => rowsSLC
  | 10 => rowsSPT
  | 11 => rowsHSW
  | 12 => rowsUSB
  | 13 => rowsETH
  | 14 => rowsPCI
  | 15 => rowsDSP
  | 16 => rowsCAS
  | 17 => rowsSEC
  | 18 => rowsFLT
  | 19 => rowsMSG
  | _ => []

end Sys2Proof.Machine
end

