-- ==== Sys2Proof/Machine/RegAccess.lean ====
section
/-! DEFINITION. Access to the register space: where an address falls, who may reach it, what it reads and what a write does (R6, R12 to R16, R28, R305, R480, R547 to R552). -/
namespace Sys2Proof.Machine

/-! ## Where an address falls (R548, R552) -/

/-- The block whose extent holds an internal address, by block ID (R548). -/
def blockOf (a : Nat) : Option Nat :=
  if a < 0x10000000 then none
  else if a < 0x10040000 then some ((a - 0x10000000) / 0x10000)
  else if a < 0x10080000 then some 4
  else if a < 0x10100000 then some 5
  else if a < 0x10200000 then some 6
  else if a < 0x10600000 then some 7
  else if a < 0x11200000 then some (8 + (a - 0x10600000) / 0x100000)
  else none

/-- The indices of an offset in nested arrays of (stride, count): none where it falls between registers. -/
def locate : List (Nat × Nat) → Nat → Option (List Nat)
  | [], o => if o = 0 then some [] else none
  | (stride, count) :: l, o =>
    if o / stride < count then (locate l (o % stride)).map (fun ix => o / stride :: ix) else none

/-- The indices of address a in a row of the index. -/
def RegRow.at? (r : RegRow) (a : Nat) : Option (List Nat) := if a < r.base then none else locate r.dims (a - r.base)

/-- An index list as a function. -/
def nth (ix : List Nat) (i : Nat) : Nat := ix.getD i 0

/-- The register at address a: the base of its row, its indices and its fields; none at an unassigned offset. -/
def findReg (a : Nat) : Option (Nat × List Nat × List (Fld × Acc)) :=
  match blockOf a with
  | none => none
  | some b => (blockRows b).findSome? (fun r => (r.at? a).map (fun ix => (r.base, ix, r.fields (nth ix))))

/-! ## What is present (R5, R6, R268, R272, R341, R548) -/

/-- The unit behind address a is present: registers of absent units and instances read 0 and ignore writes. (DEDUCED, log 11) -/
def State.regPresent (s : State) (a : Nat) : Bool :=
  if 0x10070000 ≤ a ∧ a < 0x10080000 then decide ((a - 0x10070000) / 0x10 < s.nCtx)
  else if 0x10080100 ≤ a ∧ a < 0x10080218 then s.portPresent ((a - 0x10080100) / 8)
  else if 0x10100000 ≤ a ∧ a < 0x10180000 then decide ((a - 0x10100000) / 0x1000 < s.nPumps)
  else if 0x10200000 ≤ a ∧ a < 0x10240000 then decide ((a - 0x10200000) / 0x100 < s.nCtx)
  else if 0x10240000 ≤ a ∧ a < 0x10241000 then s.portPresent ((a - 0x10240000) / 4)
  else if a = 0x10600010 then s.dock
  else if 0x10601000 ≤ a ∧ a < 0x10601400 then s.dock || a % 0x10 == 0xC
  else if 0x10800000 ≤ a ∧ a < 0x10900000 then
    let n := (a - 0x10800000) / 0x1000
    let o := a % 0x1000
    decide (n < s.nSpouts) && (decide (n < s.nWide) || !(o == 0x30 || o == 0x34 || (decide (0x80 ≤ o) && decide (o < 0xC0))))
  else if 0x10900000 ≤ a ∧ a < 0x10901000 then decide ((a - 0x10900000) / 0x100 < s.nSpouts)
  else if 0x10A10000 ≤ a ∧ a < 0x10A10040 then decide ((a - 0x10A10000) / 4 < s.nSpouts)
  else if 0x10A00000 ≤ a ∧ a < 0x10A10000 ∧ 0x100 ≤ a % 0x4000 ∧ a % 0x4000 < 0x140 then decide ((a % 0x4000 - 0x100) / 4 < s.nSpouts)
  else if 0x10C00000 ≤ a ∧ a < 0x10D00000 then !s.dock
  else if 0x10D00000 ≤ a ∧ a < 0x10E00000 then s.hasDisplay
  else if 0x10E00000 ≤ a ∧ a < 0x10F00000 then s.hasCascade
  else if 0x11130000 ≤ a ∧ a < 0x11138100 then s.dock
  else true

/-! ## Who may reach it (R305) -/

/-- Slice sl, which is not 0, may reach the register at address a. -/
def State.permitted (s : State) (sl a : Nat) (write : Bool) : Bool :=
  if 0x10004000 ≤ a ∧ a < 0x10008000 then (a - 0x10004000) / 0x100 == sl
  else if 0x10040100 ≤ a ∧ a < 0x10041100 then !write && s.get (ALT_ALLOT_CFG_SLICE ((a - 0x10040100) / 0x10)) == sl
  else if 0x10090000 ≤ a ∧ a < 0x10098000 then s.get (WEL_CFG_SLICE ((a - 0x10090000) / 0x40)) == sl
  else if 0x10190000 ≤ a ∧ a < 0x10190100 then (a - 0x10190000) / 4 == sl
  else if 0x101C0000 ≤ a ∧ a < 0x10200000 then (a - 0x101C0000) / 0x1000 == sl
  else if 0x10200000 ≤ a ∧ a < 0x10240000 then
    decide ((a - 0x10200000) / 0x100 < s.nCtx) && s.ctxSlice ((a - 0x10200000) / 0x100) == sl
  else if 0x10601000 ≤ a ∧ a < 0x10601400 then
    a % 0x10 == 0xC && !s.is BRG_CTRL_COMPAT && s.get (BRG_WIN_CFG_SLICE ((a - 0x10601000) / 0x10)) == sl
  else if 0x10700000 ≤ a ∧ a < 0x10800000 then !write && (a - 0x10700000) / 0x400 == sl
  else if 0x10D00100 ≤ a ∧ a < 0x10D001C0 then !write && s.get (DSP_LYR_CFG_SLICE ((a - 0x10D00100) / 0x20)) == sl
  else if 0x11100000 ≤ a ∧ a < 0x11104000 then !write && s.get (MSG_RT_SLICE ((a - 0x11100000) / 4)) == sl
  else false

/-- The access of slice sl is refused. -/
def State.refuses (s : State) (sl a : Nat) (write : Bool) : Bool := sl != 0 && !s.permitted sl a write

/-- A refusal is counted and reported (R305). -/
def State.deny (s : State) (sl : Nat) : State := (s.bump (SLC_DENY_COUNT sl)).raiseEvery 1000000 0x0904 sl 0

/-- The field is an injection bit (R480). -/
def injField (base : Nat) (f : Fld) : Bool :=
  base == 0x10020118 || base == 0x10030020 || base == 0x10800050 || base == 0x10900024 || base == 0x10A00024 ||
    base == 0x11000014 || (base == 0x10E00100 && f.lo == 8)

/-! ## Reading -/

/-- The code of a thread state (R186). -/
def ThSt.code : ThSt → Nat
  | .idle => 0
  | .ready => 1
  | .wait => 2
  | .order => 3
  | .blocked => 4
  | .park => 5

/-- The head late-fault record. -/
def State.lateHead (s : State) : LateFault := s.brg.late.headD ⟨0, 0, 0, 0, 0, 0, 0⟩

/-- A request through window n is outstanding (R273). (DEDUCED, log 39) -/
def State.winBusy (s : State) (n : Nat) : Bool :=
  s.brg.dn.any (fun e => e.2.st == .issued && e.2.req.win == some n) || s.brg.dnWait.any (fun r => r.win == some n)

/-- Tokens of the policer of context c, in bytes (R144). -/
def State.policerTokens (s : State) (c : Nat) : Nat :=
  (s.get (ALT_POL_BURST_BURST c) * 375 - assocGet 0 s.allot.polLow c) / 375

/-- A window base with the bits below its size cleared (R273, R406). (DESIGN CHOICE, log 38) -/
def baseBits (size word v : Nat) : Nat :=
  if word = 0 then v / 2 ^ min size 32 * 2 ^ min size 32 else v / 2 ^ (size - 32) * 2 ^ (size - 32)

/-- What a field reads as, where the hub holds its value outside the register store: the row's base, its indices, the field's lowest
bit. -/
def State.liveField (s : State) (base : Nat) (ix : List Nat) (lo : Nat) : Option Nat :=
  let i := nth ix 0
  let j := nth ix 1
  match base with
  | 0x10000010 => some (s.hubTime % 2 ^ 32)
  | 0x10000014 => some (s.hubTime / 2 ^ 32 % 2 ^ 32)
  | 0x1002000C => if lo = 18 && s.rxQuiet then some 1 else none
  | 0x10020110 => if lo = 8 && s.rxQuiet && s.is (TRK_LANE_STAT_IN_SVC i) then some 1 else none
  | 0x1003000C => some (if lo = 16 then (s.link 0).txNext else (s.link 0).expect)
  | 0x10030010 =>
    let l := s.link 0
    if lo = 24 then some (min 255 (l.held.head?.elim 0 (·.tx)))
    else if lo = 16 then some (if l.replay.isEmpty then 0 else 1)
    else some l.held.length
  | 0x10030014 => some (min 0xFFFF (s.creditsLeft 0 (if lo = 16 then 2 else 1)))
  | 0x10040108 => some (if lo = 0 then (s.allotStat i).1 else (s.allotStat i).2)
  | 0x10090020 => if lo = 29 then some (if s.allotErr i then 1 else 0) else none
  | 0x10080104 => if lo = 31 then some (if s.backPressured i then 1 else 0) else none
  | 0x10100100 =>
    let th := s.thread i j
    if lo = 28 then some th.st.code
    else if th.st = .idle then some 0
    else some (if lo = 10 then min th.steps 0xFFFF else th.ctx)
  | 0x101C0000 => some (s.loadRead i j)
  | 0x1020000C => if lo = 0 then some (s.sliceGen (s.ctxSlice i)) else none
  | 0x10200020 => some (s.policerTokens i)
  | 0x1060000C => some (if lo = 0 then s.brg.dn.length else s.brg.up.length)
  | 0x10600020 => some (s.lateHead.addr % 2 ^ 32)
  | 0x10600024 => some (s.lateHead.addr / 2 ^ 32 % 2 ^ 32)
  | 0x10600028 => some (if lo = 24 then s.lateHead.gen else if lo = 16 then s.lateHead.slice else s.lateHead.tag)
  | 0x1060002C =>
    if lo = 28 then some s.lateHead.cause
    else if lo = 16 then some s.lateHead.win
    else if lo = 8 then some s.brg.late.length
    else some (if s.brg.late.isEmpty then 0 else 1)
  | 0x10600030 => some (s.lateHead.time % 2 ^ 32)
  | 0x10600034 => some (s.lateHead.time / 2 ^ 32 % 2 ^ 32)
  | 0x10601000 => if i = 0 then (if lo = 31 ∨ lo = 30 then some 1 else if lo = 8 then some 21 else none) else none
  | 0x10601004 => if i = 0 then some 0x11000000 else some (baseBits (s.get (BRG_WIN_CFG_SIZE i)) 0 (s.get (BRG_WIN_TGT_LO_BASE i)))
  | 0x10601008 => some (baseBits (s.get (BRG_WIN_CFG_SIZE i)) 1 (s.get (BRG_WIN_TGT_HI_BASE i)))
  | 0x1060100C => if lo = 0 then some (if s.winBusy i then 1 else 0) else none
  | 0x10700008 => some ((List.range 32).foldl (fun x p => if s.slicePort i p && s.portPresent p then x + 2 ^ p else x) 0)
  | 0x10B08018 =>
    if s.dock || !s.running then none
    else if lo = 30 then some (if s.is ETH_PTP_CFG_EN then 1 else 0)
    else if lo = 24 then some 0
    else none
  | 0x10C00100 => some (baseBits (s.get (PCI_RP_IWIN_CFG_SIZE i j)) 0 (s.get (PCI_RP_IWIN_LO_BASE i j)))
  | 0x10C00104 => some (baseBits (s.get (PCI_RP_IWIN_CFG_SIZE i j)) 1 (s.get (PCI_RP_IWIN_HI_BASE i j)))
  | 0x10E00004 => if lo = 0 then some s.self else none
  | 0x11000400 => if lo = 28 then some (detectorDefault i) else none
  | _ => none

/-- The value of a field as a read shows it: write-only and self-clearing fields read 0, injection bits read 0 where injection is not
permitted (R14, R480). -/
def State.fieldNow (s : State) (base : Nat) (ix : List Nat) (e : Fld × Acc) : Nat :=
  match e.2 with
  | .wo => 0
  | .w1s => 0
  | _ =>
    if injField base e.1 && !s.injectable then 0
    else match s.liveField base ix e.1.lo with
      | some v => v
      | none => s.get e.1

/-- What the 802.1AS protocol shows at a read while it runs: the last offset, LOCKED, and in dock role the slave port that
best-master selection chose. Sync and Announce messages are no commands of the model. (DEDUCED, log 160) -/
def State.sensePtp (s : State) : State :=
  if !s.running || !s.is ETH_PTP_CFG_EN || s.islanded || s.ptp.hold != 0 then s
  else
    let (k, s) := s.draw
    let off := Config.freeNat k % 65535
    let (k, s) := s.draw
    let s := (s.put ETH_PTP_STAT_OFFSET (unsigned 16 ((off : Int) - 32767))).putB ETH_PTP_STAT_LOCKED
      (decide (32667 ≤ off ∧ off ≤ 32867) && Config.freeNat k % 2 == 1)
    let (k, s) := s.draw
    let v := Config.freeNat k % 9
    if s.dock then (s.putB ETH_PTP_STAT_SLAVE_VALID (v != 0)).put ETH_PTP_STAT_SLAVE_PORT (if v = 0 then 0 else v + 3) else s

/-- What a read brings up to the moment: equaliser settings, the count of checked bits, the optical engines' fault pin, the cabinet voltage.
They stand in the store until the next read. -/
def State.sense (s : State) (base n : Nat) : State :=
  match base with
  | 0x10020010 => s.senseOe
  | 0x10020108 => s.readEq n
  | 0x1002010C => s.readEq n
  | 0x10020120 => s.prbsAdvance n
  | 0x10020124 => s.prbsAdvance n
  | 0x10B08018 => s.sensePtp
  | 0x10902004 =>
    if !s.spoutPower then s
    else
      let (k, s) := s.draw
      s.put HSW_BUS_STAT_VCAB (Config.freeNat k)
  | _ => s

/-- The address is that of the low word of a 64-bit quantity (R13). -/
def lowWord (base : Nat) : Bool :=
  [0x10000010, 0x10020120, 0x10050008, 0x10100008, 0x10200028, 0x10200040, 0x10600020, 0x10600030, 0x10601004, 0x10A00008,
    0x10A00010, 0x10A00018, 0x10B00010, 0x10C00040, 0x10C00100].contains base

/-- The word of a window register in compatibility mode (R276). -/
def State.legacyWord (s : State) (a : Nat) : Option Nat :=
  if s.is BRG_CTRL_COMPAT && decide (0x10601000 ≤ a ∧ a < 0x10601400) then
    let n := (a - 0x10601000) / 0x10
    let o := a % 0x10
    if n = 0 then none
    else if 17 ≤ n then some 0
    else if o = 0 then some (assocGet 0 s.brg.legacy (2 * n))
    else if o = 4 then some (assocGet 12 s.brg.legacy (2 * n + 1))
    else if o = 8 then some 0
    else none
  else none

/-- The word at an offset of the MSI-X table and of the pending bits (R268, R296). -/
def State.msixWord (s : State) (o : Nat) : Nat :=
  if o < 0x8000 then
    let v := s.vec (o / 16)
    match o % 16 with
    | 0 => v.addr % 2 ^ 32
    | 4 => v.addr / 2 ^ 32 % 2 ^ 32
    | 8 => v.data
    | _ => if v.masked then 1 else 0
  else
    let w := (o - 0x8000) / 4
    (List.range 32).foldl (fun x i => if (s.vec (32 * w + i)).pend then x + 2 ^ i else x) 0

/-- The operational copy of a gate-control list (R147, R552). -/
def State.operWord (s : State) (o : Nat) : Nat :=
  match (s.gcl (o / 0x2000)).oper with
  | some c =>
    let e := c.list.getD (o % 0x800 / 8) (0, 0)
    if o % 8 = 0 then e.1 else e.2
  | none => 0

/-- The word at a register address, without side effects (R12 to R15). -/
def State.word (s : State) (a : Nat) : Nat :=
  if a % 4 ≠ 0 ∨ !s.regPresent a then 0
  else if 0x11130000 ≤ a ∧ a < 0x11138100 then s.msixWord (a - 0x11130000)
  else if 0x10051000 ≤ a ∧ a < 0x10060000 ∧ a % 0x2000 / 0x1000 = 1 ∧ a % 0x1000 < 0x800 then s.operWord (a - 0x10051000)
  else match s.legacyWord a with
    | some v => v
    | none =>
      match findReg a with
      | some (base, ix, fs) => fs.foldl (fun w e => w + s.fieldNow base ix e * 2 ^ e.1.lo) 0
      | none => 0

/-- A 32-bit read of a register (R13): a low word latches the high word, and the next read of the high word takes the latch.
(DESIGN CHOICE, log 9) -/
def State.read32 (s : State) (a : Nat) : Nat × State :=
  match findReg a with
  | some (base, ix, _) =>
    let s := s.sense base (nth ix 0)
    match assocFind s.latch a with
    | some v => if lowWord (base - 4) then (v, { s with latch := assocDel a s.latch }) else (s.word a, s)
    | none =>
      if lowWord base && s.regPresent a then
        (s.word a, { s with latch := assocPut (a + 4) (s.word (a + 4)) s.latch })
      else (s.word a, s)
  | none => (s.word a, s)

/-- A read of a register by slice sl, checked under R305. A 64-bit read takes both halves at one instant, and a refusal of either
counts once (R12, R550). -/
def State.regRead (s : State) (sl a len : Nat) : Nat × State :=
  if len = 4 ∧ a % 4 = 0 then
    if s.refuses sl a false then (0, s.deny sl) else s.read32 a
  else if len = 8 ∧ a % 8 = 0 then
    let no0 := s.refuses sl a false
    let no1 := s.refuses sl (a + 4) false
    let s := match findReg a with
      | some (base, ix, _) => if no0 then s else s.sense base (nth ix 0)
      | none => s
    let v := (if no0 then 0 else s.word a) + 2 ^ 32 * (if no1 then 0 else s.word (a + 4))
    (v, if no0 || no1 then s.deny sl else s)
  else (0, s)

end Sys2Proof.Machine
end

