-- ==== Sys2Proof/Machine/RegWrite.lean ====
section
/-! DEFINITION. What a write of each register does: the access codes, the joint clamps, and the registers whose write acts on the hub (R14, R28, R163, R195, R273, R276, R305, R480). -/
namespace Sys2Proof.Machine

/-! ## Access codes (R14) -/

/-- One field under its access code; `v` is the whole word. -/
def State.writeField (s : State) (v : Nat) (e : Fld × Acc) : State :=
  let f := e.1
  let x := v / 2 ^ f.lo % 2 ^ f.w
  match e.2 with
  | .rw => s.put f x
  | .rwc lo hi => s.put f (clampNat lo hi x)
  | .w1c => s.put f (s.get f ^^^ (s.get f &&& x))
  | .clr => s.put f 0
  | _ => s

/-- Every field of a register. -/
def State.writeFields (s : State) (fs : List (Fld × Acc)) (v : Nat) : State := fs.foldl (fun s e => s.writeField v e) s

/-! ## Joint clamps and conditional fields -/

/-- A write of CLK_KEEP: bits of absent domains and bit 0 read 0 (R502). -/
def State.keepWrite (s : State) (v : Nat) : State :=
  let present := fun d =>
    if 1 ≤ d ∧ d ≤ 7 then decide (4 * d < s.nPumps)
    else if 13 ≤ d ∧ d ≤ 14 then !s.dock
    else if d = 15 then s.hasDisplay
    else if 16 ≤ d ∧ d ≤ 18 then s.hasCascade
    else decide (d ≠ 0)
  s.put CLK_KEEP_KEEP ((List.range 27).foldl (fun x d => if bit v d && present d then x + 2 ^ d else x) 0)

/-- A write of ALT_CAL_PHASE (R125, R126). (DESIGN CHOICE, log 54) -/
def State.phaseWrite (s : State) (v : Nat) : State :=
  let p := pCal (max 1 (s.get ALT_CAL_STAT_LANES)) s.calRate
  (s.put ALT_CAL_PHASE_PHASE (min v (p - 1))).startSlew

/-- A write of a calendar entry: ignored in the bank in use and in a bank armed for a swap; elsewhere it clears VALID (R129).
(DEDUCED, log 55) -/
def State.calEntWrite (s : State) (bank n slot v : Nat) : State :=
  if bank = s.bankInUse ∨ s.is ALT_CAL_STAT_SWAP_ARMED then s
  else
    let s := (s.put (ALT_CAL_ENT_OWN bank (n - 1) slot) (v / 2 ^ (ALT_CAL_ENT_OWN bank (n - 1) slot).lo)).put
      (ALT_CAL_ENT_ALLOT bank (n - 1) slot) v
    s.setValid bank n false

/-- A policer word waits for the next tick (R144). -/
def State.shadowPolicer (s : State) (c r v : Nat) : State :=
  { s with allot := { s.allot with polShadow := assocPut (c * 4 + r) v s.allot.polShadow } }

/-- A write of WEL_PORT_Q: HDRM clamps to QUOTA (R167). -/
def State.quotaWrite (s : State) (p v : Nat) : State :=
  let q := min 126976 (v % 2 ^ 17)
  ((s.put (WEL_PORT_Q_QUOTA p) q).put (WEL_PORT_Q_HDRM p) (min q (v / 2 ^ 20))).settle

/-- A write of WEL_DIP_RING: ignored while EN is 1 (R181). -/
def State.dipRing (s : State) (v : Nat) : State :=
  if s.is WEL_DIP_CTRL_EN then s
  else
    let size := clampNat 1 8192 (v / 2 ^ WEL_DIP_RING_SIZE.lo % 2 ^ WEL_DIP_RING_SIZE.w)
    (s.put WEL_DIP_RING_SIZE size).put WEL_DIP_RING_BASE (min (v % 256) (224 - ceilDiv size 64))

/-- A write of CTX_CFG by slice sl (R195, R305). -/
def State.ctxCfg (s : State) (sl c v : Nat) : State :=
  let pump := s.get (CTX_CFG_PUMP c)
  let f := [(CTX_CFG_ORDER c, Acc.rw), (CTX_CFG_EARLY c, .rw), (CTX_CFG_PRI c, .rw), (CTX_CFG_STOP c, .rw),
    (CTX_CFG_MAXTHR c, .rwc 1 31), (CTX_CFG_PUMP c, .rw)]
  let move := sl == 0 && s.mayMoveContext c
  let s := s.writeFields f v
  (if move then s else s.put (CTX_CFG_PUMP c) pump).settle

/-- A write of CTX_OWNER (R28, R195, R305): GEN is the slice's. -/
def State.ctxOwner (s : State) (sl c v : Nat) : State :=
  if sl == 0 && !isSystem c && s.mayMoveContext c then s.put (CTX_OWNER_SLICE c) (v / 2 ^ (CTX_OWNER_SLICE c).lo) else s

/-- A write of ENTRY, KEY or WELL (R28, R195): host software cannot write ENTRY and KEY of a system context. -/
def State.ctxBind (s : State) (c : Nat) (sys : Bool) (fs : List (Fld × Acc)) (v : Nat) : State :=
  if s.mayBindContext c && (sys || !isSystem c) then s.writeFields fs v else s

/-- The latest SIZE that a window may hold: up to its slot (R269, R273). -/
def State.slotSize (s : State) : Nat := s.get BRG_BAR2_SLOT

/-- A write of BRG_WIN_CFG n (R273): EN always, the other fields only while EN is 0 and nothing is outstanding; a reserved HUB
or SPACE makes the write ignored as a whole. (DEDUCED, log 40) -/
def State.winCfg (s : State) (n v : Nat) : State :=
  let hub := bits v 22 20
  let space := bits v 19 18
  if n = 0 ∨ hub = 2 ∨ hub = 3 ∨ space = 3 then s
  else
    let free := !s.is (BRG_WIN_CFG_EN n) && !s.winBusy n
    let s := s.put (BRG_WIN_CFG_EN n) (bits v 31 31)
    if free then
      let s := ((s.put (BRG_WIN_CFG_WMODE n) (bits v 30 30)).put (BRG_WIN_CFG_SLICE n) (bits v 29 24)).put (BRG_WIN_CFG_HUB n) hub
      (s.put (BRG_WIN_CFG_SPACE n) space).put (BRG_WIN_CFG_SIZE n) (clampNat 12 s.slotSize (bits v 12 8))
    else s

/-- A write of a target base word of window n (R273). -/
def State.winBase (s : State) (n : Nat) (f : Fld) (v : Nat) : State :=
  if n = 0 ∨ s.is (BRG_WIN_CFG_EN n) ∨ s.winBusy n then s else s.put f v

/-- A write of a window word in compatibility mode (R276): the legacy format of windows 1 to 16. (DESIGN CHOICE, log 41;
DEDUCED, log 42) -/
def State.legacyWrite (s : State) (n o v : Nat) : State :=
  if n = 0 ∨ 17 ≤ n then s
  else if o = 0 then
    let en := bit (assocGet 0 s.brg.legacy (2 * n)) 31
    let keep := assocGet 0 s.brg.legacy (2 * n) % 2 ^ 31
    let w := bits v 31 31 * 2 ^ 31 + (if en || s.winBusy n then keep else v % 2 ^ 24)
    { s with brg := { s.brg with legacy := assocSet 0 (2 * n) w s.brg.legacy } }
  else if o = 4 then
    if bit (assocGet 0 s.brg.legacy (2 * n)) 31 || s.winBusy n then s
    else
      let size := clampNat 12 (min 24 s.slotSize) (v % 32)
      { s with brg := { s.brg with legacy := assocSet 12 (2 * n + 1) size s.brg.legacy } }
  else s

/-- Some window from 1 to 63 is enabled. -/
def State.anyWindow (s : State) : Bool :=
  if s.is BRG_CTRL_COMPAT then (List.range 17).any (fun n => bit (assocGet 0 s.brg.legacy (2 * n)) 31)
  else (List.range 63).any (fun n => s.is (BRG_WIN_CFG_EN (n + 1)))

/-- A write of BRG_CTRL (R276, R286). A change of COMPAT leaves the legacy words clear. -/
def State.brgCtrl (s : State) (v : Nat) : State :=
  let s := if bit v BRG_CTRL_LF_POP.lo then s.popLate else s
  let c := bit v BRG_CTRL_COMPAT.lo
  if c = s.is BRG_CTRL_COMPAT ∨ s.anyWindow then s
  else { s.putB BRG_CTRL_COMPAT c with brg := { s.brg with legacy := [] } }

/-- A write of BRG_ORD: DRD_TO, which only the coordinator of a group of three or four takes, and which goes on to every member (R449). -/
def State.ordWrite (s : State) (v : Nat) : State :=
  if s.bigGroup && s.coordinator != s.self then s
  else
    let s := s.put BRG_ORD_DRD_TO (clampNat 1 16000 (v / 2 ^ BRG_ORD_DRD_TO.lo % 2 ^ BRG_ORD_DRD_TO.w))
    if s.bigGroup then s.reachable.foldl State.tellMember s else s

/-- A pending interrupt is delivered once its vector is unmasked, the function is not masked and MSI-X is enabled (R268, R291). -/
def State.deliverVec (s : State) (n : Nat) : State :=
  let x := s.vec n
  if x.pend && !x.masked && !s.brg.ep.mask && s.brg.ep.msix then (s.setVec n { x with pend := false }).emit (.msix n x.addr x.data)
  else s

/-- A write of a word of the MSI-X table (R268, R291): unmasking a vector whose pending bit is set delivers one interrupt. -/
def State.msixWrite (s : State) (o v : Nat) : State :=
  if 0x8000 ≤ o then s
  else
    let n := o / 16
    let x := s.vec n
    match o % 16 with
    | 0 => s.setVec n { x with addr := x.addr / 2 ^ 32 * 2 ^ 32 + v }
    | 4 => s.setVec n { x with addr := v * 2 ^ 32 + x.addr % 2 ^ 32 }
    | 8 => s.setVec n { x with data := v }
    | _ =>
      let masked := bit v 0
      (s.setVec n { x with masked := masked }).deliverVec n

/-- A write of MSG_VEC_RANGE of slice n (R296). -/
def State.vecRange (s : State) (n v : Nat) : State :=
  let base := v % 2 ^ (MSG_VEC_RANGE_BASE n).w
  let s := s.put (MSG_VEC_RANGE_BASE n) base
  s.put (MSG_VEC_RANGE_COUNT n) (min (2048 - base) (v / 2 ^ (MSG_VEC_RANGE_COUNT n).lo % 2 ^ (MSG_VEC_RANGE_COUNT n).w))

/-- A write of SLC_RCTX of slice n (R304). -/
def State.rctxWrite (s : State) (n v : Nat) : State :=
  let base := clampNat 32 1023 (v % 1024)
  (s.put (SLC_RCTX_BASE n) base).put (SLC_RCTX_COUNT n) (min (1024 - base) (bits v 26 16))

/-- A write of SPT_ALT_CFG: DP_EN reads 0 without a display engine (R7). -/
def State.altCfg (s : State) (fs : List (Fld × Acc)) (n v : Nat) : State :=
  let s := s.writeFields fs v
  if s.hasDisplay then s else s.put (SPT_ALT_CFG_DP_EN n) 0

/-- A write of SPT_WET_CFG: DRY_THR stays below WET_THR. -/
def State.wetCfg (s : State) (fs : List (Fld × Acc)) (n v : Nat) : State :=
  let s := s.writeFields fs v
  s.put (SPT_WET_CFG_DRY_THR n) (clampNat 1 (s.get (SPT_WET_CFG_WET_THR n) - 1) (s.get (SPT_WET_CFG_DRY_THR n)))

/-- A write of an Ethernet port's ETH_CFG: a port that is not enabled has no link (R391). (DEDUCED, log 53) -/
def State.ethCfg (s : State) (fs : List (Fld × Acc)) (n v : Nat) : State :=
  let s := s.writeFields fs v
  if s.is (ETH_STAT_LINK n) && !s.is (ETH_CFG_EN n) then s.ethDown n else s

/-- A write of PCI_RP_CTRL (R405): a port that is held in reset or not enabled has no link. -/
def State.rpCtrl (s : State) (fs : List (Fld × Acc)) (m v : Nat) : State :=
  let s := s.writeFields fs v
  if !s.is (PCI_RP_CTRL_EN m) || s.is (PCI_RP_CTRL_PERST m) then s.rootDown m else s

/-- A write of DSP_HTIM: multiples of 4, HTOTAL at least HACT + 40. -/
def State.htimWrite (s : State) (v : Nat) : State :=
  let hact := clampNat 640 5120 (v % 65536) / 4 * 4
  (s.put DSP_HTIM_HACT hact).put DSP_HTIM_HTOTAL (clampNat (hact + 40) 8192 (v / 65536) / 4 * 4)

/-- A write of DSP_VTIM: VTOTAL at least VACT + 3. -/
def State.vtimWrite (s : State) (v : Nat) : State :=
  let vact := clampNat 480 2160 (v % 65536)
  (s.put DSP_VTIM_VACT vact).put DSP_VTIM_VTOTAL (clampNat (vact + 3) 4095 (v / 65536))

/-- A write of FLT_TEMP: CRIT from WARN + 1 to 112. -/
def State.tempWrite (s : State) (v : Nat) : State :=
  let warn := clampNat 60 110 (bits v 23 16)
  (s.put FLT_TEMP_WARN warn).put FLT_TEMP_CRIT (clampNat (warn + 1) 112 (bits v 15 8))

/-- A write of FLT_DET_CFG d: LEVEL from DEFAULT to 5, read-only for detector 0x08 (R525). -/
def State.detCfg (s : State) (d v : Nat) : State :=
  if d = 8 then s else s.put (FLT_DET_CFG_LEVEL d) (clampNat (detectorDefault d) 5 (bits v 27 24))

/-! ## One register -/

/-- A write of the word v to a register by slice sl: the registers that do more than their access codes say, and the rest.
(DESIGN CHOICE, log 12) -/
def State.writeReg (s : State) (sl base : Nat) (ix : List Nat) (fs : List (Fld × Acc)) (v : Nat) : State :=
  let i := nth ix 0
  let j := nth ix 1
  match base with
  | 0x10004000 => s.reqWrite i j v
  | 0x10004080 =>
    let s := s.put (GLB_BKT_CTRL_IRQ_EN i) (bits v 1 1)
    if bit v 0 && sl == i then s.bktGo i else s
  | 0x10010000 => s.pwrCtrl v
  | 0x1001000C => s.keepWrite v
  | 0x10020000 => s.trkCtrl v
  | 0x1002000C => s.pwrWrite v
  | 0x10020010 => s.oeWrite v
  | 0x10020100 => s.laneCtrl i v
  | 0x10020104 => s.setLaneEq i (clampEq (v % 64) (bits v 13 8) (bits v 21 16))
  | 0x10020118 => if s.injectable then s.laneInj i v else s
  | 0x10030000 => s.cndCtrl v
  | 0x10030020 => if s.injectable then s.cndInj v else s
  | 0x10040010 => s.phaseWrite v
  | 0x10060000 => s.calEntWrite i (j + 1) (nth ix 2) v
  | 0x10050000 =>
    let s := (s.accruePort (i + 4)).writeFields fs v
    (if bit v (ALT_GCL_CTRL_CFG_CHANGE 0).lo then s.latchGates i else s).settle
  | 0x10070000 => s.shadowPolicer i 0 v
  | 0x10070004 => s.shadowPolicer i 1 v
  | 0x1007000C => s.shadowPolicer i 3 v
  | 0x10080100 => s.quotaWrite i v
  | 0x10080800 => s.dipCtrl v
  | 0x10080804 => s.dipRing v
  | 0x10090000 => (s.welCfg sl i v).settle
  | 0x10090004 => ((s.writeFields fs v).markCheck i).settle
  | 0x10090008 => ((s.writeFields fs v).markCheck i).settle
  | 0x10090020 => ((s.accrue i).writeFields fs v).settle
  | 0x10090024 => s.shadowShaper i 0x24 v
  | 0x10090028 => s.shadowShaper i 0x28 v
  | 0x1009002C => s.shadowShaper i 0x2C v
  | 0x10090030 => s.shadowShaper i 0x30 v
  | 0x10090034 => s.shadowShaper i 0x34 v
  | 0x101C0000 => s.loadWrite i j v
  | 0x10200000 => (s.ctxStateSet i (v / 2 ^ (CTX_STATE_STATE 0).lo % 2 ^ (CTX_STATE_STATE 0).w)).settle
  | 0x10200004 => s.ctxCfg sl i v
  | 0x10200008 => s.ctxBind i false fs v
  | 0x1020000C => s.ctxOwner sl i v
  | 0x10200010 => s.ctxBind i false fs v
  | 0x10200014 => s.ctxBind i true fs v
  | 0x10200028 => (s.writeFields fs v).put (CTX_INSTR_HI_COUNT i) 0
  | 0x10600000 => s.brgCtrl v
  | 0x10600004 => s.ordWrite v
  | 0x10601000 => if s.is BRG_CTRL_COMPAT then s.legacyWrite i 0 v else s.winCfg i v
  | 0x10601004 => if s.is BRG_CTRL_COMPAT then s.legacyWrite i 4 v else s.winBase i (BRG_WIN_TGT_LO_BASE i) v
  | 0x10601008 => if s.is BRG_CTRL_COMPAT then s else s.winBase i (BRG_WIN_TGT_HI_BASE i) v
  | 0x11100000 => s.routeWrite i v false
  | 0x11120000 => s.vecRange i v
  | 0x1070000C => s.rctxWrite i v
  | 0x10800000 => s.sptCfg i v
  | 0x10800004 => s.sptPolicy i v
  | 0x10800010 => s.sptPdo i j v
  | 0x10800030 => s.altCfg fs i v
  | 0x10800040 => s.wetCfg fs i v
  | 0x10800050 => if s.injectable then s.writeFields fs v else s
  | 0x1090000C => s.fltCfg i v
  | 0x10900020 => if bit v (HSW_CTRL_CLR_LATCH 0).lo then s.unlatch i else s
  | 0x10900024 => if s.injectable then s.injecting 0x31 (fun s => s.hswInj i v) else s
  | 0x10A00000 => s.busCfg i v
  | 0x10A00008 => if s.is (USB_BUS_CFG_EN i) then s else s.writeFields fs v
  | 0x10A0000C => if s.is (USB_BUS_CFG_EN i) then s else s.writeFields fs v
  | 0x10A00010 => if s.is (USB_BUS_CFG_EN i) then s else s.writeFields fs v
  | 0x10A00014 => if s.is (USB_BUS_CFG_EN i) then s else s.writeFields fs v
  | 0x10A00018 => if s.is (USB_BUS_CFG_EN i) then s else s.writeFields fs v
  | 0x10A0001C => if s.is (USB_BUS_CFG_EN i) then s else s.writeFields fs v
  | 0x10A00020 => if s.is (USB_BUS_CFG_EN i) then s else s.writeFields fs v
  | 0x10A00024 => if s.injectable && bit v 0 then s.setBus i { s.bus i with inj := true } else s
  | 0x10A10000 => s.sptMap i v
  | 0x10B00000 => (s.ethCfg fs i v).settle
  | 0x10B00008 => (s.writeFields fs v).settle
  | 0x10B00018 => s.txtsId i v
  | 0x10B08000 => s.mdioCmd v
  | 0x10C00000 => s.rpCtrl fs i v
  | 0x10D00000 => s.dspCtrl v
  | 0x10D00004 => s.htimWrite v
  | 0x10D00008 => s.vtimWrite v
  | 0x10D00100 => s.layerCfg i v
  | 0x10D00110 => s.put (DSP_LYR_STRIDE_STRIDE i) (v % 65536 / 64 * 64)
  | 0x10D0011C => (s.put (DSP_LYR_CNT_OVERRUN i) 0).put (DSP_LYR_CNT_UNDERRUN i) 0
  | 0x10D00200 => s.outCfg i v
  | 0x10E00000 => s.casCtrl v
  | 0x10E00100 => s.casPortCtrl (i + 1) v s.injectable
  | 0x10F00008 => if s.get SEC_STAT_LC ≤ 1 then s.writeFields fs v else s
  | 0x10F00018 => s.tamperInj v
  | 0x11000010 => s.tempWrite v
  | 0x11000014 => s.fltInj v
  | 0x11000400 => s.detCfg i v
  | _ => s.writeFields fs v

/-- A 32-bit write of a register that is permitted (R6, R12, R15). -/
def State.write32 (s : State) (sl a v : Nat) : State :=
  if !s.regPresent a then s
  else if 0x11130000 ≤ a ∧ a < 0x11138100 then s.msixWrite (a - 0x11130000) v
  else if 0x10C00000 ≤ a ∧ a < 0x10C20000 ∧ 0x8000 ≤ a % 0x10000 then
    s.configStart (a % 0x100000 / 0x10000) ⟨a % 0x8000 / 0x1000, a % 0x1000, true, v, none⟩
  else match findReg a with
    | some (base, ix, fs) => s.writeReg sl base ix fs v
    | none => s

/-- A write of a register by slice sl, checked under R305; a 64-bit write is two halves, low first, of which each may be refused
and both together count once (R12, R550). Registers act while the wellhead controller's firmware runs. (DESIGN CHOICE, log 10)
-/
def State.regWrite (s : State) (sl a len v : Nat) : State :=
  if !s.firmware then s
  else if len = 4 ∧ a % 4 = 0 then
    if s.refuses sl a true then s.deny sl else s.write32 sl a (v % 2 ^ 32)
  else if len = 8 ∧ a % 8 = 0 then
    let no0 := s.refuses sl a true
    let no1 := s.refuses sl (a + 4) true
    let s := if no0 then s else s.write32 sl a (v % 2 ^ 32)
    let s := if no1 then s else s.write32 sl (a + 4) (v / 2 ^ 32 % 2 ^ 32)
    if no0 || no1 then s.deny sl else s
  else s

end Sys2Proof.Machine
end

