-- ==== Sys2Proof/Machine/HostRows.lean ====
section
/-! DEFINITION. Host accesses through BAR0, the windows and the endpoint's configuration space, and what they do on this hub (R158, R268 to R286, R437, R486, R547). -/
namespace Sys2Proof.Machine

/-! ## The internal space of this hub (R158, R406, R486, R546, R547) -/

/-- The bytes of k cells from the first on (R158). -/
def State.cellsBytes (s : State) (cell : Nat) : Nat → Bytes
  | 0 => []
  | k + 1 => s.cellBytes cell ++ s.cellsBytes (cell + 1) k

/-- The tank that a range of the internal space lies in: 0 to 3, or 4 for the secure tank. -/
def tankOf (addr len : Nat) : Option Nat :=
  if 0x02000000 ≤ addr ∧ addr < 0x02400000 ∧ (addr + len - 1) / 0x100000 = addr / 0x100000 then some ((addr - 0x02000000) / 0x100000)
  else if 0x02400000 ≤ addr ∧ addr + len ≤ 0x02440000 then some 4
  else none

/-- The address lies in the configuration space of a root port's device (R406). -/
def configSpace (a : Nat) : Bool := decide (0x10C00000 ≤ a ∧ a < 0x10C20000) && decide (0x8000 ≤ a % 0x10000)

/-- A read of the internal space of this hub by slice sl. (DESIGN CHOICE, log 44; DEDUCED, log 45) -/
def State.localRead (s : State) (sl addr len : Nat) : (CplStatus × Bytes) × State :=
  if addr + len ≤ 256 * cellCount then
    if sl ≠ 0 then ((.ok, zeros len), s.deny sl)
    else ((.ok, slice (s.cellsBytes (addr / 256) ((addr % 256 + len + 255) / 256)) (addr % 256) len), s)
  else match tankOf addr len with
    | some k =>
      if sl ≠ 0 then ((.ok, zeros len), s.deny sl)
      else if k = 0 ∨ k = 4 ∨ len = 0 ∨ 512 < len then ((.unsupported, []), s)
      else ((.ok, s.tankRead k (addr % 0x100000) len), s)
    | none =>
      if 0x10000000 ≤ addr ∧ addr < 0x11200000 then
        let (v, s) := s.regRead sl addr len
        ((.ok, leBytes len v), s)
      else ((.unsupported, []), s)

/-- A write of the internal space of this hub by slice sl: 0 where it is taken or ignored, else the cause of R285. -/
def State.localWrite (s : State) (sl addr : Nat) (d : Bytes) : Nat × State :=
  let n := d.length
  if addr + n ≤ 256 * cellCount then (0, if sl ≠ 0 then s.deny sl else s)
  else match tankOf addr n with
    | some k =>
      if sl ≠ 0 then (0, s.deny sl)
      else if k = 2 ∨ (k = 3 ∧ addr % 0x100000 + n ≤ 0xE0000) then
        if n = 0 ∨ 512 < n then (1, s) else (0, s.tankWrite k (addr % 0x100000) d)
      else (4, s)
    | none =>
      if 0x10000000 ≤ addr ∧ addr < 0x11200000 then (0, s.regWrite sl addr n (leNat d)) else (1, s)

/-! ## Windows (R269, R273, R276) -/

/-- What a window of BAR2 maps. -/
structure Win where
  slice : Nat
  hub : Nat
  space : Nat
  base : Nat
  size : Nat
  posted : Bool
deriving DecidableEq, Repr

/-- Window n, if it is enabled. -/
def State.window (s : State) (n : Nat) : Option Win :=
  if n = 0 then some ⟨0, 0, 0, 0x11000000, 2 ^ 21, s.is BRG_CTRL_COMPAT⟩
  else if s.is BRG_CTRL_COMPAT then
    let w := assocGet 0 s.brg.legacy (2 * n)
    if n ≤ 16 ∧ bit w 31 then some ⟨0, 1, 0, w % 2 ^ 24 * 4096, 2 ^ assocGet 12 s.brg.legacy (2 * n + 1), true⟩ else none
  else if s.is (BRG_WIN_CFG_EN n) then
    let z := 2 ^ s.get (BRG_WIN_CFG_SIZE n)
    some ⟨s.get (BRG_WIN_CFG_SLICE n), s.get (BRG_WIN_CFG_HUB n), s.get (BRG_WIN_CFG_SPACE n),
      (s.get (BRG_WIN_TGT_LO_BASE n) + 2 ^ 32 * s.get (BRG_WIN_TGT_HI_BASE n)) / z * z, z, !s.is (BRG_WIN_CFG_WMODE n)⟩
  else none

/-- The window and the target address of an access at offset x of slot n (R274). -/
def State.winTarget (s : State) (n x : Nat) : Option (Win × Nat) :=
  match s.window n with
  | some w => if x < w.size then some (w, w.base + x) else none
  | none => none

/-- The endpoint can take requests from the host: dock role, its link up and not in reset (R268, R518). -/
def State.endpoint (s : State) : Bool := s.dock && s.coreUp && s.power.epLink && !s.power.epReset

/-- The endpoint answers every request with Completer Abort: Halt, and the BIST hold (R529, R540). -/
def State.endpointAborts (s : State) : Bool := !s.firmware

/-! ## The endpoint's configuration space (R268, R271, R277) -/

/-- The code of a size in Device Control: 0 for 128 bytes, each further one twice the size. (PRESUMED, log 185) -/
def sizeCode (n : Nat) : Nat := ([0, 1, 2, 3, 4, 5].find? (fun k => n ≤ 128 * 2 ^ k)).getD 5

/-- The word at an offset of the endpoint's configuration space: 0 Device Control, 4 Device Control 2, 8 PASID control, 0xC
MSI-X control, 0x10 uncorrectable error status, 0x14 link status. The fields stand where PCI Express has them. (PRESUMED, log
185) -/
def Endpoint.word (x : Endpoint) (off : Nat) : Nat :=
  match off with
  | 0 => sizeCode x.mps * 2 ^ 5 + sizeCode x.mrrs * 2 ^ 12
  | 4 => x.cto
  | 8 => x.pasid.toNat
  | 0xC => x.msix.toNat * 2 ^ 15 + x.mask.toNat * 2 ^ 14
  | 0x10 => x.aer
  | 0x14 => x.rate + x.width * 2 ^ 4
  | _ => 0

/-- A write there: the sizes stay within those that the endpoint supports, and error bits clear by writing 1. -/
def Endpoint.write (x : Endpoint) (off v : Nat) : Endpoint :=
  match off with
  | 0 => { x with mps := min 512 (128 * 2 ^ bits v 7 5), mrrs := min 4096 (128 * 2 ^ bits v 14 12) }
  | 4 => { x with cto := v % 16 }
  | 8 => { x with pasid := bit v 0 }
  | 0xC => { x with msix := bit v 15, mask := bit v 14 }
  | 0x10 => { x with aer := x.aer ^^^ (x.aer &&& v) }
  | _ => x

/-- The host writes a word of the endpoint's configuration space; pending interrupts go out once nothing masks them (R291). -/
def State.endpointWrite (s : State) (off v : Nat) : State :=
  let s := { s with brg := { s.brg with ep := s.brg.ep.write off v } }
  if off = 0xC then (s.msix.map (·.1)).foldl State.deliverVec s else s

/-- The lower bound of the Completion Timeout range that Device Control 2 selects, in ns; on a zone hub, which has no endpoint,
that of the default range (R277). (PRESUMED, log 185) -/
def State.upTimeout (s : State) : Nat :=
  match s.brg.ep.cto with
  | 2 => 1000000
  | 5 => 16000000
  | 6 => 65000000
  | 9 => 260000000
  | 0xA => 1000000000
  | 0xD => 4000000000
  | 0xE => 17000000000
  | _ => 50000

/-- The endpoint notes an uncorrectable error, by its bit of Advanced Error Reporting (R268, R533). (PRESUMED, log 185) -/
def State.endpointError (s : State) (b : Nat) : State :=
  if s.dock then { s with brg := { s.brg with ep := { s.brg.ep with aer := setBit s.brg.ep.aer b true } } }.detect 0x2A 0 else s

/-! ## Requests of this hub's own spaces (R158, R277, R406) -/

/-- The request of tag t is for this hub: it is carried out, and completes its tag; a configuration access completes it when the device
answers (R406). -/
def State.carryOut (s : State) (t : Nat) (r : BrReq) : State :=
  let s := s.markGone t
  if r.space ≠ 0 then s.completeDn t r.gen .unsupported []
  else if configSpace r.addr && r.slice == 0 && !s.dock && r.len == 4 && r.addr % 4 == 0 then
    s.configStart (r.addr % 0x100000 / 0x10000) ⟨r.addr % 0x8000 / 0x1000, r.addr % 0x1000, r.write, leNat r.data, some t⟩
  else if r.write then
    let (cause, s) := s.localWrite r.slice r.addr r.data
    s.completeDn t r.gen (if cause = 0 then .ok else .unsupported) []
  else
    let ((st, d), s) := s.localRead r.slice r.addr r.len
    s.completeDn t r.gen st d

/-- The issued requests of this hub's own spaces are carried out: at most k of them. -/
def State.runLocal (s : State) : Nat → State
  | 0 => s
  | k + 1 =>
    match s.brg.dn.find? (fun e => e.2.st == .issued && !e.2.gone) with
    | some (t, g) => (s.carryOut t g.req).runLocal k
    | none => s

/-- The bridge has done what it can do by itself. -/
def State.runBridge (s : State) : State := s.runLocal (s.brg.dn.length + s.brg.dnWait.length)

/-! ## Host reads and writes (R269 to R275, R285, R286, R437) -/

/-- R274. HOST_READ: `win` is none for BAR0, 64 for the endpoint's configuration space; `off` lies within BAR0 or within the
window's slot. (DEDUCED, log 33; DEDUCED, log 34) -/
def execHostRead (win : Option Nat) (off len : Nat) (s : State) : Host.Outcome State Fault Refusal :=
  .next (if !s.endpoint || decide (len = 0) then s
  else if s.endpointAborts then s.emit (.hostCpl 0 2 [])
  else match win with
    | none =>
      if off + len ≤ 2 ^ 24 then (s.issueDn ⟨none, 0, 0, s.sliceGen 0, false, 0, 0, 0x10000000 + off, len, []⟩).runBridge else s
    | some n =>
      if n = 64 then s.emit (.hostCpl 0 0 (leBytes 4 (s.brg.ep.word off)))
      else if 64 < n ∨ 2 ^ s.slotSize ≤ off then s
      else match s.winTarget n off with
        | none => (s.bump (BRG_CNT_COUNT 4)).emit (.hostCpl 0 1 [])
        | some (w, a) => (s.issueDn ⟨some n, 0, w.slice, s.sliceGen w.slice, false, w.hub, w.space, a, len, []⟩).runBridge)

/-- A posted write reaches its space on this hub: the cause of R285 if it fails, else 0. -/
def State.postHere (s : State) (sl space addr : Nat) (d : Bytes) : Nat × State :=
  if space = 0 then s.localWrite sl addr d
  else if space ≤ 2 ∧ !s.dock ∧ s.is (PCI_RP_STAT_LINK (space - 1)) then (0, s.emit (.rootReq (space - 1) true addr d.length d 0))
  else (1, s)

/-- A posted write through window n, numbered in its stream: on this hub, or on its way to another, whose link remembers it
(R117, R285, R286, R442). One that has no way is lost. (DESIGN CHOICE, log 35) -/
def State.postWrite (s : State) (n : Nat) (w : Win) (a : Nat) (d : Bytes) (poisoned : Bool) : State :=
  let (t, s) := s.writeTag n
  let x : Fab := { kind := .postedWrite, dest := s.hubName w.hub, src := s.origin, slice := w.slice, gen := s.sliceGen w.slice,
                   space := w.space, win := n % 64, tag := t, len := d.length, addr := a, data := d }
  let p : Posted := ⟨0, n % 64, w.slice, x.gen, t, a, s.origin⟩
  if poisoned then s.lostWrite 2 p
  else if w.hub = 0 then
    let (cause, s) := s.postHere w.slice w.space a d
    if cause = 0 then s else s.lostWrite cause p
  else match s.wayTo x.dest with
    | some q => s.sendOn q x
    | none => s.lostWrite 5 p

/-- A write through window n: a poisoned one that is not posted fails (R275, R285). -/
def State.windowWrite (s : State) (n : Nat) (w : Win) (a : Nat) (d : Bytes) (poisoned : Bool) : State :=
  if w.posted then s.postWrite n w a d poisoned
  else if poisoned then s.put (BRG_WIN_STAT_WERR n) 1
  else s.issueDn ⟨some n, 0, w.slice, s.sliceGen w.slice, true, w.hub, w.space, a, d.length, d⟩

/-- BAR0 as a window of slice 0 whose writes are posted (R269, R270). -/
def bar0 : Win := ⟨0, 0, 0, 0x10000000, 2 ^ 24, true⟩

/-- R275. HOST_WRITE. -/
def execHostWrite (win : Option Nat) (off : Nat) (data : WriteData) (s : State) : Host.Outcome State Fault Refusal :=
  .next (if !s.endpoint || s.endpointAborts || data.bytes.isEmpty then s
  else
    let s := if data.poisoned then s.endpointError 12 else s
    match win with
    | none =>
      if off + data.bytes.length ≤ bar0.size then (s.postWrite 64 bar0 (bar0.base + off) data.bytes data.poisoned).runBridge else s
    | some n =>
      if n = 64 then (if data.poisoned then s else s.endpointWrite off (leAt data.bytes 0 4))
      else if 64 < n ∨ 2 ^ s.slotSize ≤ off then s
      else match s.winTarget n off with
        | none => s.bump (BRG_CNT_COUNT 4)
        | some (w, a) => (s.windowWrite n w a data.bytes data.poisoned).runBridge)

end Sys2Proof.Machine
end

