-- ==== Sys2Proof/Machine/BridgeRows.lean ====
section
/-! DEFINITION. The bridge between hubs: completions and timeouts of tags, what a transport record does on the hub that it reaches, delayed requests at their target, and the rows of flits that bring records (R84 to R101, R117, R272 to R292, R297, R298, R307, R310, R406, R436, R437, R449). -/
namespace Sys2Proof.Machine

/-! ## Tags (R277, R278, R281) -/

/-- R277. COMPLETION_RECEIVE: one that the endpoint does not expect is an error of its own. -/
def execCompletionReceive (up : Bool) (tag gen : Nat) (st : CplStatus) (data : Bytes) (s : State) :
    Host.Outcome State Fault Refusal :=
  .next (if !s.running then s
  else if up then
    let s := if (assocFind s.brg.up tag).isNone then s.endpointError 16 else s
    (s.completeUp tag gen st data).runBridge
  else (s.completeDn tag gen st data).runBridge)

/-- R278. READ_TIMEOUT: a downstream tag has waited RD_TO in ISSUED. (DEDUCED, log 158) -/
def execReadTimeout (tag : Nat) (s : State) : Host.Outcome State Fault Refusal :=
  .next (match assocFind s.brg.dn tag with
    | some g =>
      if s.running && g.st == .issued && decide (g.since + s.get BRG_TIMERS_RD_TO * 10000 ≤ s.hubTime) then
        (((s.abandonDn tag).bump (BRG_CNT_COUNT 0)).raise 0x0804 g.req.slice).runBridge
      else s
    | none => s)

/-- What DRD_TO and 1 ms add to the time that an abandoned tag stands (R277). -/
def State.expiryTail (s : State) : Nat := s.get BRG_ORD_DRD_TO * 1000 + 1000000

/-- R277. ABANDONED_TAG_EXPIRY. -/
def execAbandonedTagExpiry (up : Bool) (tag : Nat) (s : State) : Host.Outcome State Fault Refusal :=
  .next (if !s.running then s
    else if up then
      match assocFind s.brg.up tag with
      | some g => if g.st = .abandoned ∧ g.since + s.upTimeout + s.expiryTail ≤ s.hubTime then (s.freeUp tag).runBridge else s
      | none => s
    else
      match assocFind s.brg.dn tag with
      | some g =>
        if g.st = .abandoned ∧ g.since + s.get BRG_TIMERS_RD_TO * 10000 + s.expiryTail ≤ s.hubTime then (s.freeDn tag).runBridge
        else s
      | none => s)

/-- R277. UPSTREAM_COMPLETION_TIMEOUT. -/
def execUpstreamCompletionTimeout (tag : Nat) (s : State) : Host.Outcome State Fault Refusal :=
  .next (match assocFind s.brg.up tag with
    | some g =>
      if s.running && g.st == .issued && decide (g.since + s.upTimeout ≤ s.hubTime) then
        ((s.endpointError 14).abandonUp tag 2).runBridge
      else s
    | none => s)

/-- R281. ORDERING_MODE_CHANGE: the change to DELAYED ends once no read that crosses a cascade link is outstanding. -/
def execOrderingModeChange (s : State) : Host.Outcome State Fault Refusal :=
  .next (if s.running && s.is BRG_ORD_DRAIN && !s.crossing then
    let s := ((s.put BRG_ORD_MODE 1).put BRG_ORD_DRAIN 0).raise 0x0805 0
    ((s.drainDn s.brg.dnWait.length).drainUp s.brg.upWait.length).runBridge
  else s)

/-! ## Root ports and the fabric of this hub (R405, R406, R410, R527) -/

/-- R405, R410. ROOT_PORT_LINK_CHANGE. -/
def execRootPortLinkChange (m : Nat) (up : Bool) (gen width : Nat) (s : State) : Host.Outcome State Fault Refusal :=
  .next (if s.rootPort m then
    if up then
      if s.is (PCI_RP_CTRL_EN m) && !s.is (PCI_RP_CTRL_PERST m) && decide (1 ≤ gen ∧ gen ≤ s.get (PCI_RP_CTRL_MAX_GEN m)) &&
          [1, 2, 4].contains width then
        let was := s.is (PCI_RP_STAT_LINK m)
        let s := ((s.put (PCI_RP_STAT_LINK m) 1).put (PCI_RP_STAT_GEN m) gen).put (PCI_RP_STAT_WIDTH m) width
        if was then s else (s.raise 0x0E01 m).settle
      else s
    else (s.rootDown m).runBridge
  else s)

/-- R406. CONFIG_ACCESS. -/
def execConfigAccess (m fn off : Nat) (write : Bool) (v : W32) (s : State) : Host.Outcome State Fault Refusal :=
  .next (if s.rootPort m && decide (fn < 8 ∧ off < 4096) then s.configStart m ⟨fn, off, write, v.toNat, none⟩ else s)

/-- R406. CONFIG_COMPLETION: a request that fails, or whose 1 s of retries has passed, reads as 0xFFFF_FFFF. -/
def execConfigCompletion (m : Nat) (st : CplStatus) (data : W32) (s : State) : Host.Outcome State Fault Refusal :=
  .next (match assocFind s.cfgs m with
    | some a =>
      if s.running then (s.endConfig m a (if st = .ok then data.toNat else 0xFFFFFFFF)).runBridge else s
    | none => s)

/-- R527. FABRIC_TIMEOUT. -/
def execFabricTimeout (block : Nat) (s : State) : Host.Outcome State Fault Refusal :=
  .next (if s.running && decide (block ≤ 19) then (s.fabricTimeout block).runBridge else s)

/-! ## Delayed requests at their target (R283, R284, R307) -/

/-- A record that answers the requester of a delayed request. -/
def State.drdFab (s : State) (r : DelayedReq) (kind : FabKind) : Fab :=
  { kind := kind, dest := r.requester, src := s.origin, slice := r.slice, gen := r.gen, tag := r.tag }

/-- A delayed request answered with a status. -/
def State.drdAnswer (s : State) (r : DelayedReq) (st : CplStatus) (d : Bytes) : State :=
  s.sendFab { s.drdFab r .completion with code := cplCode st, len := d.length, data := d }

/-- RETRY to the requester. -/
def State.drdRetry (s : State) (r : DelayedReq) : State := s.sendFab (s.drdFab r .retry)

/-- Carrying out once the delayed request of slot i: on this member, or by issuing it upstream, across the trunk or to a root port,
whose completion the slot then receives (R271, R273, R283). -/
def State.drdRun (s : State) (i : Nat) (r : DelayedReq) : State :=
  let q : BrReq := ⟨none, 4096 + i, r.slice, r.gen, r.write, r.hub, r.space, r.addr, r.len, r.data⟩
  if r.toHost then (if r.write then s.fillSlot i 1 [] else s.issueUp q)
  else if r.hub ≤ 1 ∨ (4 ≤ r.hub ∧ r.hub ≤ 7) then s.issueDn q
  else s.fillSlot i 1 []

/-- The key of a delayed request at its target: its requester and its tag. -/
def drdKey (r : DelayedReq) : Nat := r.requester * 65536 + r.tag

/-- Discarded requests are remembered as long as their requester can hold the tag (R277, R284). -/
def State.ageGone (s : State) : State :=
  let stands := fun (e : Nat × Nat) => decide (s.hubTime < e.2 + s.get BRG_TIMERS_RD_TO * 10000 + s.expiryTail)
  { s with brg := { s.brg with gone := s.brg.gone.filter stands } }

/-- The request takes a free slot and is carried out (R283). -/
def State.drdStart (s : State) (r : DelayedReq) : State :=
  match freshKey s.brg.slots 0 64 with
  | none => (s.bump (BRG_CNT_COUNT 3)).drdRetry r
  | some i =>
    let d : DrdSlot := ⟨r.requester, r.tag, r.slice, r.gen, r.write, r.addr, r.len, r.data, none, s.hubTime⟩
    (({ s with brg := { s.brg with slots := assocPut i d s.brg.slots } }.showSlots.drdRetry r).drdRun i r).runBridge

/-- A delayed request reaches its target (R283, R284, R307). (DESIGN CHOICE, log 36; DEDUCED, log 37) -/
def State.takeDelayed (s : State) (r : DelayedReq) : State :=
  let s := s.ageGone
  if r.gen ≠ s.sliceGen r.slice then (s.bump (SLC_GEN_DROP_COUNT r.slice)).drdAnswer r .abort []
  else match s.brg.slots.find? (fun e => e.2.requester == r.requester && e.2.tag == r.tag) with
    | some (i, d) =>
      match d.ans with
      | some (st, x) => (s.freeSlot i).drdAnswer r st x
      | none => s.drdRetry r
    | none =>
      if (assocFind s.brg.gone (drdKey r)).isNone then s.drdStart r
      else if r.again then s.drdAnswer r .abort []
      else { s with brg := { s.brg with gone := assocDel (drdKey r) s.brg.gone } }.drdStart r

/-- R283, R284, R307. DELAYED_REQUEST_RECEIVE. -/
def execDelayedRequestReceive (r : DelayedReq) (s : State) : Host.Outcome State Fault Refusal :=
  .next (if s.running && decide (r.slice < 64) then s.takeDelayed r else s)

/-! ## Transport records at the hub that they name (R272, R285, R288, R297, R307) -/

/-- The posted write that a record carries. -/
def Fab.write (x : Fab) : Posted := ⟨0, x.win, x.slice, x.gen, x.tag, x.addr, x.src⟩

/-- A posted write from another hub: one of an earlier generation is discarded, and every failure is reported to the hub that accepted it
(R285, R307). -/
def State.takePosted (s : State) (x : Fab) : State :=
  if x.gen ≠ s.sliceGen x.slice then (s.bump (SLC_GEN_DROP_COUNT x.slice)).lostWrite 3 x.write
  else
    let (cause, s) := s.postHere x.slice x.space x.addr x.data
    if cause = 0 then s else s.lostWrite cause x.write

/-- A posted write from another hub's root port or engine, for the host (R271, R307, R408). -/
def State.takeUpWrite (s : State) (x : Fab) : State :=
  if x.gen ≠ s.sliceGen x.slice then (s.bump (SLC_GEN_DROP_COUNT x.slice)).lostWrite 3 x.write
  else match s.pasid x.slice with
    | some p => if s.power.epReset then s.lostWrite 1 x.write else s.writeOut x.slice p x.addr x.data
    | none => (s.bump (BRG_CNT_COUNT 7)).lostWrite 1 x.write

/-- A completion for a key of this hub: a downstream tag, or an upstream one 1,024 above it. -/
def State.takeCompletion (s : State) (key gen st : Nat) (data : Bytes) : State :=
  if key < 1024 then s.completeDn key gen (cplOf st) data else s.completeUp (key - 1024) gen (cplOf st) data

/-- The delayed request that a record carries. -/
def Fab.delayedReq (x : Fab) : DelayedReq :=
  { requester := x.src, tag := x.tag, toHost := bit x.code 0, hub := x.win, space := x.space, slice := x.slice, gen := x.gen,
    write := bit x.code 1, addr := x.addr, len := x.len, data := x.data, again := bit x.code 2 }

/-- The record comes from the other side of the trunk. -/
def State.fromFar (s : State) (x : Fab) : Bool := x.src % 2 != s.origin % 2

/-- What came over the trunk goes on to the group under this hub's own name (R297, R298). -/
def State.passOn (s : State) (x : Fab) : State := if s.fromFar x then s.tellMembers { x with src := s.origin } else s

/-- A record does what it is for on this hub. -/
def State.takeFab (s : State) (x : Fab) : State :=
  match x.kind with
  | .postedWrite => s.takePosted x
  | .read => s.issueDn ⟨none, remoteUnit x.src false x.gen x.tag, x.slice, x.gen, false, 0, x.space, x.addr, x.len, []⟩
  | .write => s.issueDn ⟨none, remoteUnit x.src false x.gen x.tag, x.slice, x.gen, true, 0, x.space, x.addr, x.data.length, x.data⟩
  | .upRead => s.issueUp ⟨none, remoteUnit x.src true x.gen x.tag, x.slice, x.gen, false, 0, 0, x.addr, x.len, []⟩
  | .upWrite => s.takeUpWrite x
  | .completion => s.takeCompletion x.tag x.gen x.code x.data
  | .upCompletion => s.completeUp x.tag x.gen (cplOf x.code) x.data
  | .retry => s.retried x.tag
  | .delayed => s.takeDelayed x.delayedReq
  | .lateFault => s.lateFault ⟨x.addr, x.gen, x.slice, x.tag % 1024, x.code % 16, x.win % 64, s.hubTime⟩
  | .message => s.takeMessage x.tag x.data
  | .reset => s.takeNotice false x.slice x.gen x.src (s.fromFar x)
  | .remove => s.takeNotice true x.slice x.gen x.src (s.fromFar x)
  | .report => s.takeReport x
  | .bind => (if x.code = 1 then s.takeRecords (parseSliceRecs x.data) else s.takeBind x.slice x.addr).passOn x
  | .group => s.takeGroup x
  | .restart => s.takeRestart

/-! ## Records that go on (R283, R289, R436, R437) -/

/-- A message with one more hop behind it (R289, R290). -/
def Fab.hopped (x : Fab) : Fab := { x with data := overlay x.data 12 (leBytes 2 (leAt x.data 12 2 + 4096)) }

/-- A record that can go no further (R285, R437): a request ends with Unsupported Request, a posted write is reported lost; a
delayed request comes again by itself (R448), and any other record is lost. (DESIGN CHOICE, log 182) -/
def State.strand (s : State) (x : Fab) : State :=
  let lost := if x.dest < 8 then 6 else 5
  match x.kind with
  | .read | .write => s.sendFab (s.remoteCompletion (remoteUnit x.src false x.gen x.tag) 1 [])
  | .upRead => s.sendFab (s.remoteCompletion (remoteUnit x.src true x.gen x.tag) 1 [])
  | .postedWrite | .upWrite => s.lostWrite lost x.write
  | _ => s

/-- A record for another hub goes on. In DELAYED mode a read or a non-posted write that came over the trunk for a member of this group
becomes a delayed request, whose requester this hub is (R283). -/
def State.relay (s : State) (x : Fab) : State :=
  match s.wayTo x.dest with
  | none => s.strand x
  | some p =>
    if x.kind = .message then
      if 4 ≤ leAt x.data 12 2 / 4096 then s.discardMsg 4 else s.sendOn p x.hopped
    else if s.delayed && p != 0 && decide (x.kind = .read ∨ x.kind = .write) then
      s.issueDn ⟨none, remoteUnit x.src false x.gen x.tag, x.slice, x.gen, x.kind == .write, 8 + x.dest / 2, x.space, x.addr, x.len, x.data⟩
    else s.sendOn p x

/-- A chain of the transport that has come over link p. -/
def State.chainIn (s : State) (p : Nat) (d : Bytes) : State :=
  match parseFab d with
  | some x => if s.mine p x.dest then s.takeFab x else s.relay x
  | none => s

/-- The chains that have arrived whole over link p act, in their order. -/
def State.takeArrived (s : State) (p : Nat) : State :=
  let l := s.link p
  if l.arrived.isEmpty then s
  else (l.arrived.foldl (fun s d => s.chainIn p d) (s.setLink p { l with arrived := [] })).runBridge.settle

/-! ## Flits (R84 to R101) -/

/-- R87 to R101. FLIT_RECEIVE. A quiet direction that is in L2d takes no flit (R70). -/
def execFlitReceive (port : Nat) (header body : Bytes) (uncorrectable : Bool) (symbols : Nat) (s : State) :
    Host.Outcome State Fault Refusal :=
  .next (if s.linkLive port && (port != 0 || s.get TRK_PWR_RX_STATE != 2) then
    (s.flitIn port (header ++ body) uncorrectable symbols).takeArrived port
  else s)

/-- R102, R103. NAK: a NAK flit arrives. -/
def execNak (port : Nat) (raw : Bytes) (s : State) : Host.Outcome State Fault Refusal :=
  .next (if s.linkLive port && (port != 0 || s.get TRK_PWR_RX_STATE != 2) && (parseHeader raw).ftype == 4 then
    (s.flitIn port raw false 0).takeArrived port
  else s)

end Sys2Proof.Machine
end

