-- ==== Sys2Proof/Machine/BucketRows.lean ====
section
/-! DEFINITION. The rows that are bucket commands: host software writes the request of channel ch and GO; the command runs when it comes to the front of the controller's queue, and BUCKET_COMPLETE ends it (R33, R36). -/
namespace Sys2Proof.Machine

/-- R521. CLK_WARM_RESET. -/
def execClkWarmReset (ch seq : Nat) (args : Bytes) (s : State) : Host.Outcome State Fault Refusal :=
  .next (s.bktSubmit ch 0x0101 seq args)

/-- R508. CLK_DRY_ENTER. -/
def execClkDryEnter (ch seq : Nat) (args : Bytes) (s : State) : Host.Outcome State Fault Refusal :=
  .next (s.bktSubmit ch 0x0100 seq args)

/-- R40. ECHO. -/
def execEcho (ch seq : Nat) (args : Bytes) (s : State) : Host.Outcome State Fault Refusal :=
  .next (s.bktSubmit ch 0x0000 seq args)

/-- R40. FW_INFO. -/
def execFwInfo (ch seq : Nat) (args : Bytes) (s : State) : Host.Outcome State Fault Refusal :=
  .next (s.bktSubmit ch 0x0001 seq args)

/-- R80. TRK_LANE_READMIT. -/
def execTrkLaneReadmit (ch seq : Nat) (args : Bytes) (s : State) : Host.Outcome State Fault Refusal :=
  .next (s.bktSubmit ch 0x0202 seq args)

/-- R82. TRK_OE_READ. -/
def execTrkOeRead (ch seq : Nat) (args : Bytes) (s : State) : Host.Outcome State Fault Refusal :=
  .next (s.bktSubmit ch 0x0200 seq args)

/-- R82. TRK_OE_WRITE. -/
def execTrkOeWrite (ch seq : Nat) (args : Bytes) (s : State) : Host.Outcome State Fault Refusal :=
  .next (s.bktSubmit ch 0x0201 seq args)

/-- R131. ALT_CAL_COMMIT. -/
def execAltCalCommit (ch seq : Nat) (args : Bytes) (s : State) : Host.Outcome State Fault Refusal :=
  .next (s.bktSubmit ch 0x0400 seq args)

/-- R134. ALT_SWAP. -/
def execAltSwap (ch seq : Nat) (args : Bytes) (s : State) : Host.Outcome State Fault Refusal :=
  .next (s.bktSubmit ch 0x0401 seq args)

/-- R149. ALT_PROFILE. -/
def execAltProfile (ch seq : Nat) (args : Bytes) (s : State) : Host.Outcome State Fault Refusal :=
  .next (s.bktSubmit ch 0x0402 seq args)

/-- R183. WEL_FLUSH. -/
def execWelFlush (ch seq : Nat) (args : Bytes) (s : State) : Host.Outcome State Fault Refusal :=
  .next (s.bktSubmit ch 0x0500 seq args)

/-- R198. PMP_PAGE_ASSIGN. -/
def execPmpPageAssign (ch seq : Nat) (args : Bytes) (s : State) : Host.Outcome State Fault Refusal :=
  .next (s.bktSubmit ch 0x0600 seq args)

/-- R198. PMP_PAGE_OPEN. -/
def execPmpPageOpen (ch seq : Nat) (args : Bytes) (s : State) : Host.Outcome State Fault Refusal :=
  .next (s.bktSubmit ch 0x0601 seq args)

/-- R198. PMP_PAGE_SEAL. -/
def execPmpPageSeal (ch seq : Nat) (args : Bytes) (s : State) : Host.Outcome State Fault Refusal :=
  .next (s.bktSubmit ch 0x0602 seq args)

/-- R198. PMP_PAGE_FREE. -/
def execPmpPageFree (ch seq : Nat) (args : Bytes) (s : State) : Host.Outcome State Fault Refusal :=
  .next (s.bktSubmit ch 0x0603 seq args)

/-- R294. MSG_RT_SET. -/
def execMsgRtSet (ch seq : Nat) (args : Bytes) (s : State) : Host.Outcome State Fault Refusal :=
  .next (s.bktSubmit ch 0x1300 seq args)

/-- R294. MSG_RT_GET. -/
def execMsgRtGet (ch seq : Nat) (args : Bytes) (s : State) : Host.Outcome State Fault Refusal :=
  .next (s.bktSubmit ch 0x1301 seq args)

/-- R299. SLC_BIND. -/
def execSlcBind (ch seq : Nat) (args : Bytes) (s : State) : Host.Outcome State Fault Refusal :=
  .next (s.bktSubmit ch 0x0900 seq args)

/-- R310. SLC_RESET. -/
def execSlcReset (ch seq : Nat) (args : Bytes) (s : State) : Host.Outcome State Fault Refusal :=
  .next (s.bktSubmit ch 0x0901 seq args)

/-- R312. SLC_REMOVE. -/
def execSlcRemove (ch seq : Nat) (args : Bytes) (s : State) : Host.Outcome State Fault Refusal :=
  .next (s.bktSubmit ch 0x0902 seq args)

/-- R340. SPT_MODE. -/
def execSptMode (ch seq : Nat) (args : Bytes) (s : State) : Host.Outcome State Fault Refusal :=
  .next (s.bktSubmit ch 0x0A00 seq args)

/-- R340. SPT_HARD_RESET. -/
def execSptHardReset (ch seq : Nat) (args : Bytes) (s : State) : Host.Outcome State Fault Refusal :=
  .next (s.bktSubmit ch 0x0A01 seq args)

/-- R340. SPT_DISC_READ. -/
def execSptDiscRead (ch seq : Nat) (args : Bytes) (s : State) : Host.Outcome State Fault Refusal :=
  .next (s.bktSubmit ch 0x0A02 seq args)

/-- R444. CAS_GRP_SWAP. -/
def execCasGrpSwap (ch seq : Nat) (args : Bytes) (s : State) : Host.Outcome State Fault Refusal :=
  .next (s.bktSubmit ch 0x1000 seq args)

/-- R451. CAS_GRP_INFO. -/
def execCasGrpInfo (ch seq : Nat) (args : Bytes) (s : State) : Host.Outcome State Fault Refusal :=
  .next (s.bktSubmit ch 0x1001 seq args)

/-- R476. SEC_INFO. -/
def execSecInfo (ch seq : Nat) (args : Bytes) (s : State) : Host.Outcome State Fault Refusal :=
  .next (s.bktSubmit ch 0x1100 seq args)

/-- R476. SEC_OWNER_SET. -/
def execSecOwnerSet (ch seq : Nat) (args : Bytes) (s : State) : Host.Outcome State Fault Refusal :=
  .next (s.bktSubmit ch 0x1101 seq args)

/-- R454. SEC_ROOT_GEN. -/
def execSecRootGen (ch seq : Nat) (args : Bytes) (s : State) : Host.Outcome State Fault Refusal :=
  .next (s.bktSubmit ch 0x1102 seq args)

/-- R475. SEC_LC_CHALLENGE. -/
def execSecLcChallenge (ch seq : Nat) (args : Bytes) (s : State) : Host.Outcome State Fault Refusal :=
  .next (s.bktSubmit ch 0x1103 seq args)

/-- R475. SEC_TOKEN_PUT. -/
def execSecTokenPut (ch seq : Nat) (args : Bytes) (s : State) : Host.Outcome State Fault Refusal :=
  .next (s.bktSubmit ch 0x1104 seq args)

/-- R474. SEC_LC_CHANGE. -/
def execSecLcChange (ch seq : Nat) (args : Bytes) (s : State) : Host.Outcome State Fault Refusal :=
  .next (s.bktSubmit ch 0x1105 seq args)

/-- R473. SEC_DEBUG_CLOSE. -/
def execSecDebugClose (ch seq : Nat) (args : Bytes) (s : State) : Host.Outcome State Fault Refusal :=
  .next (s.bktSubmit ch 0x1106 seq args)

/-- R466. SEC_KEY_ASSIGN. -/
def execSecKeyAssign (ch seq : Nat) (args : Bytes) (s : State) : Host.Outcome State Fault Refusal :=
  .next (s.bktSubmit ch 0x1110 seq args)

/-- R466. SEC_KEY_LOAD. -/
def execSecKeyLoad (ch seq : Nat) (args : Bytes) (s : State) : Host.Outcome State Fault Refusal :=
  .next (s.bktSubmit ch 0x1111 seq args)

/-- R467. SEC_KEY_DERIVE. -/
def execSecKeyDerive (ch seq : Nat) (args : Bytes) (s : State) : Host.Outcome State Fault Refusal :=
  .next (s.bktSubmit ch 0x1112 seq args)

/-- R468. SEC_KEY_WRAP. -/
def execSecKeyWrap (ch seq : Nat) (args : Bytes) (s : State) : Host.Outcome State Fault Refusal :=
  .next (s.bktSubmit ch 0x1113 seq args)

/-- R468. SEC_KEY_UNWRAP. -/
def execSecKeyUnwrap (ch seq : Nat) (args : Bytes) (s : State) : Host.Outcome State Fault Refusal :=
  .next (s.bktSubmit ch 0x1114 seq args)

/-- R466. SEC_KEY_ZERO. -/
def execSecKeyZero (ch seq : Nat) (args : Bytes) (s : State) : Host.Outcome State Fault Refusal :=
  .next (s.bktSubmit ch 0x1115 seq args)

/-- R466. SEC_KEY_INFO. -/
def execSecKeyInfo (ch seq : Nat) (args : Bytes) (s : State) : Host.Outcome State Fault Refusal :=
  .next (s.bktSubmit ch 0x1116 seq args)

/-- R497. TNK_INFO. -/
def execTnkInfo (ch seq : Nat) (args : Bytes) (s : State) : Host.Outcome State Fault Refusal :=
  .next (s.bktSubmit ch 0x1400 seq args)

/-- R544. FLT_RECOVER. -/
def execFltRecover (ch seq : Nat) (args : Bytes) (s : State) : Host.Outcome State Fault Refusal :=
  .next (s.bktSubmit ch 0x1200 seq args)

/-- R542. FLT_INPUT_REARM. -/
def execFltInputRearm (ch seq : Nat) (args : Bytes) (s : State) : Host.Outcome State Fault Refusal :=
  .next (s.bktSubmit ch 0x1201 seq args)

/-- R540. FLT_BIST_RUN. -/
def execFltBistRun (ch seq : Nat) (args : Bytes) (s : State) : Host.Outcome State Fault Refusal :=
  .next (s.bktSubmit ch 0x1202 seq args)

/-- R536. FLT_LOG_THAW. -/
def execFltLogThaw (ch seq : Nat) (args : Bytes) (s : State) : Host.Outcome State Fault Refusal :=
  .next (s.bktSubmit ch 0x1203 seq args)

end Sys2Proof.Machine
end

