-- ==== Sys2Proof/Machine/RegRows.lean ====
section
/-! DEFINITION. The rows that are writes or reads of one register: each is the write of that register, with everything it does. -/
namespace Sys2Proof.Machine

/-- A 32-bit write of the register at address a by slice sl, where the operands name a register. -/
def State.rowWrite (s : State) (there : Bool) (sl a : Nat) (v : W32) : Host.Outcome State Fault Refusal :=
  .next (if there && decide (sl < 64) then s.regWrite sl a 4 v.toNat else s)

/-- R12, R14, R305. REGISTER_WRITE: `width` is 4 or 8 bytes. -/
def execRegisterWrite (sl addr width : Nat) (v : W64) (s : State) : Host.Outcome State Fault Refusal :=
  .next (if sl < 64 then s.regWrite sl addr width v.toNat else s)

/-- R13. LOW_WORD_READ_LATCH: a 32-bit read, whose latch is its effect. -/
def execLowWordReadLatch (sl addr : Nat) (s : State) : Host.Outcome State Fault Refusal :=
  .next (if s.firmware && decide (sl < 64) then (s.regRead sl addr 4).2 else s)

/-- R500. DROWSE_EN_WRITE. -/
def execDrowseEnWrite (sl : Nat) (v : W32) (s : State) : Host.Outcome State Fault Refusal :=
  s.rowWrite true sl 0x10010000 v

/-- R61. TRK_PRIME. -/
def execTrkPrime (sl : Nat) (v : W32) (s : State) : Host.Outcome State Fault Refusal :=
  s.rowWrite true sl 0x10020000 v

/-- R76. TRK_OE_EN_WRITE. -/
def execTrkOeEnWrite (sl : Nat) (v : W32) (s : State) : Host.Outcome State Fault Refusal :=
  s.rowWrite true sl 0x10020010 v

/-- R70. TRK_L2D_REQ_WRITE. -/
def execTrkL2dReqWrite (sl : Nat) (v : W32) (s : State) : Host.Outcome State Fault Refusal :=
  s.rowWrite true sl 0x1002000C v

/-- R83. PRBS_CLR. -/
def execPrbsClr (sl n : Nat) (v : W32) (s : State) : Host.Outcome State Fault Refusal :=
  s.rowWrite (decide (n < 4)) sl (0x10020100 + 0x40 * n) v

/-- R83. INJ_PRBS_ERR. -/
def execInjPrbsErr (sl n : Nat) (v : W32) (s : State) : Host.Outcome State Fault Refusal :=
  s.rowWrite (decide (n < 4)) sl (0x10020118 + 0x40 * n) v

/-- R122. CNT_CLR. -/
def execCntClr (sl : Nat) (v : W32) (s : State) : Host.Outcome State Fault Refusal :=
  s.rowWrite true sl 0x10030000 v

/-- R122. INJ_HCRC. -/
def execInjHcrc (sl : Nat) (v : W32) (s : State) : Host.Outcome State Fault Refusal :=
  s.rowWrite true sl 0x10030020 v

/-- R122. INJ_UNCORR. -/
def execInjUncorr (sl : Nat) (v : W32) (s : State) : Host.Outcome State Fault Refusal :=
  s.rowWrite true sl 0x10030020 v

/-- R129. ALT_CAL_ENT_WRITE. -/
def execAltCalEntWrite (sl bank lanes slot : Nat) (v : W32) (s : State) : Host.Outcome State Fault Refusal :=
  s.rowWrite (decide (bank < 2 ∧ 1 ≤ lanes ∧ lanes ≤ 4 ∧ slot < 1024)) sl (0x10060000 + 0x4000 * bank + 0x1000 * (lanes - 1) + 4 * slot) v

/-- R126. ALT_CAL_PHASE_WRITE. -/
def execAltCalPhaseWrite (sl : Nat) (v : W32) (s : State) : Host.Outcome State Fault Refusal :=
  s.rowWrite true sl 0x10040010 v

/-- R143. SHAPER_SHADOW_WRITE: `off` is the register's offset in the well set. -/
def execShaperShadowWrite (sl n off : Nat) (v : W32) (s : State) : Host.Outcome State Fault Refusal :=
  s.rowWrite (decide (n < 512 ∧ 0x24 ≤ off ∧ off ≤ 0x34)) sl (0x10090000 + 0x40 * n + off) v

/-- R147. CFG_CHANGE. -/
def execCfgChange (sl n : Nat) (v : W32) (s : State) : Host.Outcome State Fault Refusal :=
  s.rowWrite (decide (n < 8)) sl (0x10050000 + 0x2000 * n) v

/-- R163. WEL_CFG_WRITE. -/
def execWelCfgWrite (sl n : Nat) (v : W32) (s : State) : Host.Outcome State Fault Refusal :=
  s.rowWrite (decide (n < 512)) sl (0x10090000 + 0x40 * n) v

/-- R164. WEL_MARK_WRITE. -/
def execWelMarkWrite (sl n : Nat) (low : Bool) (v : W32) (s : State) : Host.Outcome State Fault Refusal :=
  s.rowWrite (decide (n < 512)) sl (0x10090004 + 0x40 * n + (if low then 4 else 0)) v

/-- R181. DIPPER_ENABLE. -/
def execDipperEnable (sl : Nat) (v : W32) (s : State) : Host.Outcome State Fault Refusal :=
  s.rowWrite true sl 0x10080800 v

/-- R193. CTX_STATE_WRITE. -/
def execCtxStateWrite (sl c : Nat) (v : W32) (s : State) : Host.Outcome State Fault Refusal :=
  s.rowWrite (decide (c < 1024)) sl (0x10200000 + 0x100 * c) v

/-- R195. CTX_RECORD_WRITE: `off` is the register's offset in the record. -/
def execCtxRecordWrite (sl c off : Nat) (v : W32) (s : State) : Host.Outcome State Fault Refusal :=
  s.rowWrite (decide (c < 1024 ∧ off < 0x80)) sl (0x10200000 + 0x100 * c + off) v

/-- R197. LOAD_WINDOW_WRITE. -/
def execLoadWindowWrite (sl win word : Nat) (v : W32) (s : State) : Host.Outcome State Fault Refusal :=
  s.rowWrite (decide (win < 64 ∧ word < 1024)) sl (0x101C0000 + 0x1000 * win + 4 * word) v

/-- R286. LF_POP. -/
def execLfPop (sl : Nat) (v : W32) (s : State) : Host.Outcome State Fault Refusal :=
  s.rowWrite true sl 0x10600000 v

/-- R273. BRG_WIN_CFG_WRITE: `off` is the register's offset in the descriptor. -/
def execBrgWinCfgWrite (sl n off : Nat) (v : W32) (s : State) : Host.Outcome State Fault Refusal :=
  s.rowWrite (decide (n < 64 ∧ off < 0x10)) sl (0x10601000 + 0x10 * n + off) v

/-- R276. COMPAT_WRITE. -/
def execCompatWrite (sl : Nat) (v : W32) (s : State) : Host.Outcome State Fault Refusal :=
  s.rowWrite true sl 0x10600000 v

/-- R291. MSIX_UNMASK: the vector control word. -/
def execMsixUnmask (sl vec : Nat) (v : W32) (s : State) : Host.Outcome State Fault Refusal :=
  s.rowWrite (decide (vec < 2048)) sl (0x1113000C + 0x10 * vec) v

/-- R288. MSG_RT_WRITE. -/
def execMsgRtWrite (sl i : Nat) (v : W32) (s : State) : Host.Outcome State Fault Refusal :=
  s.rowWrite (decide (i < 4096)) sl (0x11100000 + 4 * i) v

/-- R329. SPT_POLICY_WRITE. -/
def execSptPolicyWrite (sl n : Nat) (v : W32) (s : State) : Host.Outcome State Fault Refusal :=
  s.rowWrite (decide (n < 16)) sl (0x10800004 + 0x1000 * n) v

/-- R328. SPT_PDO_WRITE. -/
def execSptPdoWrite (sl n i : Nat) (v : W32) (s : State) : Host.Outcome State Fault Refusal :=
  s.rowWrite (decide (n < 16 ∧ i < 4)) sl (0x10800010 + 0x1000 * n + 4 * i) v

/-- R325. SPT_CFG_WRITE. -/
def execSptCfgWrite (sl n : Nat) (v : W32) (s : State) : Host.Outcome State Fault Refusal :=
  s.rowWrite (decide (n < 16)) sl (0x10800000 + 0x1000 * n) v

/-- R357. RETRY_MAX_WRITE. -/
def execRetryMaxWrite (sl n : Nat) (v : W32) (s : State) : Host.Outcome State Fault Refusal :=
  s.rowWrite (decide (n < 16)) sl (0x1090000C + 0x100 * n) v

/-- R357. CLR_LATCH. -/
def execClrLatch (sl n : Nat) (v : W32) (s : State) : Host.Outcome State Fault Refusal :=
  s.rowWrite (decide (n < 16)) sl (0x10900020 + 0x100 * n) v

/-- R354. INJ_SC. -/
def execInjSc (sl n : Nat) (v : W32) (s : State) : Host.Outcome State Fault Refusal :=
  s.rowWrite (decide (n < 16)) sl (0x10900024 + 0x100 * n) v

/-- R366. USB_BUS_CFG_WRITE. -/
def execUsbBusCfgWrite (sl k : Nat) (v : W32) (s : State) : Host.Outcome State Fault Refusal :=
  s.rowWrite (decide (k < 4)) sl (0x10A00000 + 0x4000 * k) v

/-- R368. USB_SPT_MAP_WRITE. -/
def execUsbSptMapWrite (sl n : Nat) (v : W32) (s : State) : Host.Outcome State Fault Refusal :=
  s.rowWrite (decide (n < 16)) sl (0x10A10000 + 4 * n) v

/-- R389. INJ_XACT. -/
def execInjXact (sl k : Nat) (v : W32) (s : State) : Host.Outcome State Fault Refusal :=
  s.rowWrite (decide (k < 4)) sl (0x10A00024 + 0x4000 * k) v

/-- R393. MDIO_GO. -/
def execMdioGo (sl : Nat) (v : W32) (s : State) : Host.Outcome State Fault Refusal :=
  s.rowWrite true sl 0x10B08000 v

/-- R400. TXTS_POP. -/
def execTxtsPop (sl n : Nat) (v : W32) (s : State) : Host.Outcome State Fault Refusal :=
  s.rowWrite (decide (n < 8)) sl (0x10B00018 + 0x1000 * n) v

/-- R422. COMMIT. -/
def execCommit (sl : Nat) (v : W32) (s : State) : Host.Outcome State Fault Refusal :=
  s.rowWrite true sl 0x10D00000 v

/-- R419. DSP_LAYER_ENABLE. -/
def execDspLayerEnable (sl layer : Nat) (v : W32) (s : State) : Host.Outcome State Fault Refusal :=
  s.rowWrite (decide (layer < 6)) sl (0x10D00100 + 0x20 * layer) v

/-- R424. DSP_OUT_CFG_WRITE. -/
def execDspOutCfgWrite (sl n : Nat) (v : W32) (s : State) : Host.Outcome State Fault Refusal :=
  s.rowWrite (decide (n < 4)) sl (0x10D00200 + 0x10 * n) v

/-- R452. INJ_DOWN_WRITE: cascade port 1 to 3. -/
def execInjDownWrite (sl port : Nat) (v : W32) (s : State) : Host.Outcome State Fault Refusal :=
  s.rowWrite (decide (1 ≤ port ∧ port ≤ 3)) sl (0x10E00000 + 0x100 * port) v

/-- R480. TAMPER_INJECT. -/
def execTamperInject (sl : Nat) (v : W32) (s : State) : Host.Outcome State Fault Refusal :=
  s.rowWrite true sl 0x10F00018 v

/-- R534. FLT_INJ_GO. -/
def execFltInjGo (sl : Nat) (v : W32) (s : State) : Host.Outcome State Fault Refusal :=
  s.rowWrite true sl 0x11000014 v

end Sys2Proof.Machine
end

