-- ==== Sys2Proof/Machine/TankRows.lean ====
section
/-! DEFINITION. The bailer port (R489 to R494). -/
namespace Sys2Proof.Machine

/-- The core clock runs (R492, R493). -/
def State.coreClock (s : State) : Bool := s.coreUp && s.power.phase != .pll && !s.power.clockStopped

/-- Raising a rate-limited event whose limit covers every instance (R491, R492). -/
def State.raiseOnce (s : State) (period code inst payload : Nat) : State :=
  let last := assocGet 0 s.limited (code * 65536)
  if last = 0 ∨ last + period ≤ s.hubTime + 1 then
    { s.raiseP code inst payload with limited := assocSet 0 (code * 65536) (s.hubTime + 1) s.limited }
  else s

/-- A bailer access is refused (R491, R497). -/
def State.bailRefuse (s : State) : State :=
  let s := { s with tanks := { s.tanks with refusals := min (s.tanks.refusals + 1) 0xFFFFFFFF } }
  if s.firmware then s.raiseOnce 1000000 0x1403 0 0 else s

/-- The bytes of READ_STATUS (R493). -/
def State.bailStatus (s : State) : Bytes :=
  if s.power.phase = .dry then [0#8, 2#8] ++ zeros 6
  else
    let b0 := (if s.coreClock then 1 else 0) + (if s.halted then 2 else 0) + (if s.is GLB_HUB_STAT_ISLAND then 4 else 0) +
      (if s.is FLT_STAT_FROZEN then 8 else 0)
    leBytes 1 b0 ++ leBytes 1 (s.get CLK_PWR_STAT_STATE) ++ leBytes 1 (s.get SEC_STAT_LC) ++ leBytes 1 (s.get FLT_STAT_LEVEL) ++
      leBytes 2 (s.get FLT_LOG_IDX_NEXT) ++ leBytes 1 s.tanks.collisions ++ zeros 1

/-- R493. READ_STATUS: the port lies in the always-on domain. (DESIGN CHOICE, log 114) -/
def execBailReadStatus (s : State) : Host.Outcome State Fault Refusal :=
  .next (if s.power.phase = .held then s else s.emit (.bail s.bailStatus false))

/-- The port answers commands other than READ_STATUS (R489). -/
def State.bailOn (s : State) : Bool := s.power.phase != .held && s.power.phase != .dry

/-- R490. READ_ID. -/
def execBailReadId (s : State) : Host.Outcome State Fault Refusal :=
  .next (if s.bailOn then s.emit (.bail (leBytes 4 (s.word 0x10000008) ++ leBytes 4 (s.word 0x1000000C)) false) else s)

/-- A register range that READ serves (R491). -/
def bailReg (a : Nat) : Bool :=
  decide (0x10000000 ≤ a ∧ a < 0x10010000) || decide (0x11000000 ≤ a ∧ a < 0x11010000) || decide (0x10F00000 ≤ a ∧ a < 0x10F00030)

/-- The byte at address a of a READ of len bytes from addr, up to the 4,096th, in the words of 4-byte units read before it (R12,
R491). (DESIGN CHOICE, log 115) -/
def State.bailByte (s : State) (words : List (Nat × Nat)) (addr len a : Nat) : Byte :=
  if 4096 ≤ a - addr then 0#8
  else if 0x02300000 ≤ a ∧ a < 0x02400000 then memGet s.tanks.t3 (a - 0x02300000)
  else if bailReg a ∧ addr ≤ a / 4 * 4 ∧ a / 4 * 4 + 4 ≤ addr + len then
    BitVec.ofNat 8 (((assocFind words (a / 4 * 4)).getD 0) / 256 ^ (a % 4))
  else 0#8

/-- The register words that a READ covers, read in rising order, of at most k. -/
def State.bailWords (s : State) : List Nat → List (Nat × Nat) × State
  | [] => ([], s)
  | a :: l =>
    let (v, s) := s.read32 a
    let (w, s) := s.bailWords l
    ((a, v) :: w, s)

/-- One collision of a READ: tank 3 word w reads as a free value (R487, R492). -/
def State.bailCollision (s : State) (addr : Nat) (d : Bytes) (w : Nat) : Bytes × State :=
  let (k, s) := s.draw
  let free := leBytes 8 (Config.freeNat k)
  let d := (List.range d.length).map (fun i =>
    let a := addr + i
    if 0x02300000 + 8 * w ≤ a ∧ a < 0x02300000 + 8 * w + 8 then free.getD (a - (0x02300000 + 8 * w)) 0#8 else d.getD i 0#8)
  let s := { s with tanks := { s.tanks with collisions := min (s.tanks.collisions + 1) 0xFFFFFFFF } }
  (d, if s.firmware then s.raiseOnce 1000000 0x1402 (w % 65536) 0 else s)

/-- The collisions of a READ, one after the other. -/
def State.bailCollisions (s : State) (addr : Nat) (d : Bytes) : List Nat → Bytes × State
  | [] => (d, s)
  | w :: l =>
    let (d, s) := s.bailCollision addr d w
    s.bailCollisions addr d l

/-- R491, R492. READ of len bytes; `collide` names the tank 3 words that collide with a write of the owner. While the core clock
is stopped the data is open. (DESIGN CHOICE, log 117) -/
def execBailRead (addr len : Nat) (collide : List Nat) (s : State) : Host.Outcome State Fault Refusal :=
  .next (if !s.bailOn || decide (len = 0) then s
  else if !s.coreClock then
    let (k, s) := s.draw
    s.emit (.bail (leBytes len (Config.freeNat k)) true)
  else
    let served := fun a => decide (a < addr + 4096) && (decide (0x02300000 ≤ a ∧ a < 0x02400000) || bailReg a)
    let all := (List.range len).all (fun i => served (addr + i))
    let units := ((List.range (min len 4096)).map (fun i => addr + i)).filter
      (fun a => a % 4 == 0 && bailReg a && decide (a + 4 ≤ addr + min len 4096))
    let (words, s) := s.bailWords units
    let d := (List.range len).map (fun i => s.bailByte words addr (min len 4096) (addr + i))
    let hit := collide.filter (fun w => (List.range (min len 4096)).any (fun i =>
      decide (0x02300000 + 8 * w ≤ addr + i ∧ addr + i < 0x02300000 + 8 * w + 8 ∧ addr + i < 0x02400000)))
    let (d, s) := s.bailCollisions addr d hit
    let s := if all then s else s.bailRefuse
    s.emit (.bail d (!all || !hit.isEmpty)))

/-- R491. WRITE: whole inside the bailer window, 1 to 256 bytes, or discarded whole. (DESIGN CHOICE, log 116) -/
def execBailWrite (addr : Nat) (data : Bytes) (s : State) : Host.Outcome State Fault Refusal :=
  .next (if !s.bailOn || !s.coreClock || data.isEmpty then s
  else if 0x023D0000 ≤ addr ∧ addr + data.length ≤ 0x023E0000 ∧ data.length ≤ 256 then
    s.tankWrite 3 (addr - 0x02300000) data
  else s.bailRefuse)

/-- R494. DOORBELL. -/
def execBailDoorbell (data : Bytes) (s : State) : Host.Outcome State Fault Refusal :=
  .next (if !s.bailOn || !s.coreClock then s
  else
    let s := { s with tanks := { s.tanks with doorbells := min (s.tanks.doorbells + 1) 0xFFFFFFFF } }
    if s.firmware then s.raiseP 0x1401 0 (leAt data 0 4) else s)

end Sys2Proof.Machine
end

