-- ==== Sys2Proof/Machine/Dispatch.lean ====
section
/-! DEFINITION. Every command's row of the operation table goes to its meaning: one arm for each constructor of Instr. -/
namespace Sys2Proof.Machine

/-- The effect of a command on everything but the queue. -/
def exec (i : Instr) (s : State) : Host.Outcome State Fault Refusal :=
  match i with
  | .porstNRelease straps => Sys2Proof.Machine.execPorstNRelease straps s
  | .rootPllLock => Sys2Proof.Machine.execRootPllLock s
  | .firmwareAuthenticated primary secondary => Sys2Proof.Machine.execFirmwareAuthenticated primary secondary s
  | .systemContextStart => Sys2Proof.Machine.execSystemContextStart s
  | .porstNAssert => Sys2Proof.Machine.execPorstNAssert s
  | .powerFail => Sys2Proof.Machine.execPowerFail s
  | .powerRestore straps => Sys2Proof.Machine.execPowerRestore straps s
  | .watchdogExpiry => Sys2Proof.Machine.execWatchdogExpiry s
  | .clkWarmReset ch seq args => Sys2Proof.Machine.execClkWarmReset ch seq args s
  | .clkDryEnter ch seq args => Sys2Proof.Machine.execClkDryEnter ch seq args s
  | .dryDischargeDone => Sys2Proof.Machine.execDryDischargeDone s
  | .wakeSource src => Sys2Proof.Machine.execWakeSource src s
  | .dryWake straps drySec => Sys2Proof.Machine.execDryWake straps drySec s
  | .drowseEnWrite sl v => Sys2Proof.Machine.execDrowseEnWrite sl v s
  | .domainIdleGate d => Sys2Proof.Machine.execDomainIdleGate d s
  | .domainWakeDone d => Sys2Proof.Machine.execDomainWakeDone d s
  | .lpoTrim errPpm => Sys2Proof.Machine.execLpoTrim errPpm s
  | .pllLockLost inst => Sys2Proof.Machine.execPllLockLost inst s
  | .refclkLost rootPll => Sys2Proof.Machine.execRefclkLost rootPll s
  | .flashCopyDone slot0Blank slot1Blank => Sys2Proof.Machine.execFlashCopyDone slot0Blank slot1Blank s
  | .endpointReset hold => Sys2Proof.Machine.execEndpointReset hold s
  | .echo ch seq args => Sys2Proof.Machine.execEcho ch seq args s
  | .fwInfo ch seq args => Sys2Proof.Machine.execFwInfo ch seq args s
  | .bucketComplete io => Sys2Proof.Machine.execBucketComplete io s
  | .registerWrite sl addr width v => Sys2Proof.Machine.execRegisterWrite sl addr width v s
  | .lowWordReadLatch sl addr => Sys2Proof.Machine.execLowWordReadLatch sl addr s
  | .laneSignalDetect n => Sys2Proof.Machine.execLaneSignalDetect n s
  | .primingStateTimeout => Sys2Proof.Machine.execPrimingStateTimeout s
  | .primingTimeout => Sys2Proof.Machine.execPrimingTimeout s
  | .primingRestartTimer => Sys2Proof.Machine.execPrimingRestartTimer s
  | .trkPrime sl v => Sys2Proof.Machine.execTrkPrime sl v s
  | .laneLock n inverted => Sys2Proof.Machine.execLaneLock n inverted s
  | .ts1 n r => Sys2Proof.Machine.execTs1 n r s
  | .ts2 n r => Sys2Proof.Machine.execTs2 n r s
  | .eqReq n r => Sys2Proof.Machine.execEqReq n r s
  | .eqAck n r => Sys2Proof.Machine.execEqAck n r s
  | .stepRec r => Sys2Proof.Machine.execStepRec r s
  | .rateChange => Sys2Proof.Machine.execRateChange s
  | .result r => Sys2Proof.Machine.execResult r s
  | .stepCheckComplete failMask => Sys2Proof.Machine.execStepCheckComplete failMask s
  | .ready dockRecs => Sys2Proof.Machine.execReady dockRecs s
  | .trkOeEnWrite sl v => Sys2Proof.Machine.execTrkOeEnWrite sl v s
  | .oeFault => Sys2Proof.Machine.execOeFault s
  | .oeLos => Sys2Proof.Machine.execOeLos s
  | .l0qIdleTimeout => Sys2Proof.Machine.execL0qIdleTimeout s
  | .trkL2dReqWrite sl v => Sys2Proof.Machine.execTrkL2dReqWrite sl v s
  | .l2dReq => Sys2Proof.Machine.execL2dReq s
  | .l2dAck refused => Sys2Proof.Machine.execL2dAck refused s
  | .prbsError n => Sys2Proof.Machine.execPrbsError n s
  | .laneQualified n => Sys2Proof.Machine.execLaneQualified n s
  | .laneFault n kind => Sys2Proof.Machine.execLaneFault n kind s
  | .trkLaneReadmit ch seq args => Sys2Proof.Machine.execTrkLaneReadmit ch seq args s
  | .trkOeRead ch seq args => Sys2Proof.Machine.execTrkOeRead ch seq args s
  | .trkOeWrite ch seq args => Sys2Proof.Machine.execTrkOeWrite ch seq args s
  | .prbsClr sl n v => Sys2Proof.Machine.execPrbsClr sl n v s
  | .injPrbsErr sl n v => Sys2Proof.Machine.execInjPrbsErr sl n v s
  | .flitReceive port header body uncorrectable symbols => Sys2Proof.Machine.execFlitReceive port header body uncorrectable symbols s
  | .nak port raw => Sys2Proof.Machine.execNak port raw s
  | .flitSlot port => Sys2Proof.Machine.execFlitSlot port s
  | .replayTimeout port => Sys2Proof.Machine.execReplayTimeout port s
  | .nakHoldExpiry port => Sys2Proof.Machine.execNakHoldExpiry port s
  | .packWindowExpiry port => Sys2Proof.Machine.execPackWindowExpiry port s
  | .aseqIdleTimeout => Sys2Proof.Machine.execAseqIdleTimeout s
  | .laneDrop epoch lane mask => Sys2Proof.Machine.execLaneDrop epoch lane mask s
  | .fallbackAnn epoch lanes tbl cycle => Sys2Proof.Machine.execFallbackAnn epoch lanes tbl cycle s
  | .swapRec tbl lanes cycle => Sys2Proof.Machine.execSwapRec tbl lanes cycle s
  | .creditSync port ctl spo => Sys2Proof.Machine.execCreditSync port ctl spo s
  | .stbyStateReceive e next ctl spo used taken => Sys2Proof.Machine.execStbyStateReceive e next ctl spo used taken s
  | .stbyFlitForward lseq cls body ftype segn => Sys2Proof.Machine.execStbyFlitForward lseq cls body ftype segn s
  | .stbyTake e next ctl spo => Sys2Proof.Machine.execStbyTake e next ctl spo s
  | .cntClr sl v => Sys2Proof.Machine.execCntClr sl v s
  | .injHcrc sl v => Sys2Proof.Machine.execInjHcrc sl v s
  | .injUncorr sl v => Sys2Proof.Machine.execInjUncorr sl v s
  | .cycleBoundary => Sys2Proof.Machine.execCycleBoundary s
  | .altCalCommit ch seq args => Sys2Proof.Machine.execAltCalCommit ch seq args s
  | .altSwap ch seq args => Sys2Proof.Machine.execAltSwap ch seq args s
  | .altProfile ch seq args => Sys2Proof.Machine.execAltProfile ch seq args s
  | .altCalEntWrite sl bank lanes slot v => Sys2Proof.Machine.execAltCalEntWrite sl bank lanes slot v s
  | .altCalPhaseWrite sl v => Sys2Proof.Machine.execAltCalPhaseWrite sl v s
  | .refillTick => Sys2Proof.Machine.execRefillTick s
  | .shaperShadowWrite sl n off v => Sys2Proof.Machine.execShaperShadowWrite sl n off v s
  | .portSchedule port => Sys2Proof.Machine.execPortSchedule port s
  | .frameTransmitDone port => Sys2Proof.Machine.execFrameTransmitDone port s
  | .gateTransition n => Sys2Proof.Machine.execGateTransition n s
  | .cfgChange sl n v => Sys2Proof.Machine.execCfgChange sl n v s
  | .gclChangeTime n => Sys2Proof.Machine.execGclChangeTime n s
  | .frameIngress port data => Sys2Proof.Machine.execFrameIngress port data s
  | .welCfgWrite sl n v => Sys2Proof.Machine.execWelCfgWrite sl n v s
  | .welMarkWrite sl n low v => Sys2Proof.Machine.execWelMarkWrite sl n low v s
  | .ageSweep => Sys2Proof.Machine.execAgeSweep s
  | .welFlush ch seq args => Sys2Proof.Machine.execWelFlush ch seq args s
  | .dipperEnable sl v => Sys2Proof.Machine.execDipperEnable sl v s
  | .dipperRecordWritten => Sys2Proof.Machine.execDipperRecordWritten s
  | .chainDispatch p t => Sys2Proof.Machine.execChainDispatch p t s
  | .icacheFillDone p t => Sys2Proof.Machine.execIcacheFillDone p t s
  | .longOperationDone p t => Sys2Proof.Machine.execLongOperationDone p t s
  | .ctxStateWrite sl c v => Sys2Proof.Machine.execCtxStateWrite sl c v s
  | .ctxRecordWrite sl c off v => Sys2Proof.Machine.execCtxRecordWrite sl c off v s
  | .loadWindowWrite sl win word v => Sys2Proof.Machine.execLoadWindowWrite sl win word v s
  | .pmpPageAssign ch seq args => Sys2Proof.Machine.execPmpPageAssign ch seq args s
  | .pmpPageOpen ch seq args => Sys2Proof.Machine.execPmpPageOpen ch seq args s
  | .pmpPageSeal ch seq args => Sys2Proof.Machine.execPmpPageSeal ch seq args s
  | .pmpPageFree ch seq args => Sys2Proof.Machine.execPmpPageFree ch seq args s
  | .contextTimerExpiry c k => Sys2Proof.Machine.execContextTimerExpiry c k s
  | .parkTimeReached p t => Sys2Proof.Machine.execParkTimeReached p t s
  | .wIll p t word => Sys2Proof.Machine.execWIll p t word s
  | .wAdd p t gd ga gb m => Sys2Proof.Machine.execWAdd p t gd ga gb m s
  | .wSub p t gd ga gb m => Sys2Proof.Machine.execWSub p t gd ga gb m s
  | .wAnd p t gd ga gb m => Sys2Proof.Machine.execWAnd p t gd ga gb m s
  | .wOr p t gd ga gb m => Sys2Proof.Machine.execWOr p t gd ga gb m s
  | .wXor p t gd ga gb m => Sys2Proof.Machine.execWXor p t gd ga gb m s
  | .wAndn p t gd ga gb m => Sys2Proof.Machine.execWAndn p t gd ga gb m s
  | .wSll p t gd ga gb m => Sys2Proof.Machine.execWSll p t gd ga gb m s
  | .wSrl p t gd ga gb m => Sys2Proof.Machine.execWSrl p t gd ga gb m s
  | .wSra p t gd ga gb m => Sys2Proof.Machine.execWSra p t gd ga gb m s
  | .wRol p t gd ga gb m => Sys2Proof.Machine.execWRol p t gd ga gb m s
  | .wRor p t gd ga gb m => Sys2Proof.Machine.execWRor p t gd ga gb m s
  | .wMul p t gd ga gb m => Sys2Proof.Machine.execWMul p t gd ga gb m s
  | .wMulhu p t gd ga gb m => Sys2Proof.Machine.execWMulhu p t gd ga gb m s
  | .wMin p t gd ga gb m => Sys2Proof.Machine.execWMin p t gd ga gb m s
  | .wMax p t gd ga gb m => Sys2Proof.Machine.execWMax p t gd ga gb m s
  | .wMinu p t gd ga gb m => Sys2Proof.Machine.execWMinu p t gd ga gb m s
  | .wMaxu p t gd ga gb m => Sys2Proof.Machine.execWMaxu p t gd ga gb m s
  | .wClz p t gd ga m => Sys2Proof.Machine.execWClz p t gd ga m s
  | .wCtz p t gd ga m => Sys2Proof.Machine.execWCtz p t gd ga m s
  | .wPopc p t gd ga m => Sys2Proof.Machine.execWPopc p t gd ga m s
  | .wBswap p t gd ga m => Sys2Proof.Machine.execWBswap p t gd ga m s
  | .wCsel p t gd ga gb cond m => Sys2Proof.Machine.execWCsel p t gd ga gb cond m s
  | .wAddc p t gd ga gb m => Sys2Proof.Machine.execWAddc p t gd ga gb m s
  | .wSubb p t gd ga gb m => Sys2Proof.Machine.execWSubb p t gd ga gb m s
  | .wBfx p t gd ga pos wm1 sx => Sys2Proof.Machine.execWBfx p t gd ga pos wm1 sx s
  | .wBfi p t gd ga pos wm1 => Sys2Proof.Machine.execWBfi p t gd ga pos wm1 s
  | .wAddi p t gd ga imm => Sys2Proof.Machine.execWAddi p t gd ga imm s
  | .wAndi p t gd ga imm => Sys2Proof.Machine.execWAndi p t gd ga imm s
  | .wOri p t gd ga imm => Sys2Proof.Machine.execWOri p t gd ga imm s
  | .wXori p t gd ga imm => Sys2Proof.Machine.execWXori p t gd ga imm s
  | .wShor p t gd ga imm => Sys2Proof.Machine.execWShor p t gd ga imm s
  | .wSlli p t gd ga imm => Sys2Proof.Machine.execWSlli p t gd ga imm s
  | .wSrli p t gd ga imm => Sys2Proof.Machine.execWSrli p t gd ga imm s
  | .wSrai p t gd ga imm => Sys2Proof.Machine.execWSrai p t gd ga imm s
  | .wCmpi p t ga imm => Sys2Proof.Machine.execWCmpi p t ga imm s
  | .wBeq p t ga gb off => Sys2Proof.Machine.execWBeq p t ga gb off s
  | .wBne p t ga gb off => Sys2Proof.Machine.execWBne p t ga gb off s
  | .wBlt p t ga gb off => Sys2Proof.Machine.execWBlt p t ga gb off s
  | .wBge p t ga gb off => Sys2Proof.Machine.execWBge p t ga gb off s
  | .wBltu p t ga gb off => Sys2Proof.Machine.execWBltu p t ga gb off s
  | .wBgeu p t ga gb off => Sys2Proof.Machine.execWBgeu p t ga gb off s
  | .wBc p t cond off => Sys2Proof.Machine.execWBc p t cond off s
  | .wJ p t off => Sys2Proof.Machine.execWJ p t off s
  | .wJl p t gd off => Sys2Proof.Machine.execWJl p t gd off s
  | .wJalr p t gd ga => Sys2Proof.Machine.execWJalr p t gd ga s
  | .wMfs p t gd sel => Sys2Proof.Machine.execWMfs p t gd sel s
  | .wMts p t ga sel => Sys2Proof.Machine.execWMts p t ga sel s
  | .wLd8 p t gd ga imm => Sys2Proof.Machine.execWLd8 p t gd ga imm s
  | .wLd16 p t gd ga imm => Sys2Proof.Machine.execWLd16 p t gd ga imm s
  | .wLd32 p t gd ga imm => Sys2Proof.Machine.execWLd32 p t gd ga imm s
  | .wLd64 p t gd ga imm => Sys2Proof.Machine.execWLd64 p t gd ga imm s
  | .wLd8s p t gd ga imm => Sys2Proof.Machine.execWLd8s p t gd ga imm s
  | .wLd16s p t gd ga imm => Sys2Proof.Machine.execWLd16s p t gd ga imm s
  | .wLd32s p t gd ga imm => Sys2Proof.Machine.execWLd32s p t gd ga imm s
  | .wSt8 p t gd ga imm => Sys2Proof.Machine.execWSt8 p t gd ga imm s
  | .wSt16 p t gd ga imm => Sys2Proof.Machine.execWSt16 p t gd ga imm s
  | .wSt32 p t gd ga imm => Sys2Proof.Machine.execWSt32 p t gd ga imm s
  | .wSt64 p t gd ga imm => Sys2Proof.Machine.execWSt64 p t gd ga imm s
  | .wWld p t gd off size gx => Sys2Proof.Machine.execWWld p t gd off size gx s
  | .wWlds p t gd off size gx => Sys2Proof.Machine.execWWlds p t gd off size gx s
  | .wWst p t gd off size gx => Sys2Proof.Machine.execWWst p t gd off size gx s
  | .wWcmp p t gd off size gx => Sys2Proof.Machine.execWWcmp p t gd off size gx s
  | .wFetch p t gd ga gb nm1 => Sys2Proof.Machine.execWFetch p t gd ga gb nm1 s
  | .wPut p t gd ga gb nm1 => Sys2Proof.Machine.execWPut p t gd ga gb nm1 s
  | .wTrim p t gd ga => Sys2Proof.Machine.execWTrim p t gd ga s
  | .wPrep p t gd ga => Sys2Proof.Machine.execWPrep p t gd ga s
  | .wApnd p t gd ga nm1 => Sys2Proof.Machine.execWApnd p t gd ga nm1 s
  | .wCut p t gd ga => Sys2Proof.Machine.execWCut p t gd ga s
  | .wLen p t gd => Sys2Proof.Machine.execWLen p t gd s
  | .wLkpx p t gd ga gb k => Sys2Proof.Machine.execWLkpx p t gd ga gb k s
  | .wLkpd p t gd ga gb k => Sys2Proof.Machine.execWLkpd p t gd ga gb k s
  | .wHash p t gd ga gb => Sys2Proof.Machine.execWHash p t gd ga gb s
  | .wCrc32c p t gd ga gb fin => Sys2Proof.Machine.execWCrc32c p t gd ga gb fin s
  | .wCrc16 p t gd ga gb fin => Sys2Proof.Machine.execWCrc16 p t gd ga gb fin s
  | .wSeal p t gd ga gb => Sys2Proof.Machine.execWSeal p t gd ga gb s
  | .wOpen p t gd ga gb => Sys2Proof.Machine.execWOpen p t gd ga gb s
  | .wEnq p t ga gb d l c => Sys2Proof.Machine.execWEnq p t ga gb d l c s
  | .wFwd p t ga gb c => Sys2Proof.Machine.execWFwd p t ga gb c s
  | .wMsg p t gd ga gb => Sys2Proof.Machine.execWMsg p t gd ga gb s
  | .wCld p t gd ga self w => Sys2Proof.Machine.execWCld p t gd ga self w s
  | .wCst p t gd ga gb self w => Sys2Proof.Machine.execWCst p t gd ga gb self w s
  | .wCadd p t gd ga gb self w => Sys2Proof.Machine.execWCadd p t gd ga gb self w s
  | .wCand p t gd ga gb self w => Sys2Proof.Machine.execWCand p t gd ga gb self w s
  | .wCor p t gd ga gb self w => Sys2Proof.Machine.execWCor p t gd ga gb self w s
  | .wCxch p t gd ga gb self w => Sys2Proof.Machine.execWCxch p t gd ga gb self w s
  | .wCcas p t gd ga gb self w => Sys2Proof.Machine.execWCcas p t gd ga gb self w s
  | .wTset p t ga gb k => Sys2Proof.Machine.execWTset p t ga gb k s
  | .wTseta p t ga gb k => Sys2Proof.Machine.execWTseta p t ga gb k s
  | .wTclr p t gd k => Sys2Proof.Machine.execWTclr p t gd k s
  | .wYld p t ga cond => Sys2Proof.Machine.execWYld p t ga cond s
  | .wEnd p t => Sys2Proof.Machine.execWEnd p t s
  | .wDrop p t => Sys2Proof.Machine.execWDrop p t s
  | .wTrap p t => Sys2Proof.Machine.execWTrap p t s
  | .hostRead win off len => Sys2Proof.Machine.execHostRead win off len s
  | .hostWrite win off data => Sys2Proof.Machine.execHostWrite win off data s
  | .completionReceive up tag gen st data => Sys2Proof.Machine.execCompletionReceive up tag gen st data s
  | .readTimeout tag => Sys2Proof.Machine.execReadTimeout tag s
  | .abandonedTagExpiry up tag => Sys2Proof.Machine.execAbandonedTagExpiry up tag s
  | .delayedRequestReceive r => Sys2Proof.Machine.execDelayedRequestReceive r s
  | .retryAnswer tag => Sys2Proof.Machine.execRetryAnswer tag s
  | .delayedResend tag => Sys2Proof.Machine.execDelayedResend tag s
  | .drdTimeout slot => Sys2Proof.Machine.execDrdTimeout slot s
  | .orderingModeChange => Sys2Proof.Machine.execOrderingModeChange s
  | .lateFaultReport cause win slice gen tag addr => Sys2Proof.Machine.execLateFaultReport cause win slice gen tag addr s
  | .lfPop sl v => Sys2Proof.Machine.execLfPop sl v s
  | .brgWinCfgWrite sl n off v => Sys2Proof.Machine.execBrgWinCfgWrite sl n off v s
  | .compatWrite sl v => Sys2Proof.Machine.execCompatWrite sl v s
  | .messageDelivery => Sys2Proof.Machine.execMessageDelivery s
  | .remoteMessageReceive src body => Sys2Proof.Machine.execRemoteMessageReceive src body s
  | .msixUnmask sl vec v => Sys2Proof.Machine.execMsixUnmask sl vec v s
  | .msgRtWrite sl idx v => Sys2Proof.Machine.execMsgRtWrite sl idx v s
  | .msgRtSet ch seq args => Sys2Proof.Machine.execMsgRtSet ch seq args s
  | .msgRtGet ch seq args => Sys2Proof.Machine.execMsgRtGet ch seq args s
  | .slcBind ch seq args => Sys2Proof.Machine.execSlcBind ch seq args s
  | .slcReset ch seq args => Sys2Proof.Machine.execSlcReset ch seq args s
  | .slcRemove ch seq args => Sys2Proof.Machine.execSlcRemove ch seq args s
  | .sliceResetNotice remove slice => Sys2Proof.Machine.execSliceResetNotice remove slice s
  | .sliceResetReport hub => Sys2Proof.Machine.execSliceResetReport hub s
  | .sliceResetBound => Sys2Proof.Machine.execSliceResetBound s
  | .drpToggle n => Sys2Proof.Machine.execDrpToggle n s
  | .ccTerminationChange n cc => Sys2Proof.Machine.execCcTerminationChange n cc s
  | .attachDebounceExpiry n => Sys2Proof.Machine.execAttachDebounceExpiry n s
  | .detachDebounceExpiry n => Sys2Proof.Machine.execDetachDebounceExpiry n s
  | .moistureCheckDue n => Sys2Proof.Machine.execMoistureCheckDue n s
  | .moistureCheckDone n yx g => Sys2Proof.Machine.execMoistureCheckDone n yx g s
  | .leakLogDay n => Sys2Proof.Machine.execLeakLogDay n s
  | .request n objpos iop => Sys2Proof.Machine.execRequest n objpos iop s
  | .voutSettled n => Sys2Proof.Machine.execVoutSettled n s
  | .contractSettleTimeout n => Sys2Proof.Machine.execContractSettleTimeout n s
  | .prSwap n => Sys2Proof.Machine.execPrSwap n s
  | .drSwap n => Sys2Proof.Machine.execDrSwap n s
  | .vconnSwap n => Sys2Proof.Machine.execVconnSwap n s
  | .accept n => Sys2Proof.Machine.execAccept n s
  | .reject n => Sys2Proof.Machine.execReject n s
  | .waitAnswer n => Sys2Proof.Machine.execWaitAnswer n s
  | .psRdy n => Sys2Proof.Machine.execPsRdy n s
  | .hardReset n => Sys2Proof.Machine.execHardReset n s
  | .softReset n => Sys2Proof.Machine.execSoftReset n s
  | .getSourceCap n => Sys2Proof.Machine.execGetSourceCap n s
  | .getStatus n => Sys2Proof.Machine.execGetStatus n s
  | .notSupportedAnswer n => Sys2Proof.Machine.execNotSupportedAnswer n s
  | .discoverResponse n kind vdos => Sys2Proof.Machine.execDiscoverResponse n kind vdos s
  | .enterModeAck n => Sys2Proof.Machine.execEnterModeAck n s
  | .enterModeNak n => Sys2Proof.Machine.execEnterModeNak n s
  | .attention n hpd irqLinkLost => Sys2Proof.Machine.execAttention n hpd irqLinkLost s
  | .swapRetryTimer n => Sys2Proof.Machine.execSwapRetryTimer n s
  | .sptPolicyWrite sl n v => Sys2Proof.Machine.execSptPolicyWrite sl n v s
  | .sptPdoWrite sl n idx v => Sys2Proof.Machine.execSptPdoWrite sl n idx v s
  | .sptCfgWrite sl n v => Sys2Proof.Machine.execSptCfgWrite sl n v s
  | .sptMode ch seq args => Sys2Proof.Machine.execSptMode ch seq args s
  | .sptHardReset ch seq args => Sys2Proof.Machine.execSptHardReset ch seq args s
  | .sptDiscRead ch seq args => Sys2Proof.Machine.execSptDiscRead ch seq args s
  | .samLinkUp n => Sys2Proof.Machine.execSamLinkUp n s
  | .samFrameReceive n raw => Sys2Proof.Machine.execSamFrameReceive n raw s
  | .hswSample n vin vout cur senseOpen => Sys2Proof.Machine.execHswSample n vin vout cur senseOpen s
  | .insertionDelayElapsed n => Sys2Proof.Machine.execInsertionDelayElapsed n s
  | .prechargeTimeout n => Sys2Proof.Machine.execPrechargeTimeout n s
  | .settleTimeout n => Sys2Proof.Machine.execSettleTimeout n s
  | .vselWindowTimeout n => Sys2Proof.Machine.execVselWindowTimeout n s
  | .overcurrentClear n => Sys2Proof.Machine.execOvercurrentClear n s
  | .faultTimerExpiry n => Sys2Proof.Machine.execFaultTimerExpiry n s
  | .shortCircuitTrip n => Sys2Proof.Machine.execShortCircuitTrip n s
  | .retryTimerExpiry n => Sys2Proof.Machine.execRetryTimerExpiry n s
  | .powerGoodSecond n => Sys2Proof.Machine.execPowerGoodSecond n s
  | .retryMaxWrite sl n v => Sys2Proof.Machine.execRetryMaxWrite sl n v s
  | .clrLatch sl n v => Sys2Proof.Machine.execClrLatch sl n v s
  | .injSc sl n v => Sys2Proof.Machine.execInjSc sl n v s
  | .ccOvpDetect n => Sys2Proof.Machine.execCcOvpDetect n s
  | .senseOkRestore n => Sys2Proof.Machine.execSenseOkRestore n s
  | .cabinetReversed => Sys2Proof.Machine.execCabinetReversed s
  | .pfwAssert => Sys2Proof.Machine.execPfwAssert s
  | .pfwClear => Sys2Proof.Machine.execPfwClear s
  | .doorbellPoll k arr => Sys2Proof.Machine.execDoorbellPoll k arr s
  | .descriptorFetchDone k ring descs => Sys2Proof.Machine.execDescriptorFetchDone k ring descs s
  | .epConfig k slot rec => Sys2Proof.Machine.execEpConfig k slot rec s
  | .epDisable k slot => Sys2Proof.Machine.execEpDisable k slot s
  | .epReset k slot => Sys2Proof.Machine.execEpReset k slot s
  | .epStop k slot => Sys2Proof.Machine.execEpStop k slot s
  | .setDeq k slot param => Sys2Proof.Machine.execSetDeq k slot param s
  | .portReset k port => Sys2Proof.Machine.execPortReset k port s
  | .portSuspend k port => Sys2Proof.Machine.execPortSuspend k port s
  | .portResume k port => Sys2Proof.Machine.execPortResume k port s
  | .busSuspend k => Sys2Proof.Machine.execBusSuspend k s
  | .busResume k => Sys2Proof.Machine.execBusResume k s
  | .ttClear k slot port => Sys2Proof.Machine.execTtClear k slot port s
  | .busReset k => Sys2Proof.Machine.execBusReset k s
  | .ringErr k ring => Sys2Proof.Machine.execRingErr k ring s
  | .usbTransactionResult k slot r => Sys2Proof.Machine.execUsbTransactionResult k slot r s
  | .portResetEnd k port speed => Sys2Proof.Machine.execPortResetEnd k port speed s
  | .resumeEnd k port => Sys2Proof.Machine.execResumeEnd k port s
  | .suspendIdle k port => Sys2Proof.Machine.execSuspendIdle k port s
  | .remoteWake k port => Sys2Proof.Machine.execRemoteWake k port s
  | .usbConnectChange k port conn speed => Sys2Proof.Machine.execUsbConnectChange k port conn speed s
  | .usbBusCfgWrite sl k v => Sys2Proof.Machine.execUsbBusCfgWrite sl k v s
  | .usbSptMapWrite sl n v => Sys2Proof.Machine.execUsbSptMapWrite sl n v s
  | .injXact sl k v => Sys2Proof.Machine.execInjXact sl k v s
  | .ethFrameReceive n data fcsOk => Sys2Proof.Machine.execEthFrameReceive n data fcsOk s
  | .pauseFrameReceive n pfc vector quanta => Sys2Proof.Machine.execPauseFrameReceive n pfc vector quanta s
  | .pauseHoldExpiry n => Sys2Proof.Machine.execPauseHoldExpiry n s
  | .flowControlRepeat n => Sys2Proof.Machine.execFlowControlRepeat n s
  | .ethLinkChange n up speed => Sys2Proof.Machine.execEthLinkChange n up speed s
  | .ethPhyInterrupt n => Sys2Proof.Machine.execEthPhyInterrupt n s
  | .mdioGo sl v => Sys2Proof.Machine.execMdioGo sl v s
  | .mdioDone data => Sys2Proof.Machine.execMdioDone data s
  | .txtsPop sl n v => Sys2Proof.Machine.execTxtsPop sl n v s
  | .hubTimeStep newTime offset => Sys2Proof.Machine.execHubTimeStep newTime offset s
  | .deviceRequest m write addr len data => Sys2Proof.Machine.execDeviceRequest m write addr len data s
  | .rootPortErrorMessage m => Sys2Proof.Machine.execRootPortErrorMessage m s
  | .rootPortLinkChange m up gen width => Sys2Proof.Machine.execRootPortLinkChange m up gen width s
  | .configAccess m fn off write v => Sys2Proof.Machine.execConfigAccess m fn off write v s
  | .configCompletion m st data => Sys2Proof.Machine.execConfigCompletion m st data s
  | .lineRecordReceive sl rec => Sys2Proof.Machine.execLineRecordReceive sl rec s
  | .lineStart => Sys2Proof.Machine.execLineStart s
  | .commit sl v => Sys2Proof.Machine.execCommit sl v s
  | .dspLayerEnable sl layer v => Sys2Proof.Machine.execDspLayerEnable sl layer v s
  | .dspOutCfgWrite sl n v => Sys2Proof.Machine.execDspOutCfgWrite sl n v s
  | .outputTrainDone n e => Sys2Proof.Machine.execOutputTrainDone n e s
  | .casPortStart port => Sys2Proof.Machine.execCasPortStart port s
  | .casLockTimeout port => Sys2Proof.Machine.execCasLockTimeout port s
  | .casRestartTimer port => Sys2Proof.Machine.execCasRestartTimer port s
  | .hello port casId role links trunk dockRecs => Sys2Proof.Machine.execHello port casId role links trunk dockRecs s
  | .casLinkFault port => Sys2Proof.Machine.execCasLinkFault port s
  | .casSilenceTimeout port => Sys2Proof.Machine.execCasSilenceTimeout port s
  | .linkState port casId role links trunk => Sys2Proof.Machine.execLinkState port casId role links trunk s
  | .memberDownTimeout m => Sys2Proof.Machine.execMemberDownTimeout m s
  | .casGrpSwap ch seq args => Sys2Proof.Machine.execCasGrpSwap ch seq args s
  | .casGrpInfo ch seq args => Sys2Proof.Machine.execCasGrpInfo ch seq args s
  | .gswapPrep port req bank time => Sys2Proof.Machine.execGswapPrep port req bank time s
  | .gswapAck port req refuse => Sys2Proof.Machine.execGswapAck port req refuse s
  | .gswapCommit port req => Sys2Proof.Machine.execGswapCommit port req s
  | .gswapAbort port req => Sys2Proof.Machine.execGswapAbort port req s
  | .gswapTimeout => Sys2Proof.Machine.execGswapTimeout s
  | .gswapPrepDiscard => Sys2Proof.Machine.execGswapPrepDiscard s
  | .injDownWrite sl port v => Sys2Proof.Machine.execInjDownWrite sl port v s
  | .tamper src => Sys2Proof.Machine.execTamper src s
  | .tamperInject sl v => Sys2Proof.Machine.execTamperInject sl v s
  | .remaskPass => Sys2Proof.Machine.execRemaskPass s
  | .trngHealthFail => Sys2Proof.Machine.execTrngHealthFail s
  | .nonceExpiry => Sys2Proof.Machine.execNonceExpiry s
  | .secInfo ch seq args => Sys2Proof.Machine.execSecInfo ch seq args s
  | .secOwnerSet ch seq args => Sys2Proof.Machine.execSecOwnerSet ch seq args s
  | .secRootGen ch seq args => Sys2Proof.Machine.execSecRootGen ch seq args s
  | .secLcChallenge ch seq args => Sys2Proof.Machine.execSecLcChallenge ch seq args s
  | .secTokenPut ch seq args => Sys2Proof.Machine.execSecTokenPut ch seq args s
  | .secLcChange ch seq args => Sys2Proof.Machine.execSecLcChange ch seq args s
  | .secDebugClose ch seq args => Sys2Proof.Machine.execSecDebugClose ch seq args s
  | .secKeyAssign ch seq args => Sys2Proof.Machine.execSecKeyAssign ch seq args s
  | .secKeyLoad ch seq args => Sys2Proof.Machine.execSecKeyLoad ch seq args s
  | .secKeyDerive ch seq args => Sys2Proof.Machine.execSecKeyDerive ch seq args s
  | .secKeyWrap ch seq args => Sys2Proof.Machine.execSecKeyWrap ch seq args s
  | .secKeyUnwrap ch seq args => Sys2Proof.Machine.execSecKeyUnwrap ch seq args s
  | .secKeyZero ch seq args => Sys2Proof.Machine.execSecKeyZero ch seq args s
  | .secKeyInfo ch seq args => Sys2Proof.Machine.execSecKeyInfo ch seq args s
  | .secureWipeDone => Sys2Proof.Machine.execSecureWipeDone s
  | .bailReadStatus => Sys2Proof.Machine.execBailReadStatus s
  | .bailReadId => Sys2Proof.Machine.execBailReadId s
  | .bailRead addr len collide => Sys2Proof.Machine.execBailRead addr len collide s
  | .bailWrite addr data => Sys2Proof.Machine.execBailWrite addr data s
  | .bailDoorbell data => Sys2Proof.Machine.execBailDoorbell data s
  | .tnkInfo ch seq args => Sys2Proof.Machine.execTnkInfo ch seq args s
  | .faultHandlingDone => Sys2Proof.Machine.execFaultHandlingDone s
  | .fabricTimeout block => Sys2Proof.Machine.execFabricTimeout block s
  | .junctionTempCrossing temp => Sys2Proof.Machine.execJunctionTempCrossing temp s
  | .fltInjGo sl v => Sys2Proof.Machine.execFltInjGo sl v s
  | .fltRecover ch seq args => Sys2Proof.Machine.execFltRecover ch seq args s
  | .fltInputRearm ch seq args => Sys2Proof.Machine.execFltInputRearm ch seq args s
  | .fltBistRun ch seq args => Sys2Proof.Machine.execFltBistRun ch seq args s
  | .fltLogThaw ch seq args => Sys2Proof.Machine.execFltLogThaw ch seq args s
  | .bistSectorDone sig golden => Sys2Proof.Machine.execBistSectorDone sig golden s
  | .bistSectorTimeout => Sys2Proof.Machine.execBistSectorTimeout s
  | .inputActiveEdge idx => Sys2Proof.Machine.execInputActiveEdge idx s
  | .inputStuck idx => Sys2Proof.Machine.execInputStuck idx s
  | .inputUnstuck idx => Sys2Proof.Machine.execInputUnstuck idx s
  | .sourceCapabilities n => Sys2Proof.Machine.execSourceCapabilities n s
  | .getSinkCap n => Sys2Proof.Machine.execGetSinkCap n s
  | .exitModeAck n => Sys2Proof.Machine.execExitModeAck n s
  | .hardResetVbusRestore n => Sys2Proof.Machine.execHardResetVbusRestore n s
  | .tryTimeout n => Sys2Proof.Machine.execTryTimeout n s
  | .errorRecoveryTimeout n => Sys2Proof.Machine.execErrorRecoveryTimeout n s
  | .vbusSenseChange n above => Sys2Proof.Machine.execVbusSenseChange n above s
  | .oeLosFall => Sys2Proof.Machine.execOeLosFall s
  | .peerSignalDetected => Sys2Proof.Machine.execPeerSignalDetected s
  | .upstreamCompletionTimeout tag => Sys2Proof.Machine.execUpstreamCompletionTimeout tag s
  | .endpointLinkChange up => Sys2Proof.Machine.execEndpointLinkChange up s
  | .trngHealthRestored => Sys2Proof.Machine.execTrngHealthRestored s
  | .alignmentMarker order => Sys2Proof.Machine.execAlignmentMarker order s

end Sys2Proof.Machine
end

