-- ==== Sys2Proof/Machine/Idle.lean ====
section
/-! DEFINITION. What passes while no command waits: hub time, and the vault's count of seconds (R10, R459, R513). -/
namespace Sys2Proof.Machine

/-- One nanosecond on the vault's clock, which runs in every state of the core: at each full second the counter moves (R482). -/
def State.vaultTick (s : State) : State :=
  let n := s.vault.ns + 1
  if n < 1000000000 then { s with vault := { s.vault with ns := n } }
  else { s with vault := { s.vault with ns := 0 } }.addWrap SEC_VTIME_SECONDS 1

/-- One nanosecond without a command: hub time runs on while it runs, and the vault's clock always. Everything else that time
brings about has a row of its own. (DESIGN CHOICE, log 2) -/
def State.idle (s : State) : State :=
  (if s.timeRuns then { s with hubTime := (s.hubTime + 1) % 2 ^ 64 } else s).vaultTick

end Sys2Proof.Machine
end

