-- ==== Sys2Proof/Safety.lean ====
section
/-! DEFINITION. What counts as a safe run of the hub, in the terms that claims use. -/
namespace Sys2Proof.Machine

/-- The five tanks are memories in canonical form (R483). -/
def State.tanksWf (s : State) : Bool :=
  Memory.wf s.tanks.t0 && Memory.wf s.tanks.t1 && Memory.wf s.tanks.t2 && Memory.wf s.tanks.t3 && Memory.wf s.tanks.sec

/-- The keys of a store rise strictly, from b up. -/
def keysFrom {α : Type} : Nat → List (Nat × α) → Bool
  | _, [] => true
  | b, (k, _) :: l => decide (b ≤ k) && keysFrom (k + 1) l

/-- Channel ch can take a command that starts at once: firmware runs, no Dry entry, no command is queued, the channel is not busy, and
the steps of a reset of its slice do not run (R32, R36, R38, R309). -/
def State.bktReady (s : State) (ch : Nat) : Bool :=
  s.firmware && !s.power.dryEntry && decide (ch < 64) && s.bkt.queue.isEmpty && !s.is (GLB_BKT_STAT_BUSY ch) && !s.stepsRun ch

/-- Command c is one that channel c.ch can take and start at once: its fields have their widths, its slice is bound, and the lifecycle
is not Scrapped. -/
def State.bktTakes (s : State) (c : BktCmd) : Bool :=
  s.bktReady c.ch && decide (c.seq < 65536) && decide (c.args.length = 60) && s.get SEC_STAT_LC != 5 && s.bound c.ch

/-- Thread t of pump p issues the instruction i now: the pump picks it, it may go on, its budget is not spent, its fetch is allowed and held
by the instruction cache, and the word at its pc is i's (R185, R189, R196, R203). -/
def State.issues (s : State) (p t : Nat) (i : Instr) : Bool :=
  let th := s.thread p t
  s.running && decide (p < s.nPumps ∧ t < 32) && s.pick p == some t && th.stop.isNone && decide (th.steps < th.budget) &&
    s.fetchAllowed th && s.lineHeld p th.pc && decide (decodeWindlass p t (s.fetchWord th.pc) = i)

/-- The hub after thread t of pump p has issued an instruction whose act is a. -/
def State.acts (s : State) (p t : Nat) (a : Act) : State := ((s.perform p t a).noteIssue p t).settle

/-- A thread after an ALU instruction with the results r at 64 bits and q at 32 bits (R219, R220). -/
def Thread.aluEnd (th : Thread) (gd : BitVec 4) (m : AluMod) (r : AluRes 64) (q : AluRes 32) : Thread :=
  let u := th.setReg gd (if m.w32 then q.r.setWidth 64 else r.r)
  (if m.setFlags then { u with flg := if m.w32 then flagsOf q else flagsOf r } else u).next

/-- A run is safe for n steps from s: no step stops, and the tanks stay in canonical form. -/
def State.safeFor (s : State) : Nat → Bool
  | 0 => s.tanksWf
  | n + 1 => s.tanksWf && match step s with
    | .next t => t.safeFor n
    | _ => false

end Sys2Proof.Machine
end

