-- ==== Sys2Proof/WellFormed.lean ====
section
/-! DEFINITION. Which operands of a command name something the manual gives the hub: unit numbers, offsets and lengths in their
ranges. A command outside them is no row of the table; its meaning then has no effect on what it names. -/
namespace Sys2Proof

/-- R32, R33. A bucket command: a channel, a 16-bit sequence number, and the request bytes 4 to 63. -/
def bktWf (ch seq : Nat) (args : Bytes) : Bool := decide (ch < 64) && decide (seq < 65536) && decide (args.length = 60)

/-- R4, R186. A thread of a pump. -/
def threadWf (p t : Nat) : Bool := decide (p < 32) && decide (t < 32)

/-- A command's operands are in range; those of a Windlass instruction are such that its word is not an ILL word (R216, R225, R227,
R255, R261, R265). -/
def Instr.wf : Instr → Bool
  | .porstNRelease _ => true
  | .rootPllLock => true
  | .firmwareAuthenticated _ _ => true
  | .systemContextStart => true
  | .porstNAssert => true
  | .powerFail => true
  | .powerRestore _ => true
  | .watchdogExpiry => true
  | .clkWarmReset ch seq args => bktWf ch seq args
  | .clkDryEnter ch seq args => bktWf ch seq args
  | .dryDischargeDone => true
  | .wakeSource _ => true
  | .dryWake _ _ => true
  | .drowseEnWrite sl _ => decide (sl < 64)
  | .domainIdleGate d => decide (d ≤ 26)
  | .domainWakeDone d => decide (d ≤ 26)
  | .lpoTrim _ => true
  | .pllLockLost inst => decide (inst ≤ 4)
  | .refclkLost _ => true
  | .flashCopyDone _ _ => true
  | .endpointReset _ => true
  | .echo ch seq args => bktWf ch seq args
  | .fwInfo ch seq args => bktWf ch seq args
  | .bucketComplete _ => true
  | .registerWrite sl addr width _ => decide (sl < 64) && decide (addr % 4 = 0) && decide (width = 4 ∨ width = 8)
  | .lowWordReadLatch sl addr => decide (sl < 64) && decide (addr % 4 = 0)
  | .laneSignalDetect n => decide (n < 4)
  | .primingStateTimeout => true
  | .primingTimeout => true
  | .primingRestartTimer => true
  | .trkPrime sl _ => decide (sl < 64)
  | .laneLock n _ => decide (n < 4)
  | .ts1 n _ => decide (n < 4)
  | .ts2 n _ => decide (n < 4)
  | .eqReq n _ => decide (n < 4)
  | .eqAck n _ => decide (n < 4)
  | .stepRec _ => true
  | .rateChange => true
  | .result _ => true
  | .stepCheckComplete _ => true
  | .ready _ => true
  | .trkOeEnWrite sl _ => decide (sl < 64)
  | .oeFault => true
  | .oeLos => true
  | .l0qIdleTimeout => true
  | .trkL2dReqWrite sl _ => decide (sl < 64)
  | .l2dReq => true
  | .l2dAck _ => true
  | .prbsError n => decide (n < 4)
  | .laneQualified n => decide (n < 4)
  | .laneFault n _ => decide (n < 4)
  | .trkLaneReadmit ch seq args => bktWf ch seq args
  | .trkOeRead ch seq args => bktWf ch seq args
  | .trkOeWrite ch seq args => bktWf ch seq args
  | .prbsClr sl n _ => decide (sl < 64) && decide (n < 4)
  | .injPrbsErr sl n _ => decide (sl < 64) && decide (n < 4)
  | .flitReceive port header body _ _ => decide (port < 4) && decide (header.length = 8 ∧ body.length = 248)
  | .nak port raw => decide (port < 4) && decide (raw.length = 256)
  | .flitSlot port => decide (port < 4)
  | .replayTimeout port => decide (port < 4)
  | .nakHoldExpiry port => decide (port < 4)
  | .packWindowExpiry port => decide (port < 4)
  | .aseqIdleTimeout => true
  | .laneDrop _ _ _ => true
  | .fallbackAnn _ lanes _ _ => decide (1 ≤ lanes ∧ lanes ≤ 4)
  | .swapRec _ lanes _ => decide (1 ≤ lanes ∧ lanes ≤ 4)
  | .creditSync port _ _ => decide (port < 4)
  | .stbyStateReceive _ _ _ _ _ _ => true
  | .stbyFlitForward _ _ _ _ _ => true
  | .stbyTake _ _ _ _ => true
  | .cntClr sl _ => decide (sl < 64)
  | .injHcrc sl _ => decide (sl < 64)
  | .injUncorr sl _ => decide (sl < 64)
  | .cycleBoundary => true
  | .altCalCommit ch seq args => bktWf ch seq args
  | .altSwap ch seq args => bktWf ch seq args
  | .altProfile ch seq args => bktWf ch seq args
  | .altCalEntWrite sl bank lanes slot _ => decide (sl < 64) && decide (bank < 2) && decide (1 ≤ lanes ∧ lanes ≤ 4) && decide (slot < 1024)
  | .altCalPhaseWrite sl _ => decide (sl < 64)
  | .refillTick => true
  | .shaperShadowWrite sl n off _ => decide (sl < 64) && decide (n < 512) && decide (0x24 ≤ off ∧ off ≤ 0x34 ∧ off % 4 = 0)
  | .portSchedule port => decide (port ≤ 34)
  | .frameTransmitDone port => decide (port ≤ 34)
  | .gateTransition n => decide (n < 8)
  | .cfgChange sl n _ => decide (sl < 64) && decide (n < 8)
  | .gclChangeTime n => decide (n < 8)
  | .frameIngress port _ => decide (1 ≤ port ∧ port ≤ 34)
  | .welCfgWrite sl n _ => decide (sl < 64) && decide (n < 512)
  | .welMarkWrite sl n _ _ => decide (sl < 64) && decide (n < 512)
  | .ageSweep => true
  | .welFlush ch seq args => bktWf ch seq args
  | .dipperEnable sl _ => decide (sl < 64)
  | .dipperRecordWritten => true
  | .chainDispatch p t => decide (p < 32) && decide (t < 32)
  | .icacheFillDone p t => decide (p < 32) && decide (t < 32)
  | .longOperationDone p t => decide (p < 32) && decide (t < 32)
  | .ctxStateWrite sl c _ => decide (sl < 64) && decide (c < 1024)
  | .ctxRecordWrite sl c off _ => decide (sl < 64) && decide (c < 1024) && decide (off < 0x80 ∧ off % 4 = 0)
  | .loadWindowWrite sl win word _ => decide (sl < 64) && decide (win < 64) && decide (word < 1024)
  | .pmpPageAssign ch seq args => bktWf ch seq args
  | .pmpPageOpen ch seq args => bktWf ch seq args
  | .pmpPageSeal ch seq args => bktWf ch seq args
  | .pmpPageFree ch seq args => bktWf ch seq args
  | .contextTimerExpiry c k => decide (c < 1024) && decide (k < 4)
  | .parkTimeReached p t => decide (p < 32) && decide (t < 32)
  | .wIll p t _ => threadWf p t
  | .wAdd p t _ _ _ _ => threadWf p t
  | .wSub p t _ _ _ _ => threadWf p t
  | .wAnd p t _ _ _ _ => threadWf p t
  | .wOr p t _ _ _ _ => threadWf p t
  | .wXor p t _ _ _ _ => threadWf p t
  | .wAndn p t _ _ _ _ => threadWf p t
  | .wSll p t _ _ _ _ => threadWf p t
  | .wSrl p t _ _ _ _ => threadWf p t
  | .wSra p t _ _ _ _ => threadWf p t
  | .wRol p t _ _ _ _ => threadWf p t
  | .wRor p t _ _ _ _ => threadWf p t
  | .wMul p t _ _ _ _ => threadWf p t
  | .wMulhu p t _ _ _ _ => threadWf p t
  | .wMin p t _ _ _ _ => threadWf p t
  | .wMax p t _ _ _ _ => threadWf p t
  | .wMinu p t _ _ _ _ => threadWf p t
  | .wMaxu p t _ _ _ _ => threadWf p t
  | .wClz p t _ _ _ => threadWf p t
  | .wCtz p t _ _ _ => threadWf p t
  | .wPopc p t _ _ _ => threadWf p t
  | .wBswap p t _ _ _ => threadWf p t
  | .wCsel p t _ _ _ cond _ => threadWf p t && decide (cond ≠ 15#4)
  | .wAddc p t _ _ _ _ => threadWf p t
  | .wSubb p t _ _ _ _ => threadWf p t
  | .wBfx p t _ _ _ _ _ => threadWf p t
  | .wBfi p t _ _ _ _ => threadWf p t
  | .wAddi p t _ _ _ => threadWf p t
  | .wAndi p t _ _ _ => threadWf p t
  | .wOri p t _ _ _ => threadWf p t
  | .wXori p t _ _ _ => threadWf p t
  | .wShor p t _ _ _ => threadWf p t
  | .wSlli p t _ _ _ => threadWf p t
  | .wSrli p t _ _ _ => threadWf p t
  | .wSrai p t _ _ _ => threadWf p t
  | .wCmpi p t _ _ => threadWf p t
  | .wBeq p t _ _ _ => threadWf p t
  | .wBne p t _ _ _ => threadWf p t
  | .wBlt p t _ _ _ => threadWf p t
  | .wBge p t _ _ _ => threadWf p t
  | .wBltu p t _ _ _ => threadWf p t
  | .wBgeu p t _ _ _ => threadWf p t
  | .wBc p t cond _ => threadWf p t && decide (cond ≠ 15#4)
  | .wJ p t _ => threadWf p t
  | .wJl p t _ _ => threadWf p t
  | .wJalr p t _ _ => threadWf p t
  | .wMfs p t _ sel => threadWf p t && decide (sel.toNat ≤ 4)
  | .wMts p t _ sel => threadWf p t && decide (sel = 3#14)
  | .wLd8 p t _ _ _ => threadWf p t
  | .wLd16 p t _ _ _ => threadWf p t
  | .wLd32 p t _ _ _ => threadWf p t
  | .wLd64 p t _ _ _ => threadWf p t
  | .wLd8s p t _ _ _ => threadWf p t
  | .wLd16s p t _ _ _ => threadWf p t
  | .wLd32s p t _ _ _ => threadWf p t
  | .wSt8 p t _ _ _ => threadWf p t
  | .wSt16 p t _ _ _ => threadWf p t
  | .wSt32 p t _ _ _ => threadWf p t
  | .wSt64 p t _ _ _ => threadWf p t
  | .wWld p t _ _ _ _ => threadWf p t
  | .wWlds p t _ _ _ _ => threadWf p t
  | .wWst p t _ _ _ _ => threadWf p t
  | .wWcmp p t _ _ _ _ => threadWf p t
  | .wFetch p t _ _ _ _ => threadWf p t
  | .wPut p t _ _ _ _ => threadWf p t
  | .wTrim p t _ _ => threadWf p t
  | .wPrep p t _ _ => threadWf p t
  | .wApnd p t _ _ _ => threadWf p t
  | .wCut p t _ _ => threadWf p t
  | .wLen p t _ => threadWf p t
  | .wLkpx p t _ _ _ _ => threadWf p t
  | .wLkpd p t _ _ _ _ => threadWf p t
  | .wHash p t _ _ _ => threadWf p t
  | .wCrc32c p t _ _ _ _ => threadWf p t
  | .wCrc16 p t _ _ _ _ => threadWf p t
  | .wSeal p t _ _ _ => threadWf p t
  | .wOpen p t _ _ _ => threadWf p t
  | .wEnq p t ga _ d _ _ => threadWf p t && (!d || decide (ga = 0#4))
  | .wFwd p t _ _ _ => threadWf p t
  | .wMsg p t _ _ _ => threadWf p t
  | .wCld p t _ ga self _ => threadWf p t && (!self || decide (ga = 0#4))
  | .wCst p t _ ga _ self _ => threadWf p t && (!self || decide (ga = 0#4))
  | .wCadd p t _ ga _ self _ => threadWf p t && (!self || decide (ga = 0#4))
  | .wCand p t _ ga _ self _ => threadWf p t && (!self || decide (ga = 0#4))
  | .wCor p t _ ga _ self _ => threadWf p t && (!self || decide (ga = 0#4))
  | .wCxch p t _ ga _ self _ => threadWf p t && (!self || decide (ga = 0#4))
  | .wCcas p t _ ga _ self _ => threadWf p t && (!self || decide (ga = 0#4))
  | .wTset p t _ _ _ => threadWf p t
  | .wTseta p t _ _ _ => threadWf p t
  | .wTclr p t _ _ => threadWf p t
  | .wYld p t _ cond => threadWf p t && decide (cond ≠ 3#2)
  | .wEnd p t => threadWf p t
  | .wDrop p t => threadWf p t
  | .wTrap p t => threadWf p t
  | .hostRead _ _ _ => true
  | .hostWrite _ _ _ => true
  | .completionReceive _ _ _ _ _ => true
  | .readTimeout _ => true
  | .abandonedTagExpiry _ _ => true
  | .delayedRequestReceive r => decide (r.slice < 64) && !(r.toHost && r.write)
  | .retryAnswer _ => true
  | .delayedResend _ => true
  | .drdTimeout slot => decide (slot < 64)
  | .orderingModeChange => true
  | .lateFaultReport _ _ slice _ _ _ => decide (slice < 64)
  | .lfPop sl _ => decide (sl < 64)
  | .brgWinCfgWrite sl n off _ => decide (sl < 64) && decide (n < 64) && decide (off < 0x10 ∧ off % 4 = 0)
  | .compatWrite sl _ => decide (sl < 64)
  | .messageDelivery => true
  | .remoteMessageReceive _ body => decide (body.length = 24)
  | .msixUnmask sl vec _ => decide (sl < 64) && decide (vec < 2048)
  | .msgRtWrite sl i _ => decide (sl < 64) && decide (i < 4096)
  | .msgRtSet ch seq args => bktWf ch seq args
  | .msgRtGet ch seq args => bktWf ch seq args
  | .slcBind ch seq args => bktWf ch seq args
  | .slcReset ch seq args => bktWf ch seq args
  | .slcRemove ch seq args => bktWf ch seq args
  | .sliceResetNotice _ slice => decide (slice < 64)
  | .sliceResetReport _ => true
  | .sliceResetBound => true
  | .drpToggle n => decide (n < 16)
  | .ccTerminationChange n _ => decide (n < 16)
  | .attachDebounceExpiry n => decide (n < 16)
  | .detachDebounceExpiry n => decide (n < 16)
  | .moistureCheckDue n => decide (n < 16)
  | .moistureCheckDone n _ _ => decide (n < 16)
  | .leakLogDay n => decide (n < 16)
  | .request n _ _ => decide (n < 16)
  | .voutSettled n => decide (n < 16)
  | .contractSettleTimeout n => decide (n < 16)
  | .prSwap n => decide (n < 16)
  | .drSwap n => decide (n < 16)
  | .vconnSwap n => decide (n < 16)
  | .accept n => decide (n < 16)
  | .reject n => decide (n < 16)
  | .waitAnswer n => decide (n < 16)
  | .psRdy n => decide (n < 16)
  | .hardReset n => decide (n < 16)
  | .softReset n => decide (n < 16)
  | .getSourceCap n => decide (n < 16)
  | .getStatus n => decide (n < 16)
  | .notSupportedAnswer n => decide (n < 16)
  | .discoverResponse n _ _ => decide (n < 16)
  | .enterModeAck n => decide (n < 16)
  | .enterModeNak n => decide (n < 16)
  | .attention n _ _ => decide (n < 16)
  | .swapRetryTimer n => decide (n < 16)
  | .sptPolicyWrite sl n _ => decide (sl < 64) && decide (n < 16)
  | .sptPdoWrite sl n i _ => decide (sl < 64) && decide (n < 16) && decide (i < 4)
  | .sptCfgWrite sl n _ => decide (sl < 64) && decide (n < 16)
  | .sptMode ch seq args => bktWf ch seq args
  | .sptHardReset ch seq args => bktWf ch seq args
  | .sptDiscRead ch seq args => bktWf ch seq args
  | .samLinkUp n => decide (n < 16)
  | .samFrameReceive n _ => decide (n < 16)
  | .hswSample n _ _ _ _ => decide (n < 16)
  | .insertionDelayElapsed n => decide (n < 16)
  | .prechargeTimeout n => decide (n < 16)
  | .settleTimeout n => decide (n < 16)
  | .vselWindowTimeout n => decide (n < 16)
  | .overcurrentClear n => decide (n < 16)
  | .faultTimerExpiry n => decide (n < 16)
  | .shortCircuitTrip n => decide (n < 16)
  | .retryTimerExpiry n => decide (n < 16)
  | .powerGoodSecond n => decide (n < 16)
  | .retryMaxWrite sl n _ => decide (sl < 64) && decide (n < 16)
  | .clrLatch sl n _ => decide (sl < 64) && decide (n < 16)
  | .injSc sl n _ => decide (sl < 64) && decide (n < 16)
  | .ccOvpDetect n => decide (n < 16)
  | .senseOkRestore n => decide (n < 16)
  | .cabinetReversed => true
  | .pfwAssert => true
  | .pfwClear => true
  | .doorbellPoll k arr => decide (k < 4) && decide (arr.length = 260)
  | .descriptorFetchDone k ring _ => decide (k < 4) && decide (ring < 256)
  | .epConfig k slot rec => decide (k < 4) && decide (slot < 256) && decide (rec.length = 32)
  | .epDisable k slot => decide (k < 4) && decide (slot < 256)
  | .epReset k slot => decide (k < 4) && decide (slot < 256)
  | .epStop k slot => decide (k < 4) && decide (slot < 256)
  | .setDeq k slot _ => decide (k < 4) && decide (slot < 256)
  | .portReset k port => decide (k < 4) && decide (port < 16)
  | .portSuspend k port => decide (k < 4) && decide (port < 16)
  | .portResume k port => decide (k < 4) && decide (port < 16)
  | .busSuspend k => decide (k < 4)
  | .busResume k => decide (k < 4)
  | .ttClear k slot port => decide (k < 4) && decide (slot < 256) && decide (port < 16)
  | .busReset k => decide (k < 4)
  | .ringErr k ring => decide (k < 4) && decide (ring < 256)
  | .usbTransactionResult k slot _ => decide (k < 4) && decide (slot < 256)
  | .portResetEnd k port _ => decide (k < 4) && decide (port < 16)
  | .resumeEnd k port => decide (k < 4) && decide (port < 16)
  | .suspendIdle k port => decide (k < 4) && decide (port < 16)
  | .remoteWake k port => decide (k < 4) && decide (port < 16)
  | .usbConnectChange k port _ _ => decide (k < 4) && decide (port < 16)
  | .usbBusCfgWrite sl k _ => decide (sl < 64) && decide (k < 4)
  | .usbSptMapWrite sl n _ => decide (sl < 64) && decide (n < 16)
  | .injXact sl k _ => decide (sl < 64) && decide (k < 4)
  | .ethFrameReceive n _ _ => decide (n < 8)
  | .pauseFrameReceive n _ _ _ => decide (n < 8)
  | .pauseHoldExpiry n => decide (n < 8)
  | .flowControlRepeat n => decide (n < 8)
  | .ethLinkChange n _ _ => decide (n < 8)
  | .ethPhyInterrupt n => decide (n < 8)
  | .mdioGo sl _ => decide (sl < 64)
  | .mdioDone _ => true
  | .txtsPop sl n _ => decide (sl < 64) && decide (n < 8)
  | .hubTimeStep _ _ => true
  | .deviceRequest m _ _ _ _ => decide (m < 2)
  | .rootPortErrorMessage m => decide (m < 2)
  | .rootPortLinkChange m up _ width => decide (m < 2) && (!up || decide (width = 1 ∨ width = 2 ∨ width = 4))
  | .configAccess m fn off _ _ => decide (m < 2) && decide (fn < 8) && decide (off < 4096)
  | .configCompletion m _ _ => decide (m < 2)
  | .lineRecordReceive sl _ => decide (sl < 64)
  | .lineStart => true
  | .commit sl _ => decide (sl < 64)
  | .dspLayerEnable sl layer _ => decide (sl < 64) && decide (layer < 6)
  | .dspOutCfgWrite sl n _ => decide (sl < 64) && decide (n < 4)
  | .outputTrainDone n _ => decide (n < 4)
  | .casPortStart port => decide (1 ≤ port ∧ port ≤ 3)
  | .casLockTimeout port => decide (1 ≤ port ∧ port ≤ 3)
  | .casRestartTimer port => decide (1 ≤ port ∧ port ≤ 3)
  | .hello port _ _ _ _ _ => decide (1 ≤ port ∧ port ≤ 3)
  | .casLinkFault port => decide (1 ≤ port ∧ port ≤ 3)
  | .casSilenceTimeout port => decide (1 ≤ port ∧ port ≤ 3)
  | .linkState port _ _ _ _ => decide (1 ≤ port ∧ port ≤ 3)
  | .memberDownTimeout m => decide (m < 4)
  | .casGrpSwap ch seq args => bktWf ch seq args
  | .casGrpInfo ch seq args => bktWf ch seq args
  | .gswapPrep port _ bank _ => decide (1 ≤ port ∧ port ≤ 3) && decide (bank < 2)
  | .gswapAck port _ _ => decide (1 ≤ port ∧ port ≤ 3)
  | .gswapCommit port _ => decide (1 ≤ port ∧ port ≤ 3)
  | .gswapAbort port _ => decide (1 ≤ port ∧ port ≤ 3)
  | .gswapTimeout => true
  | .gswapPrepDiscard => true
  | .injDownWrite sl port _ => decide (sl < 64) && decide (1 ≤ port ∧ port ≤ 3)
  | .tamper _ => true
  | .tamperInject sl _ => decide (sl < 64)
  | .remaskPass => true
  | .trngHealthFail => true
  | .nonceExpiry => true
  | .secInfo ch seq args => bktWf ch seq args
  | .secOwnerSet ch seq args => bktWf ch seq args
  | .secRootGen ch seq args => bktWf ch seq args
  | .secLcChallenge ch seq args => bktWf ch seq args
  | .secTokenPut ch seq args => bktWf ch seq args
  | .secLcChange ch seq args => bktWf ch seq args
  | .secDebugClose ch seq args => bktWf ch seq args
  | .secKeyAssign ch seq args => bktWf ch seq args
  | .secKeyLoad ch seq args => bktWf ch seq args
  | .secKeyDerive ch seq args => bktWf ch seq args
  | .secKeyWrap ch seq args => bktWf ch seq args
  | .secKeyUnwrap ch seq args => bktWf ch seq args
  | .secKeyZero ch seq args => bktWf ch seq args
  | .secKeyInfo ch seq args => bktWf ch seq args
  | .secureWipeDone => true
  | .bailReadStatus => true
  | .bailReadId => true
  | .bailRead _ _ _ => true
  | .bailWrite _ _ => true
  | .bailDoorbell _ => true
  | .tnkInfo ch seq args => bktWf ch seq args
  | .faultHandlingDone => true
  | .fabricTimeout block => decide (block ≤ 19)
  | .junctionTempCrossing _ => true
  | .fltInjGo sl _ => decide (sl < 64)
  | .fltRecover ch seq args => bktWf ch seq args
  | .fltInputRearm ch seq args => bktWf ch seq args
  | .fltBistRun ch seq args => bktWf ch seq args
  | .fltLogThaw ch seq args => bktWf ch seq args
  | .bistSectorDone _ _ => true
  | .bistSectorTimeout => true
  | .inputActiveEdge i => decide (i < 12)
  | .inputStuck i => decide (i < 12)
  | .inputUnstuck i => decide (i < 12)
  | .sourceCapabilities n => decide (n < 16)
  | .getSinkCap n => decide (n < 16)
  | .exitModeAck n => decide (n < 16)
  | .hardResetVbusRestore n => decide (n < 16)
  | .tryTimeout n => decide (n < 16)
  | .errorRecoveryTimeout n => decide (n < 16)
  | .vbusSenseChange n _ => decide (n < 16)
  | .oeLosFall => true
  | .peerSignalDetected => true
  | .upstreamCompletionTimeout _ => true
  | .endpointLinkChange _ => true
  | .trngHealthRestored => true
  | .alignmentMarker _ => true

end Sys2Proof
end

