-- ==== Sys2Proof/Certificates/Slice0/Obligations.lean ====
section
/-! DEFINITION. The statements for the provers, in the order of OBLIGATIONS.json: the step, reset and registers, then the commands unit by
unit, then encodings and data. An equation "exec … = next t" states the row's completion, its result and its frame at once: t is the state
before with the named changes and no other. -/
open Sys2Proof Sys2Proof.Machine

/-- R499, R515, R516, R517, R519. The rows that bring the hub up and take it down, each in the state in which its row acts: the
next state is that of its start-up step, and an assertion of PORST_N acts in every state. Log entries 10, 48, 79, 88, 100, 104,
106, 107, 109, 121, 203 name the model's own choices in it. -/
def Obligations.StartUpRows : Prop :=
  (∀ (s : State) (st : Straps), s.power.phase = .held → exec (.porstNRelease st) s = .next (s.startCold st 1)) ∧
  (∀ s : State, s.power.phase = .pll → (s.power.cold = false ∨ s.fuses.bistSectors = 0) →
    exec .rootPllLock s =
      .next (((s.put CLK_PLL_STAT_ROOT_LOCK 1).put CLK_PLL_STAT_REFCLK_OK 1).put CLK_PLL_STAT_SERDES_LOCK 0x1F).beginLoad) ∧
  (∀ (s : State) (a b : Option Image), s.power.phase = .auth → (s.bootOrder a b).find? (fun e => s.accepts e.2) = none →
    exec (.firmwareAuthenticated a b) s =
      .next ({ s with power := { s.power with phase := .authFail, faultLow := true } }.detect 0x09 0)) ∧
  (∀ (s : State) (a b : Option Image) (k : Nat) (i : Image), s.power.phase = .auth →
    (s.bootOrder a b).find? (fun e => s.accepts e.2) = some (k, i) →
    exec (.firmwareAuthenticated a b) s = .next (s.loadImage k i).afterLoad) ∧
  (∀ s : State, s.power.phase = .priming → s.linksLive = true → exec .systemContextStart s = .next s.stepSix) ∧
  (∀ s : State, exec .porstNAssert s = .next s.porstReset) ∧
  (∀ s : State, s.coreUp = true → s.power.dryEntry = false →
    exec .powerFail s = .next { s.porstReset with
      power := { s.porstReset.power with phase := .powerFail, coreEn := true, faultLow := true } }) ∧
  (∀ (s : State) (st : Straps), s.power.phase = .powerFail → exec (.powerRestore st) s = .next (s.startCold st 1)) ∧
  (∀ s : State, s.firmware = true → s.power.dryEntry = false →
    exec .watchdogExpiry s = .next ((s.detect 8 0).warmReset 4))

/-- R516, R517. What each kind of reset leaves: a release of PORST_N finds only the VBAT domain and the fuses; a warm, watchdog
or forced reset keeps the tanks, hub time, the spouts' partners, the fuses, the retired cells and the registers that outlast it,
and leaves event 0x0104 with its cause for step 6. Log entries 48, 100, 203 name the model's own choices in it. -/
def Obligations.ResetSurvivals : Prop :=
  ∀ s : State,
    (s.porstReset.power.phase = .held ∧ s.porstReset.fuses = s.fuses ∧ s.porstReset.pending = s.pending ∧
      s.porstReset.vault.keys = s.vault.keys ∧ s.porstReset.vault.root = s.vault.root ∧ s.porstReset.tanks = {} ∧
      s.porstReset.spouts = [] ∧ s.porstReset.hubTime = 0 ∧
      ∀ f : Fld, s.porstReset.get f = f.rst ∨ (keptVbat f.key = true ∧ s.porstReset.get f = s.get f)) ∧
    (∀ cause : Nat,
      (s.warmReset cause).tanks = s.tanks ∧ (s.warmReset cause).hubTime = s.hubTime ∧
      (s.warmReset cause).timeRuns = s.timeRuns ∧
      (s.warmReset cause).spouts = s.spouts.map (fun (e : Nat × Spout) => (e.1, { e.2 with samTx := 0, samOut := 0 })) ∧ (s.warmReset cause).hsw = s.hsw ∧
      (s.warmReset cause).fuses = s.fuses ∧ (s.warmReset cause).pending = s.pending ∧
      (s.warmReset cause).power.phase = .pll ∧ (s.warmReset cause).bkt = {} ∧ (s.warmReset cause).links = [] ∧
      (s.warmReset cause).power.atStep6 = s.power.atStep6 ++ [(0x0104, cause)] ∧
      (s.warmReset cause).cis.retired = s.cis.retired ∧
      ∀ f : Fld, f.key ≠ CLK_RST_CAUSE_RESETS.key → f.key ≠ CLK_RST_CAUSE_LAST.key → f.key ≠ SEC_STAT_LC.key →
        f.key ≠ WEL_CIS_STAT_FREE_CELLS.key →
        (s.warmReset cause).get f = f.rst ∨
          ((keptWarm f.key = true ∨ (cause = 3 ∧ keptBist f.key = true)) ∧ (s.warmReset cause).get f = s.get f))

/-- R506, R507, R508, R512. Dry: the discharge takes the core rail away, a wake source is latched, a wake starts the hub again;
and the trim of the 32.768 kHz oscillator. Log entries 48, 88, 100, 102, 103 name the model's own choices in it. -/
def Obligations.DryRows : Prop :=
  (∀ s : State, s.power.dryEntry = true →
    let t : State := (s.put SEC_STAT_DEBUG 0).zeroSlots (fun x k => x.slotTest k || x.slotVol k)
    let t : State := { t with vault := { t.vault with fieldDebug := false } }
    let t := (t.put SEC_STAT_LC t.lifecycle).put SEC_STAT_JTAG 0
    exec .dryDischargeDone s = .next { t.porstReset with
      regs := t.regs.filter (fun e => keptDry e.1)
      power := { t.porstReset.power with phase := .dry, coreEn := t.power.wake.isSome, wake := t.power.wake, faultLow := t.power.faultLow } }) ∧
  (∀ (s : State) (src : WakeSrc), s.power.phase = .dry → s.power.dryEntry = false → s.wakeEnabled src = true →
    s.power.wake = none →
    exec (.wakeSource src) s = .next { s.put GLB_WAKE_SRC_SRC (wakeCode src) with
      power := { s.power with wake := some src, coreEn := true } }) ∧
  (∀ (s : State) (src : WakeSrc), s.power.dryEntry = true → (s.put GLB_WAKE_SRC_ENTRY 1).wakeEnabled src = true →
    s.power.wake = none → s.power.phase ≠ .dry →
    exec (.wakeSource src) s = .next { (s.put GLB_WAKE_SRC_ENTRY 1).put GLB_WAKE_SRC_SRC (wakeCode src) with
      power := { s.power with wake := some src } }) ∧
  (∀ (s : State) (st : Straps) (sec : Nat), s.power.phase = .dry → s.power.wake.isSome = true →
    let t := ((s.keepRegs (fun k => k / 32 != CLK_WAKE_CFG_TIMER.addr)).put GLB_WAKE_SRC_WOKE 1).put GLB_WAKE_SRC_DRY_SEC
      (min sec 0xFFFFFF)
    exec (.dryWake st sec) s = .next (({ t with
      power := { t.power with atStep6 := t.power.atStep6 ++ [(0x0101, t.get GLB_WAKE_SRC_SRC)] } } : State).startCold st 2)) ∧
  (∀ (s : State) (e : Int), s.get CLK_PLL_STAT_REFCLK_OK = 1 → e.natAbs ≤ 200 →
    exec (.lpoTrim e) s = .next ({ s.put CLK_PLL_STAT_LPO_ERR (unsigned 16 e) with
      power := { s.power with trim := e } }.put CLK_PLL_STAT_LPO_TRIM 1)) ∧
  (∀ (s : State) (e : Int), s.get CLK_PLL_STAT_REFCLK_OK = 1 → 200 < e.natAbs →
    exec (.lpoTrim e) s =
      .next ((((s.put CLK_PLL_STAT_LPO_ERR (unsigned 16 e)).put CLK_PLL_STAT_LPO_TRIM 0).raise 0x0102 0).detect 4 0))

/-- R502, R503, R513, R518, R532, R533, R536. Domain gating, lost clocks, the flash copy and the dock endpoint. Log entries 25,
108, 113, 186, 206 name the model's own choices in it. -/
def Obligations.ClockRows : Prop :=
  (∀ (s : State) (d : Nat), s.running = true → s.is CLK_PWR_CTRL_DROWSE_EN = true → d ≤ 26 →
    bit (s.get CLK_KEEP_KEEP) d = false → s.domainIdle d = true →
    exec (.domainIdleGate d) s = .next (s.setGate d true)) ∧
  (∀ (s : State) (d : Nat), d ≤ 26 → bit (s.get CLK_GATE_GATED) d = true →
    exec (.domainWakeDone d) s = .next ((s.setGate d false).bump CLK_STALL_COUNT).settle) ∧
  (∀ (s : State) (i : Nat), s.linksLive = true → i ≤ 4 → bit (s.get CLK_PLL_STAT_SERDES_LOCK) i = true →
    exec (.pllLockLost i) s =
      .next ((((s.put CLK_PLL_STAT_SERDES_LOCK (setBit (s.get CLK_PLL_STAT_SERDES_LOCK) i false)).raise 0x0103 i).detect 3
        i).pllLinksDown i)) ∧
  (∀ s : State, s.coreUp = true → s.is CLK_PLL_STAT_ROOT_LOCK = true → s.rootInUse = false →
    exec (.refclkLost false) s =
      .next (((({ s with power := { s.power with clockStopped := true } } : State).put CLK_PLL_STAT_REFCLK_OK 0).put
        CLK_PLL_STAT_ROOT_LOCK 0).detect 1 0) ∧
    exec (.refclkLost true) s =
      .next ((({ s with power := { s.power with clockStopped := true } } : State).put CLK_PLL_STAT_ROOT_LOCK 0).detect 2 0)) ∧
  (∀ (s : State) (b1 : Bool), s.halted = true → s.is FLT_CTRL_FLASH_COPY = true → s.is FLT_STAT_COPIED = false →
    s.is FLT_STAT_COPY_FAIL = false →
    exec (.flashCopyDone true b1) s =
      .next ((s.emit (.flash 0 (s.copyHeader (s.tankRead 3 0xE0000 0x20000) ++ s.tankRead 3 0xE0000 0x20000))).put
        FLT_STAT_COPIED 1) ∧
    exec (.flashCopyDone false false) s = .next (s.put FLT_STAT_COPY_FAIL 1)) ∧
  (∀ s : State, s.coreUp = true → s.dock = true →
    exec (.endpointReset false) s = .next { s with power := { s.power with epReset := false } }) ∧
  (∀ s : State, s.coreUp = true → s.dock = true → s.brg.upWait = [] → s.brg.up = [] →
    exec (.endpointReset true) s = .next { s with power := { s.power with epReset := true }, msix := [],
                                                  brg := { s.brg with ep := { rate := s.brg.ep.rate, width := s.brg.ep.width } } }) ∧
  (∀ (s : State) (r w : Nat), s.linksLive = true → s.dock = true →
    (s.heldPort 28 = false → endpointSpeed r w = true → exec (.endpointLinkChange (some (r, w))) s =
      .next { s with power := { s.power with epLink := true }, brg := { s.brg with ep := { s.brg.ep with rate := r, width := w } } }) ∧
    (s.heldPort 28 = true ∨ endpointSpeed r w = false → exec (.endpointLinkChange (some (r, w))) s = .next s)) ∧
  (∀ s : State, s.linksLive = true → s.dock = true → s.power.epLink = true →
    exec (.endpointLinkChange none) s = .next (State.detect { s with
      power := { s.power with epLink := false }, brg := { s.brg with ep := { s.brg.ep with rate := 0, width := 0 } } } 0x2B 0))

/-- A step takes the command at the front of the queue and runs its meaning on the state with the queue's rest. -/
def Obligations.StepRunsFrontCommand : Prop :=
  ∀ (c : Instr) (rest : List Instr) (s : State),
    step { s with pending := c :: rest } = exec c { s with pending := rest }

/-- R10, R482. With no command waiting a step is one nanosecond: of hub time while hub time runs, and of the vault's own clock always; at
each full second of that clock the vault counts one (the model's choice: log entry 2). -/
def Obligations.IdleStepPassesTime : Prop :=
  ∀ s : State, s.pending = [] → s.hubTime + 1 < 2 ^ 64 →
    let now := if s.timeRuns then s.hubTime + 1 else s.hubTime
    (s.vault.ns + 1 < 1000000000 →
      step s = .next { s with hubTime := now, vault := { s.vault with ns := s.vault.ns + 1 } }) ∧
    (1000000000 ≤ s.vault.ns + 1 →
      step s = .next (({ s with hubTime := now, vault := { s.vault with ns := 0 } } : State).addWrap SEC_VTIME_SECONDS 1))

/-- R17, R516. Right after reset every register field reads its reset value, nothing is queued, held or recorded, the hub is
held by PORST_N and hub time does not run. Log entry 121 names the model's own choices in it. -/
def Obligations.ResetState : Prop :=
  (∀ f : Fld, State.reset.get f = f.rst) ∧ State.reset.pending = [] ∧ State.reset.outs = [] ∧ State.reset.msgs = [] ∧
    State.reset.power.phase = .held ∧ State.reset.timeRuns = false ∧ State.reset.bkt.queue = [] ∧ State.reset.links = [] ∧
    State.reset.cis.frames = [] ∧ State.reset.pumps.threads = [] ∧ State.reset.ladder.cur = none ∧ State.reset.tanksWf = true ∧
    ∀ k a : Nat, memGet (State.reset.tank k) a = 0#8

/-- Every command of the table completes in every state: none stops. -/
def Obligations.EveryCommandCompletes : Prop := ∀ (c : Instr) (s : State), ∃ t, exec c s = .next t

/-- R36. BUCKET_COMPLETE ends the executing command: a response that stands ready is written and what follows it happens, then
the next accepted command starts; a command that ends with its unit's answer takes its status and result from it; WEL_FLUSH
waits for the frame in transmission (R183), and another command that waits goes on waiting. Log entries 10, 15, 18, 30, 92, 181
name the model's own choices in it. -/
def Obligations.BucketCompleteRow : Prop :=
  ∀ (s : State) (c : BktCmd) (q : List BktCmd) (io : BktIo), s.firmware = true → s.power.dryEntry = false →
    s.bkt.queue = c :: q →
    (∀ (st : Nat) (res : Bytes), s.bkt.stage = .ready st res →
      exec (.bucketComplete io) s = .next ((s.finishCmd c st res).afterCmd c st).startCmd) ∧
    (∀ (b : Bytes), s.bkt.stage = .atEnd → c.op = 0x0200 → io = .bytes b →
      exec (.bucketComplete io) s = .next (s.finishCmd c 0 (fit (c.byte 6) b)).startCmd) ∧
    (s.bkt.stage = .atEnd → c.op = 0x0201 → io = .done →
      exec (.bucketComplete io) s = .next (s.finishCmd c 0 []).startCmd) ∧
    (∀ key, s.bkt.stage = .atEnd → c.op = 0x1112 → s.bkt.tampered = false → s.deriveKey (c.byte 4) = some key →
      s.slotValid (c.byte 5) = false → s.sliceGen (s.slotOwner (c.byte 5)) = s.bkt.keyGen →
      exec (.bucketComplete io) s =
        .next (State.finishCmd (s.writeSlot (c.byte 5) (c.le 8 4) (hmacSha256 key (deriveMsg c))) c 0 []).startCmd) ∧
    (s.bkt.stage = .waiting → s.cis.flush = none → io ≠ .noAnswer → exec (.bucketComplete io) s = .next s) ∧
    (∀ n k, s.bkt.stage = .waiting → s.cis.flush = some (n, k) → s.sending n = true → exec (.bucketComplete io) s = .next s) ∧
    (∀ n k, s.bkt.stage = .waiting → s.cis.flush = some (n, k) → s.sending n = false →
      exec (.bucketComplete io) s = .next
        (((({ s with cis := { s.cis with flush := none } } : State).finishCmd c 0 (leBytes 4 k)).afterCmd c 0).startCmd))

/-- R33, R36. The response of a command whose channel has not been discarded and raises no event: its sixteen registers hold the
opcode, the sequence number, the status and the results, DONE is set, BUSY is clear, and the command has left the queue. Log
entries 15, 18, 92 name the model's own choices in it. -/
def Obligations.ResponseWritten : Prop :=
  ∀ (s : State) (c : BktCmd) (st : Nat) (res : Bytes), c.ch < 64 → s.bkt.discard.contains c.ch = false →
    s.is (GLB_BKT_CTRL_IRQ_EN c.ch) = false → st ≠ 6 →
    let t := s.finishCmd c st res
    (∀ i < 16, t.get (GLB_BKT_RSP_DATA c.ch i) =
      leAt (leBytes 2 c.op ++ leBytes 2 c.seq ++ leBytes 1 st ++ zeros 3 ++ fit 56 res) (4 * i) 4) ∧
    t.get (GLB_BKT_STAT_DONE c.ch) = 1 ∧ t.get (GLB_BKT_STAT_BUSY c.ch) = 0 ∧ t.bkt.queue = s.bkt.queue.drop 1 ∧
    (∀ f : Fld, f.key < 0x10004000 * 32 ∨ 0x10008000 * 32 ≤ f.key → t.get f = s.get f) ∧
    t.tanks = s.tanks ∧ t.outs = s.outs ∧ t.msgs = s.msgs ∧ t.pending = s.pending

/-- R32 to R36. The request of a row reaches the controller unaltered: on a channel that can take a command, the controller's queue ends
with the channel, opcode, sequence number and argument bytes of the row, and the channel is busy. -/
def Obligations.RequestReachesController : Prop :=
  ∀ (s : State) (c : BktCmd), s.bktTakes c = true → c.op < 65536 →
    (s.accepted c).bkt.queue = [c] ∧ (s.accepted c).get (GLB_BKT_STAT_BUSY c.ch) = 1 ∧
    (s.accepted c).get (GLB_BKT_STAT_DONE c.ch) = 0 ∧ (s.accepted c).get (GLB_BKT_STAT_LAST_SEQ c.ch) = c.seq ∧
    (∀ i < 16, (s.accepted c).get (GLB_BKT_REQ_DATA c.ch i) = leAt (leBytes 2 c.op ++ leBytes 2 c.seq ++ c.args) (4 * i) 4) ∧
    (∀ f : Fld, f.key < 0x10004000 * 32 ∨ 0x10008000 * 32 ≤ f.key → (s.accepted c).get f = s.get f)

/-- R32, R36, R38. A GO that is not taken: while the channel is busy or the steps of a reset of its slice run it only sets REJ,
and during Dry entry it does nothing. Log entries 10, 14 name the model's own choices in it. -/
def Obligations.GoRefused : Prop :=
  ∀ (s : State) (ch : Nat), s.firmware = true → ch < 64 →
    (s.power.dryEntry = false → (s.is (GLB_BKT_STAT_BUSY ch) = true ∨ s.stepsRun ch = true) →
      s.bktGo ch = s.put (GLB_BKT_STAT_REJ ch) 1) ∧
    (s.power.dryEntry = true → s.bktGo ch = s)

/-- R12, R15, R305, R550. REGISTER_WRITE: the write reaches the register that the address names; a slice without permission is
refused and counted; a 64-bit write is two halves, low first; another width or alignment, an absent unit and an unassigned
offset have no effect. Log entries 10, 11, 12 name the model's own choices in it. -/
def Obligations.RegisterWriteRow : Prop :=
  ∀ (s : State) (sl a : Nat) (v : W64), s.firmware = true → sl < 64 →
    (∀ base ix fs, a % 4 = 0 → s.refuses sl a true = false → s.regPresent a = true → a < 0x10C00000 →
      findReg a = some (base, ix, fs) →
      exec (.registerWrite sl a 4 v) s = .next (s.writeReg sl base ix fs (v.toNat % 2 ^ 32))) ∧
    (a % 4 = 0 → s.refuses sl a true = true → exec (.registerWrite sl a 4 v) s = .next (s.deny sl)) ∧
    (a % 8 = 0 → s.refuses sl a true = false → s.refuses sl (a + 4) true = false →
      exec (.registerWrite sl a 8 v) s =
        .next ((s.write32 sl a (v.toNat % 2 ^ 32)).write32 sl (a + 4) (v.toNat / 2 ^ 32 % 2 ^ 32))) ∧
    (a % 4 ≠ 0 → exec (.registerWrite sl a 4 v) s = .next s) ∧
    (∀ width, width ≠ 4 → width ≠ 8 → exec (.registerWrite sl a width v) s = .next s) ∧
    (a % 4 = 0 → s.refuses sl a true = false → s.regPresent a = false → exec (.registerWrite sl a 4 v) s = .next s) ∧
    (a % 4 = 0 → s.refuses sl a true = false → a < 0x10C00000 → findReg a = none →
      exec (.registerWrite sl a 4 v) s = .next s)

/-- R12, R550. Wide and misplaced accesses: each half of a 64-bit access is checked on its own; a refused half reads 0 or
discards its write, the permitted half is carried out, and the access counts as one refusal. Any other width or alignment reads
0 and writes nothing. Log entries 10, 185 name the model's own choices in it. -/
def Obligations.WideAccesses : Prop :=
  ∀ (s : State) (sl a : Nat), sl < 64 →
    (a % 8 = 0 →
      let u := match findReg a with
        | some (base, ix, _) => s.sense base (nth ix 0)
        | none => s
      (s.refuses sl a false = false → s.refuses sl (a + 4) false = false →
        s.regRead sl a 8 = (u.word a + 2 ^ 32 * u.word (a + 4), u)) ∧
      (s.refuses sl a false = false → s.refuses sl (a + 4) false = true → s.regRead sl a 8 = (u.word a, u.deny sl)) ∧
      (s.refuses sl a false = true → s.refuses sl (a + 4) false = false →
        s.regRead sl a 8 = (2 ^ 32 * s.word (a + 4), s.deny sl)) ∧
      (s.refuses sl a false = true → s.refuses sl (a + 4) false = true → s.regRead sl a 8 = (0, s.deny sl))) ∧
    (s.firmware = true → a % 8 = 0 → ∀ v : W64,
      let lo := v.toNat % 2 ^ 32
      let hi := v.toNat / 2 ^ 32
      (s.refuses sl a true = false → s.refuses sl (a + 4) true = false →
        exec (.registerWrite sl a 8 v) s = .next ((s.write32 sl a lo).write32 sl (a + 4) hi)) ∧
      (s.refuses sl a true = false → s.refuses sl (a + 4) true = true →
        exec (.registerWrite sl a 8 v) s = .next ((s.write32 sl a lo).deny sl)) ∧
      (s.refuses sl a true = true → s.refuses sl (a + 4) true = false →
        exec (.registerWrite sl a 8 v) s = .next ((s.write32 sl (a + 4) hi).deny sl)) ∧
      (s.refuses sl a true = true → s.refuses sl (a + 4) true = true → exec (.registerWrite sl a 8 v) s = .next (s.deny sl))) ∧
    (∀ len, (len = 4 → a % 4 ≠ 0) → (len = 8 → a % 8 ≠ 0) →
      s.regRead sl a len = (0, s) ∧ ∀ v, exec (.registerWrite sl a len v) s = .next s) ∧
    (s.get (SLC_DENY_COUNT sl) < 0xFFFFFFFF → (s.deny sl).get (SLC_DENY_COUNT sl) = s.get (SLC_DENY_COUNT sl) + 1)

/-- R14. What a write of the word v does to one field under each access code, and that it leaves every other field as it was: RW
takes the bits, RWC the nearest legal value, W1C clears the bits written 1, RO keeps the field; a write-only field reads 0. Log
entry 6 names the model's own choices in it. -/
def Obligations.AccessCodes : Prop :=
  ∀ (s : State) (f : Fld) (v : Nat),
    let x := v / 2 ^ f.lo % 2 ^ f.w
    (s.writeField v (f, .rw)).get f = x ∧
    (∀ lo hi, lo ≤ hi → hi < 2 ^ f.w →
      (s.writeField v (f, .rwc lo hi)).get f = if x < lo then lo else if hi < x then hi else x) ∧
    (∀ i, i < f.w → ((s.writeField v (f, .w1c)).get f).testBit i = ((s.get f).testBit i && !x.testBit i)) ∧
    s.writeField v (f, .ro) = s ∧
    (∀ base ix, s.fieldNow base ix (f, .wo) = 0) ∧
    (∀ (acc : Acc) (g : Fld), g.key ≠ f.key → (s.writeField v (f, acc)).get g = s.get g)

/-- R13. LOW_WORD_READ_LATCH on the low word of hub time: the read latches the high word, and nothing else changes; the next
read of the high word returns the latch, whatever hub time has become. Log entry 10 names the model's own choices in it. -/
def Obligations.LowWordLatchRow : Prop :=
  (∀ s : State, s.firmware = true → assocFind s.latch 0x10000010 = none →
    exec (.lowWordReadLatch 0 0x10000010) s =
      .next { s with latch := assocPut 0x10000014 (s.hubTime / 2 ^ 32 % 2 ^ 32) s.latch }) ∧
  (∀ (s : State) (v : Nat), assocFind s.latch 0x10000014 = some v →
    s.regRead 0 0x10000014 4 = (v, { s with latch := assocDel 0x10000014 s.latch })) ∧
  (∀ s : State, s.regRead 0 0x10000010 8 = (s.hubTime % 2 ^ 32 + 2 ^ 32 * (s.hubTime / 2 ^ 32 % 2 ^ 32), s))

/-- R18, R287. Raising an event records it with its code, instance and payload; where its map entry is not enabled nothing else
changes, and where it is, with a place for it, one message joins the queue. Log entry 50 names the model's own choices in it. -/
def Obligations.RaiseRecordsAndRoutes : Prop :=
  ∀ (s : State) (code inst payload : Nat),
    (s.is (MSG_EVT_MAP_EN (code / 256) (code % 256)) = false →
      s.raiseP code inst payload = { s with outs := .event code inst payload :: s.outs }) ∧
    (∀ m u, (s.emit (.event code inst payload)).eventMsg code inst payload = (some m, u) → u.msgFull m = false →
      s.raiseP code inst payload = { s with outs := .event code inst payload :: s.outs, msgs := s.msgs ++ [m] } ∧
      m.event = code ∧ m.payload = payload ∧ m.hops = 0 ∧ m.entry ≤ 4095) ∧
    (s.raiseP code inst payload).tanks = s.tanks ∧ (s.raiseP code inst payload).pending = s.pending ∧
    (s.raiseP code inst payload).links = s.links ∧
    (∀ f : Fld, f.key ≠ (MSG_CNT_COUNT 2).key → f.key ≠ (MSG_CNT_COUNT 5).key →
      (s.raiseP code inst payload).get f = s.get f)

/-- R34, R40, R82, R497, R508, R521, R536, R540, R542, R544. The bucket commands of the hub, of its power, its optical engine
and its faults: on a channel that can take the command, with the checks passed, the row leaves the command accepted, its effect
made, and its response ready or awaiting its end. Log entries 15, 18, 25, 79, 92, 110, 181 name the model's own choices in it.
-/
def Obligations.BucketHubRows : Prop :=
  ∀ (s : State) (c : BktCmd), s.bktTakes c = true →
    let a := s.accepted c
    (c.op = 0x0000 → exec (.echo c.ch c.seq c.args) s = .next (staged (.ready 0 (c.bytes 8 56), a))) ∧
    (c.op = 0x0001 → exec (.fwInfo c.ch c.seq c.args) s =
      .next (staged (.ready 0 (leBytes 4 a.power.fw.version ++ leBytes 4 a.power.fw.build ++ leBytes 4 a.power.fw.secVer), a))) ∧
    (c.op = 0x1400 → c.ch = 0 → c.byte 4 = 1 → exec (.tnkInfo c.ch c.seq c.args) s =
      .next (staged (.ready 0 (leBytes 4 a.tanks.collisions ++ leBytes 4 a.tanks.refusals ++ leBytes 4 a.tanks.doorbells ++
          leBytes 4 a.tanks.wipes ++ leBytes 4 a.tanks.repeats),
        { a with tanks := { a.tanks with collisions := 0, refusals := 0, doorbells := 0, wipes := 0, repeats := 0 } }))) ∧
    (c.op = 0x0100 → c.ch = 0 → a.vault.change = none → a.anyReset = false →
      exec (.clkDryEnter c.ch c.seq c.args) s = .next (a.enterDry.finishCmd c 0 [])) ∧
    (c.op = 0x0101 → c.ch = 0 → a.vault.change = none →
      exec (.clkWarmReset c.ch c.seq c.args) s = .next (staged (.ready 0 [], a))) ∧
    (c.op = 0x0200 → c.ch = 0 → c.byte 4 ≤ 127 → 1 ≤ c.byte 6 → c.byte 6 ≤ 32 → exec (.trkOeRead c.ch c.seq c.args) s =
      .next (staged (.atEnd, a.emit (.i2c false (c.byte 4) (c.byte 5) [])))) ∧
    (c.op = 0x0201 → c.ch = 0 → c.byte 4 ≤ 127 → 1 ≤ c.byte 6 → c.byte 6 ≤ 32 → exec (.trkOeWrite c.ch c.seq c.args) s =
      .next (staged (.atEnd, a.emit (.i2c true (c.byte 4) (c.byte 5) (c.bytes 8 (c.byte 6)))))) ∧
    (c.op = 0x1200 → c.ch = 0 → c.byte 4 ≠ 3 → (c.byte 4, c.le 8 2) ∈ a.ladder.contained → a.instAbsent (c.byte 4) (c.le 8 2) = false →
      detectorHolds (c.byte 4) (c.le 8 2) 0 = false → [1, 2, 3].filter (detectorHolds (c.byte 4) (c.le 8 2)) = [] →
      exec (.fltRecover c.ch c.seq c.args) s = .next (staged (.ready 0 [],
        (({ a with ladder := { a.ladder with
            contained := a.ladder.contained.filter (fun e => e != (c.byte 4, c.le 8 2)) } } : State).raise 0x1205
          (c.byte 4)).settle))) ∧
    (c.op = 0x1201 → c.ch = 0 → c.byte 4 ≤ 11 → bit (a.get FLT_IN_STAT_CHAT) (c.byte 4) = true →
      exec (.fltInputRearm c.ch c.seq c.args) s = .next (staged (.ready 0 [],
        (a.put FLT_IN_STAT_CHAT (setBit (a.get FLT_IN_STAT_CHAT) (c.byte 4) false)).put (FLT_IN_CNT_COUNT (c.byte 4)) 0))) ∧
    (c.op = 0x1202 → c.ch = 0 → c.le 8 2 % 2 = 0 → c.le 8 2 < 1024 →
      (bitList (c.le 8 2) 10).any (fun k => !a.sectorPresent k) = false → a.get SEC_STAT_LC ≠ 1 → a.get SEC_STAT_LC ≠ 2 →
      a.vault.change = none → a.anyReset = false →
      exec (.fltBistRun c.ch c.seq c.args) s = .next (staged (.ready 0 [], a))) ∧
    (c.op = 0x1203 → c.ch = 0 → a.is FLT_STAT_FROZEN = true →
      exec (.fltLogThaw c.ch c.seq c.args) s = .next (staged (.ready 0 [], a.put FLT_STAT_FROZEN 0)))

/-- R80, R131, R134, R149, R183, R294, R340, R444, R451. The bucket commands of the trunk, the calendar, the group, the wells,
the routing table and the spouts, with their checks passed. Log entries 11, 16, 25, 86 name the model's own choices in it. -/
def Obligations.BucketTransportRows : Prop :=
  ∀ (s : State) (c : BktCmd), s.bktTakes c = true →
    let a := s.accepted c
    (c.op = 0x0202 → c.ch = 0 → c.byte 4 ≤ 1 → c.byte 5 ≤ 3 → a.trunkUp = true → a.trunk.readmit = none →
      (c.byte 4 = 0 → a.is (TRK_LANE_STAT_IN_SVC (c.byte 5)) = false) →
      (c.byte 4 = 1 → bit (a.get TRK_PRIME_STAT_TX_LANES) (c.byte 5) = false) →
      exec (.trkLaneReadmit c.ch c.seq c.args) s = .next (staged (.waiting, { a with trunk := { a.trunk with
        readmit := some (c.byte 4, c.byte 5), joining := false, joinAt := none, byPeer := false } }))) ∧
    (c.op = 0x0400 → c.ch = 0 → c.byte 4 ≤ 1 → c.byte 4 ≠ a.bankInUse → a.is ALT_CAL_STAT_SWAP_ARMED = false → c.byte 5 = 0x01 →
      ∀ k, k = a.admission (c.byte 4) 1 a.calRate (isoCap (a.get ALT_CAL_STAT_PROFILE)) →
      exec (.altCalCommit c.ch c.seq c.args) s =
        .next (staged (.ready 0 (leBytes 4 (k + 0xF * 2 ^ 8 + 0xF * 2 ^ 16 + 0xF * 2 ^ 24)),
          a.setValid (c.byte 4) 1 (k == 0)))) ∧
    (c.op = 0x0401 → c.ch = 0 → c.byte 4 = 0 → a.trunkUp = true → a.is ALT_CAL_STAT_SWAP_ARMED = false →
      a.get ALT_CAL_STAT_PROFILE ≠ 3 → a.tableValid (1 - a.bankInUse) (a.tableFor (1 - a.bankInUse) (a.get ALT_CAL_STAT_LANES)) = true →
      a.allot.profile = none → a.allot.fallback = none →
      exec (.altSwap c.ch c.seq c.args) s = .next (staged (.ready 0 (leBytes 4 (cycleAdd (a.get ALT_CYCLE_CYCLE) 2)),
        (a.put ALT_SWAP_AT_CYCLE (cycleAdd (a.get ALT_CYCLE_CYCLE) 2)).put ALT_CAL_STAT_SWAP_ARMED 1))) ∧
    (c.op = 0x0402 → c.ch = 0 → c.byte 4 ≤ 2 → a.allot.profile = none → a.exceedsCap a.bankInUse (isoCap (c.byte 4)) = false →
      a.is ALT_CAL_STAT_SWAP_ARMED = false →
      exec (.altProfile c.ch c.seq c.args) s = .next (staged (if a.trunkUp then
          (.ready 0 (leBytes 4 (cycleAdd (a.get ALT_CYCLE_CYCLE) 2)),
            { a with allot := { a.allot with profile := some (c.byte 4, cycleAdd (a.get ALT_CYCLE_CYCLE) 2) } })
        else (.ready 0 (leBytes 4 0), a.applyProfile (c.byte 4))))) ∧
    (c.op = 0x1000 → c.ch = 0 → a.hasCascade = true → c.le 8 8 = 0 → c.byte 4 ≤ 1 → a.coordinator = a.self →
      a.refusesSwap (c.byte 4) = false → a.cas.swap = none → (a.put CAS_GRP_STAT_GSWAP 1).otherMask = 0 →
      exec (.casGrpSwap c.ch c.seq c.args) s = .next (staged (.ready 0 (leBytes 8 (a.hubTime + 2000000)),
        (a.put CAS_GRP_STAT_GSWAP 1).armGroup (c.byte 4) (a.hubTime + 2000000)))) ∧
    (c.op = 0x1001 → c.ch = 0 → a.hasCascade = true → exec (.casGrpInfo c.ch c.seq c.args) s =
      .next (staged (.ready 0 (leBytes 4 a.groupWord ++ leBytes 1 a.coordinator), a))) ∧
    (c.op = 0x0500 → c.ch = 0 → c.le 4 2 ≤ 511 → exec (.welFlush c.ch c.seq c.args) s =
      .next (let f := a.flushWell (c.le 4 2)
        staged (if f.2.sending (c.le 4 2)
          then (.waiting, ({ f.2 with cis := { f.2.cis with flush := some (c.le 4 2, f.1) } } : State).settle)
          else (.ready 0 (leBytes 4 f.1), f.2.settle)))) ∧
    (c.op = 0x1300 → c.ch = 0 → c.le 4 2 ≤ 4095 → a.portPresent (bits (c.le 8 4) 21 16) = true → exec (.msgRtSet c.ch c.seq c.args) s =
      .next (staged (.ready 0 [], a.routeWrite (c.le 4 2) (c.le 8 4) false))) ∧
    (c.op = 0x1301 → c.ch = 0 → c.le 4 2 ≤ 4095 → exec (.msgRtGet c.ch c.seq c.args) s =
      .next (staged (.ready 0 (leBytes 4 (a.routeWord (c.le 4 2))), a))) ∧
    (c.op = 0x0A00 → c.ch = 0 → c.byte 4 < a.nSpouts → c.byte 4 < a.nWide → c.byte 5 < 2 →
      a.modeOn (c.byte 4) (c.byte 5 + 1) = true → a.is (SPT_STAT_DATA_ROLE (c.byte 4)) = true →
      a.is (SPT_STAT_PD (c.byte 4)) = true → a.get (SPT_ALT_STAT_MUX (c.byte 4)) = 0 →
      exec (.sptMode c.ch c.seq c.args) s = .next (staged (.waiting, a.enterMode (c.byte 4) (c.byte 5 + 1) true))) ∧
    (c.op = 0x0A01 → c.ch = 0 → c.byte 4 < a.nSpouts → a.attached (c.byte 4) = true →
      exec (.sptHardReset c.ch c.seq c.args) s = .next (staged (.ready 0 [], a.sendHardReset (c.byte 4)))) ∧
    (c.op = 0x0A02 → c.ch = 0 → c.byte 4 < a.nSpouts → c.byte 5 = 0 → (a.spout (c.byte 4)).partnerVdos ≠ [] →
      exec (.sptDiscRead c.ch c.seq c.args) s =
        .next (staged (.ready 0 (fit 28 (((a.spout (c.byte 4)).partnerVdos.take 7).flatMap (leBytes 4))), a)))

/-- R198, R299, R308 to R314. The bucket commands of the code pages and of the slices, with their checks passed. Log entries 15,
118, 181, 206 name the model's own choices in it. -/
def Obligations.BucketPageSliceRows : Prop :=
  ∀ (s : State) (c : BktCmd), s.bktTakes c = true →
    let a := s.accepted c
    (c.op = 0x0600 → c.ch = 0 → badPages c = false → c.byte 8 ≤ 63 → a.pagesIn c [0] = true →
      exec (.pmpPageAssign c.ch c.seq c.args) s = .next (staged (.ready 0 [], (pageList c).foldl
        (fun x g => ((x.zeroPage g).put (PMP_PAGE_STATE g) 1).put (PMP_PAGE_SLICE g) (c.byte 8)) a))) ∧
    (c.op = 0x0601 → badPages c = false → a.ownsPages c = true → a.pagesIn c [2] = true →
      exec (.pmpPageOpen c.ch c.seq c.args) s = .next (staged (.ready 0 [],
        (pageList c).foldl (fun x g => (x.dropLines g).put (PMP_PAGE_STATE g) 1) a))) ∧
    (c.op = 0x0602 → badPages c = false → a.ownsPages c = true → a.pagesIn c [1] = true →
      ∀ crc, crc = crc32c (a.tankRead 1 (c.le 4 2 * 4096) (c.le 6 2 * 4096)) →
      exec (.pmpPageSeal c.ch c.seq c.args) s = .next (staged (if crc = c.le 8 4 then
          (.ready 0 (leBytes 4 crc), (pageList c).foldl (fun x g => (x.dropLines g).put (PMP_PAGE_STATE g) 2) a)
        else (.ready 4 (leBytes 4 crc), a)))) ∧
    (c.op = 0x0603 → badPages c = false → a.ownsPages c = true → a.pagesIn c [1, 2] = true →
      exec (.pmpPageFree c.ch c.seq c.args) s = .next (staged (.ready 0 [], (pageList c).foldl State.freePage a))) ∧
    (c.op = 0x0900 → c.ch = 0 → a.dock = true → 1 ≤ c.byte 4 → c.byte 4 ≤ 63 → c.le 8 4 ≤ 0xFFFFF →
      (List.range 64).any (fun n => n != c.byte 4 && a.bound n && a.get (SLC_BIND_PASID n) == c.le 8 4) = false →
      a.bound (c.byte 4) = false →
      exec (.slcBind c.ch c.seq c.args) s = .next (staged (.ready 0 [],
        let b := ((a.put (SLC_BIND_BOUND (c.byte 4)) 1).put (SLC_BIND_PASID (c.byte 4)) (c.le 8 4)).raise 0x0901 (c.byte 4)
        b.tellHubs { b.sliceFab .bind (c.byte 4) with addr := c.le 8 4 }))) ∧
    (∀ sl, sl = c.byte 4 → a.dock = true → 1 ≤ sl → sl ≤ 63 → a.bound sl = true → a.resetting sl = false →
      a.genHeld sl (a.nextGen sl) = false →
      ∀ remove : Bool,
      let t := a.sliceSteps sl (a.nextGen sl) remove
      let r : SliceReset := ⟨sl, remove, c.ch, t.pathOut.isSome.toNat + memberBits t.reachable, (!t.pathOut.isSome).toNat + t.cutOff, none⟩
      let u := t.tellHubs (t.sliceFab (noticeKind remove) sl)
      let out := .next (staged (if r.waiting = 0 then (.ready 0 ((u.endReset r).resetResult r), u.endReset r)
        else (.waiting, { u with resets := u.resets ++ [r] })))
      (c.op = 0x0901 → remove = false → (c.ch = 0 ∨ c.ch = sl) → exec (.slcReset c.ch c.seq c.args) s = out) ∧
      (c.op = 0x0902 → remove = true → c.ch = 0 → exec (.slcRemove c.ch c.seq c.args) s = out))

/-- R454, R466 to R468, R473 to R476. The bucket commands of the vault, with their checks passed: what each leaves when it
starts. Log entries 6, 30, 89, 90, 94, 95, 97, 181, 202 name the model's own choices in it. -/
def Obligations.BucketVaultRows : Prop :=
  ∀ (s : State) (c : BktCmd), s.bktTakes c = true → (s.accepted c).keysHeld = false →
    let a := s.accepted c
    (c.op = 0x1100 → exec (.secInfo c.ch c.seq c.args) s = .next (staged (.ready 0 (leBytes 4 a.secStat ++ a.devid), a))) ∧
    (c.op = 0x1101 → c.ch = 0 → a.get SEC_STAT_LC = 0 → a.fuses.ownerHash = none →
      exec (.secOwnerSet c.ch c.seq c.args) s = .next (staged (.ready 0 [],
        ({ a with fuses := { a.fuses with ownerHash := some (c.bytes 8 48) } } : State).put SEC_STAT_OWNER_SET 1))) ∧
    (c.op = 0x1102 → c.ch = 0 → a.tamperInjectable = true → a.is SEC_STAT_ROOT_VALID = false → a.vault.trngBad = false →
      exec (.secRootGen c.ch c.seq c.args) s = .next (staged (.ready 0 [],
        ({ a with free := a.free + 1,
                  vault := { a.vault with root := Config.freeNat a.free % 2 ^ 256 } } : State).put SEC_STAT_ROOT_VALID 1))) ∧
    (c.op = 0x1103 → c.ch = 0 → a.vault.trngBad = false → exec (.secLcChallenge c.ch c.seq c.args) s =
      .next (staged (.ready 0 (leBytes 16 (Config.freeNat a.free)), { a with
        free := a.free + 1
        vault := { a.vault with nonce := some (leBytes 16 (Config.freeNat a.free)), parts := [] } }))) ∧
    (c.op = 0x1104 → c.ch = 0 → c.byte 4 ≤ 4 → exec (.secTokenPut c.ch c.seq c.args) s =
      .next (staged (.ready 0 [],
        { a with vault := { a.vault with parts := assocPut (c.byte 4) (c.bytes 8 48) a.vault.parts } }))) ∧
    (c.op = 0x1105 → c.ch = 0 → c.byte 4 ≤ 5 → lcChange (a.get SEC_STAT_LC) (c.byte 4) = some false →
      a.is SEC_STAT_ROOT_VALID = true → a.fuses.ownerHash.isSome = true →
      exec (.secLcChange c.ch c.seq c.args) s = .next (staged (.atEnd, a.startChange (c.byte 4)))) ∧
    (c.op = 0x1106 → c.ch = 0 → a.is SEC_STAT_DEBUG = true → a.get SEC_STAT_LC = 3 →
      exec (.secDebugClose c.ch c.seq c.args) s = .next (staged (.atEnd, a.startChange 2))) ∧
    (c.op = 0x1110 → c.ch = 0 → c.byte 4 ≤ 127 → c.byte 5 ≤ 63 → a.slotValid (c.byte 4) = false → a.bound (c.byte 5) = true →
      exec (.secKeyAssign c.ch c.seq c.args) s =
        .next (staged (.ready 0 [], a.put (SEC_SLOT_ATTR_ATTR (c.byte 4)) (c.byte 5 * 2 ^ 16)))) ∧
    (c.op = 0x1111 → c.byte 4 ≤ 127 → a.ownSlot c (c.byte 4) = true → a.ownLocked c (c.byte 4) = false →
      a.slotValid (c.byte 4) = false →
      exec (.secKeyLoad c.ch c.seq c.args) s =
        .next (staged (.ready 0 [], a.writeSlot (c.byte 4) (c.le 8 4) (c.bytes 12 32)))) ∧
    (c.op = 0x1112 → c.byte 4 = 0xFF → c.ch = 0 → c.byte 5 ≤ 127 → a.ownLocked c (c.byte 5) = false →
      a.slotValid (c.byte 5) = false → a.deriveKey 0xFF ≠ none →
      exec (.secKeyDerive c.ch c.seq c.args) s = .next (staged (.atEnd,
        { a with bkt := { a.bkt with tampered := false, keyGen := a.sliceGen (a.slotOwner (c.byte 5)) } }))) ∧
    (c.op = 0x1113 → c.byte 4 ≤ 127 → c.byte 5 ≤ 127 → a.ownSlot c (c.byte 4) = true → a.ownSlot c (c.byte 5) = true →
      a.slotUsable (c.byte 4) = true → a.slotExport (c.byte 4) = true → a.wrapper (c.byte 5) = true →
      exec (.secKeyWrap c.ch c.seq c.args) s = .next (staged (.atEnd, { a with bkt := { a.bkt with tampered := false } }))) ∧
    (c.op = 0x1114 → c.byte 4 ≤ 127 → c.byte 5 ≤ 127 → a.ownSlot c (c.byte 4) = true → a.ownLocked c (c.byte 4) = false →
      a.ownSlot c (c.byte 5) = true → a.slotValid (c.byte 4) = false → a.wrapper (c.byte 5) = true →
      exec (.secKeyUnwrap c.ch c.seq c.args) s = .next (staged (.atEnd, { a with bkt := { a.bkt with tampered := false } }))) ∧
    (c.op = 0x1115 → c.byte 4 ≤ 127 → c.ch = 0 → exec (.secKeyZero c.ch c.seq c.args) s =
      .next (staged (.ready 0 [], (a.drainOps (· == c.byte 4)).zeroSlots (fun _ n => n == c.byte 4)))) ∧
    (c.op = 0x1116 → c.byte 4 ≤ 127 → a.ownSlot c (c.byte 4) = true → exec (.secKeyInfo c.ch c.seq c.args) s =
      .next (staged (.ready 0 (leBytes 4 (a.attr (c.byte 4)) ++ leBytes 4 (a.get (SEC_SLOT_FAIL_THR_HIT (c.byte 4)) * 2 ^ 31 +
        a.get (SEC_SLOT_FAIL_COUNT (c.byte 4)))), a)))

/-- R12, R14, R305. Every row that writes one register: with operands that name a register, and while firmware runs, a slice
whose access R305 permits performs the write of that register and a slice whose access it refuses is denied; slice 0 is never
refused. Log entries 10, 11, 12, 139, 185 name the model's own choices in it. -/
def Obligations.RegisterRows : Prop :=
  ∀ (s : State) (sl : Nat) (v : W32), s.firmware = true → sl < 64 →
    let wr := fun (a : Nat) => if s.refuses sl a true then s.deny sl else s.write32 sl a v.toNat
    (exec (.drowseEnWrite sl v) s = .next (wr 0x10010000)) ∧
    (exec (.trkPrime sl v) s = .next (wr 0x10020000)) ∧
    (exec (.trkOeEnWrite sl v) s = .next (wr 0x10020010)) ∧
    (exec (.trkL2dReqWrite sl v) s = .next (wr 0x1002000C)) ∧
    (∀ n : Nat, n < 4 → exec (.prbsClr sl n v) s = .next (wr (0x10020100 + 0x40 * n))) ∧
    (∀ n : Nat, n < 4 → exec (.injPrbsErr sl n v) s = .next (wr (0x10020118 + 0x40 * n))) ∧
    (exec (.cntClr sl v) s = .next (wr 0x10030000)) ∧
    (exec (.injHcrc sl v) s = .next (wr 0x10030020)) ∧
    (exec (.injUncorr sl v) s = .next (wr 0x10030020)) ∧
    (∀ bank lanes slot : Nat, bank < 2 → 1 ≤ lanes → lanes ≤ 4 → slot < 1024 → exec (.altCalEntWrite sl bank lanes slot v) s = .next (wr (0x10060000 + 0x4000 * bank + 0x1000 * (lanes - 1) + 4 * slot))) ∧
    (exec (.altCalPhaseWrite sl v) s = .next (wr 0x10040010)) ∧
    (∀ n off : Nat, n < 512 → 0x24 ≤ off → off ≤ 0x34 → off % 4 = 0 → exec (.shaperShadowWrite sl n off v) s = .next (wr (0x10090000 + 0x40 * n + off))) ∧
    (∀ n : Nat, n < 8 → exec (.cfgChange sl n v) s = .next (wr (0x10050000 + 0x2000 * n))) ∧
    (∀ n : Nat, n < 512 → exec (.welCfgWrite sl n v) s = .next (wr (0x10090000 + 0x40 * n))) ∧
    (∀ (n : Nat) (low : Bool), n < 512 → exec (.welMarkWrite sl n low v) s = .next (wr (0x10090004 + 0x40 * n + (if low then 4 else 0)))) ∧
    (exec (.dipperEnable sl v) s = .next (wr 0x10080800)) ∧
    (∀ c : Nat, c < 1024 → exec (.ctxStateWrite sl c v) s = .next (wr (0x10200000 + 0x100 * c))) ∧
    (∀ c off : Nat, c < 1024 → off < 0x80 → off % 4 = 0 → exec (.ctxRecordWrite sl c off v) s = .next (wr (0x10200000 + 0x100 * c + off))) ∧
    (∀ win word : Nat, win < 64 → word < 1024 → exec (.loadWindowWrite sl win word v) s = .next (wr (0x101C0000 + 0x1000 * win + 4 * word))) ∧
    (exec (.lfPop sl v) s = .next (wr 0x10600000)) ∧
    (∀ n off : Nat, n < 64 → off < 0x10 → off % 4 = 0 → exec (.brgWinCfgWrite sl n off v) s = .next (wr (0x10601000 + 0x10 * n + off))) ∧
    (exec (.compatWrite sl v) s = .next (wr 0x10600000)) ∧
    (∀ vec : Nat, vec < 2048 → exec (.msixUnmask sl vec v) s = .next (wr (0x1113000C + 0x10 * vec))) ∧
    (∀ i : Nat, i < 4096 → exec (.msgRtWrite sl i v) s = .next (wr (0x11100000 + 4 * i))) ∧
    (∀ n : Nat, n < 16 → exec (.sptPolicyWrite sl n v) s = .next (wr (0x10800004 + 0x1000 * n))) ∧
    (∀ n i : Nat, n < 16 → i < 4 → exec (.sptPdoWrite sl n i v) s = .next (wr (0x10800010 + 0x1000 * n + 4 * i))) ∧
    (∀ n : Nat, n < 16 → exec (.sptCfgWrite sl n v) s = .next (wr (0x10800000 + 0x1000 * n))) ∧
    (∀ n : Nat, n < 16 → exec (.retryMaxWrite sl n v) s = .next (wr (0x1090000C + 0x100 * n))) ∧
    (∀ n : Nat, n < 16 → exec (.clrLatch sl n v) s = .next (wr (0x10900020 + 0x100 * n))) ∧
    (∀ n : Nat, n < 16 → exec (.injSc sl n v) s = .next (wr (0x10900024 + 0x100 * n))) ∧
    (∀ k : Nat, k < 4 → exec (.usbBusCfgWrite sl k v) s = .next (wr (0x10A00000 + 0x4000 * k))) ∧
    (∀ n : Nat, n < 16 → exec (.usbSptMapWrite sl n v) s = .next (wr (0x10A10000 + 4 * n))) ∧
    (∀ k : Nat, k < 4 → exec (.injXact sl k v) s = .next (wr (0x10A00024 + 0x4000 * k))) ∧
    (exec (.mdioGo sl v) s = .next (wr 0x10B08000)) ∧
    (∀ n : Nat, n < 8 → exec (.txtsPop sl n v) s = .next (wr (0x10B00018 + 0x1000 * n))) ∧
    (exec (.commit sl v) s = .next (wr 0x10D00000)) ∧
    (∀ layer : Nat, layer < 6 → exec (.dspLayerEnable sl layer v) s = .next (wr (0x10D00100 + 0x20 * layer))) ∧
    (∀ n : Nat, n < 4 → exec (.dspOutCfgWrite sl n v) s = .next (wr (0x10D00200 + 0x10 * n))) ∧
    (∀ port : Nat, 1 ≤ port → port ≤ 3 → exec (.injDownWrite sl port v) s = .next (wr (0x10E00000 + 0x100 * port))) ∧
    (exec (.tamperInject sl v) s = .next (wr 0x10F00018)) ∧
    (exec (.fltInjGo sl v) s = .next (wr 0x11000014)) ∧
    (∀ a, s.refuses 0 a true = false) ∧
    (∀ a base ix fs, s.regPresent a = true → a < 0x10C00000 → findReg a = some (base, ix, fs) →
      s.write32 sl a v.toNat = s.writeReg sl base ix fs v.toNat)

/-- R54 to R64, R66, R75. The rows that move the priming state, each in the state in which it acts; and the training records of
EQ, STEP and CHECK, and READY. Log entries 10, 17, 73, 74, 75, 76, 77, 166 name the model's own choices in it. -/
def Obligations.PrimingRows : Prop :=
  (
  (∀ (s : State) (n : Nat), s.linksLive = true → n < 4 →
    exec (.laneSignalDetect n) s = .next (s.setLos n false).detectCheck) ∧
  -- DETECT ends once the engines carry light and an enabled lane that has a signal stands without LOS
  (∀ (s : State) (n : Nat), s.primeState = 1 → s.is TRK_OE_EN = true → n < 4 → bit (s.get TRK_CTRL_LANE_EN) n = true →
    bit s.trunk.light n = true → s.is (TRK_LANE_STAT_LOS n) = false → s.detectCheck = s.enterLock) ∧
  (∀ s : State, s.primeState ≠ 1 ∨ s.is TRK_OE_EN = false ∨ s.trunk.light = 0 → s.detectCheck = s) ∧
  (∀ s : State, s.linksLive = true →
    (s.primeState = 2 → s.get TRK_PRIME_STAT_RX_LANES = 0 → exec .primingStateTimeout s = .next s.backToDetect) ∧
    (s.primeState = 2 → s.get TRK_PRIME_STAT_RX_LANES ≠ 0 → exec .primingStateTimeout s = .next s.enterConfig) ∧
    ((s.primeState = 3 ∨ s.primeState = 7 ∨ s.primeState = 8) → exec .primingStateTimeout s = .next (s.failPriming 1)) ∧
    (s.primeState = 4 → s.get TRK_PRIME_STAT_RATE ≠ 0 → exec .primingStateTimeout s = .next s.enterFallback) ∧
    (s.primeState = 5 → exec .primingStateTimeout s = .next s.enterFallback) ∧
    (s.primeState = 6 → exec .primingStateTimeout s = .next s.enterCheck)) ∧
  (∀ s : State, s.linksLive = true → 1 ≤ s.primeState → s.primeState ≤ 8 → (∃ t, s.trunk.timer = some t ∧ t + 50000000 ≤ s.hubTime) →
    exec .primingTimeout s = .next (s.failPriming (if s.trunk.returned then 4 else 1))) ∧
  (∀ s : State, s.linksLive = true → s.primeState = 0xA → s.is TRK_CTRL_AUTO = true →
    exec .primingRestartTimer s = .next s.startPriming) ∧
  (∀ (s : State) (v : W32), s.firmware = true → exec (.trkPrime 0 v) s = .next (s.trkCtrl v.toNat)) ∧
  (∀ (s : State) (n : Nat) (b : Bool), s.linksLive = true → s.primingNow = true → n < 4 →
    bit (s.get TRK_CTRL_LANE_EN) n = true → s.is (TRK_LANE_STAT_LOS n) = false →
    exec (.laneLock n b) s = .next (if (s.setLol n false).primingNow = true ∧ (s.setLol n false).is (TRK_LANE_STAT_LOL n) = false
      then (s.setLol n false).lockLane n b else s.setLol n false)) ∧
  (∀ (s : State) (n : Nat) (r : TrainRec), s.linksLive = true → n < 4 →
    (s.primeState = 3 → bit (s.get TRK_PRIME_STAT_RX_LANES) n = true → exec (.ts1 n r) s = .next (s.hearLane n r).configStep) ∧
    (s.primeState = 9 → s.is (TRK_LANE_STAT_IN_SVC n) = true → exec (.ts1 n r) s = .next s.peerRestart) ∧
    (s.primeState = 3 → bit (s.get TRK_PRIME_STAT_RX_LANES) n = true → exec (.ts2 n r) s = .next (s.confirm n r)))) ∧ (
  -- the transmit lanes that the peer shows in lock, and DETECT once it shows none
  (∀ (s : State) (r : TrainRec), 4 ≤ s.primeState → s.primeState ≤ 8 →
    (s.get TRK_PRIME_STAT_TX_LANES &&& r.lmask ≠ 0 →
      s.peerLanes r = s.put TRK_PRIME_STAT_TX_LANES (s.get TRK_PRIME_STAT_TX_LANES &&& r.lmask)) ∧
    (s.get TRK_PRIME_STAT_TX_LANES &&& r.lmask = 0 → s.peerLanes r = s.backToDetect)) ∧
  (∀ (s : State) (n : Nat) (r : TrainRec), s.linksLive = true → s.primeState = 6 → n < 4 → r.round ≤ 8 →
    (s.peerLanes r).primeState = 6 →
    exec (.eqReq n r) s = .next (((s.peerLanes r).primeEq n
      (if r.eqMode = 0 then presetEq (r.eqPre % 8) else clampEq r.eqPre r.eqMain r.eqPost)).sendEqAck r.round)) ∧
  (∀ (s : State) (n : Nat) (r : TrainRec), s.linksLive = true → s.primeState = 6 → n < 4 → 8 ≤ r.round →
    (s.peerLanes r).primeState = 6 → r.round = (s.peerLanes r).trunk.round →
    let a := setBit (s.peerLanes r).trunk.acked n true
    let e := assocPut n (⟨r.eqPre, r.eqMain, r.eqPost⟩ : Coef) (s.peerLanes r).trunk.peerEq
    let t : State := { s.peerLanes r with trunk := { (s.peerLanes r).trunk with acked := a, peerEq := e } }
    exec (.eqAck n r) s = .next (if t.coversRx a = true then { t with free := t.free + 1 } else t)) ∧
  (∀ (s : State) (r : TrainRec) (t k : Nat), s.linksLive = true → s.primeState = 5 → s.trunk.step = some (t, k) → r.rate = t →
    16 ≤ r.stepAt → r.stepAt ≤ 255 →
    exec (.stepRec r) s = .next (({ s with trunk := { s.trunk with step := some (t, r.stepAt) } } : State).peerLanes r)) ∧
  (∀ (s : State) (t k : Nat), s.linksLive = true → s.primeState = 5 → s.trunk.step = some (t, k) →
    exec .rateChange s = .next { s.put TRK_PRIME_STAT_RATE t with trunk := { s.trunk with step := none, relock := 0 } }) ∧
  (∀ (s : State) (r : TrainRec), s.linksLive = true → s.trunkUp = false → (s.primeState = 4 ∨ s.primeState = 7) →
    exec (.result r) s = .next (if (s.peerLanes r).primeState = 1 ∨ (s.peerLanes r).primeState = 2 then s.peerLanes r
      else ({ s.peerLanes r with trunk := { (s.peerLanes r).trunk with peer := some (r.res == 0) } } : State).judge)) ∧
  (∀ (s : State) (r : TrainRec) (n : Nat), s.linksLive = true → s.trunk.readmit = some (1, n) → s.trunkUp = true →
    exec (.result r) s = .next (s.readmitResult 1 n (r.res == 0))) ∧
  (∀ (s : State) (m : Nat), s.linksLive = true → s.trunk.readmit = none →
    (s.primeState = 4 ∨ s.primeState = 7 ∧ s.coversRx s.trunk.relock = true) →
    let pass := m &&& s.get TRK_PRIME_STAT_RX_LANES == 0
    let t : State := { s with trunk := { s.trunk with own := some pass } }
    exec (.stepCheckComplete m) s =
      .next (t.sendTrain 6 { t.trainBase with res := if pass then 0 else 1 }).judge) ∧
  (∀ (s : State) (r : TrainRec), s.linksLive = true → s.trunk.readmit = none → s.trunkUp = true →
    exec (.result r) s = .next (s.peerReadmits r)) ∧
  (∀ (s : State) (m : Nat), s.linksLive = true → s.trunk.readmit = none → s.primeState = 7 → s.coversRx s.trunk.relock = false →
    exec (.stepCheckComplete m) s = .next s) ∧
  (∀ (s : State) (m n : Nat), s.linksLive = true → s.trunk.readmit = some (0, n) → s.trunkUp = true →
    exec (.stepCheckComplete m) s = .next (s.readmitResult 0 n (!bit m n))) ∧
  (∀ (s : State) (l : List SliceRec), s.linksLive = true → s.primeState = 8 → exec (.ready l) s = .next (s.trunkComesUp l)) ∧
  -- what a step check decides
  (∀ s : State, s.trunk.own = some true → s.trunk.peer = some true → s.judge = s.checkPassed) ∧
  (∀ (s : State) (a b : Bool), s.trunk.own = some a → s.trunk.peer = some b → (a && b) = false → s.judge = s.checkFailed) ∧
  (∀ s : State, s.trunk.own = none → s.judge = s))

/-- R69 to R77, R83, R85. The optical engine, the power states of the lanes, PRBS checking and lane faults. Log entries 10, 78,
163, 164, 165 name the model's own choices in it. -/
def Obligations.LaneRows : Prop :=
  (∀ (s : State) (v : W32), s.firmware = true → exec (.trkOeEnWrite 0 v) s = .next (s.oeWrite v.toNat)) ∧
  (∀ s : State, s.linksLive = true → s.inputMasked 9 = false → exec .oeFault s = .next s.oeFault) ∧
  (∀ s : State, s.linksLive = true → s.inputMasked 10 = false →
    exec .oeLos s = .next ((s.put TRK_OE_LOS 1).put TRK_OE_LOS_LATCH 1)) ∧
  (∀ s : State, s.linksLive = true → exec .oeLosFall s = .next (s.put TRK_OE_LOS 0)) ∧
  (∀ s : State, s.linksLive = true → s.settledTrunk = true → s.is TRK_PWR_L0Q_EN = true → s.get ALT_CAL_STAT_PROFILE = 2 →
    s.get TRK_PWR_TX_STATE = 0 → (s.link 0).lastBusy + s.get TRK_PWR_IDLE * 1000 ≤ s.hubTime → s.ownedWithin 1000 = false →
    s.trunkQuiet = true →
    exec .l0qIdleTimeout s = .next (s.put TRK_PWR_TX_STATE 1)) ∧
  (∀ (s : State) (v : W32), s.firmware = true → exec (.trkL2dReqWrite 0 v) s = .next (s.pwrWrite v.toNat)) ∧
  (∀ s : State, s.linksLive = true → s.trunkUp = true →
    (s.l2dReady = true → exec .l2dReq s =
      .next { s.sendCtl 0 6 [0#8] with trunk := { (s.sendCtl 0 6 [0#8]).trunk with l2dEnter := true } }) ∧
    (s.l2dReady = false → exec .l2dReq s =
      .next { s.sendCtl 0 6 [1#8] with trunk := { (s.sendCtl 0 6 [1#8]).trunk with l2dEnter := false } })) ∧
  (∀ s : State, s.linksLive = true → s.l2dReady = true → s.is TRK_PWR_L2D_REQ = true → s.trunk.l2dAsked = true →
    exec (.l2dAck false) s =
      .next ({ s with trunk := { s.trunk with l2dAsked := false, l2dEnter := true } } : State).l2dCheck) ∧
  (∀ s : State, exec (.l2dAck true) s = .next s) ∧
  (∀ s : State, s.trunk.l2dEnter = true → s.l2dReady = true → s.trunkQuiet = true → s.l2dCheck = s.enterL2d) ∧
  (∀ s : State, s.l2dReady = (s.settledTrunk && s.noOwnedSlots)) ∧
  (∀ s : State, s.is TRK_PWR_L2D_REQ = false → s.askL2d = s) ∧
  (∀ s : State, s.linksLive = true → s.is TRK_PWR_L2D_REQ = true → s.l2dReady = true → s.trunk.l2dAsked = false →
    s.trunk.l2dEnter = false → s.trunkQuiet = true → s.get TRK_PWR_TX_STATE ≠ 2 →
    s.askL2d = { s.sendCtl 0 5 [] with trunk := { (s.sendCtl 0 5 []).trunk with l2dAsked := true } }) ∧
  (∀ s : State, s.linksLive = true → exec .peerSignalDetected s = .next s.wakeTrunk) ∧
  (∀ (s : State) (n : Nat), s.linksLive = true → n < 4 → s.checking n = true →
    let t := s.cleanBroken n
    exec (.prbsError n) s = .next (if t.is (TRK_LANE_STAT_IN_SVC n) && !t.is (TRK_LANE_STAT_QUAL n) then
      (t.raise 0x0207 n).detect 0x1C n else t)) ∧
  (∀ (s : State) (n : Nat), s.linksLive = true → n < 4 → s.is (TRK_LANE_STAT_IN_SVC n) = true →
    s.is (TRK_LANE_STAT_QUAL n) = false → 10 ^ 10 ≤ assocGet 0 s.trunk.clean n →
    exec (.laneQualified n) s = .next ((s.put (TRK_LANE_STAT_QUAL n) 1).raise 0x0208 n)) ∧
  (∀ (s : State) (n : Nat), s.linksLive = true → n < 4 →
    exec (.laneFault n .los) s = .next ((s.setLos n true).laneFault n .los) ∧
    exec (.laneFault n .lol) s = .next ((s.setLol n true).laneFault n .lol) ∧
    exec (.laneFault n .burst) s = .next (s.laneFault n .burst) ∧
    exec (.laneFault n .exit) s = .next (s.laneFault n .exit) ∧
    (s.primeState = 9 → s.is (TRK_LANE_STAT_IN_SVC n) = true → s.laneFault n .exit = s.removeLane n)) ∧
  (∀ (s : State) (l : List Nat), s.linksLive = true → s.trunkUp = true →
    exec (.alignmentMarker l) s =
      .next (({ s with trunk := { s.trunk with dealing := l } } : State).setLink 0 { s.link 0 with rxTurn := 0 })) ∧
  (∀ (s : State) (n : Nat) (v : W32), s.firmware = true → n < 4 →
    exec (.prbsClr 0 n v) s = .next (s.laneCtrl n v.toNat) ∧
    (s.injectable = true → exec (.injPrbsErr 0 n v) s = .next (s.laneInj n v.toNat)) ∧
    (s.injectable = false → exec (.injPrbsErr 0 n v) s = .next s))

/-- R91, R103, R110, R113 to R115, R119, R137. The rows that bring flits and link records: on a link that works, a flit is
received, a record with a newer epoch takes effect once, and the standby's records act on the standby trunk. Log entries 71, 83,
172, 173 name the model's own choices in it. -/
def Obligations.ConduitReceiveRows : Prop :=
  (∀ (s : State) (p : Nat) (raw h b : Bytes) (unc : Bool) (k : Nat), s.linkLive p = true → p ≠ 0 ∨ s.get TRK_PWR_RX_STATE ≠ 2 →
    exec (.flitReceive p h b unc k) s = .next ((s.flitIn p (h ++ b) unc k).takeArrived p) ∧
    ((parseHeader raw).ftype = 4 → exec (.nak p raw) s = .next ((s.flitIn p raw false 0).takeArrived p))) ∧
  -- a NAK that names the replay in progress releases flits and no more; any other starts a replay
  (∀ (s : State) (p a : Nat),
    (((s.ackUpTo p a).link p).replayFrom = some ((a + 1) % 4096) → s.nakReceived p a = (s.ackUpTo p a).linkCnt p 8) ∧
    (((s.ackUpTo p a).link p).replayFrom ≠ some ((a + 1) % 4096) → s.nakReceived p a = ((s.ackUpTo p a).linkCnt p 8).startReplay p)) ∧
  (∀ (s : State) (e n m : Nat), s.linkLive 0 = true → e < 256 → n < 4 → m < 16 →
    let m' := setBit m n false
    let t := (s.setLink 0 { s.link 0 with laneTx := e }).put TRK_PRIME_STAT_TX_LANES m'
    (newer e (s.link 0).laneTx = true → countBits (m' % 16) 4 ≠ 0 →
      exec (.laneDrop e n m) s =
        .next ((((t.newDealing (m' % 16)).ptpHold).startReplay 0).laneCountChange (countBits (m' % 16) 4))) ∧
    (newer e (s.link 0).laneTx = false → exec (.laneDrop e n m) s = .next s)) ∧
  (∀ (s : State) (e n b c : Nat), s.linkLive 0 = true → e < 256 → 1 ≤ n → n ≤ 4 →
    (newer e (s.link 0).annRx = true → exec (.fallbackAnn e n b c) s = .next ((s.setLink 0 { s.link 0 with
      annRx := e, laneRx := if newer e (s.link 0).laneRx then e else (s.link 0).laneRx,
      announced := (s.link 0).announced ++ [(c, b % 2 == 1)] }).noteBoundary n c)) ∧
    (newer e (s.link 0).annRx = false → exec (.fallbackAnn e n b c) s = .next s)) ∧
  (∀ (s : State) (b n c : Nat), s.linkLive 0 = true → 1 ≤ n → n ≤ 4 →
    ((s.link 0).announced.contains (c, b % 2 == 1) = false → exec (.swapRec b n c) s =
      .next (s.setLink 0 { s.link 0 with announced := (s.link 0).announced ++ [(c, b % 2 == 1)] })) ∧
    ((s.link 0).announced.contains (c, b % 2 == 1) = true → exec (.swapRec b n c) s = .next s)) ∧
  (∀ (s : State) (p c d : Nat), s.linkLive p = true → s.dock = false → exec (.creditSync p c d) s = .next (s.creditSynced p c d)) ∧
  (∀ (s : State) (p c d : Nat), 0 < c → c < 2 ^ 32 → (c + 2 ^ 32 - assocGet 0 (s.link p).est 1) % 2 ^ 32 < 2 ^ 31 →
    ((s.creditSynced p c d).link p).synced = true ∧ assocGet 0 ((s.creditSynced p c d).link p).est 1 = c) ∧
  (∀ (s : State) (e k c d uc ud tc td : Nat), s.linkLive 0 = true → s.trunk.role = 2 → (s.link 0).frozen = false → e < 4096 →
    k < 4096 → uc < 2 ^ 32 → ud < 2 ^ 32 →
    let t := s.setLink 0 { s.link 0 with
      expect := e, got := true, txNext := k, held := [], stbyState := some k, grant := assocPut 1 c (assocPut 2 d []),
      used := assocPut 1 uc (assocPut 2 ud []), taken := assocPut 1 tc (assocPut 2 td []) }
    exec (.stbyStateReceive e k c d (uc, ud) (tc, td)) s =
      .next ((((t.oweCredits 1 (t.initialGrant 0).1).oweCredits 2 (t.initialGrant 0).2).sendCtl 0 7 (stbyTakeContent e k c d)).tryTake)) ∧
  (∀ (s : State) (n k : Nat) (b : Bytes) (f g : Nat), s.linkLive 0 = true → s.trunk.role = 2 → (s.link 0).stbyState.isSome = true →
    n < 4096 →
    exec (.stbyFlitForward n k b f g) s = .next (s.setLink 0 { s.link 0 with
      held := (s.link 0).held.filter (fun h => !(s.link 0).ownFlit h) ++ [⟨n, f, k, g, fit 248 b, 1, s.hubTime⟩] ++
        (s.link 0).held.filter (s.link 0).ownFlit
      posted := (s.link 0).posted ++ (if f = 1 then postedIn n g b else []) }).tryTake) ∧
  (∀ (s : State) (e k c d : Nat), s.linkLive 0 = true → k < 4096 → exec (.stbyTake e k c d) s = .next (s.stbyTaken e c d))

/-- R96, R102, R104, R107, R122, R130. The slots and timers of a link, and the writes of CND_CTRL and CND_INJ. Log entries 10,
158, 159, 179 name the model's own choices in it. -/
def Obligations.ConduitTimerRows : Prop :=
  (∀ (s : State) (p : Nat), s.linkLive p = true → s.replayLimit p = false →
    (p = 0 → exec (.flitSlot p) s = .next s.trunkSlot) ∧
    (p ≠ 0 → exec (.flitSlot p) s =
      .next (if (s.sendCascadeIso p).1 = true then (s.sendCascadeIso p).2 else (s.sendCascadeIso p).2.sendSporadic p))) ∧
  (∀ s : State, s.linkLive 0 = true → s.replayLimit 0 = true →
    exec (.flitSlot 0) s = .next (((s.raise 0x0303 0).detect 0x22 0).trunkDown).startPriming) ∧
  (∀ s : State, 0 < (s.link 0).txSlot → (s.link 0).txSlot < 1024 → s.get TRK_PWR_TX_STATE = 0 → s.is TRK_PWR_L2D_REQ = false →
    (s.slotOwner? (s.link 0).txSlot = none → s.trunkSlot = (s.sendSporadic 0).l2dCheck) ∧
    (∀ k, s.slotOwner? (s.link 0).txSlot = some k → s.trunkSlot = (s.sendOwned k).l2dCheck)) ∧
  (∀ s : State, s.get TRK_PWR_TX_STATE = 2 → s.trunkSlot = s) ∧
  -- a quiet direction: an alignment marker on each lane in every 64th slot, and no flit
  (∀ s : State, 0 < (s.link 0).txSlot → (s.link 0).txSlot < 1024 → s.get TRK_PWR_TX_STATE = 1 → s.is TRK_PWR_L2D_REQ = false →
    s.ownedWithin 100 = false → s.trunkWants = false → s.trunkSlot = s.quietSlot.l2dCheck) ∧
  (∀ (s : State) (h : Held) (l : List Held), (s.link 0).held = h :: l → s.trunk.role ≠ 2 → s.linkLive 0 = true →
    h.time + s.get CND_RETRY_TIMEOUT * 1000 ≤ s.hubTime →
    let t := ((s.linkCnt 0 10).detect 0x21 0).startReplay 0
    exec (.replayTimeout 0) s =
      .next ((t.setLink 0 { t.link 0 with replay := (h :: l).map (·.lseq), replayFrom := some h.lseq }).replayCheck 0)) ∧
  (∀ (s : State) (p : Nat), s.linkLive p = true → exec (.nakHoldExpiry p) s = .next (s.setLink p { s.link p with nakHeld := false })) ∧
  (∀ (s : State) (p : Nat) (k : Pack), s.linkLive p = true → (s.link p).pack = some k →
    k.since + 10 * s.get CND_CTRL_PACK_WIN ≤ s.hubTime →
    exec (.packWindowExpiry p) s = .next (s.setPack p (some { k with full := true }))) ∧
  (∀ s : State, s.linkLive 0 = true → s.get TRK_PWR_TX_STATE = 1 → s.aseqOut 0 ≠ (s.link 0).aseqSent → (s.link 0).txSlot < 1024 →
    exec .aseqIdleTimeout s =
      .next ((s.put TRK_PWR_TX_STATE 0).sendIdle 0 (if (s.slotOwner? (s.link 0).txSlot).isSome = true then 0 else 2))) ∧
  (∀ (s : State) (v : W32), s.firmware = true → ∃ t, exec (.cntClr 0 v) s = .next t ∧
    t.get CND_CTRL_PACK_WIN = bits v.toNat 7 0 ∧ (bit v.toNat 31 = true → ∀ n, n < 16 → t.get (CND_CNT_COUNT n) = 0) ∧
    (bit v.toNat 31 = false → ∀ n, n < 16 → t.get (CND_CNT_COUNT n) = s.get (CND_CNT_COUNT n)) ∧
    t.tanks = s.tanks ∧ t.links = s.links ∧ t.pumps = s.pumps ∧ t.cis = s.cis) ∧
  (∀ (s : State) (v : W32), s.firmware = true → s.injectable = true →
    exec (.injHcrc 0 v) s = .next (s.cndInj v.toNat) ∧ exec (.injUncorr 0 v) s = .next (s.cndInj v.toNat)) ∧
  (∀ (s : State) (v : W32), s.firmware = true → s.injectable = false →
    exec (.injHcrc 0 v) s = .next s ∧ exec (.injUncorr 0 v) s = .next s) ∧
  (∀ (s : State) (v : Nat),
    (bit v 0 = true → ((s.cndInj v).link 0).injHcrc = true) ∧ (bit v 1 = true → ((s.cndInj v).link 0).injUncorr = true))

/-- R123, R126, R129, R139, R142 to R144, R146, R147, R149, R155, R258. The rows of the calendar, the ticks, the gates and the
ports, each in the state in which it acts; and what a write of the registers of the calendar, the shapers, the policers and the
gates does. Log entries 12, 25, 57, 60, 124, 125 name the model's own choices in it. -/
def Obligations.AllotmentRows : Prop :=
  (
  (∀ s : State, s.linksLive = true → s.trunkUp = true → (s.link 0).txSlot = 1024 →
    exec .cycleBoundary s = .next (s.put ALT_CYCLE_CYCLE (cycleAdd (s.get ALT_CYCLE_CYCLE) 1)).startCycle) ∧
  (∀ s : State, s.is ALT_CAL_STAT_SWAP_ARMED = false → s.allot.fallback = none →
    (∀ p, s.allot.profile = some (p, s.get ALT_CYCLE_CYCLE) → s.cycleChanges = s.applyProfile p) ∧
    (∀ p c, s.allot.profile = some (p, c) → c ≠ s.get ALT_CYCLE_CYCLE → s.cycleChanges = s) ∧
    (s.allot.profile = none → s.cycleChanges = s)) ∧
  (∀ s : State, s.running = true →
    let t := (List.range 512).foldl State.tickWell s
    exec .refillTick s = .next ({ t with allot := { t.allot with tick := t.hubTime } } : State).tickPolicers) ∧
  (∀ (s t : State) (p : Nat) (w : Option Nat) (id : Nat), s.running = true → s.portOpen p = true → assocFind s.cis.tx p = none →
    s.takeNext p = (some (w, id), t) → exec (.portSchedule p) s = .next (t.startFrame p w id).settle) ∧
  (∀ (s t : State) (p : Nat), s.running = true → s.portOpen p = true → assocFind s.cis.tx p = none → s.takeNext p = (none, t) →
    exec (.portSchedule p) s = .next t.settle) ∧
  (∀ (s : State) (p : Nat) (x : Tx), s.running = true → assocFind s.cis.tx p = some x →
    let t := (x.well.elim (s.sendFrame p x.frame x.time) (s.sendFrame p x.frame x.time).accrue).accruePort p
    let u : State := { t with cis := { t.cis with tx := assocDel p t.cis.tx } }
    (4 ≤ p → p ≤ 11 → exec (.frameTransmitDone p) s = .next ((u.startHolds (p - 4)).sentFrame x.well x.frame).settle) ∧
    (12 ≤ p → p ≤ 27 → exec (.frameTransmitDone p) s = .next ((u.sentFrame x.well x.frame).samGrant (p - 12)).settle) ∧
    (p < 4 ∨ 27 < p → exec (.frameTransmitDone p) s = .next (u.sentFrame x.well x.frame).settle)) ∧
  (∀ (s : State) (n : Nat), s.running = true → n < 8 → exec (.gateTransition n) s = .next ((s.accruePort (n + 4)).gateStep n)) ∧
  (∀ (s : State) (n : Nat) (c : GclCfg) (t : Nat), s.running = true → n < 8 → (s.gcl n).pend = some (c, t) → t ≤ s.hubTime →
    exec (.gclChangeTime n) s = .next ((((((s.accruePort (n + 4)).setGcl n { oper := some c, start := t, pend := none }).put (ALT_GCL_STAT_OPER_LEN n)
      c.list.length).put (ALT_GCL_STAT_CUR n) 0).put (ALT_GCL_CTRL_PENDING n) 0).raise 0x0408 n)) ∧
  (∀ (s : State) (n : Nat) (c : GclCfg) (t : Nat), s.running = true → n < 8 → (s.gcl n).pend = some (c, t) → s.hubTime < t →
    exec (.gclChangeTime n) s = .next (s.accruePort (n + 4)))) ∧ (
  (∀ (s : State) (sl bank n slot : Nat) (fs : List (Fld × Acc)) (v : Nat),
    (bank = s.bankInUse ∨ s.is ALT_CAL_STAT_SWAP_ARMED = true → s.writeReg sl 0x10060000 [bank, n, slot] fs v = s) ∧
    (bank ≠ s.bankInUse → s.is ALT_CAL_STAT_SWAP_ARMED = false → bank < 2 → n < 4 →
      (s.writeReg sl 0x10060000 [bank, n, slot] fs v).tableValid bank (n + 1) = false)) ∧
  (∀ (s : State) (sl : Nat) (fs : List (Fld × Acc)) (v : Nat),
    (s.writeReg sl 0x10040010 [] fs v).get ALT_CAL_STAT_ALIGNED = 0 ∧
    (s.writeReg sl 0x10040010 [] fs v).allot.slewing = true ∧
    (s.writeReg sl 0x10040010 [] fs v).get ALT_CAL_PHASE_PHASE =
      min v (pCal (max 1 (s.get ALT_CAL_STAT_LANES)) s.calRate - 1) % 2 ^ ALT_CAL_PHASE_PHASE.w) ∧
  (∀ (s : State) (sl n v : Nat) (fs : List (Fld × Acc)) (f : Fld),
    (∀ off, off = 0x24 ∨ off = 0x28 ∨ off = 0x2C ∨ off = 0x30 ∨ off = 0x34 →
      s.writeReg sl (0x10090000 + off) [n] fs v = s.shadowShaper n off v ∧ (s.shadowShaper n off v).get f = s.get f ∧
      assocFind ((s.shadowShaper n off v).well n).shadow off = some v) ∧
    (∀ r, r = 0 ∨ r = 1 ∨ r = 3 →
      s.writeReg sl (0x10070000 + 4 * r) [n] fs v = s.shadowPolicer n r v ∧ (s.shadowPolicer n r v).get f = s.get f ∧
      assocFind (s.shadowPolicer n r v).allot.polShadow (n * 4 + r) = some v)) ∧
  (∀ (s : State) (n : Nat),
    ((s.latchGates n).gcl n).pend = some (s.adminGcl n, changeTime s.hubTime (s.adminGcl n)) ∧
    (s.latchGates n).get (ALT_GCL_CTRL_PENDING n) = 1) ∧
  (∀ (now : Nat) (c : GclCfg), 0 < c.cycle → now < changeTime now c ∧ c.base ≤ changeTime now c ∧
    (changeTime now c - c.base) % c.cycle = 0))

/-- R139, R140. The scheduler's choice under a key: a well is chosen exactly when a well of the level is sendable; it is one of the
level's non-empty sendable wells, and one whose start tag has come where there is such a well. -/
def Obligations.SchedulerChoice : Prop :=
  ∀ (s : State) (key : Nat) (ok : State → Nat → Bool),
    (∀ n, s.chooseWell key ok = some n →
      s.inGroup key n = true ∧ (s.well n).q ≠ [] ∧ ok s n = true ∧
      ((∃ m, m ∈ s.groupWells key ∧ ok s m = true ∧ tagLe (s.startTag m) (assocGet 0 s.cis.vtime key) = true) →
        tagLe (s.startTag n) (assocGet 0 s.cis.vtime key) = true)) ∧
    (s.chooseWell key ok = none ↔ ∀ m, m ∈ s.groupWells key → ok s m = false)

/-- R20, R163, R164, R170, R180, R181, R199, R200. Frames that land, the marks of a well, the sweep, the dipper, and the writes
of WEL_CFG and WEL_DIP_CTRL. Log entries 10, 11, 25, 27, 28, 30, 31, 57, 122, 188 name the model's own choices in it. -/
def Obligations.CisternRows : Prop :=
  (∀ (s : State) (p : Nat) (d : Bytes), s.running = true → s.portPresent p = true → d ≠ [] → s.heldPort p = false →
    ((4 ≤ p ∧ p ≤ 11 ∧ s.is (ETH_STAT_LINK (p - 4)) = true) ∨ (12 ≤ p ∧ p ≤ 27 ∧ p - 12 < s.nWide) ∨ p = 28 ∨
      (p = 29 ∧ s.dock = false) ∨ p = 31 ∨ 32 < p) →
    let stamp := s.hubTime - (if p ≤ 11 then s.get (ETH_TS_LAT_RX (p - 4)) else 0)
    exec (.frameIngress p d) s = .next (s.ingress p stamp d (s.classify p d))) ∧
  -- a full Ethernet port discards the frame and counts it; the sources of the other ports are held off
  (∀ (s : State) (p t : Nat) (d : Bytes) (c : Option (Nat × Nat)),
    (4 ≤ p → p ≤ 11 → s.get (WEL_PORT_Q_QUOTA p) ≤ s.get (WEL_PORT_USE_USE p) ∨ s.noRoom d.length = true →
      s.ingress p t d c = s.bump (ETH_CNT_COUNT (p - 4) 3)) ∧
    (4 ≤ p → p ≤ 11 → s.get (WEL_PORT_USE_USE p) < s.get (WEL_PORT_Q_QUOTA p) → s.noRoom d.length = false →
      s.ingress p t d c = (s.bump (ETH_CNT_COUNT (p - 4) 0)).landFrame p t d c) ∧
    (28 ≤ p → s.backPressured p = true → s.ingress p t d c = s) ∧
    (28 ≤ p → s.backPressured p = false → s.ingress p t d c = s.landFrame p t d c) ∧
    (12 ≤ p → p ≤ 27 → s.ingress p t d c = s.landFrame p t d c)) ∧
  (∀ (s : State) (p t : Nat) (d : Bytes) (c : Option (Nat × Nat)),
    (s.freeCells < cellsFor d.length ∨ s.freeFds = 0 → s.landFrame p t d c = s) ∧
    (cellsFor d.length ≤ s.freeCells → 0 < s.freeFds →
      let r := s.landStream { data := d, stamp := t, src := p, port := p }
      s.landFrame p t d c = (r.2.placeFrame p r.1 c).settle)) ∧
  (∀ (s : State) (p id : Nat), s.placeFrame p id none = s.sump id 9 ∧
    ∀ c i, let t := s.setFrame id { s.frame id with
        ctx := c, cls := i, gen := s.sliceGen (s.ctxSlice c), early := s.is (CTX_CFG_EARLY c) && decide (256 < (s.frame id).data.length) }
      (t.nCtx ≤ c ∨ t.idleContext c = true → s.placeFrame p id (some (c, i)) = t.sump id 9) ∧
      (c < t.nCtx → t.idleContext c = false → 16384 < (s.frame id).data.length →
        s.placeFrame p id (some (c, i)) = (t.sump id 5).raise 0x0704 c)) ∧
  (∀ (s : State) (p : Nat) (d : Bytes), (p < 4 ∨ 11 < p) →
    s.classify p d = if s.is (CTX_PORT_DEF_EN p) = true then some (s.get (CTX_PORT_DEF_CTX p), 0xFF) else none) ∧
  (∀ (s : State) (p i : Nat) (d : Bytes), 4 ≤ p → p ≤ 11 → i < 16 → s.clsMatches (p - 4) i (ethHead d) = true →
    (∀ j, j < i → s.clsMatches (p - 4) j (ethHead d) = false) → s.classify p d = some (s.get (CTX_ETH_CLS0_CTX (p - 4) i), i)) ∧
  (∀ (s : State) (n : Nat), s.sheds n = false →
    (s.is (WEL_DEPTH_CONG n) = false → s.get (WEL_HIMARK_HIGH n) ≤ s.get (WEL_DEPTH_CELLS n) → s.markCheck n = s.congest n) ∧
    (s.is (WEL_DEPTH_CONG n) = false → s.get (WEL_DEPTH_CELLS n) < s.get (WEL_HIMARK_HIGH n) → s.markCheck n = s) ∧
    (s.is (WEL_DEPTH_CONG n) = true → s.get (WEL_DEPTH_CELLS n) < min (s.get (WEL_LOMARK_LOW n)) (s.get (WEL_HIMARK_HIGH n)) →
      s.markCheck n = s.uncongest n) ∧
    (s.is (WEL_DEPTH_CONG n) = true → min (s.get (WEL_LOMARK_LOW n)) (s.get (WEL_HIMARK_HIGH n)) ≤ s.get (WEL_DEPTH_CELLS n) →
      s.markCheck n = s)) ∧
  (∀ s : State, s.running = true → exec .ageSweep s = .next (s.wellNos.foldl State.sweepWell s).settle) ∧
  (∀ (s : State) (r : Bytes) (l : List Bytes), s.running = true → s.cis.dipBuf = r :: l → s.is WEL_DIP_CTRL_FULL = false →
    s.get WEL_DIP_WPTR_INDEX + 1 < s.get WEL_DIP_RING_SIZE → s.get WEL_DIP_RING_SIZE ≤ 8192 →
    ∃ t, exec .dipperRecordWritten s = .next t ∧ t.get WEL_DIP_WPTR_INDEX = s.get WEL_DIP_WPTR_INDEX + 1 ∧ t.cis.dipBuf = l ∧
      t.tanks = (s.tankWrite 3 (s.get WEL_DIP_RING_BASE * 4096 + 64 * s.get WEL_DIP_WPTR_INDEX) r).tanks ∧ t.links = s.links ∧
      (∀ f : Fld, f.key ≠ WEL_DIP_WPTR_INDEX.key → t.get f = s.get f)) ∧
  (∀ s : State, s.running = true → s.cis.dipBuf ≠ [] → s.is WEL_DIP_CTRL_FULL = true →
    exec .dipperRecordWritten s = .next { s with cis := { s.cis with dipBuf := [] } }) ∧
  (∀ (s : State) (n : Nat) (v : W32), s.firmware = true → n < 512 → exec (.welCfgWrite 0 n v) s = .next (s.welCfg 0 n v.toNat).settle) ∧
  (∀ (s : State) (n v : Nat),
    let t := s.welFields 0 n v
    t.get (WEL_CFG_EN n) = bits v 31 31 ∧ t.get (WEL_CFG_ISL_MODE n) = bits v 30 30 ∧ t.get (WEL_CFG_BP_PRI n) = bits v 29 27 ∧
    (s.is (WEL_CFG_EN n) = true ∨ s.get (WEL_DEPTH_CELLS n) ≠ 0 ∨ s.portPresent (bits v 5 0) = false →
      t.get (WEL_CFG_PORT n) = s.get (WEL_CFG_PORT n) ∧ t.get (WEL_CFG_SLICE n) = s.get (WEL_CFG_SLICE n)) ∧
    (s.is (WEL_CFG_EN n) = false → s.get (WEL_DEPTH_CELLS n) = 0 → s.portPresent (bits v 5 0) = true →
      t.get (WEL_CFG_SLICE n) = bits v 21 16 ∧
      (bits v 5 0 = 32 ∨ s.slicePort 0 (bits v 5 0) = true ∨ s.get (WEL_CFG_SLICE n) ≠ 0 → t.get (WEL_CFG_PORT n) = bits v 5 0) ∧
      (bits v 5 0 ≠ 32 → s.slicePort 0 (bits v 5 0) = false → s.get (WEL_CFG_SLICE n) = 0 →
        t.get (WEL_CFG_PORT n) = s.get (WEL_CFG_PORT n)))) ∧
  (∀ (s : State) (n v : Nat),
    (bits v 30 30 = s.get (WEL_CFG_ISL_MODE n) → s.welCfg 0 n v = (s.accrue n).welFields 0 n v) ∧
    (bits v 30 30 ≠ s.get (WEL_CFG_ISL_MODE n) → s.welCfg 0 n v = ((s.accrue n).welFields 0 n v).markCheck n)) ∧
  (∀ (s : State) (v : W32), s.firmware = true → exec (.dipperEnable 0 v) s = .next (s.dipCtrl v.toNat)) ∧
  (∀ (s : State) (v : Nat),
    (s.dipCtrl v).get WEL_DIP_CTRL_EN = bits v 31 31 ∧
    (bit v 31 = true → (s.dipCtrl v).get WEL_DIP_WPTR_INDEX = 0 ∧ (s.dipCtrl v).get WEL_DIP_WPTR_WRAPS = 0 ∧
      (s.dipCtrl v).get WEL_DIP_CTRL_FULL = 0 ∧ (s.dipCtrl v).cis.dipMatch = 0) ∧
    (bit v 31 = false → (s.dipCtrl v).get WEL_DIP_WPTR_INDEX = s.get WEL_DIP_WPTR_INDEX)) ∧
  (∀ (s : State) (v : Nat), s.is WEL_DIP_CTRL_EN = true → s.dipRing v = s)

/-- R189, R201, R242, R264, R265. The rows of a pump's threads: a dispatch, the end of a line fill, of a long operation, of a
park, and an armed timer. Log entries 24, 25, 189 name the model's own choices in it. -/
def Obligations.ThreadRows : Prop :=
  (∀ (s : State) (p t : Nat) (e : Pend), s.running = true → s.power.dryEntry = false → p < s.nPumps → t < 32 →
    (s.thread p t).st = .idle → s.nextChain p t = some e → exec (.chainDispatch p t) s = .next (s.dispatch p t e).settle) ∧
  (∀ (s : State) (p t : Nat), s.running = true → s.nextChain p t = none → exec (.chainDispatch p t) s = .next s) ∧
  (∀ (s : State) (p t : Nat) (e : Pend), s.nextChain p t = some e →
    e ∈ s.pumps.pend ∧ s.eligible p t e = true ∧
    ((∃ d, d ∈ s.pumps.pend ∧ s.eligible p t d = true ∧ s.is (CTX_CFG_PRI d.ctx) = true) → s.is (CTX_CFG_PRI e.ctx) = true)) ∧
  (∀ (s : State) (p t l : Nat), s.running = true → (s.thread p t).st = .wait → (s.thread p t).waiting = some (.fill l) →
    ∃ u, exec (.icacheFillDone p t) s = .next u ∧ u.pumps.icache = assocSet [] p (((l :: (assocGet [] s.pumps.icache p).erase l)).take 256)
        s.pumps.icache ∧ u.regs = s.regs ∧ u.tanks = s.tanks ∧ u.cis = s.cis ∧ u.links = s.links ∧
      u.pumps.threads = assocSet {} (p * 32 + t) { s.thread p t with st := .ready, waiting := none } s.pumps.threads) ∧
  (∀ (s : State) (p t : Nat) (o : LongOp), s.running = true → (s.thread p t).st = .wait → (s.thread p t).waiting = some (.long o) →
    s.longReady (s.thread p t) o = true → s.engineHas p t o = true →
    (s.longCut (s.thread p t) o = false → exec (.longOperationDone p t) s = .next (s.longDone p t o).settle) ∧
    (s.longCut (s.thread p t) o = true →
      exec (.longOperationDone p t) s = .next ((s.sumpOverLong p t).stopThread p t 5).settle)) ∧
  -- a SEAL or an OPEN ends once an engine has taken it; a wait that has not come to its end goes on
  (∀ (s : State) (p t : Nat) (o : LongOp), (s.thread p t).st = .wait → (s.thread p t).waiting = some (.long o) →
    s.longReady (s.thread p t) o = false ∨ s.engineHas p t o = false → exec (.longOperationDone p t) s = .next s) ∧
  (∀ (s : State) (p t : Nat), s.running = true → (s.thread p t).st = .park → (s.thread p t).park = 1 →
    (s.thread p t).parkTime ≤ s.hubTime →
    exec (.parkTimeReached p t) s = .next (s.setThread p t { s.thread p t with st := .ready })) ∧
  (∀ (s : State) (p t : Nat), s.hubTime < (s.thread p t).parkTime → exec (.parkTimeReached p t) s = .next s) ∧
  (∀ (s : State) (c k : Nat) (tm : Timer), s.running = true → k < 4 → assocFind s.pumps.timers (c * 4 + k) = some tm →
    tm.time ≤ s.hubTime →
    let u : State := { s with pumps := { s.pumps with timers := assocDel (c * 4 + k) s.pumps.timers } }
    let r := u.newFrame { stamp := u.hubTime, timer := true, arg := tm.arg }
    exec (.contextTimerExpiry c k) s = .next (r.2.congestion.pendChain r.1 c).settle) ∧
  (∀ (s : State) (c k : Nat), assocFind s.pumps.timers (c * 4 + k) = none → exec (.contextTimerExpiry c k) s = .next s)

/-- R193, R194, R195, R197, R198. The activation check, and what a write of CTX_STATE, of the record's other registers and
through a load window does. Log entries 12, 30, 185 name the model's own choices in it. -/
def Obligations.ContextRegisters : Prop :=
  (∀ (s : State) (c : Nat),
    let sl := s.get (CTX_OWNER_SLICE c)
    let page := s.get (CTX_ENTRY_ENTRY c) * 4 / 4096
    s.activation c =
      if s.nPumps ≤ s.get (CTX_CFG_PUMP c) then 1
      else if s.get (PMP_PAGE_STATE page) ≠ 2 ∨ s.get (PMP_PAGE_SLICE page) ≠ sl then 2
      else if s.get (WEL_CFG_SLICE (s.get (CTX_WELL_WELL c))) ≠ sl then 3
      else if s.is (CTX_KEY_KEN c) = true ∧ bits (s.get (SEC_SLOT_ATTR_ATTR (s.get (CTX_KEY_SLOT c)))) 21 16 ≠ sl then 4
      else if s.is (SLC_BIND_BOUND sl) = false then 5 else 0) ∧
  (∀ (s : State) (c v : Nat), isSystem c = true ∨ s.nCtx ≤ c → s.ctxStateSet c v = s) ∧
  (∀ (s : State) (c v : Nat), isSystem c = false → c < s.nCtx → 3 ≤ v → s.ctxStateSet c v = s) ∧
  (∀ (s : State) (c : Nat), isSystem c = false → c < s.nCtx → s.resetting (s.ctxSlice c) = false →
    s.get (CTX_STATE_STATE c) = 0 →
    (s.activation c = 0 → (s.ctxStateSet c 1).get (CTX_STATE_STATE c) = 1 ∧ (s.ctxStateSet c 1).get (CTX_STATE_CHK c) = 0) ∧
    (s.activation c ≠ 0 → (s.ctxStateSet c 1).get (CTX_STATE_STATE c) = 0 ∧
      (s.ctxStateSet c 1).get (CTX_STATE_CHK c) = s.activation c)) ∧
  (∀ (s : State) (c : Nat), isSystem c = false → c < s.nCtx → s.get (CTX_STATE_STATE c) = 1 →
    s.ctxStateSet c 2 = (s.put (CTX_STATE_STATE c) 2).idleCheck c ∧ s.ctxStateSet c 0 = s.turnOff c 8 ∧ s.ctxStateSet c 1 = s) ∧
  (∀ (s : State) (c : Nat), isSystem c = false → c < s.nCtx → s.get (CTX_STATE_STATE c) = 2 →
    s.ctxStateSet c 0 = s.turnOff c 8 ∧ s.ctxStateSet c 1 = s.activate c 1) ∧
  (∀ (s : State) (c : Nat), isSystem c = false → c < s.nCtx → s.get (CTX_STATE_STATE c) = 3 →
    s.ctxStateSet c 0 = s.turnOff c 8 ∧ s.ctxStateSet c 1 = s.activate c 1 ∧ s.ctxStateSet c 2 = s) ∧
  (∀ (s : State) (c : Nat) (fs : List (Fld × Acc)) (v : Nat), s.get (CTX_STATE_STATE c) = 1 ∨ s.get (CTX_STATE_ACTIVE c) ≠ 0 →
    s.writeReg 0 0x10200008 [c] fs v = s ∧ s.writeReg 0 0x10200010 [c] fs v = s ∧ s.writeReg 0 0x10200014 [c] fs v = s ∧
      s.writeReg 0 0x1020000C [c] fs v = s) ∧
  (∀ (s : State) (sl word v : Nat) (fs : List (Fld × Acc)),
    (s.get (PMP_PAGE_STATE (s.get (PMP_LDSEL_PAGE sl))) ≠ 1 ∨ s.get (PMP_PAGE_SLICE (s.get (PMP_LDSEL_PAGE sl))) ≠ sl →
      s.writeReg sl 0x101C0000 [sl, word] fs v = s) ∧
    (s.get (PMP_PAGE_STATE (s.get (PMP_LDSEL_PAGE sl))) = 1 → s.get (PMP_PAGE_SLICE (s.get (PMP_LDSEL_PAGE sl))) = sl →
      s.writeReg sl 0x101C0000 [sl, word] fs v = s.tankWrite 1 (s.get (PMP_LDSEL_PAGE sl) * 4096 + 4 * word) (leBytes 4 v)))

/-- R210, R218 to R221. The ALU group: where a thread issues the instruction, gd receives the operation at 64 bits or, zero-extended, at
32 bits, and with S the flags are those of the table; nothing else of the thread changes but its pc. -/
def Obligations.WindlassAlu : Prop :=
  (∀ (s : State) (p t : Nat) (gd ga gb : BitVec 4) (m : AluMod),
    let th := s.thread p t
    let a := th.reg ga
    let b := th.reg gb
    let c := th.flg.c
    let n := fun (w : Nat) => min b.toNat (w - 1)
    let out := fun (w : Nat) (x : Int) => decide (x < -(2 ^ (w - 1)) ∨ 2 ^ (w - 1) ≤ x)
    let row := fun (i : Instr) (f : (w : Nat) → BitVec w → BitVec w → AluRes w) => s.issues p t i = true →
      exec i s = .next (s.acts p t (.upd (th.aluEnd gd m (f 64 a b) (f 32 (a.setWidth 32) (b.setWidth 32)))))
    row (.wAdd p t gd ga gb m) (fun w a b => ⟨a + b, decide (2 ^ w ≤ a.toNat + b.toNat), out w (a.toInt + b.toInt)⟩) ∧
    row (.wSub p t gd ga gb m) (fun w a b => ⟨a - b, decide (b.toNat ≤ a.toNat), out w (a.toInt - b.toInt)⟩) ∧
    row (.wAddc p t gd ga gb m) (fun w a b => ⟨a + b + BitVec.ofNat w c.toNat, decide (2 ^ w ≤ a.toNat + b.toNat + c.toNat),
      out w (a.toInt + b.toInt + c.toNat)⟩) ∧
    row (.wSubb p t gd ga gb m) (fun w a b => ⟨a - b - BitVec.ofNat w (!c).toNat, decide (b.toNat + (!c).toNat ≤ a.toNat),
      out w (a.toInt - b.toInt - (!c).toNat)⟩) ∧
    row (.wAnd p t gd ga gb m) (fun _ a b => ⟨a &&& b, false, false⟩) ∧
    row (.wOr p t gd ga gb m) (fun _ a b => ⟨a ||| b, false, false⟩) ∧
    row (.wXor p t gd ga gb m) (fun _ a b => ⟨a ^^^ b, false, false⟩) ∧
    row (.wAndn p t gd ga gb m) (fun _ a b => ⟨a &&& ~~~b, false, false⟩) ∧
    row (.wSll p t gd ga gb m) (fun w a _ => ⟨a <<< n w, decide (0 < n w) && a.getLsbD (w - n w), false⟩) ∧
    row (.wSrl p t gd ga gb m) (fun w a _ => ⟨a >>> n w, decide (0 < n w) && a.getLsbD (n w - 1), false⟩) ∧
    row (.wSra p t gd ga gb m) (fun w a _ => ⟨a.sshiftRight (n w), decide (0 < n w) && a.getLsbD (n w - 1), false⟩) ∧
    row (.wRol p t gd ga gb m) (fun w a _ => ⟨a.rotateLeft (n w), false, false⟩) ∧
    row (.wRor p t gd ga gb m) (fun w a _ => ⟨a.rotateRight (n w), false, false⟩) ∧
    row (.wMul p t gd ga gb m) (fun _ a b => ⟨a * b, false, false⟩) ∧
    row (.wMulhu p t gd ga gb m) (fun w a b => ⟨BitVec.ofNat w (a.toNat * b.toNat / 2 ^ w), false, false⟩) ∧
    row (.wMin p t gd ga gb m) (fun _ a b => ⟨if a.toInt ≤ b.toInt then a else b, false, false⟩) ∧
    row (.wMax p t gd ga gb m) (fun _ a b => ⟨if a.toInt ≤ b.toInt then b else a, false, false⟩) ∧
    row (.wMinu p t gd ga gb m) (fun _ a b => ⟨if a.toNat ≤ b.toNat then a else b, false, false⟩) ∧
    row (.wMaxu p t gd ga gb m) (fun _ a b => ⟨if a.toNat ≤ b.toNat then b else a, false, false⟩) ∧
    row (.wClz p t gd ga m) (fun w a _ => ⟨BitVec.ofNat w (clz a), false, false⟩) ∧
    row (.wCtz p t gd ga m) (fun w a _ => ⟨BitVec.ofNat w (ctz a), false, false⟩) ∧
    row (.wPopc p t gd ga m) (fun w a _ => ⟨BitVec.ofNat w ((List.range w).filter (fun i => a.getLsbD i)).length, false, false⟩) ∧
    row (.wBswap p t gd ga m) (fun w a _ => ⟨BitVec.ofNat w (leNat (beBytes (w / 8) a.toNat)), false, false⟩) ∧
    (∀ cond, row (.wCsel p t gd ga gb cond m) (fun _ a b => ⟨if condHolds cond th.flg then a else b, false, false⟩))) ∧
  (∀ (w : Nat) (a : BitVec w), (a = 0#w → clz a = w ∧ ctz a = w) ∧
    (a ≠ 0#w → clz a < w ∧ a.getLsbD (w - 1 - clz a) = true ∧ (∀ i, w - 1 - clz a < i → a.getLsbD i = false) ∧
      ctz a < w ∧ a.getLsbD (ctz a) = true ∧ ∀ i, i < ctz a → a.getLsbD i = false)) ∧
  (∀ (th : Thread) (gd : BitVec 4) (m : AluMod) (r : AluRes 64) (q : AluRes 32),
    let u := th.aluEnd gd m r q
    (gd ≠ 0#4 → u.reg gd = if m.w32 then q.r.setWidth 64 else r.r) ∧
      (m.setFlags = true → u.flg = if m.w32 then ⟨q.r.msb, q.r == 0#32, q.c, q.v⟩ else ⟨r.r.msb, r.r == 0#64, r.c, r.v⟩) ∧
      (∀ k, k ≠ gd ∨ k = 0#4 → u.reg k = th.reg k) ∧ (m.setFlags = false → u.flg = th.flg) ∧ u.mem = th.mem ∧ u.chain = th.chain ∧
      u.st = th.st ∧ u.pc = (th.pc + 4) % 2 ^ 20)

/-- R222, R223. Bit fields and immediates: the value that gd receives, and the flags of CMPI. -/
def Obligations.WindlassImmediates : Prop :=
  ∀ (s : State) (p t : Nat) (gd ga : BitVec 4) (imm : BitVec 18),
    let th := s.thread p t
    let a := th.reg ga
    let sx : W64 := imm.signExtend 64
    let zx : W64 := imm.setWidth 64
    let n := min imm.toNat 63
    let row := fun (i : Instr) (v : W64) => s.issues p t i = true → exec i s = .next (s.acts p t (.upd (th.setReg gd v).next))
    row (.wAddi p t gd ga imm) (a + sx) ∧ row (.wAndi p t gd ga imm) (a &&& zx) ∧ row (.wOri p t gd ga imm) (a ||| zx) ∧
    row (.wXori p t gd ga imm) (a ^^^ zx) ∧ row (.wShor p t gd ga imm) ((a <<< 18) ||| zx) ∧
    row (.wSlli p t gd ga imm) (a <<< n) ∧ row (.wSrli p t gd ga imm) (a >>> n) ∧ row (.wSrai p t gd ga imm) (a.sshiftRight n) ∧
    (s.issues p t (.wCmpi p t ga imm) = true → exec (.wCmpi p t ga imm) s = .next (s.acts p t (.upd { th with
      flg := ⟨(a - sx).msb, a == sx, decide (sx.toNat ≤ a.toNat), decide (a.toInt - sx.toInt < -(2 ^ 63) ∨ 2 ^ 63 ≤ a.toInt - sx.toInt)⟩
      pc := (th.pc + 4) % 2 ^ 20 }))) ∧
    (∀ (pos wm1 : BitVec 6),
      let w := min (wm1.toNat + 1) (64 - pos.toNat)
      let v := a.toNat / 2 ^ pos.toNat % 2 ^ w
      row (.wBfx p t gd ga pos wm1 false) (BitVec.ofNat 64 v) ∧
      row (.wBfx p t gd ga pos wm1 true) (BitVec.ofInt 64 (if v < 2 ^ (w - 1) then v else (v : Int) - 2 ^ w)) ∧
      ∃ x : W64, row (.wBfi p t gd ga pos wm1) x ∧
        ∀ i : Nat, i < 64 → x.getLsbD i =
          if pos.toNat ≤ i ∧ i < pos.toNat + w then a.getLsbD (i - pos.toNat) else (th.reg gd).getLsbD i)

/-- R211, R224 to R227. Branches, jumps and the special registers: the next pc, and what is written. Log entry 185 names the
model's own choices in it. -/
def Obligations.WindlassControl : Prop :=
  (∀ (s : State) (p t : Nat) (ga gb gd : BitVec 4) (off : BitVec 18),
    let th := s.thread p t
    let a := th.reg ga
    let b := th.reg gb
    let dest := fun (k : Int) => (((th.pc : Int) + 4 * k) % 2 ^ 20).toNat
    let back : W64 := BitVec.ofNat 64 (dest 1)
    let row := fun (i : Instr) (u : Thread) => s.issues p t i = true → exec i s = .next (s.acts p t (.upd u))
    let br := fun (i : Instr) (holds : Bool) => row i { th with pc := if holds then dest off.toInt else dest 1 }
    br (.wBeq p t ga gb off) (decide (a = b)) ∧ br (.wBne p t ga gb off) (decide (a ≠ b)) ∧
    br (.wBlt p t ga gb off) (decide (a.toInt < b.toInt)) ∧ br (.wBge p t ga gb off) (decide (b.toInt ≤ a.toInt)) ∧
    br (.wBltu p t ga gb off) (decide (a.toNat < b.toNat)) ∧ br (.wBgeu p t ga gb off) (decide (b.toNat ≤ a.toNat)) ∧
    (∀ cond, br (.wBc p t cond off) (condHolds cond th.flg)) ∧
    (∀ j : BitVec 26, row (.wJ p t j) { th with pc := dest j.toInt }) ∧
    row (.wJl p t gd off) { th.setReg gd back with pc := dest off.toInt } ∧
    (a.toNat % 4 = 0 → row (.wJalr p t gd ga) { th.setReg gd back with pc := a.toNat % 2 ^ 20 }) ∧
    (a.toNat % 4 ≠ 0 → s.issues p t (.wJalr p t gd ga) = true →
      exec (.wJalr p t gd ga) s = .next (s.acts p t (.trap 5))) ∧
    row (.wMfs p t gd 0#14) { th.setReg gd (BitVec.ofNat 64 th.pc) with pc := dest 1 } ∧
    row (.wMfs p t gd 1#14) { th.setReg gd (BitVec.ofNat 64 th.ctx) with pc := dest 1 } ∧
    row (.wMfs p t gd 2#14) { th.setReg gd (BitVec.ofNat 64 th.gen) with pc := dest 1 } ∧
    row (.wMfs p t gd 3#14) { th.setReg gd th.flg.word with pc := dest 1 } ∧
    row (.wMfs p t gd 4#14) { th.setReg gd (BitVec.ofNat 64 s.hubTime) with pc := dest 1 } ∧
    row (.wMts p t ga 3#14) { th with flg := ⟨a.getLsbD 2, a.getLsbD 3, a.getLsbD 1, a.getLsbD 0⟩, pc := dest 1 } ∧
    (∀ w, s.issues p t (.wIll p t w) = true → exec (.wIll p t w) s = .next (s.acts p t (.trap 1))) ∧
    (s.issues p t (.wTrap p t) = true → exec (.wTrap p t) s = .next (s.acts p t (.trap 7)))) ∧
  (∀ f : Flags, condHolds 0#4 f = f.z ∧ condHolds 1#4 f = f.n ∧ condHolds 2#4 f = f.c ∧ condHolds 3#4 f = f.v ∧
    condHolds 4#4 f = (f.c && !f.z) ∧ condHolds 5#4 f = (f.n == f.v) ∧ condHolds 6#4 f = (!f.z && f.n == f.v) ∧
    condHolds 7#4 f = true ∧ ∀ c : BitVec 4, condHolds (c ^^^ 8#4) f = !condHolds c f)

/-- R228. Loads and stores of local memory: ALIGN, the clamp of the address, and the bytes read or written. Log entry 121 names
the model's own choices in it. -/
def Obligations.WindlassLocal : Prop :=
  ∀ (s : State) (p t : Nat) (gd ga : BitVec 4) (imm : BitVec 18),
    let th := s.thread p t
    let x := (th.reg ga + imm.signExtend 64 : W64)
    let at_ := fun (n : Nat) => if x.toInt < 0 then 0 else min x.toInt.toNat (0x800 - n)
    let v := fun (n : Nat) => leNat (memRead th.mem (at_ n) n)
    let load := fun (i : Instr) (n : Nat) (r : W64) =>
      (x.toNat % n = 0 → s.issues p t i = true → exec i s = .next (s.acts p t (.upd (th.setReg gd r).next))) ∧
      (x.toNat % n ≠ 0 → s.issues p t i = true → exec i s = .next (s.acts p t (.trap 5)))
    let store := fun (i : Instr) (n : Nat) =>
      (x.toNat % n ≠ 0 → s.issues p t i = true → exec i s = .next (s.acts p t (.trap 5))) ∧
      (x.toNat % n = 0 → ∃ mem,
        (s.issues p t i = true → exec i s = .next (s.acts p t (.upd { th with mem := mem }.next))) ∧
        (∀ k, k < n → memGet mem (at_ n + k) = BitVec.ofNat 8 ((th.reg gd).toNat / 256 ^ k)) ∧
        ∀ a, a < at_ n ∨ at_ n + n ≤ a → memGet mem a = memGet th.mem a)
    let sx := fun (n : Nat) => BitVec.ofInt 64 (if v n < 2 ^ (8 * n - 1) then (v n : Int) else (v n : Int) - 2 ^ (8 * n))
    load (.wLd8 p t gd ga imm) 1 (BitVec.ofNat 64 (v 1)) ∧ load (.wLd16 p t gd ga imm) 2 (BitVec.ofNat 64 (v 2)) ∧
    load (.wLd32 p t gd ga imm) 4 (BitVec.ofNat 64 (v 4)) ∧ load (.wLd64 p t gd ga imm) 8 (BitVec.ofNat 64 (v 8)) ∧
    load (.wLd8s p t gd ga imm) 1 (sx 1) ∧ load (.wLd16s p t gd ga imm) 2 (sx 2) ∧ load (.wLd32s p t gd ga imm) 4 (sx 4) ∧
    store (.wSt8 p t gd ga imm) 1 ∧ store (.wSt16 p t gd ga imm) 2 ∧ store (.wSt32 p t gd ga imm) 4 ∧ store (.wSt64 p t gd ga imm) 8

/-- R230 to R233. The packet window: the offset, big-endian fields, bytes past the window's end, and WST's write of the frame itself. -/
def Obligations.WindlassWindow : Prop :=
  (∀ (s : State) (p t : Nat) (gd gx : BitVec 4) (off : BitVec 8) (size : BitVec 3),
    let th := s.thread p t
    let n := if size.toNat < 4 then size.toNat + 1 else if size = 4#3 then 6 else 8
    let o := min (off.toNat + (th.reg gx).toNat) (256 - n)
    let v := beAt ((s.chain th).data.take 256) o n
    let row := fun (i : Instr) (u : Thread) => s.issues p t i = true → exec i s = .next (s.acts p t (.upd u))
    row (.wWld p t gd off size gx) (th.setReg gd (BitVec.ofNat 64 v)).next ∧
    row (.wWlds p t gd off size gx)
      (th.setReg gd (BitVec.ofInt 64 (if v < 2 ^ (8 * n - 1) then (v : Int) else (v : Int) - 2 ^ (8 * n)))).next ∧
    row (.wWcmp p t gd off size gx) { th with flg := flagsOf (subFlags (BitVec.ofNat 64 v : W64) (th.reg gd) false) }.next ∧
    (th.chain = none → row (.wWst p t gd off size gx) th.next) ∧
    (∀ id, th.chain = some id → ∃ d : Bytes,
      (s.issues p t (.wWst p t gd off size gx) = true → exec (.wWst p t gd off size gx) s =
        .next (s.acts p t (.eff ((s.setFrame id { s.frame id with data := d }).storeFrame id) th.next))) ∧
      d.length = (s.frame id).data.length ∧
      ∀ i, i < d.length → d.getD i 0#8 = if o ≤ i ∧ i < o + n then BitVec.ofNat 8 ((th.reg gd).toNat / 256 ^ (o + n - 1 - i))
        else (s.frame id).data.getD i 0#8))

/-- R187, R200, R202, R235, R242 to R266. The tunnel operations as they issue: what each leaves with its thread, a long
operation with its operands as clamped, a placement or an end at an ordering point, or its effect at once. Log entries 8, 23
name the model's own choices in it. -/
def Obligations.WindlassTunnel : Prop :=
  ∀ (s : State) (p t : Nat) (gd ga gb : BitVec 4),
    let th := s.thread p t
    let a := (th.reg ga).toNat
    let b := (th.reg gb).toNat
    let len := (s.chain th).data.length
    let row := fun (i : Instr) (x : Act) => s.issues p t i = true → exec i s = .next (s.acts p t x)
    let at_ := fun (v : W64) (n : Nat) => if v.toInt < 0 then 0 else min v.toInt.toNat (0x800 - n)
    -- segment chain
    (∀ m : BitVec 8, let n := m.toNat + 1;
      (a ≤ 16383 → (len ≤ 16384 ∨ a + n ≤ 16384) →
        row (.wFetch p t gd ga gb m) (.long ⟨.fetch, gd.toNat, 0, a, at_ (th.reg gb) n, n⟩) ∧
        row (.wPut p t gd ga gb m) (.long ⟨.put, gd.toNat, 0, a, at_ (th.reg gb) n, n⟩)) ∧
      (16383 < a → row (.wFetch p t gd ga gb m) .cut ∧ row (.wPut p t gd ga gb m) .cut) ∧
      row (.wApnd p t gd ga m) (.long ⟨.apnd, gd.toNat, 0, at_ (th.reg ga) n, 0, min n (16384 - len)⟩)) ∧
    row (.wTrim p t gd ga) (.long ⟨.trim, gd.toNat, 0, min a len, 0, 0⟩) ∧
    row (.wPrep p t gd ga) (.long ⟨.prep, gd.toNat, 0, min a (min 256 (16384 - len)), 0, 0⟩) ∧
    row (.wCut p t gd ga) (.long ⟨.cut, gd.toNat, 0, min a len, 0, 0⟩) ∧
    row (.wLen p t gd) (.upd { th.setReg gd (BitVec.ofNat 64 len) with
      flg := { th.flg with z := (s.chain th).closed }, pc := (th.pc + 4) % 2 ^ 20 }) ∧
    -- lookups, hashes
    (∀ k : BitVec 4, let j := min k.toNat 12;
      (b + 64 * 2 ^ j ≤ 0x100000 → s.tablePages th.ctx b (64 * 2 ^ j) = true → b % 64 = 0 →
        row (.wLkpx p t gd ga gb k) (.long ⟨.lkpx, gd.toNat, 0, a, b, j⟩) ∧
        row (.wLkpd p t gd ga gb k) (.long ⟨.lkpd, gd.toNat, 0, a, b, j⟩)) ∧
      (0x100000 < b + 64 * 2 ^ j ∨ s.tablePages th.ctx b (64 * 2 ^ j) = false →
        row (.wLkpx p t gd ga gb k) (.trap 4) ∧ row (.wLkpd p t gd ga gb k) (.trap 4)) ∧
      (b + 64 * 2 ^ j ≤ 0x100000 → s.tablePages th.ctx b (64 * 2 ^ j) = true → b % 64 ≠ 0 →
        row (.wLkpx p t gd ga gb k) (.trap 5) ∧ row (.wLkpd p t gd ga gb k) (.trap 5))) ∧
    row (.wHash p t gd ga gb) (.upd (th.setReg gd (BitVec.ofNat 64 (crc32cRaw (b % 2 ^ 32) (leBytes 8 a)))).next) ∧
    (∀ fin : Bool,
      let o := min a len; let m := min b (len - o);
      row (.wCrc32c p t gd ga gb fin) (.long ⟨.crc32c, gd.toNat, (th.reg gd).toNat % 2 ^ 32, o, m, fin.toNat⟩) ∧
      row (.wCrc16 p t gd ga gb fin) (.long ⟨.crc16, gd.toNat, (th.reg gd).toNat % 2 ^ 16, o, m, fin.toNat⟩)) ∧
    -- SEAL and OPEN, each needing a slot of its use; the ranges clamp to the chain at issue
    (let k := s.get (CTX_KEY_SLOT th.ctx);
      let x := min (b % 2 ^ 14) len; let y := min (b / 2 ^ 16 % 2 ^ 14) (len - x); let z := min (b / 2 ^ 32 % 2 ^ 14) (len - x - y);
      s.is (CTX_KEY_KEN th.ctx) = true → s.refSlot th.ctx k = 0 → a % 4 = 0 → s.slotUsable k = true →
      (s.slotUse k = 0 → len ≤ 16368 → row (.wSeal p t gd ga gb)
        (.long ⟨.seal, gd.toNat, 0, at_ (th.reg ga) 12, x + 2 ^ 16 * y + 2 ^ 32 * min z (16368 - len), k⟩)) ∧
      (s.slotUse k = 1 → row (.wOpen p t gd ga gb)
        (.long ⟨.unseal, gd.toNat, 0, at_ (th.reg ga) 12, x + 2 ^ 16 * y + 2 ^ 32 * z, k⟩)) ∧
      (s.slotUse k ≠ 0 → row (.wSeal p t gd ga gb) (.trap 6)) ∧ (s.slotUse k ≠ 1 → row (.wOpen p t gd ga gb) (.trap 6))) ∧
    -- placements and ends
    (∀ d l c : Bool, let n := if d then s.get (CTX_WELL_WELL th.ctx) else a;
      s.refWell th.ctx n = 0 → (s.get (WEL_CFG_PORT n) ≤ 3 → s.refRemote th.ctx (bits b 41 32) = 0) →
      (s.get (WEL_CFG_PORT n) = 32 → s.refCtx th.ctx (bits b 41 32) = 0) →
      row (.wEnq p t ga gb d l c)
        (.tail (.enq n (if l then max 1 (min (b % 65536) (max 1 len)) else 0) (bits b 41 32) (bits b 55 48) c))) ∧
    (∀ c : Bool, s.refPort th.ctx a = 0 → 3 < a → a ≠ 32 → row (.wFwd p t ga gb c) (.tail (.fwd a b c))) ∧
    (∀ c : Bool, a ≤ 3 → s.refPort th.ctx a = 0 → s.refRemote th.ctx (bits b 41 32) = 0 → row (.wFwd p t ga gb c) (.tail (.fwd a b c))) ∧
    (∀ c : Bool, a = 32 → s.refPort th.ctx a = 0 → s.refCtx th.ctx (bits b 41 32) = 0 → row (.wFwd p t ga gb c) (.tail (.fwd a b c))) ∧
    row (.wEnd p t) (.tail .endOp) ∧ row (.wDrop p t) (.tail .drop) ∧
    -- messages
    (s.refEntry th.ctx a = 0 →
      (s.pumpMessages p < 64 → row (.wMsg p t gd ga gb)
        (.eff (s.queueMsg ⟨s.hubTime, 0, 0, a, 0, s.origin, none, b, a, some p⟩) (th.setReg gd 0#64).next)) ∧
      (64 ≤ s.pumpMessages p → row (.wMsg p t gd ga gb) (.eff s.discardNote (th.setReg gd 1#64).next))) ∧
    -- context atomics
    (∀ (self : Bool) (w : BitVec 3), let c := if self then th.ctx else a;
      let d := (th.reg gd).toNat;
      let cat := fun (i : Instr) (op : LOp) (y : Nat) => row i (.long ⟨op, w.toNat, d, c, y, gd.toNat⟩);
      (self = true ∨ s.refCtx th.ctx a = 0) →
        cat (.wCld p t gd ga self w) .cld 0 ∧ cat (.wCst p t gd ga gb self w) .cst b ∧ cat (.wCadd p t gd ga gb self w) .cadd b ∧
        cat (.wCand p t gd ga gb self w) .cand b ∧ cat (.wCor p t gd ga gb self w) .cor b ∧
        cat (.wCxch p t gd ga gb self w) .cxch b ∧ cat (.wCcas p t gd ga gb self w) .ccas b) ∧
    -- timers and thread control
    (∀ k : BitVec 2,
      row (.wTset p t ga gb k) (.eff (s.armTimer th.ctx k.toNat (s.hubTime + max 1000 (min a 1000000000)) (b % 2 ^ 32)) th.next) ∧
      row (.wTseta p t ga gb k) (.eff (s.armTimer th.ctx k.toNat (max s.hubTime (min a (s.hubTime + 1000000000))) (b % 2 ^ 32)) th.next) ∧
      row (.wTclr p t gd k) (.eff { s with pumps := { s.pumps with timers := assocDel (th.ctx * 4 + k.toNat) s.pumps.timers } }
        (th.setReg gd (if (assocFind s.pumps.timers (th.ctx * 4 + k.toNat)).isSome then 1#64 else 0#64)).next)) ∧
    row (.wYld p t ga 0#2) (.upd { th.next with
      st := if s.readyOthers p t = 0 then .ready else .park, park := 0, parkSet := s.readyOthers p t }) ∧
    row (.wYld p t ga 1#2) (let time := max s.hubTime (min a (s.hubTime + 1000000));
      .upd { th.next with st := if time ≤ s.hubTime then .ready else .park, park := 1, parkTime := time }) ∧
    row (.wYld p t ga 2#2) (.upd { th.next with st := if s.landedEnough th a then .ready else .park, park := 2, parkTime := a })

/-- R243 to R252, R261. What a long operation does when it completes: the chain's bytes, the local memory, the value for gd and
flg.Z. Log entries 24, 121, 185 name the model's own choices in it. -/
def Obligations.TunnelResults : Prop :=
  ∀ (s : State) (th : Thread) (o : LongOp),
    let len := (s.chain th).data.length
    let d := (s.chain th).data
    (o.op = .fetch → s.longEffect th o = (s, some (min o.k (len - o.a)), { th with mem := memWrite th.mem o.b (slice d o.a o.k) })) ∧
    (o.op = .put → th.chain = none → s.longEffect th o = (s, some 0, th)) ∧
    (∀ id, o.op = .put → th.chain = some id → ∃ e : Bytes,
      s.longEffect th o = ((s.setFrame id { s.frame id with data := e }).storeFrame id, some (min o.k (len - o.a)), th) ∧ e.length = len ∧
      ∀ i, i < len → e.getD i 0#8 = if o.a ≤ i ∧ i < o.a + o.k then memGet th.mem (o.b + (i - o.a)) else d.getD i 0#8) ∧
    (∀ id, o.op = .trim → th.chain = some id → s.longEffect th o = (s.trimFrame id o.a, some (len - o.a), th)) ∧
    (∀ id, o.op = .cut → th.chain = some id → s.longEffect th o = (s.cutFrame id (min o.a len), some (min o.a len), th)) ∧
    (o.op = .lkpx ∨ o.op = .lkpd → ∀ v, s.lookup o = some v →
      s.longEffect th o = (s, some v, { th with flg := { th.flg with z := false } })) ∧
    (o.op = .lkpx ∨ o.op = .lkpd → s.lookup o = none →
      s.longEffect th o = (s, some 0, { th with flg := { th.flg with z := true } })) ∧
    (o.op = .lkpd → s.lookup o =
      if s.tank1Le (o.b + 8 * min o.a (8 * 2 ^ o.k - 1)) 8 / 2 ^ 63 % 2 = 1 then
        some (s.tank1Le (o.b + 8 * min o.a (8 * 2 ^ o.k - 1)) 8 % 2 ^ 63) else none) ∧
    (o.op = .crc32c → s.longEffect th o = (s, some (let r := crc32cRaw o.d (slice d o.a o.b);
      if o.k = 1 then r ^^^ 0xFFFFFFFF else r), th)) ∧
    (o.op = .crc16 → s.longEffect th o = (s, some (let r := crc16Raw o.d (slice d o.a o.b);
      if o.k = 1 then r ^^^ 0xFFFF else r), th)) ∧
    (o.op = .unseal → (len < 16 ∨ th.chain = none) →
      s.longEffect th o = (s.slotFail o.k, some 1, { th with flg := { th.flg with z := false } })) ∧
    -- the atomics read the old word into gd and write the new one
    (let old := s.userWord o.a o.gd;
      (o.op = .cld → s.longEffect th o = (s.setUserWord o.a o.gd old, some old, th)) ∧
      (o.op = .cst ∨ o.op = .cxch → s.longEffect th o = (s.setUserWord o.a o.gd o.b, some old, th)) ∧
      (o.op = .cadd → s.longEffect th o = (s.setUserWord o.a o.gd ((old + o.b) % 2 ^ 64), some old, th)) ∧
      (o.op = .cand → s.longEffect th o = (s.setUserWord o.a o.gd (old &&& o.b), some old, th)) ∧
      (o.op = .cor → s.longEffect th o = (s.setUserWord o.a o.gd (old ||| o.b), some old, th)) ∧
      (o.op = .ccas → s.longEffect th o = (s.setUserWord o.a o.gd (if old = o.d then o.b else old), some old,
        { th with flg := { th.flg with z := old == o.d } })))

/-- R158, R269 to R276, R286, R437, R529. Host accesses: which space an access reaches and for which slice, how a request takes
a tag or waits, what this hub's own spaces answer, what leaves for another hub, and that an access outside every window is
refused and counted. Log entries 10, 30, 32, 33, 34, 35, 38, 44, 45, 47, 107, 185, 209 name the model's own choices in it. -/
def Obligations.HostAccessRows : Prop :=
  ∀ s : State, s.endpoint = true →
    -- BAR0 acts for slice 0 on internal addresses 0x10000000 on
    (s.firmware = true → ∀ off len, 0 < len → off + len ≤ 2 ^ 24 → exec (.hostRead none off len) s =
      .next (s.issueDn ⟨none, 0, 0, s.sliceGen 0, false, 0, 0, 0x10000000 + off, len, []⟩).runBridge) ∧
    (s.firmware = true → ∀ off (d : Bytes), d ≠ [] → off + d.length ≤ 2 ^ 24 →
      exec (.hostWrite none off ⟨d, false⟩) s = .next (s.postWrite 64 bar0 (0x10000000 + off) d false).runBridge) ∧
    -- outside every window
    (s.firmware = true → ∀ n off len, 0 < len → n < 64 → off < 2 ^ s.slotSize → s.winTarget n off = none →
      exec (.hostRead (some n) off len) s = .next ((s.bump (BRG_CNT_COUNT 4)).emit (.hostCpl 0 1 []))) ∧
    (s.firmware = true → ∀ n off (d : Bytes), d ≠ [] → n < 64 → off < 2 ^ s.slotSize → s.winTarget n off = none →
      exec (.hostWrite (some n) off ⟨d, false⟩) s = .next (s.bump (BRG_CNT_COUNT 4))) ∧
    -- through a window, on this hub or another
    (s.firmware = true → ∀ n off len w a, 0 < len → n < 64 → off < 2 ^ s.slotSize → s.winTarget n off = some (w, a) →
      exec (.hostRead (some n) off len) s =
        .next (s.issueDn ⟨some n, 0, w.slice, s.sliceGen w.slice, false, w.hub, w.space, a, len, []⟩).runBridge) ∧
    (s.firmware = true → ∀ n off (d : Bytes) w a, d ≠ [] → n < 64 → off < 2 ^ s.slotSize → s.winTarget n off = some (w, a) →
      (w.posted = true → exec (.hostWrite (some n) off ⟨d, false⟩) s = .next (s.postWrite n w a d false).runBridge) ∧
      (w.posted = false → exec (.hostWrite (some n) off ⟨d, false⟩) s =
        .next (s.issueDn ⟨some n, 0, w.slice, s.sliceGen w.slice, true, w.hub, w.space, a, d.length, d⟩).runBridge)) ∧
    -- a request takes a free tag, or waits behind its stream or for a tag
    (∀ r t, s.mayStart s.brg.dnWait r = true → freshKey s.brg.dn 0 1024 = some t →
      let g : Tag := ⟨.issued, r, s.earlierWrites r, !r.write && s.behindFailure r.win, none, s.hubTime, false⟩
      s.issueDn r = ({ s with brg := { s.brg with dn := assocPut t g s.brg.dn } } : State).sendDn t r) ∧
    (∀ r, s.mayStart s.brg.dnWait r = false ∨ freshKey s.brg.dn 0 1024 = none →
      s.issueDn r = { s with brg := { s.brg with dnWait := s.brg.dnWait ++ [r] } }) ∧
    -- a request for this hub's own space is carried out and completes its tag
    (∀ t (r : BrReq), r.space = 0 → configSpace r.addr = false → r.write = false → s.carryOut t r =
      let x := (s.markGone t).localRead r.slice r.addr r.len; x.2.completeDn t r.gen x.1.1 x.1.2) ∧
    (∀ t (r : BrReq), r.space = 0 → configSpace r.addr = false → r.write = true → s.carryOut t r =
      let x := (s.markGone t).localWrite r.slice r.addr r.data;
      x.2.completeDn t r.gen (if x.1 = 0 then .ok else .unsupported) []) ∧
    -- a read for another hub leaves on its way, in IMMEDIATE mode as it is
    (∀ t (r : BrReq), r.hub ≠ 0 → r.write = false → s.delayed = false → s.sendDn t r =
      (s.markGone t).sendFab { kind := .read, dest := (s.markGone t).hubName r.hub, src := (s.markGone t).origin, slice := r.slice, gen := r.gen,
                               space := r.space, win := r.win.getD 0, tag := t, len := r.len, addr := r.addr, data := r.data }) ∧
    -- a posted write to another hub takes its stream's next tag; with no way it is lost
    (∀ n (w : Win) a (d : Bytes), w.hub ≠ 0 →
      let k := (s.writeTag n).1
      let u := (s.writeTag n).2
      let x : Fab := { kind := .postedWrite, dest := u.hubName w.hub, src := u.origin, slice := w.slice, gen := u.sliceGen w.slice,
                       space := w.space, win := n % 64, tag := k, len := d.length, addr := a, data := d }
      (∀ q, u.wayTo x.dest = some q → s.postWrite n w a d false = u.sendOn q x) ∧
      (u.wayTo x.dest = none → s.postWrite n w a d false = u.lostWrite 5 ⟨0, n % 64, w.slice, x.gen, k, a, u.origin⟩)) ∧
    -- the windows
    s.winTarget 0 0 = some (⟨0, 0, 0, 0x11000000, 2 ^ 21, s.is BRG_CTRL_COMPAT⟩, 0x11000000) ∧
    (∀ n x, 1 ≤ n → s.is BRG_CTRL_COMPAT = false → s.is (BRG_WIN_CFG_EN n) = true → x < 2 ^ s.get (BRG_WIN_CFG_SIZE n) →
      let z := 2 ^ s.get (BRG_WIN_CFG_SIZE n);
      let base := (s.get (BRG_WIN_TGT_LO_BASE n) + 2 ^ 32 * s.get (BRG_WIN_TGT_HI_BASE n)) / z * z;
      s.winTarget n x = some (⟨s.get (BRG_WIN_CFG_SLICE n), s.get (BRG_WIN_CFG_HUB n), s.get (BRG_WIN_CFG_SPACE n), base, z,
        !s.is (BRG_WIN_CFG_WMODE n)⟩, base + x)) ∧
    (∀ n x, 1 ≤ n → s.is BRG_CTRL_COMPAT = false →
      (s.is (BRG_WIN_CFG_EN n) = false ∨ 2 ^ s.get (BRG_WIN_CFG_SIZE n) ≤ x) → s.winTarget n x = none) ∧
    -- the endpoint's own configuration space, which the host interface names 64
    (s.firmware = true → ∀ off len, 0 < len →
      exec (.hostRead (some 64) off len) s = .next (s.emit (.hostCpl 0 0 (leBytes 4 (s.brg.ep.word off))))) ∧
    (s.firmware = true → ∀ off (d : Bytes), d ≠ [] → exec (.hostWrite (some 64) off ⟨d, false⟩) s = .next (s.endpointWrite off (leAt d 0 4))) ∧
    -- a poisoned write: the endpoint notes it, a posted one is lost, another fails at its window
    (s.firmware = true → ∀ off (d : Bytes), d ≠ [] → let u := s.endpointError 12;
      (off + d.length ≤ 2 ^ 24 → exec (.hostWrite none off ⟨d, true⟩) s = .next (u.postWrite 64 bar0 (0x10000000 + off) d true).runBridge) ∧
      (∀ n, n < 64 → off < 2 ^ u.slotSize → u.winTarget n off = none → exec (.hostWrite (some n) off ⟨d, true⟩) s = .next (u.bump (BRG_CNT_COUNT 4))) ∧
      (∀ n w a, n < 64 → off < 2 ^ u.slotSize → u.winTarget n off = some (w, a) →
        (w.posted = true → exec (.hostWrite (some n) off ⟨d, true⟩) s = .next (u.postWrite n w a d true).runBridge) ∧
        (w.posted = false → exec (.hostWrite (some n) off ⟨d, true⟩) s = .next (u.put (BRG_WIN_STAT_WERR n) 1).runBridge))) ∧
    (∀ n (w : Win) a (d : Bytes), let u := (s.writeTag n).2;
      s.postWrite n w a d true = u.lostWrite 2 ⟨0, n % 64, w.slice, u.sliceGen w.slice, (s.writeTag n).1, a, u.origin⟩) ∧
    -- Halt
    (s.firmware = false → ∀ w off len, 0 < len → exec (.hostRead w off len) s = .next (s.emit (.hostCpl 0 2 []))) ∧
    (s.firmware = false → ∀ w off d, exec (.hostWrite w off d) s = .next s)

/-- R277 to R279, R307. A completion finds its tag: for a tag in ISSUED the read is answered and the tag is free; one whose
generation differs is dropped and counted for the bridge and the slice; one for a FREE tag is counted; one for an ABANDONED tag
is counted late and frees it. RD_TO answers Completer Abort, counts and raises 0x0804; the abandoned tag frees at its bound.
`runBridge` then carries out what waits for this hub itself. Log entries 30, 108, 158, 185 name the model's own choices in it.
-/
def Obligations.TagRows : Prop :=
  ∀ (s : State) (t gen : Nat) (d : Bytes), s.running = true →
    (∀ st, assocFind s.brg.dn t = none →
      exec (.completionReceive false t gen st d) s = .next (s.bump (BRG_CNT_COUNT 6)).runBridge) ∧
    (∀ st, assocFind s.brg.up t = none → assocFind (s.endpointError 16).brg.up t = none →
      exec (.completionReceive true t gen st d) s = .next ((s.endpointError 16).bump (BRG_CNT_COUNT 6)).runBridge) ∧
    (∀ st g, assocFind s.brg.dn t = some g → gen ≠ s.sliceGen g.req.slice → g.req.unit < 65536 →
      let u := (s.bump (BRG_CNT_COUNT 6)).bump (SLC_GEN_DROP_COUNT g.req.slice)
      exec (.completionReceive false t gen st d) s = .next (if g.st = .abandoned then u.freeDn t else u).runBridge) ∧
    (∀ st g, assocFind s.brg.up t = some g → gen ≠ s.sliceGen g.req.slice → g.req.unit < 65536 →
      let u := (s.bump (BRG_CNT_COUNT 6)).bump (SLC_GEN_DROP_COUNT g.req.slice)
      exec (.completionReceive true t gen st d) s = .next (if g.st = .abandoned then u.freeUp t else u).runBridge) ∧
    (∀ st g, assocFind s.brg.dn t = some g → gen = s.sliceGen g.req.slice → g.st = .abandoned →
      exec (.completionReceive false t gen st d) s = .next ((s.bump (BRG_CNT_COUNT 1)).freeDn t).runBridge) ∧
    (∀ st g, assocFind s.brg.dn t = some g → gen = s.sliceGen g.req.slice → g.st = .issued → g.req.write = true → g.req.unit = 0 →
      exec (.completionReceive false t gen st d) s = .next ((s.freeDn t).writeEnds t g.req (st != CplStatus.ok)).runBridge) ∧
    (∀ st g, assocFind s.brg.up t = some g → gen = s.sliceGen g.req.slice → g.st = .issued →
      exec (.completionReceive true t gen st d) s =
        .next ((s.freeUp t).completeTo g.req.unit t (cplCode st) (if st = .ok then d else [])).runBridge) ∧
    -- the one read outstanding, which waits for no write, is answered and its tag freed
    (∀ (st : CplStatus) (r : BrReq) (n : Nat) (x : Bool), s.brg = { ({} : Bridge) with dn := [(t, ⟨.issued, r, [], false, none, n, x⟩)] } →
      r.write = false → r.unit = 0 → gen = s.sliceGen r.slice →
      exec (.completionReceive false t gen st d) s =
        .next (State.emit { s with brg := {} } (.hostCpl t (cplCode st) (if st = .ok then d else [])))) ∧
    -- timeouts
    (∀ g, assocFind s.brg.dn t = some g → g.st = .issued → g.since + s.get BRG_TIMERS_RD_TO * 10000 ≤ s.hubTime →
      g.req.write = false → g.req.unit = 0 →
      exec (.readTimeout t) s = .next (((({ s with brg := { s.brg with
        dn := assocPut t { g with st := .abandoned, since := s.hubTime } s.brg.dn,
        reqs := s.brg.reqs.map (fun (e : Nat × DrdReq) => if e.1 = t then (e.1, { e.2 with stopped := true }) else e) } }.emit
          (.hostCpl t 2 [])).bump (BRG_CNT_COUNT 0)).raise 0x0804 g.req.slice).runBridge)) ∧
    (∀ g, assocFind s.brg.dn t = some g → g.st = .abandoned →
      g.since + s.get BRG_TIMERS_RD_TO * 10000 + (s.get BRG_ORD_DRD_TO * 1000 + 1000000) ≤ s.hubTime →
      exec (.abandonedTagExpiry false t) s = .next (s.freeDn t).runBridge) ∧
    (∀ g, assocFind s.brg.up t = some g → g.st = .abandoned →
      g.since + s.upTimeout + (s.get BRG_ORD_DRD_TO * 1000 + 1000000) ≤ s.hubTime →
      exec (.abandonedTagExpiry true t) s = .next (s.freeUp t).runBridge) ∧
    (∀ g, assocFind s.brg.up t = some g → g.st = .issued → g.since + s.upTimeout ≤ s.hubTime →
      exec (.upstreamCompletionTimeout t) s = .next ((s.endpointError 14).abandonUp t 2).runBridge) ∧
    (∀ g, assocFind s.brg.up t = some g → g.st = .issued → g.since + s.upTimeout ≤ s.hubTime → s.dock = false →
      exec (.upstreamCompletionTimeout t) s =
        .next (({ s with brg := { s.brg with
          up := assocPut t { g with st := .abandoned, since := s.hubTime } s.brg.up
          reqs := s.brg.reqs.map (fun (e : Nat × DrdReq) => if e.1 = 1024 + t then (e.1, { e.2 with stopped := true }) else e) } } : State).completeTo
          g.req.unit t 2 []).runBridge) ∧
    (s.brg.dnWait = [] → (s.freeDn t).brg.dn = assocDel t s.brg.dn) ∧
    (s.brg.upWait = [] → (s.freeUp t).brg.up = assocDel t s.brg.up) ∧
    (s.brg.dn.find? (fun e => e.2.st == TagSt.issued && !e.2.gone) = none → s.runBridge = s)

/-- R281, R283 to R286, R307. Delayed requests: a request is executed once, answered RETRY until its completion is collected,
which frees the slot; a discarded one is never executed again; the mode changes once nothing crosses; late-fault records queue
to 16. Log entries 30, 36, 37, 47, 158 name the model's own choices in it. -/
def Obligations.DelayedRows : Prop :=
  ∀ s : State, s.running = true →
    (∀ r : DelayedReq, r.slice < 64 → exec (.delayedRequestReceive r) s = .next (s.takeDelayed r)) ∧
    (∀ r : DelayedReq, r.gen ≠ s.ageGone.sliceGen r.slice →
      s.takeDelayed r = (s.ageGone.bump (SLC_GEN_DROP_COUNT r.slice)).drdAnswer r .abort []) ∧
    (∀ (r : DelayedReq) i g, r.gen = s.ageGone.sliceGen r.slice →
      s.brg.slots.find? (fun e => e.2.requester == r.requester && e.2.tag == r.tag) = some (i, g) →
      (g.ans = none → s.takeDelayed r = s.ageGone.drdRetry r) ∧
      (∀ st x, g.ans = some (st, x) → s.takeDelayed r = (s.ageGone.freeSlot i).drdAnswer r st x)) ∧
    (∀ r : DelayedReq, r.gen = s.ageGone.sliceGen r.slice →
      s.brg.slots.find? (fun e => e.2.requester == r.requester && e.2.tag == r.tag) = none →
      (assocFind s.ageGone.brg.gone (r.requester * 65536 + r.tag) = none → s.takeDelayed r = s.ageGone.drdStart r) ∧
      (assocFind s.ageGone.brg.gone (r.requester * 65536 + r.tag) ≠ none → r.again = true →
        s.takeDelayed r = s.ageGone.drdAnswer r .abort []) ∧
      (assocFind s.ageGone.brg.gone (r.requester * 65536 + r.tag) ≠ none → r.again = false →
        s.takeDelayed r = ({ s.ageGone with brg := { s.ageGone.brg with
          gone := assocDel (r.requester * 65536 + r.tag) s.ageGone.brg.gone } } : State).drdStart r)) ∧
    (∀ r : DelayedReq, freshKey s.brg.slots 0 64 = none → s.drdStart r = (s.bump (BRG_CNT_COUNT 3)).drdRetry r) ∧
    (∀ (r : DelayedReq) i, freshKey s.brg.slots 0 64 = some i →
      let x : DrdSlot := ⟨r.requester, r.tag, r.slice, r.gen, r.write, r.addr, r.len, r.data, none, s.hubTime⟩
      let u : State := { s with brg := { s.brg with slots := assocPut i x s.brg.slots } }
      s.drdStart r = (((u.put BRG_ORD_SLOTS u.brg.slots.length).drdRetry r).drdRun i r).runBridge) ∧
    (∀ tag x, assocFind s.brg.reqs tag = some x → x.stopped = false →
      exec (.retryAnswer tag) s = .next { s with brg := { s.brg with
        reqs := assocPut tag { x with port := (s.wayTo (s.memberHub (s.nextMember x.req.hub))).getD x.port } s.brg.reqs } } ∧
      exec (.delayedResend tag) s = .next (s.sendFab (s.delayedFab tag x.req true))) ∧
    (∀ i x a, assocFind s.brg.slots i = some x → x.ans = some a → x.since + s.get BRG_ORD_DRD_TO * 1000 ≤ s.hubTime →
      exec (.drdTimeout i) s = .next (((State.bump { (s.freeSlot i) with brg := { (s.freeSlot i).brg with
        gone := assocPut (x.requester * 65536 + x.tag) s.hubTime s.brg.gone } } (BRG_CNT_COUNT 2))).raise 0x0803 0)) ∧
    (∀ i, assocFind s.brg.slots i = none → exec (.drdTimeout i) s = .next s) ∧
    (s.is BRG_ORD_DRAIN = true → s.crossing = false → exec .orderingModeChange s =
      .next (let u := ((s.put BRG_ORD_MODE 1).put BRG_ORD_DRAIN 0).raise 0x0805 0;
        let v := u.drainDn u.brg.dnWait.length; (v.drainUp u.brg.upWait.length).runBridge)) ∧
    (s.is BRG_ORD_DRAIN = true → s.crossing = true → exec .orderingModeChange s = .next s) ∧
    (∀ cause win sl gen tag addr, cause < 16 → win < 64 → sl < 64 → tag < 1024 → s.brg.late.length < 16 →
      exec (.lateFaultReport cause win sl gen tag addr) s = .next (State.raise { s with brg := { s.brg with
        late := s.brg.late ++ [⟨addr, gen, sl, tag, cause, win, s.hubTime⟩] } } 0x0801 (if gen = s.sliceGen sl then sl else 0))) ∧
    (∀ cause win sl gen tag addr, 16 ≤ s.brg.late.length → s.brg.lateOvf = true →
      exec (.lateFaultReport cause win sl gen tag addr) s = .next (s.bump (BRG_CNT_COUNT 5)))

/-- R288 to R292. Messages: the oldest deliverable message goes to its entry's port as an MSI-X write, a message chain or a
message to another hub; a disabled entry, a wrong port and a wrong slice each discard and count it; an arriving message is
checked. Log entries 30, 50, 210 name the model's own choices in it. -/
def Obligations.MessageRows : Prop :=
  ∀ s : State, s.running = true →
    (∀ (m : Msg) (l : List Msg), s.msgs = m :: l → s.deliverable m = true →
      exec .messageDelivery s = .next (State.deliver { s with msgs := l } m)) ∧
    (s.msgs = [] → exec .messageDelivery s = .next s) ∧
    (∀ m : Msg, s.is (MSG_RT_EN m.entry) = false → s.deliver m = (s.bump (MSG_CNT_COUNT 1)).discardNote) ∧
    (∀ (m : Msg) (v : Nat), s.is (MSG_RT_EN m.entry) = true → s.get (MSG_RT_PORT m.entry) = 28 → s.dock = true → s.get (MSG_RT_TARGET m.entry) = v →
      v < 2048 → s.vecOwner v = some (s.get (MSG_RT_SLICE m.entry)) →
      ((s.vec v).masked = false → s.brg.ep.mask = false → s.brg.ep.msix = true →
        s.deliver m = (s.emit (.msix v (s.vec v).addr (s.vec v).data)).bump (MSG_CNT_COUNT 0)) ∧
      ((s.vec v).masked = true ∨ s.brg.ep.mask = true ∨ s.brg.ep.msix = false →
        s.deliver m = (s.setVec v { s.vec v with pend := true }).bump (MSG_CNT_COUNT 0))) ∧
    (∀ (m : Msg) (v : Nat), s.is (MSG_RT_EN m.entry) = true → s.get (MSG_RT_PORT m.entry) = 28 → s.dock = true → s.get (MSG_RT_TARGET m.entry) = v →
      v < 2048 → s.vecOwner v ≠ some (s.get (MSG_RT_SLICE m.entry)) → s.deliver m = (s.bump (MSG_CNT_COUNT 3)).discardNote) ∧
    (∀ (m : Msg) (c : Nat), s.is (MSG_RT_EN m.entry) = true → s.get (MSG_RT_PORT m.entry) = 32 → s.get (MSG_RT_TARGET m.entry) = c → c < 1024 →
      isSystem c = false → s.ctxSlice c = s.get (MSG_RT_SLICE m.entry) →
      s.deliver m = (s.pendMessage m (s.ctxSlice c) c).bump (MSG_CNT_COUNT 0)) ∧
    (∀ (m : Msg) (p : Nat), s.is (MSG_RT_EN m.entry) = true → s.get (MSG_RT_PORT m.entry) = p → p ≤ 3 →
      (m.hops < 4 → s.deliver m =
        (s.sendFab { kind := .message, dest := if p = 0 then s.farHub else s.memberHub (s.memberAt p), src := s.origin,
                     slice := m.slice.getD (s.get (MSG_RT_SLICE m.entry)), tag := s.get (MSG_RT_TARGET m.entry) % 4096, len := 24,
                     data := m.body (s.get (MSG_RT_SLICE m.entry)) (m.hops + 1) }).bump (MSG_CNT_COUNT 0)) ∧
      (4 ≤ m.hops → s.deliver m = (s.bump (MSG_CNT_COUNT 4)).discardNote)) ∧
    (∀ src body, src < 4096 → s.is (MSG_RT_EN src) = false →
      exec (.remoteMessageReceive src body) s = .next ((s.bump (MSG_CNT_COUNT 1)).discardNote)) ∧
    (∀ src body sl, src < 4096 → s.is (MSG_RT_EN src) = true → leAt body 15 1 = sl → sl < 64 →
      (s.get (MSG_RT_SLICE src) = sl ∨ s.get (MSG_RT_SLICE src) = 0 → exec (.remoteMessageReceive src body) s =
        .next (s.queueMsg ⟨leAt body 0 8, leAt body 8 2, leAt body 10 2, leAt body 12 2 % 4096, leAt body 12 2 / 4096, leAt body 14 1,
          some sl, leAt body 16 8, src, none⟩)) ∧
      (s.get (MSG_RT_SLICE src) ≠ sl → s.get (MSG_RT_SLICE src) ≠ 0 →
        exec (.remoteMessageReceive src body) s = .next ((s.bump (MSG_CNT_COUNT 3)).discardNote))) ∧
    (∀ m, s.msgFull m = false → s.queueMsg m = { s with msgs := s.msgs ++ [m] }) ∧
    (∀ m : Msg, ∀ sl hops, sl < 256 → (m.body sl hops).length = 24)

/-- R308 to R312. A slice reset in propagation: a far hub runs the steps of R309 with the next generation, and reports; the dock
hub ends the reset when the last awaited hub has reported, or at the bound, naming the hubs that had not; the result bytes
follow. Log entries 30, 49, 118, 181 name the model's own choices in it. -/
def Obligations.SliceResetRows : Prop :=
  ∀ s : State, s.running = true →
    (∀ rm sl, 1 ≤ sl → sl < 64 →
      exec (.sliceResetNotice rm sl) s = .next (s.takeNotice rm sl ((s.get (SLC_STAT_GEN sl) + 1) % 256) s.farHub true)) ∧
    -- the steps of R309, unless reconciliation has overtaken them, and a report once no member of the group is awaited
    (∀ rm sl gen src onward, 1 ≤ sl →
      let t := if s.get (SLC_STAT_GEN sl) = gen then s else s.farReset rm sl gen
      let r : SliceReset := ⟨sl, rm, 0, if onward then memberBits t.reachable else 0, if onward then t.cutOff else 0, some src⟩
      (r.waiting = 0 → s.takeNotice rm sl gen src onward =
        ({ t with resets := t.resets.filter (fun x => x.slice != sl) } : State).sendFab
          { t.sliceFab .report sl with dest := src, code := r.unreached }) ∧
      (r.waiting ≠ 0 → s.takeNotice rm sl gen src onward =
        ({ t with resets := t.resets ++ [r] } : State).tellMembers
          (State.sliceFab { t with resets := t.resets ++ [r] } (if rm then .remove else .reset) sl))) ∧
    (∀ sl gen, s.farReset false sl gen = (s.sliceSteps sl gen false).put (SLC_STAT_RESETTING sl) 0 ∧
      s.farReset true sl gen = ((s.sliceSteps sl gen true).sliceRemove sl).put (SLC_STAT_REMOVING sl) 0) ∧
    -- reports at the hub that awaits them; the dock hub ends the reset with the last one
    (∀ (r : SliceReset) l hub, s.resets = r :: l → bit r.waiting hub = true →
      (setBit r.waiting hub false ≠ 0 → exec (.sliceResetReport hub) s = .next { s with
        resets := s.resets.map (fun x => if x.slice = r.slice then { r with waiting := setBit r.waiting hub false } else x) }) ∧
      (setBit r.waiting hub false = 0 → r.report = none → exec (.sliceResetReport hub) s = .next (
        let r' := { r with waiting := 0 };
        let u := s.endReset r';
        { u with bkt := { u.bkt with stage := .ready 0 (leBytes 1 (u.sliceGen r.slice) ++ leBytes 1 r.unreached) } })) ∧
      (∀ h, setBit r.waiting hub false = 0 → r.report = some h → exec (.sliceResetReport hub) s = .next (
        ({ s with resets := s.resets.filter (fun x => x.slice != r.slice) } : State).sendFab
          { s.sliceFab .report r.slice with dest := h, code := r.unreached }))) ∧
    (∀ (r : SliceReset) l hub, s.resets = r :: l → bit r.waiting hub = false → exec (.sliceResetReport hub) s = .next s) ∧
    (∀ (r : SliceReset) l, s.resets = r :: l → r.report = none → exec .sliceResetBound s = .next (
        let r' := { r with waiting := 0, unreached := r.unreached ||| r.waiting };
        let u := s.endReset r';
        { u with bkt := { u.bkt with stage := .ready 0 (leBytes 1 (u.sliceGen r.slice) ++ leBytes 1 (r.unreached ||| r.waiting)) } })) ∧
    (∀ (r : SliceReset) l h, s.resets = r :: l → r.report = some h → exec .sliceResetBound s = .next (
        ({ s with resets := s.resets.filter (fun x => x.slice != r.slice) } : State).sendFab
          { s.sliceFab .report r.slice with dest := h, code := r.unreached ||| r.waiting })) ∧
    (∀ r : SliceReset, r.remove = false → s.endReset r =
      (State.put { s with resets := s.resets.filter (fun x => x.slice != r.slice) } (SLC_STAT_RESETTING r.slice) 0).raise
        0x0902 r.slice) ∧
    (s.resets = [] → exec .sliceResetBound s = .next s ∧ ∀ hub, exec (.sliceResetReport hub) s = .next s)

/-- R454 to R458, R475, R495. Events of the vault: a tamper destroys the root and every key and records itself, with the core
rail down leaving event 0x1101 for step 6; a re-mask pass counts itself and leaves the vault, the slots and the tanks; the
TRNG's health, the nonce and the secure wipe. Log entries 92, 98, 99, 101 name the model's own choices in it. -/
def Obligations.VaultEventRows : Prop :=
  ∀ s : State,
    (∀ src, s.tamperArmed src = false → exec (.tamper src) s = .next s) ∧
    (∀ src, s.tamperArmed src = true → s.coreUp = false → s.pumps.threads = [] →
      ∃ t, exec (.tamper src) s = .next t ∧ t.vault.root = 0 ∧ t.get SEC_STAT_ROOT_VALID = 0 ∧
        (∀ k, k < 128 → t.slotValid k = false) ∧
        (∀ k, k < 128 → s.slotValid k = true → t.attr k = s.slotOwner k * 2 ^ 16) ∧
        t.get SEC_TMP_TIME_SECONDS = s.get SEC_VTIME_SECONDS % 2 ^ 32 ∧
        t.power.atStep6 = s.power.atStep6 ++ [(0x1101, 0)] ∧ t.tanks = s.tanks) ∧
    (∀ src, s.tamperArmed src = true → s.coreUp = true → s.bist.running = false → s.pumps.threads = [] →
      exec (.tamper src) s = .next (
        let u := s.zeroRoot.zeroSlots (fun _ _ => true);
        let u := ((u.tamperShow src).bump SEC_TMP_STAT_COUNT).put SEC_TMP_TIME_SECONDS (u.get SEC_VTIME_SECONDS);
        let u := if u.tamperMeets then { u with bkt := { u.bkt with tampered := true } } else u;
        (State.raise { u with tanks := { u.tanks with sec := [] }, vault := { u.vault with wiping := true } } 0x1101 0).detect
          (tamperDetector src).1 (tamperDetector src).2)) ∧
    (s.vault.trngBad = false → ∃ t, exec .remaskPass s = .next t ∧
      t.get SEC_STAT_PASSES = (s.get SEC_STAT_PASSES + 1) % 65536 ∧ t.vault = { s.vault with mask := s.free } ∧
      t.free = s.free + 129 ∧
      (∀ k, k < 128 → t.attr k = s.attr k) ∧ t.tanks = s.tanks) ∧
    (s.vault.trngBad = true → exec .remaskPass s = .next s ∧ exec .trngHealthFail s = .next s) ∧
    (s.vault.trngBad = false → s.coreUp = true → exec .trngHealthFail s = .next (((State.put
      { s with vault := { s.vault with trngBad := true } } SEC_STAT_TRNG_FAIL 1).raise 0x1105 0).detect 0x43 0)) ∧
    exec .trngHealthRestored s = .next { s with vault := { s.vault with trngBad := false } } ∧
    exec .nonceExpiry s = .next { s with vault := { s.vault with nonce := none } } ∧
    (s.vault.wiping = true → s.tanks.wipes < 0xFFFFFFFF → exec .secureWipeDone s = .next (State.raise
      { s with vault := { s.vault with wiping := false }, tanks := { s.tanks with wipes := s.tanks.wipes + 1 } } 0x1404 0)) ∧
    (s.vault.wiping = false → exec .secureWipeDone s = .next s)

/-- R489 to R494, R497. The bailer port: the status bytes with the core clock running and in Dry, the identifier, a read of tank
3, a read outside every range, a write in the window and one refused, the doorbell, and what stops while the core clock is
stopped. Log entries 10, 114, 116, 117, 121, 185 name the model's own choices in it. -/
def Obligations.BailerRows : Prop :=
  ∀ s : State,
    (s.power.phase ≠ .held → s.power.phase ≠ .dry →
      exec .bailReadStatus s = .next (s.emit (.bail (leBytes 1 ((if s.coreClock then 1 else 0) + (if s.halted then 2 else 0) +
        (if s.is GLB_HUB_STAT_ISLAND then 4 else 0) + (if s.is FLT_STAT_FROZEN then 8 else 0)) ++
        leBytes 1 (s.get CLK_PWR_STAT_STATE) ++ leBytes 1 (s.get SEC_STAT_LC) ++ leBytes 1 (s.get FLT_STAT_LEVEL) ++
        leBytes 2 (s.get FLT_LOG_IDX_NEXT) ++ leBytes 1 s.tanks.collisions ++ [0#8]) false))) ∧
    (s.power.phase = .dry →
      exec .bailReadStatus s = .next (s.emit (.bail [0#8, 2#8, 0#8, 0#8, 0#8, 0#8, 0#8, 0#8] false)) ∧
      exec .bailReadId s = .next s ∧ (∀ a n c, exec (.bailRead a n c) s = .next s) ∧ (∀ a d, exec (.bailWrite a d) s = .next s) ∧
      (∀ d, exec (.bailDoorbell d) s = .next s)) ∧
    (s.bailOn = true → exec .bailReadId s =
      .next (s.emit (.bail (leBytes 4 (s.word 0x10000008) ++ leBytes 4 (s.word 0x1000000C)) false))) ∧
    (s.bailOn = true → s.coreClock = true → ∀ a n, 0 < n → n ≤ 4096 → 0x02300000 ≤ a → a + n ≤ 0x02400000 → ∃ d : Bytes,
      exec (.bailRead a n []) s = .next (s.emit (.bail d false)) ∧ d.length = n ∧
      ∀ i, i < n → d.getD i 0#8 = memGet s.tanks.t3 (a + i - 0x02300000)) ∧
    (s.bailOn = true → s.coreClock = true → ∀ a n, 0 < n → n ≤ 4096 → 0x20000000 ≤ a → ∃ d : Bytes,
      exec (.bailRead a n []) s = .next (s.bailRefuse.emit (.bail d true)) ∧ d.length = n ∧ ∀ i, d.getD i 0#8 = 0#8) ∧
    (s.bailOn = true → s.coreClock = false → ∀ a n c, 0 < n → ∃ d : Bytes,
      exec (.bailRead a n c) s = .next (State.emit { s with free := s.free + 1 } (.bail d true))) ∧
    (s.bailOn = true → s.coreClock = true → ∀ a (d : Bytes), 0 < d.length → d.length ≤ 256 → 0x023D0000 ≤ a →
      a + d.length ≤ 0x023E0000 → exec (.bailWrite a d) s = .next { s with tanks := { s.tanks with
        t3 := memWrite s.tanks.t3 (a - 0x02300000) d } }) ∧
    (s.bailOn = true → s.coreClock = true → ∀ a (d : Bytes), 0 < d.length → (256 < d.length ∨ a < 0x023D0000 ∨
      0x023E0000 < a + d.length) → exec (.bailWrite a d) s = .next s.bailRefuse) ∧
    (s.bailOn = true → s.coreClock = true → s.firmware = true → s.tanks.doorbells < 0xFFFFFFFF → ∀ d, d.length = 4 →
      exec (.bailDoorbell d) s = .next (State.raiseP { s with tanks := { s.tanks with doorbells := s.tanks.doorbells + 1 } }
        0x1401 0 (leNat d))) ∧
    (s.coreClock = false → (∀ a d, exec (.bailWrite a d) s = .next s) ∧ (∀ d, exec (.bailDoorbell d) s = .next s))

/-- R524, R527 to R530, R533, R538, R540, R542. The fault ladder's rows: the end of a fault's handling, a timed-out transaction,
the temperature, the sectors of a BIST, and the monitored inputs. Log entries 25, 110, 112, 121, 199 name the model's own
choices in it. -/
def Obligations.FaultRows : Prop :=
  ∀ s : State,
    (s.ladder.cur = none → exec .faultHandlingDone s = .next s) ∧
    (∀ f, s.ladder.cur = some f → f.lvl < 4 → exec .faultHandlingDone s =
      .next ((State.showQueue { s with ladder := { s.ladder with cur := none } }).nextFault.settle)) ∧
    (∀ f, s.ladder.cur = some f → f.lvl = 4 → exec .faultHandlingDone s = .next (
      let u := s.holdUnits f.det f.inst;
      (State.showQueue { u with ladder := { u.ladder with cur := none } }).nextFault.settle)) ∧
    (∀ f, s.ladder.cur = some f → f.lvl = 5 → (s.is FLT_CTRL_FLASH_COPY = true → s.is FLT_STAT_COPIED = true ∨ s.is FLT_STAT_COPY_FAIL = true) →
      exec .faultHandlingDone s = .next (State.showQueue { s with ladder := { s.ladder with cur := none, haltDone := true } })) ∧
    (∀ f l, s.ladder.queue = f :: l → s.nextFault = State.startFault { s with ladder := { s.ladder with queue := l } } f) ∧
    (s.running = true → ∀ b, b ≤ 19 → exec (.fabricTimeout b) s = .next (s.fabricTimeout b).runBridge) ∧
    (s.running = true → ∀ b, b ≤ 19 → b ≠ 14 → s.fabricTimeout b = s.detect 0x17 b) ∧
    (s.coreUp = true → ∀ x : Int, -128 ≤ x → x ≤ 127 →
      let old := signed 8 (s.get FLT_TEMP_NOW)
      let u := s.put FLT_TEMP_NOW (unsigned 8 x)
      (x ≤ s.get FLT_TEMP_WARN → x ≤ s.get FLT_TEMP_CRIT → exec (.junctionTempCrossing x) s = .next u) ∧
      (old ≤ s.get FLT_TEMP_WARN → (s.get FLT_TEMP_WARN : Int) < x →
        exec (.junctionTempCrossing x) s = .next (let w := u.detect 6 0;
          if old ≤ w.get FLT_TEMP_CRIT ∧ (w.get FLT_TEMP_CRIT : Int) < x then w.detect 7 0 else w))) ∧
    -- BIST
    (∀ k k' l g, s.bist.running = true → s.bist.todo = k :: k' :: l → exec (.bistSectorDone g g) s = .next (
      let u := (s.put (FLT_BIST_MISR_SIG k) g.toNat).put FLT_BIST_RES_RAN (setBit (s.get FLT_BIST_RES_RAN) k true);
      { u with bist := { u.bist with todo := k' :: l } })) ∧
    (∀ k l g g', g ≠ g' → s.bist.running = true → s.bist.todo = k :: l → exec (.bistSectorDone g g') s = .next (
      let u := (s.put (FLT_BIST_MISR_SIG k) g.toNat).put FLT_BIST_RES_RAN (setBit (s.get FLT_BIST_RES_RAN) k true);
      ((State.put { u with bist := {} } FLT_BIST_RES_SECTOR k).detect 0x0A k).holdSafe 2)) ∧
    (∀ k g, s.bist.running = true → s.bist.powerOn = true → s.bist.todo = [k] → exec (.bistSectorDone g g) s = .next (
      let u := (s.put (FLT_BIST_MISR_SIG k) g.toNat).put FLT_BIST_RES_RAN (setBit (s.get FLT_BIST_RES_RAN) k true);
      (State.put { u with bist := {} } FLT_BIST_RES_RESULT 1).beginLoad)) ∧
    (∀ k l, s.bist.running = true → s.bist.todo = k :: l → exec .bistSectorTimeout s = .next (
      let u := s.put FLT_BIST_RES_RAN (setBit (s.get FLT_BIST_RES_RAN) k true);
      ((State.put { u with bist := {} } FLT_BIST_RES_SECTOR k).detect 0x0B k).holdSafe 3)) ∧
    (s.bist.running = false → exec .bistSectorTimeout s = .next s ∧ ∀ g g', exec (.bistSectorDone g g') s = .next s) ∧
    -- inputs
    (s.monitors = true → ∀ i, i ≤ 11 →
      (bit (s.get FLT_IN_STAT_STUCK) i = false → exec (.inputStuck i) s = .next (
        ((s.put FLT_IN_STAT_STUCK (setBit (s.get FLT_IN_STAT_STUCK) i true)).detect 0x44 i).raise 0x1203 i)) ∧
      exec (.inputUnstuck i) s = .next (s.put FLT_IN_STAT_STUCK (setBit (s.get FLT_IN_STAT_STUCK) i false)) ∧
      (let u := { s with inputs := assocSet {} i ⟨some s.hubTime⟩ s.inputs };
      let c := u.bump (FLT_IN_CNT_COUNT i);
      ((assocGet {} s.inputs i).last = none → exec (.inputActiveEdge i) s = .next u) ∧
      (∀ n, (assocGet {} s.inputs i).last = some n →
        (n + 100000 < s.hubTime → exec (.inputActiveEdge i) s = .next u) ∧
        (s.hubTime ≤ n + 100000 → c.get (FLT_IN_CNT_COUNT i) < c.get FLT_IN_CFG_CHAT_THR →
          exec (.inputActiveEdge i) s = .next c) ∧
        (s.hubTime ≤ n + 100000 → c.get FLT_IN_CFG_CHAT_THR ≤ c.get (FLT_IN_CNT_COUNT i) → bit (c.get FLT_IN_STAT_CHAT) i = false →
          exec (.inputActiveEdge i) s = .next (
            ((c.put FLT_IN_STAT_CHAT (setBit (c.get FLT_IN_STAT_CHAT) i true)).detect 0x45 i).raise 0x1203 i)))))

/-- R390 to R393, R399, R402 to R404, R542. The rows of the Ethernet ports on a port whose unit works: what a received frame
meets, PAUSE and PFC holds, the repeat, link changes, PHY interrupts, MDIO and a step of hub time. Log entries 25, 27, 57, 60,
160, 208 name the model's own choices in it. -/
def Obligations.EthernetRows : Prop :=
  ∀ (s : State) (n : Nat), s.ethOn n = true →
    let up := s.is (ETH_STAT_LINK n) = true
    -- reception
    (∀ d : Bytes, up → exec (.ethFrameReceive n d false) s = .next (s.bump (ETH_CNT_COUNT n 1))) ∧
    (∀ d : Bytes, up → d.length + 4 < 64 ∨ s.get (ETH_CFG_MAXLEN n) < d.length + 4 →
      exec (.ethFrameReceive n d true) s = .next (s.bump (ETH_CNT_COUNT n 2))) ∧
    (∀ d : Bytes, up → 64 ≤ d.length + 4 → d.length + 4 ≤ s.get (ETH_CFG_MAXLEN n) →
      (macControl d = some 1 → exec (.ethFrameReceive n d true) s = exec (.pauseFrameReceive n false 0 [beAt d 16 2]) s) ∧
      (macControl d = some 0x101 → exec (.ethFrameReceive n d true) s =
        exec (.pauseFrameReceive n true (beAt d 16 2 % 256) ((List.range 8).map (fun t => beAt d (18 + 2 * t) 2))) s) ∧
      (macControl d = none → s.get (WEL_PORT_Q_QUOTA (n + 4)) ≤ s.get (WEL_PORT_USE_USE (n + 4)) ∨ s.noRoom d.length = true →
        exec (.ethFrameReceive n d true) s = .next (s.bump (ETH_CNT_COUNT n 3))) ∧
      (macControl d = none → s.get (WEL_PORT_USE_USE (n + 4)) < s.get (WEL_PORT_Q_QUOTA (n + 4)) → s.noRoom d.length = false →
        exec (.ethFrameReceive n d true) s = .next ((s.bump (ETH_CNT_COUNT n 0)).landFrame (n + 4)
          (s.hubTime - s.get (ETH_TS_LAT_RX n)) d (s.classify (n + 4) d)))) ∧
    (s.is (ETH_STAT_LINK n) = false → (∀ d ok, exec (.ethFrameReceive n d ok) s = .next s) ∧
      (∀ p v q, exec (.pauseFrameReceive n p v q) s = .next s) ∧ exec (.flowControlRepeat n) s = .next s) ∧
    -- holds
    (∀ p v q, up → s.is (ETH_FC_CFG_HONOUR n) = false →
      exec (.pauseFrameReceive n p v q) s = .next (s.bump (ETH_CNT_COUNT n 5))) ∧
    -- a hold starts with the end of the frame in transmission, at once where there is none
    (∀ p v q, up → s.is (ETH_FC_CFG_HONOUR n) = true →
      let t := (s.bump (ETH_CNT_COUNT n 5)).accruePort (n + 4)
      let u := t.setEth n { s.ethPort n with waits := (s.ethPort n).waits ++ [(p, v, q)] }
      (assocFind u.cis.tx (n + 4) = none → exec (.pauseFrameReceive n p v q) s = .next (u.startHolds n)) ∧
      (∀ x, assocFind u.cis.tx (n + 4) = some x → exec (.pauseFrameReceive n p v q) s = .next u)) ∧
    ((s.ethPort n).waits = [] → s.startHolds n = (s.setEth n { s.ethPort n with waits := [] }).showHolds n) ∧
    (∀ v q l, q < 65536 → let t := s.startHold n (false, v, q :: l)
      (t.ethPort n).pauseTo = s.hubTime + s.quantaTime n q ∧ (t.ethPort n).pfcTo = (s.ethPort n).pfcTo ∧
        ∀ m, m ≠ n → t.ethPort m = s.ethPort m) ∧
    exec (.pauseHoldExpiry n) s = .next (s.showHolds n) ∧
    (s.hubTime < (s.ethPort n).pauseTo → (s.showHolds n).is (ETH_STAT_PAUSED n) = true) ∧
    ((s.ethPort n).pauseTo ≤ s.hubTime → (s.showHolds n).is (ETH_STAT_PAUSED n) = false) ∧
    -- the repeat
    (up → s.get (ETH_STAT_TX_XOFF n) ≠ 0 → (s.ethPort n).paused = false →
      exec (.flowControlRepeat n) s = .next ((s.emit (.pause n (s.get (ETH_STAT_TX_XOFF n)) (s.get (ETH_FC_CFG_QUANTA n)))).bump
        (ETH_CNT_COUNT n 6))) ∧
    (up → s.get (ETH_STAT_TX_XOFF n) = 0 → (s.ethPort n).paused = true →
      exec (.flowControlRepeat n) s = .next ((s.emit (.pause n 0x100 (s.get (ETH_FC_CFG_QUANTA n)))).bump (ETH_CNT_COUNT n 6))) ∧
    -- links
    (∀ v w, s.is (ETH_CFG_EN n) = true → s.linkSpeed n v = some w →
      let u := (s.put (ETH_STAT_LINK n) 1).put (ETH_STAT_SPEED n) w
      (up → exec (.ethLinkChange n true v) s = .next u) ∧
      (s.is (ETH_STAT_LINK n) = false → exec (.ethLinkChange n true v) s = .next (u.raise 0x0D01 n).settle)) ∧
    (∀ v, exec (.ethLinkChange n false v) s = .next (s.ethDown n)) ∧
    (∀ v, s.linkSpeed n v = none → exec (.ethLinkChange n true v) s = .next (s.ethDown n)) ∧
    (up → s.ethDown n = (let u := (s.put (ETH_STAT_LINK n) 0).put (ETH_STAT_SPEED n) 0;
      let u := u.accruePort (n + 4);
      let u := (u.setEth n { u.ethPort n with pauseTo := 0, pfcTo := [], waits := [] }).showHolds n;
      (((u.raise 0x0D02 n).flushDirect (n + 4)).detect 0x39 n).settle)) ∧
    (s.is (ETH_STAT_LINK n) = false → s.ethDown n = s) ∧
    (s.inputMasked n = false → exec (.ethPhyInterrupt n) s = .next (s.raise 0x0D06 n)) ∧
    (s.inputMasked n = true → exec (.ethPhyInterrupt n) s = .next s) ∧
    -- MDIO
    (∀ d, s.is ETH_MDIO_CMD_BUSY = true → ∃ t, exec (.mdioDone d) s = .next t ∧ t.is ETH_MDIO_CMD_BUSY = false ∧
      t.get ETH_MDIO_DATA_DATA = if bit ((assocFind s.latch ETH_MDIO_CMD_GO.addr).getD 0) 28 then d % 65536
        else s.get ETH_MDIO_DATA_DATA) ∧
    (∀ d, s.is ETH_MDIO_CMD_BUSY = false → exec (.mdioDone d) s = .next s) ∧
    -- a step of hub time
    (∀ x (o : Int), s.is ETH_PTP_CFG_EN = true → s.islanded = false → s.ptp.hold = 0 → exec (.hubTimeStep x o) s = .next (
      let a := s.wellNos.foldl State.accrue s;
      let u := State.bump { a with hubTime := x, trunk := { a.trunk with calWait := false } } ETH_PTP_STAT_STEPS;
      let u := ((u.shiftParts a.hubTime).shiftHolds a.hubTime).put ETH_PTP_STAT_OFFSET (unsigned 16 (clampInt (-32767) 32767 o));
      let u := (List.range 8).foldl State.gateStep (u.raise 0x0D03 0);
      (if u.trunkUp then u.startSlew else u).expireTimers)) ∧
    -- islanded, without the time sync, or while the servo holds, hub time runs free
    (∀ x (o : Int), s.is ETH_PTP_CFG_EN = false ∨ s.islanded = true ∨ s.ptp.hold ≠ 0 → exec (.hubTimeStep x o) s = .next s)

/-- R405 to R411. The rows of the root ports: a device's request to the MSI region, to an inbound window and outside every
window, error messages, link changes and configuration accesses. Log entries 25, 30, 48, 51, 52, 209 name the model's own
choices in it. -/
def Obligations.RootPortRows : Prop :=
  ∀ (s : State) (m : Nat), s.rootPort m = true →
    let up := s.is (PCI_RP_STAT_LINK m) = true
    let open_ := s.backPressured (28 + m) = false
    let region := (s.get (PCI_RP_MSI_LO_BASE m) + 2 ^ 32 * s.get (PCI_RP_MSI_HI_BASE m)) / 4096
    (∀ a n (d : Bytes), up → open_ → a / 4096 = region →
      exec (.deviceRequest m true a n ⟨d, false⟩) s = .next (s.raise 0x0E03 (m * 2048 + leAt d 0 2 % 2048))) ∧
    (∀ a n (d : Bytes), up → open_ → a / 4096 ≠ region → s.iwin m a d.length = none →
      exec (.deviceRequest m true a n ⟨d, false⟩) s = .next (s.raiseEvery 1000000 0x0E05 m 0)) ∧
    (∀ a n d, up → s.iwin m a n = none →
      exec (.deviceRequest m false a n ⟨d, false⟩) s = .next ((s.emit (.cpl (16 + m) 0 1 [])).raiseEvery 1000000 0x0E05 m 0)) ∧
    (∀ a n (d : Bytes) w, up → open_ → a / 4096 ≠ region → s.iwin m a d.length = some w →
      (s.is (PCI_RP_IWIN_CFG_TARGET m w) = true → exec (.deviceRequest m true a n ⟨d, false⟩) s =
        .next (s.landFrame (28 + m) s.hubTime (beBytes 8 a ++ d) (some (s.get (PCI_RP_IWIN_CFG_CTX m w), 0xFF)))) ∧
      (s.is (PCI_RP_IWIN_CFG_TARGET m w) = false → s.islanded = true →
        exec (.deviceRequest m true a n ⟨d, false⟩) s = .next (s.bump (PCI_RP_STAT_ISL_DROP m))) ∧
      (s.is (PCI_RP_IWIN_CFG_TARGET m w) = false → s.islanded = false →
        exec (.deviceRequest m true a n ⟨d, false⟩) s = .next (s.writeUp (16 + m) (s.get (PCI_RP_IWIN_CFG_SLICE m w)) a d false))) ∧
    -- no data credits while the port is back-pressured; poisoned data is discarded and recorded
    (∀ a n d, s.backPressured (28 + m) = true → exec (.deviceRequest m true a n d) s = .next s) ∧
    (∀ a n (d : Bytes), up → open_ → a / 4096 = region →
      exec (.deviceRequest m true a n ⟨d, true⟩) s = .next (s.poisonedDevice m 0 a)) ∧
    (∀ a n (d : Bytes) w, up → open_ → a / 4096 ≠ region → s.iwin m a d.length = some w → s.is (PCI_RP_IWIN_CFG_TARGET m w) = true →
      exec (.deviceRequest m true a n ⟨d, true⟩) s = .next (s.poisonedDevice m (s.get (PCI_RP_IWIN_CFG_SLICE m w)) a)) ∧
    (∀ a n d w, up → s.iwin m a n = some w →
      (s.is (PCI_RP_IWIN_CFG_TARGET m w) = true → exec (.deviceRequest m false a n ⟨d, false⟩) s = .next (s.emit (.cpl (16 + m) 0 1 []))) ∧
      (s.is (PCI_RP_IWIN_CFG_TARGET m w) = false → s.islanded = true →
        exec (.deviceRequest m false a n ⟨d, false⟩) s = .next ((s.emit (.cpl (16 + m) 0 1 [])).bump (PCI_RP_STAT_ISL_DROP m))) ∧
      (s.is (PCI_RP_IWIN_CFG_TARGET m w) = false → s.islanded = false →
        exec (.deviceRequest m false a n ⟨d, false⟩) s = .next (let sl := s.get (PCI_RP_IWIN_CFG_SLICE m w);
          s.issueUp ⟨none, 16 + m, sl, s.sliceGen sl, false, 0, 1, a, n, []⟩))) ∧
    (s.is (PCI_RP_STAT_LINK m) = false → ∀ w a n d, exec (.deviceRequest m w a n d) s = .next s) ∧
    exec (.rootPortErrorMessage m) s = .next (((s.bump (PCI_RP_STAT_ERRS m)).raise 0x0E04 m).detect 0x3A m) ∧
    (∀ g w, s.is (PCI_RP_CTRL_EN m) = true → s.is (PCI_RP_CTRL_PERST m) = false → 1 ≤ g → g ≤ s.get (PCI_RP_CTRL_MAX_GEN m) →
      w = 1 ∨ w = 2 ∨ w = 4 →
      let u := ((s.put (PCI_RP_STAT_LINK m) 1).put (PCI_RP_STAT_GEN m) g).put (PCI_RP_STAT_WIDTH m) w
      (up → exec (.rootPortLinkChange m true g w) s = .next u) ∧
      (s.is (PCI_RP_STAT_LINK m) = false → exec (.rootPortLinkChange m true g w) s = .next (u.raise 0x0E01 m).settle)) ∧
    (∀ g w, s.is (PCI_RP_CTRL_EN m) = false ∨ s.is (PCI_RP_CTRL_PERST m) = true →
      exec (.rootPortLinkChange m true g w) s = .next s) ∧
    (∀ g w, exec (.rootPortLinkChange m false g w) s = .next (s.rootDown m).runBridge) ∧
    -- configuration accesses under way find no link
    (up → let t := ((s.put (PCI_RP_STAT_LINK m) 0).put (PCI_RP_STAT_GEN m) 0).put (PCI_RP_STAT_WIDTH m) 0
      let u := (s.cfgs.filter (fun e => e.1 == m)).foldl (fun u e => u.answerConfig m e.2 0xFFFFFFFF)
        { t with cfgs := s.cfgs.filter (fun e => e.1 != m) }
      s.rootDown m = ((u.raise 0x0E02 m).detect 0x3B m).settle) ∧
    (∀ fn off w v, fn < 8 → off < 4096 →
      (up → assocFind s.cfgs m = none → exec (.configAccess m fn off w v) s =
        .next (State.emit { s with cfgs := s.cfgs ++ [(m, ⟨fn, off, w, v.toNat, none⟩)] } (.config m fn off w v.toNat))) ∧
      -- one at a time on a port
      (∀ c, up → assocFind s.cfgs m = some c → exec (.configAccess m fn off w v) s =
        .next { s with cfgs := s.cfgs ++ [(m, ⟨fn, off, w, v.toNat, none⟩)] }) ∧
      (s.is (PCI_RP_STAT_LINK m) = false → exec (.configAccess m fn off w v) s =
        .next (s.emit (.cpl (16 + m) 0 0 (if w then [] else leBytes 4 0xFFFFFFFF))))) ∧
    (∀ (a : CfgAcc) st v, assocFind s.cfgs m = some a → exec (.configCompletion m st v) s =
      .next (s.endConfig m a (if st = CplStatus.ok then v.toNat else 0xFFFFFFFF)).runBridge) ∧
    (∀ (a : CfgAcc) v, a.tag = none → assocFind (s.cfgs.erase (m, a)) m = none → s.endConfig m a v =
      State.emit { s with cfgs := s.cfgs.erase (m, a) } (.cpl (16 + m) 0 0 (if a.write then [] else leBytes 4 v)))

/-- R415 to R425. The rows of the display engine: what a line record meets in order and where its bytes go, the next output
line, an output's training, and the composition of a channel as the nearest 8-bit value. Log entries 126, 138, 139 name the
model's own choices in it. -/
def Obligations.DisplayRows : Prop :=
  (∀ s : State, s.running = true → s.hasDisplay = true → ∀ (sl : Nat) (r : Bytes),
    let l := beAt r 0 1
    let y := beAt r 2 2
    let off := beAt r 4 4
    let d := r.drop 8
    let refused := s.get (DSP_LYR_SIZE_H l) ≤ y ∨ s.lineBytes l < off + d.length ∨ s.is (DSP_LYR_CFG_EN l) = false ∨
      (sl ≠ s.get (DSP_LYR_CFG_SLICE l) ∧ sl ≠ 0)
    let drop := exec (.lineRecordReceive sl r) s = .next ((s.sumpRecord sl r).bump (DSP_LYR_STAT_DROPS l))
    let store := fun (x : LineSlot) => exec (.lineRecordReceive sl r) s =
      .next ((s.tankWrite 2 (s.get (DSP_LYR_RING_BASE l) * 64 + s.slotOf l y * s.get (DSP_LYR_STRIDE_STRIDE l) + off) d).setLineSlot l
        (s.slotOf l y) (some x))
    let slot := assocFind (s.layer l).slots (s.slotOf l y)
    9 ≤ r.length → l ≤ 5 →
      (refused → drop) ∧
      (¬ refused → s.is (DSP_LYR_CFG_STATIC l) = false →
        (slot = none → off ≠ 0 → drop) ∧
        (slot = none → off = 0 → store ⟨y, d.length, decide (d.length = s.lineBytes l), none⟩) ∧
        (∀ x, slot = some x → x.line ≠ y ∨ x.whole = true →
          exec (.lineRecordReceive sl r) s = .next ((s.sumpRecord sl r).bump (DSP_LYR_CNT_OVERRUN l))) ∧
        (∀ x, slot = some x → x.line = y → x.whole = false → off ≠ x.landed → drop) ∧
        (∀ x, slot = some x → x.line = y → x.whole = false → off = x.landed →
          store ⟨y, x.landed + d.length, decide (x.landed + d.length = s.lineBytes l), none⟩)) ∧
      (¬ refused → s.is (DSP_LYR_CFG_STATIC l) = true →
        (slot = none → off = 0 → store ⟨y, d.length, decide (d.length = s.lineBytes l), none⟩) ∧
        (∀ x, slot = some x → x.line = y → x.whole = true → x.redo = none → off = 0 →
          store { x with redo := if d.length = s.lineBytes l then none else some d.length }))) ∧
  (∀ s : State, s.hasDisplay = false → ∀ sl r, exec (.lineRecordReceive sl r) s = .next s) ∧
  -- the next output line: the counter wraps at the total, and vertical blanking starts after the active lines
  (∀ (s : State) (t : Timing), s.running = true → s.hasDisplay = true → s.is DSP_CTRL_EN = true → s.dsp.use = some t →
    exec .lineStart s = .next (
      let o := if t.vtotal ≤ s.get DSP_STAT_LINE + 1 then 0 else s.get DSP_STAT_LINE + 1;
      let u := s.put DSP_STAT_LINE o;
      let u := if o = 0 then u.put DSP_STAT_VBLANK 0 else u;
      let u := if o = t.vact then u.blankStart else u;
      let u := if u.is DSP_LCMP0_EN && u.get DSP_LCMP0_LINE == o then u.raise 0x0F02 0 else u;
      let u := if u.is DSP_LCMP1_EN && u.get DSP_LCMP1_LINE == o then u.raise 0x0F02 1 else u;
      let f := (o + u.get DSP_CTRL_LEAD) % max 1 t.vtotal;
      let u := if f = 0 then [0, 1, 2, 3, 4, 5].foldl State.frameStart u else u;
      if f < t.vact then u.fetchLine t f else u)) ∧
  (∀ s : State, s.dsp.use = none → exec .lineStart s = .next s) ∧
  (∀ s : State, s.dsp.pend = none → s.blankStart = { ((s.put DSP_STAT_VBLANK 1).addWrap DSP_STAT_FRAMES 1).raise 0x0F01 0 with
    dsp := { s.dsp with quiet := false } }) ∧
  -- training
  (∀ (s : State) (n : Nat), s.running = true → n < 4 → s.get (DSP_OUT_STAT_STATE n) = 2 →
    let blank := fun r => ((s.put (DSP_OUT_STAT_STATE n) 4).put (DSP_OUT_STAT_REASON n) r).detect 0x3D n
    exec (.outputTrainDone n .active) s = .next (s.put (DSP_OUT_STAT_STATE n) 3) ∧
    exec (.outputTrainDone n .linkFail) s = .next (blank 1) ∧ exec (.outputTrainDone n .noEdid) s = .next (blank 2) ∧
    exec (.outputTrainDone n .sink) s = .next (blank 3)) ∧
  (∀ (s : State) (n : Nat) e, s.get (DSP_OUT_STAT_STATE n) ≠ 2 → exec (.outputTrainDone n e) s = .next s) ∧
  -- the composition
  (∀ k src c, k ≤ 65025 → src ≤ 255 → c ≤ 255 → blend k src c ≤ 255 ∧
    2 * 65025 * blend k src c ≤ 2 * (k * src + (65025 - k) * c) + 65025 ∧
    2 * (k * src + (65025 - k) * c) < 2 * 65025 * blend k src c + 65025) ∧
  (∀ src c, src ≤ 255 → c ≤ 255 → blend 65025 src c = src ∧ blend 0 src c = c)

/-- R345 to R354, R357, R360, R361. The rows of the hot-insertion controllers and the cabinet bus: a sample records VIN, VOUT
and the current and moves the controller by its state; timers, comparators and monitors act in the states that the rules name.
Log entries 142, 151, 153, 155, 156, 194 name the model's own choices in it. -/
def Obligations.HotSwapRows : Prop :=
  ∀ s : State,
    (∀ n, s.ctlOn n = true →
      let st := s.get (HSW_STAT_STATE n)
      -- a sample
      (∀ vin vout cur o, exec (.hswSample n vin vout cur o) s =
        .next ((((s.hswMeasure n vin vout cur).hswWindow n vin).hswSense n o).hswRun n vin vout cur)) ∧
      (∀ vin vout (cur : Int), vin < 65536 → vout < 65536 → -32768 ≤ cur → cur ≤ 32767 →
        let u := s.hswMeasure n vin vout cur;
        u.get (HSW_MEAS_VIN n) = vin ∧ u.get (HSW_MEAS_VOUT n) = vout ∧ signed 16 (u.get (HSW_IMEAS_I n)) = cur) ∧
      (∀ vin, (s.ctl n).oldVsel = none → let u := s.hswWindow n vin;
        u.is (HSW_STAT_VIN_OK n) = s.vinInside n vin ∧ (s.vinInside n vin = true → u.ctl n = s.ctl n) ∧
        (s.vinInside n vin = false → u.ctl n = { s.ctl n with elapsed := false })) ∧
      (s.is (HSW_INJ_SENSE_OPEN n) = false → s.hswSense n false = s.setCtl n { s.ctl n with senseBad := false } ∧
        s.hswSense n true = s.senseOpen n) ∧
      (∀ vin vout cur, s.is (HSW_CFG_EN n) = true → let u := s.hswAdvance n vin vout cur;
        let k := u.get (HSW_STAT_STATE n);
        (k = 2 ∨ k = 3 ∨ k = 4 → s.hswRun n vin vout cur = u) ∧
        (k = 0 ∨ k = 1 ∨ k = 5 ∨ k = 6 → s.hswRun n vin vout cur = u.put (HSW_STAT_BLEED n) (if 80 < vout then 1 else 0))) ∧
      -- the state machine
      (∀ vin vout cur,
        (st = 0 → s.is (HSW_STAT_REQ n) = true → s.hswAdvance n vin vout cur = s.put (HSW_STAT_STATE n) 1) ∧
        (st = 0 → s.is (HSW_STAT_REQ n) = false → s.hswAdvance n vin vout cur = s) ∧
        (st = 1 → s.is (HSW_STAT_REQ n) = false → s.hswAdvance n vin vout cur = s.put (HSW_STAT_STATE n) 0) ∧
        (st = 1 → s.is (HSW_STAT_REQ n) = true → s.is (HSW_CFG_EN n) = true → (s.ctl n).elapsed = true → (s.ctl n).retryRun = false →
          s.is (HSW_STAT_SENSE_OK n) = true → s.is HSW_BUS_STAT_REV = false →
          s.hswAdvance n vin vout cur = (s.put (HSW_STAT_STATE n) 2).gates n 0 1 0) ∧
        (st = 1 → s.is (HSW_STAT_REQ n) = true → ((s.ctl n).elapsed = false ∨ (s.ctl n).retryRun = true ∨
          s.is (HSW_STAT_SENSE_OK n) = false ∨ s.is HSW_BUS_STAT_REV = true) → s.hswAdvance n vin vout cur = s) ∧
        (st = 2 ∨ st = 3 ∨ st = 4 → s.overVoltage n vin vout = true → s.hswAdvance n vin vout cur = s.hswTrip n 3) ∧
        (st = 2 → s.overVoltage n vin vout = false → 90 * vin ≤ 100 * vout →
          s.hswAdvance n vin vout cur = (s.put (HSW_STAT_STATE n) 3).gates n 1 1 0) ∧
        (st = 2 → s.overVoltage n vin vout = false → 100 * vout < 90 * vin → s.hswAdvance n vin vout cur = s) ∧
        (st = 3 → s.overVoltage n vin vout = false → s.is (HSW_STAT_FWARN n) = true → s.hswAdvance n vin vout cur = s) ∧
        (st = 3 → s.overVoltage n vin vout = false → s.is (HSW_STAT_FWARN n) = false → s.overCurrent n cur = true →
          s.hswAdvance n vin vout cur = (s.put (HSW_STAT_FWARN n) 1).raise 0x0B02 n) ∧
        (st = 3 → s.overVoltage n vin vout = false → s.is (HSW_STAT_FWARN n) = false → s.overCurrent n cur = false →
          95 * vin ≤ 100 * vout → s.hswAdvance n vin vout cur = ((s.put (HSW_STAT_STATE n) 4).gates n 1 0 0).powerGood n) ∧
        (st = 3 → s.overVoltage n vin vout = false → s.is (HSW_STAT_FWARN n) = false → s.overCurrent n cur = false →
          100 * vout < 95 * vin → s.hswAdvance n vin vout cur = s) ∧
        (st = 5 ∨ st = 6 → s.hswAdvance n vin vout cur = s)) ∧
      -- timers and comparators
      ((s.ctl n).inserted = true → s.is (HSW_STAT_VIN_OK n) = true →
        exec (.insertionDelayElapsed n) s = .next (s.setCtl n { s.ctl n with elapsed := true })) ∧
      (st = 2 → exec (.prechargeTimeout n) s =
        .next (s.hswTrip n (if s.get (HSW_MEAS_VOUT n) * 10 < s.get (HSW_MEAS_VIN n) then 5 else 4))) ∧
      (st ≠ 2 → exec (.prechargeTimeout n) s = .next s) ∧
      (st = 3 → s.is (HSW_STAT_FWARN n) = false → exec (.settleTimeout n) s = .next (s.hswTrip n 8)) ∧
      (s.is (HSW_STAT_FWARN n) = true → exec (.settleTimeout n) s = .next s ∧
        (s.is (HSW_INJ_OC n) = false → exec (.overcurrentClear n) s = .next ((s.put (HSW_STAT_FWARN n) 0).evalWish n)) ∧
        (s.is (HSW_INJ_OC n) = true → exec (.overcurrentClear n) s = .next s) ∧
        exec (.faultTimerExpiry n) s = .next (s.hswTrip n 1)) ∧
      (s.is (HSW_STAT_FWARN n) = false → exec (.overcurrentClear n) s = .next s ∧ exec (.faultTimerExpiry n) s = .next s) ∧
      exec (.vselWindowTimeout n) s = .next (s.setCtl n { s.ctl n with oldVsel := none }) ∧
      (s.is (HSW_STAT_GATE n) = true ∨ s.is (HSW_STAT_PRE n) = true → exec (.shortCircuitTrip n) s = .next (s.hswTrip n 2)) ∧
      (s.is (HSW_STAT_GATE n) = false → s.is (HSW_STAT_PRE n) = false → exec (.shortCircuitTrip n) s = .next s) ∧
      ((s.ctl n).retryRun = true → (let u := s.setCtl n { s.ctl n with retryRun := false };
        (st = 5 → exec (.retryTimerExpiry n) s =
          .next (u.put (HSW_STAT_STATE n) (if s.is (HSW_STAT_REQ n) then 1 else 0))) ∧
        (st ≠ 5 → exec (.retryTimerExpiry n) s = .next u))) ∧
      (s.is (HSW_STAT_PG n) = true → exec (.powerGoodSecond n) s = .next (s.put (HSW_STAT_TRIPS n) 0)) ∧
      (s.is (HSW_STAT_PG n) = false → exec (.powerGoodSecond n) s = .next s) ∧
      exec (.ccOvpDetect n) s = .next (s.ccOvp n) ∧
      ((s.ctl n).senseBad = false → s.is (HSW_INJ_SENSE_OPEN n) = false →
        exec (.senseOkRestore n) s = .next (s.put (HSW_STAT_SENSE_OK n) 1)) ∧
      ((s.ctl n).senseBad = true ∨ s.is (HSW_INJ_SENSE_OPEN n) = true → exec (.senseOkRestore n) s = .next s)) ∧
    (s.spoutPower = true →
      (s.is HSW_BUS_STAT_REV = false →
        exec .cabinetReversed s = .next (((s.put HSW_BUS_STAT_REV 1).raise 0x0B08 0).detect 0x36 0)) ∧
      (s.is HSW_BUS_STAT_PFW = false → exec .pfwAssert s = .next (let u :=
          (((s.put HSW_BUS_STAT_PFW 1).put HSW_BUS_STAT_PFW_LATCH 1).raise 0x0B06 0).detect 0x35 0;
        (List.range 16).foldl
          (fun u n => if u.policyOn n && u.is (SPT_CONTRACT_VALID n) && u.is (HSW_STAT_PG n) then u.pd n 13 1 else u) u)) ∧
      (s.is HSW_BUS_STAT_PFW = true → exec .pfwAssert s = .next s ∧
        exec .pfwClear s = .next ((s.put HSW_BUS_STAT_PFW 0).raise 0x0B07 0)) ∧
      (s.is HSW_BUS_STAT_PFW = false → exec .pfwClear s = .next s))

/-- R321 to R325, R335 to R338, R369. Attach and moisture: with the policy stopped toggling, debounces and checks do nothing;
toggling, terminations seen, debounces and timeouts move the attach state as the rules say, and a moisture check attaches, wets
or dries the spout. Log entries 142, 143, 145, 146, 150, 154, 194, 197 name the model's own choices in it. -/
def Obligations.SpoutAttachRows : Prop :=
  ∀ (s : State) (n : Nat),
    (s.policyOn n = true →
      let st := s.get (SPT_STAT_STATE n)
      let x := s.spout n
      let mv := fun (u : State) (k : Nat) => u.put (SPT_STAT_STATE n) k
      (st = 1 ∨ st = 2 → x.checking = false → s.get (SPT_CFG_MODE n) = 3 →
        (x.checkDue = false → exec (.drpToggle n) s = .next (mv s (3 - st))) ∧
        (x.checkDue = true → exec (.drpToggle n) s = .next (mv (s.setSpout n { x with checkDue := false, checking := true }) (3 - st)))) ∧
      (s.get (SPT_CFG_MODE n) ≠ 3 ∨ (st ≠ 1 ∧ st ≠ 2) ∨ x.checking = true → exec (.drpToggle n) s = .next s) ∧
      -- terminations
      (s.ctlOn n = true → ∀ cc : CcState, exec (.ccTerminationChange n cc) s = .next ((s.setSpout n { x with cc := cc }).ccChange n cc)) ∧
      (∀ cc : CcState,
        (st = 1 → cc.rd = true → s.ccChange n cc = mv ((s.insertion n).putB (SPT_STAT_ORIENT n) cc.cc2) 3) ∧
        (st = 2 → 0 < cc.rp → s.ccChange n cc = mv ((s.insertion n).putB (SPT_STAT_ORIENT n) cc.cc2) 4) ∧
        (st = 3 → cc.rd = false → s.ccChange n cc = (s.removal n).unattach n) ∧
        (st = 4 → cc.rp = 0 → s.ccChange n cc = (s.removal n).unattach n) ∧
        (st = 6 → s.ccChange n cc = s.setSpout n { x with absent := !cc.rd && cc.rp == 0 }) ∧
        (st = 7 → s.ccChange n cc = s.put (SPT_STAT_PARTNER_RP n) cc.rp) ∧ (st = 0 ∨ st = 12 ∨ st = 13 → s.ccChange n cc = s)) ∧
      -- debounces
      (st = 3 → x.cc.rd = true →
        (s.get (SPT_CFG_MODE n) ≠ 3 ∨ s.get (SPT_CFG_TRY n) ≠ 2 → exec (.attachDebounceExpiry n) s = .next (s.toCheck n)) ∧
        (s.get (SPT_CFG_MODE n) = 3 → s.get (SPT_CFG_TRY n) = 2 → exec (.attachDebounceExpiry n) s = .next (mv s 10))) ∧
      (st = 4 → 0 < x.cc.rp →
        (s.get (SPT_CFG_MODE n) ≠ 3 ∨ s.get (SPT_CFG_TRY n) ≠ 1 → exec (.attachDebounceExpiry n) s = .next (s.attachSnk n)) ∧
        (s.get (SPT_CFG_MODE n) = 3 → s.get (SPT_CFG_TRY n) = 1 → exec (.attachDebounceExpiry n) s = .next (mv s 8))) ∧
      (x.absent = true → x.restoring = false →
        (st = 6 ∨ st = 7 → exec (.detachDebounceExpiry n) s = .next ((s.detach n).unattach n)) ∧
        (st = 5 → exec (.detachDebounceExpiry n) s = .next (((s.withdraw n).removal n).unattach n))) ∧
      (x.absent = false → exec (.detachDebounceExpiry n) s = .next s) ∧
      (st = 8 → exec (.tryTimeout n) s = .next (mv s 9)) ∧ (st = 10 → exec (.tryTimeout n) s = .next (mv s 11)) ∧
      (st = 9 ∨ st = 11 → exec (.tryTimeout n) s = .next ((s.removal n).unattach n)) ∧
      (st = 13 → s.is (HSW_INJ_CC_OVP n) = false → exec (.errorRecoveryTimeout n) s = .next (s.unattach n)) ∧
      (st = 13 → s.is (HSW_INJ_CC_OVP n) = true → exec (.errorRecoveryTimeout n) s = .next s) ∧ (st ≠ 13 → exec (.errorRecoveryTimeout n) s = .next s) ∧
      (let m := s.get (SPT_CFG_MODE n); s.unattach n = mv s (if m = 0 then 0 else if m = 1 then 1 else 2)) ∧
      -- moisture
      (st = 1 ∨ st = 2 →
        (s.get (SPT_CFG_MODE n) = 3 → exec (.moistureCheckDue n) s = .next (s.setSpout n { x with checkDue := true })) ∧
        (s.get (SPT_CFG_MODE n) ≠ 3 → exec (.moistureCheckDue n) s = .next (s.setSpout n { x with checking := true }))) ∧
      (st = 6 ∨ st = 7 ∨ st = 12 → exec (.moistureCheckDue n) s = .next (s.setSpout n { x with checking := true })) ∧
      (x.checking = false → ∀ y g, exec (.moistureCheckDone n y g) s = .next s) ∧
      (x.checking = true → s.is (SPT_INJ_WET n) = false → ∀ y g : List Nat,
        let lines := [0, 1, 2, 3].filter (fun i => !s.skipped n i);
        let ys := lines.map (fun i => y.getD i 0);
        let day := if lines.isEmpty then x.dayG.getD 0 else max (x.dayG.getD 0) (largest (lines.map (fun i => g.getD i 0)));
        let v := s.setSpout n { x with checking := false, dayG := some day };
        let u := (v.put (SPT_WET_STAT_LAST_YX n) (min (largest ys) 255)).putB (SPT_WET_STAT_MEAS_SKIP n) lines.isEmpty;
        let wet := ∃ a, a ∈ ys ∧ s.get (SPT_WET_CFG_WET_THR n) < a;
        let dry := ∀ a, a ∈ ys → a < s.get (SPT_WET_CFG_DRY_THR n);
        (wet → ¬ dry → exec (.moistureCheckDone n y g) s = .next (if st = 12 then u.put (SPT_WET_STAT_DRY_CNT n) 0 else u.enterWet n)) ∧
        (¬ wet → dry → (st = 5 → exec (.moistureCheckDone n y g) s = .next (u.attachSrc n)) ∧
          (st = 12 → exec (.moistureCheckDone n y g) s = .next (u.dryCheck n)) ∧
          (st ≠ 5 → st ≠ 12 → exec (.moistureCheckDone n y g) s = .next u))) ∧
      -- the leak log
      (let i := (s.get (SPT_LEAK_IDX_NEWEST n) + 1) % 32;
        x.dayG = none → exec (.leakLogDay n) s = .next ((((s.put (SPT_LEAK_IDX_NEWEST n) i).put (SPT_LEAK_LOG_VALID n i) 0).put
          (SPT_LEAK_LOG_G n i) 0).setSpout n { x with rises := 0 }))) ∧
    (s.policyOn n = false → ∀ y g, exec (.drpToggle n) s = .next s ∧ exec (.attachDebounceExpiry n) s = .next s ∧
      exec (.detachDebounceExpiry n) s = .next s ∧ exec (.moistureCheckDone n y g) s = .next s) ∧
    (s.ctlOn n = true → ∀ b, exec (.vbusSenseChange n b) s = .next ((s.setSpout n { s.spout n with
      vbus := b, absent := if s.get (SPT_STAT_STATE n) = 7 then !b else (s.spout n).absent }).usbPower n))

/-- R319, R320, R326 to R330, R359, R362. Power Delivery on an attached spout: capabilities, requests and contracts, and the
swaps with their answers, Wait and its repeats, Hard Reset and Soft_Reset. Log entries 147, 148, 151, 152, 193 name the model's
own choices in it. -/
def Obligations.SpoutPolicyRows : Prop :=
  ∀ (s : State) (n : Nat), s.policyOn n = true → s.attached n = true →
    let x := s.spout n
    let src := s.is (SPT_STAT_PWR_ROLE n) = true
    let snk := s.is (SPT_STAT_PWR_ROLE n) = false
    -- contracts
    (src → ∀ o i v c, o ≠ 0 → x.offered[o - 1]? = some (v, c) →
      (i ≤ c → exec (.request n o i) s = .next (((s.setSpout n { x with asked := some (o, i, v), askedCur := c }).pd n 3 0).setVsel n v)) ∧
      (c < i → exec (.request n o i) s = .next (s.pd n 4 0))) ∧
    (src → ∀ o i, o = 0 ∨ x.offered[o - 1]? = none → exec (.request n o i) s = .next (s.pd n 4 0)) ∧
    (snk → ∀ o i, exec (.request n o i) s = .next s) ∧
    (∀ o i v, x.asked = some (o, i, v) →
      (s.is (HSW_STAT_PG n) = true → exec (.voutSettled n) s =
        .next (((s.setSpout n { x with asked := none, pdoCur := x.askedCur }).pd n 6 0).showContract n o i v)) ∧
      (s.is (HSW_STAT_PG n) = false → exec (.voutSettled n) s = .next s) ∧
      exec (.contractSettleTimeout n) s = .next (((s.raise 0x0A04 n).detect 0x2F n).sendHardReset n)) ∧
    (x.asked = none → exec (.voutSettled n) s = .next s ∧ exec (.contractSettleTimeout n) s = .next s) ∧
    (snk → exec (.sourceCapabilities n) s = .next ((s.setSpout n { x with sinkReq := 1 }).pd n 2 1034)) ∧
    exec (.getSinkCap n) s = .next (s.pd n 7 0) ∧ exec (.getSourceCap n) s = .next (s.sendCaps n) ∧
    exec (.getStatus n) s = .next (s.pd n 14 (if s.is HSW_BUS_STAT_PFW then 0 else 1)) ∧
    exec (.notSupportedAnswer n) s = .next (s.pd n 12 0) ∧
    (snk → exec (.softReset n) s =
      .next ((s.setSpout n { x with asked := none, sinkReq := 0, mine := 0, again := 0 }).pd n 3 0)) ∧
    (src → exec (.softReset n) s =
      .next (((s.setSpout n { x with asked := none, sinkReq := 0, mine := 0, again := 0 }).pd n 3 0).sendCaps n)) ∧
    -- PR_Swap from the partner
    (x.mine = 1 → (src → exec (.prSwap n) s = .next (s.answerWait n 1)) ∧
      (snk → exec (.prSwap n) s = .next (let u := s.answerWait n 1; u.setSpout n { u.spout n with mine := 0, again := 1 }))) ∧
    (x.mine ≠ 1 → (s.is (SPT_POLICY_PRS_ACC n) = false ∨ s.is (SPT_STAT_PWR_ROLE n) ≠ s.is (SPT_POLICY_PR_WANT n) ∨ x.swapping ≠ 0) →
      exec (.prSwap n) s = .next ((s.swapResult n 1 2).pd n 4 0)) ∧
    (x.mine ≠ 1 → s.is (SPT_POLICY_PRS_ACC n) = true → s.is (SPT_STAT_PWR_ROLE n) = s.is (SPT_POLICY_PR_WANT n) → x.swapping = 0 →
      (src → s.is (HSW_STAT_FWARN n) = true → exec (.prSwap n) s = .next (s.answerWait n 1)) ∧
      (src → s.is (HSW_STAT_FWARN n) = false → exec (.prSwap n) s = .next ((s.pd n 3 0).startPr n)) ∧
      (snk → s.get (HSW_STAT_STATE n) = 6 ∨ s.is (HSW_STAT_SENSE_OK n) = false ∨ s.is HSW_BUS_STAT_REV = true →
        exec (.prSwap n) s = .next ((s.swapResult n 1 2).pd n 4 0)) ∧
      (snk → s.is (HSW_STAT_SENSE_OK n) = true → s.is HSW_BUS_STAT_REV = false → s.get (HSW_STAT_STATE n) = 5 →
        exec (.prSwap n) s = .next (s.answerWait n 1)) ∧
      (snk → s.is (HSW_STAT_SENSE_OK n) = true → s.is HSW_BUS_STAT_REV = false → s.get (HSW_STAT_STATE n) ≠ 5 →
        s.get (HSW_STAT_STATE n) ≠ 6 → (s.ctl n).retryRun = false → exec (.prSwap n) s = .next ((s.pd n 3 0).startPr n))) ∧
    -- DR_Swap and VCONN_Swap
    (x.mine ≠ 2 → s.is (SPT_POLICY_DRS_ACC n) = true → s.is (SPT_STAT_DATA_ROLE n) = s.is (SPT_POLICY_DR_WANT n) → x.swapping = 0 →
      exec (.drSwap n) s = .next ((s.pd n 3 0).flipData n)) ∧
    (x.mine ≠ 2 → s.is (SPT_POLICY_DRS_ACC n) = false ∨ s.is (SPT_STAT_DATA_ROLE n) ≠ s.is (SPT_POLICY_DR_WANT n) →
      exec (.drSwap n) s = .next ((s.swapResult n 2 2).pd n 4 0)) ∧
    (s.is (SPT_POLICY_VCS_ACC n) = false → exec (.vconnSwap n) s = .next ((s.swapResult n 3 2).pd n 4 0)) ∧
    (s.is (SPT_POLICY_VCS_ACC n) = true → x.swapping = 0 → s.is (SPT_STAT_VCONN n) = true →
      exec (.vconnSwap n) s = .next ((s.pd n 3 0).setSpout n { x with swapping := 3 })) ∧
    -- the answers to the hub's own requests
    (x.mine = 1 → exec (.accept n) s = .next (s.startPr n)) ∧ (x.mine = 2 → exec (.accept n) s = .next (s.flipData n)) ∧
    (x.mine = 0 → x.sinkReq = 1 → exec (.accept n) s = .next (s.setSpout n { x with sinkReq := 2 })) ∧
    (x.mine = 1 → exec (.reject n) s = .next (((s.setSpout n { x with mine := 0, noPr := true }).swapResult n 1 2).evalWish n)) ∧
    (x.mine = 2 → exec (.reject n) s = .next (((s.setSpout n { x with mine := 0, noDr := true }).swapResult n 2 2).evalWish n)) ∧
    (x.mine ≠ 0 → s.get (SPT_SWAP_STAT_RETRIES n) < 10 →
      exec (.waitAnswer n) s = .next ((s.setSpout n { x with mine := 0, again := x.mine }).swapResult n x.mine 3)) ∧
    (x.mine = 1 → 10 ≤ s.get (SPT_SWAP_STAT_RETRIES n) →
      exec (.waitAnswer n) s = .next ((s.setSpout n { x with mine := 0, noPr := true }).swapResult n 1 4)) ∧
    (x.again = 1 → s.wishPr n = true → s.is (HSW_STAT_FWARN n) = false → exec (.swapRetryTimer n) s =
      .next (((s.setSpout n { x with again := 0, mine := 1 }).bump (SPT_SWAP_STAT_RETRIES n)).pd n 8 0)) ∧
    (x.again = 1 → s.wishPr n = false → exec (.swapRetryTimer n) s = .next ((s.setSpout n { x with again := 0 }).evalWish n)) ∧
    (x.again = 0 → exec (.swapRetryTimer n) s = .next s) ∧
    (x.swapping = 1 → src → exec (.psRdy n) s = .next ((s.setPower n false).swapDone n 1)) ∧
    (x.swapping = 1 → snk → x.toSource = false →
      exec (.psRdy n) s = .next ((s.setSpout n { x with toSource := true }).put (HSW_STAT_REQ n) 1)) ∧
    (x.swapping = 3 → exec (.psRdy n) s = .next ((s.put (SPT_STAT_VCONN n) 0).swapDone n 3)) ∧
    (x.swapping = 0 → x.sinkReq = 2 → exec (.psRdy n) s = .next ((s.setSpout n { x with sinkReq := 0 }).showContract n 1 10 0)) ∧
    exec (.hardReset n) s = .next (s.hardResetRun n) ∧
    (x.restoring = true → exec (.hardResetVbusRestore n) s =
      .next ((s.setSpout n { x with restoring := false }).put (HSW_STAT_REQ n) 1)) ∧
    (x.restoring = false → exec (.hardResetVbusRestore n) s = .next s)

/-- R331 to R334. Alternate modes and the Spout Alternate Mode link: the partner's ACK sets the multiplexer, a NAK leaves it,
discovery goes on, and SAM frames are checked, credited and landed in the context of their stream. Log entries 16, 25, 30, 124,
125, 196 name the model's own choices in it. -/
def Obligations.SpoutModeRows : Prop :=
  ∀ (s : State) (n : Nat), s.policyOn n = true →
    let x := s.spout n
    (x.entering ≠ 0 →
      exec (.enterModeAck n) s = .next (((((s.setSpout n { x with entering := 0 }).put (SPT_ALT_STAT_MUX n) x.entering).raise
        0x0A07 n).evalOutput n).modeAnswer n 0) ∧
      exec (.enterModeNak n) s = .next (((s.setSpout n { x with entering := 0 }).raise 0x0A08 n).modeAnswer n 1)) ∧
    (x.entering = 0 → exec (.enterModeAck n) s = .next s ∧ exec (.enterModeNak n) s = .next s) ∧
    (x.exiting = true → exec (.exitModeAck n) s = .next (((s.setSpout n { x with exiting := false }).raise 0x0A07 n).modeAnswer n 0)) ∧
    (x.exiting = false → exec (.exitModeAck n) s = .next s) ∧
    (∀ h l, s.get (SPT_ALT_STAT_MUX n) = 1 → exec (.attention n h l) s = .next (s.hpdChange n h l)) ∧
    (∀ h l, s.get (SPT_ALT_STAT_MUX n) ≠ 1 → exec (.attention n h l) s = .next s) ∧
    -- discovery
    (s.attached n = true → ∀ v : List Nat,
      (x.disc = 1 → exec (.discoverResponse n .identity v) s = .next ((s.setSpout n { x with partnerVdos := v, disc := 2 }).pd n 17 0)) ∧
      exec (.discoverResponse n .cableIdentity v) s = .next (s.setSpout n { x with cableVdos := v }) ∧
      (let m := if s.modeOn n (s.get (SPT_ALT_CFG_AUTO_MODE n)) = true then s.get (SPT_ALT_CFG_AUTO_MODE n) else 0;
        (x.disc = 2 → m = 1 ∨ m = 2 → v.contains (if m = 1 then 0xFF01 else 0x2F1C) = true →
          exec (.discoverResponse n .svids v) s = .next ((s.setSpout n { x with disc := 3 }).pd n 18 0)) ∧
        (x.disc ≠ 2 ∨ m = 0 → exec (.discoverResponse n .svids v) s = .next (s.setSpout n { x with disc := 0 })) ∧
        (x.disc = 3 → s.is (SPT_STAT_DATA_ROLE n) = true → m = 1 ∨ m = 2 ∧ bit (v.headD 0) 0 = true →
          exec (.discoverResponse n .modes v) s =
            .next ((s.setSpout n { x with disc := 0, entering := m, byCommand := false }).pd n 19 m)))) ∧
    -- the SAM link
    (n < s.nWide →
      (s.get (SPT_ALT_STAT_MUX n) = 2 → s.is (SPT_ALT_STAT_SAM_UP n) = false → exec (.samLinkUp n) s =
        .next (((s.put (SPT_ALT_STAT_SAM_UP n) 1).raise 0x0A09 n).samGrant n)) ∧
      (s.get (SPT_ALT_STAT_MUX n) ≠ 2 → exec (.samLinkUp n) s = .next s) ∧
      (s.is (SPT_ALT_STAT_SAM_UP n) = true → ∀ r : Bytes,
        let h := beAt r 0 8;
        let len := bits h 55 42;
        (h / 2 ^ 60 = 0 → r.length ≠ len + 12 ∨ len = 0 ∨ 16368 < len ∨ crc32c (r.take (8 + len)) ≠ beAt r (8 + len) 4 →
          exec (.samFrameReceive n r) s = .next (s.bump (SPT_ALT_STAT_CRC_ERR n))) ∧
        (h / 2 ^ 60 = 0 → r.length = len + 12 → len ≠ 0 → len ≤ 16368 → crc32c (r.take (8 + len)) = beAt r (8 + len) 4 →
          (s.noRoom len = true → exec (.samFrameReceive n r) s = .next s) ∧
          (s.noRoom len = false → exec (.samFrameReceive n r) s = .next (
            let u := s.setSpout n { x with samOut := x.samOut - cellsFor len };
            let k := bits h 59 56;
            let c := u.get (SPT_STREAM_CTX n k);
            let w := u.landStream { data := slice r 8 len, stamp := u.hubTime, src := 12 + n, port := 12 + n, ctx := c,
                                    gen := u.sliceGen (u.ctxSlice c), early := u.is (CTX_CFG_EARLY c) && decide (256 < len) };
            (if w.2.is (SPT_STREAM_EN n k) then w.2.pendChain w.1 c else w.2.sump w.1 9).settle))) ∧
        (h / 2 ^ 60 = 1 → exec (.samFrameReceive n r) s = .next (s.setSpout n { x with samTx := x.samTx + bits h 41 26 })) ∧
        (2 ≤ h / 2 ^ 60 → exec (.samFrameReceive n r) s = .next s)))

/-- R371 to R374, R377, R379. The command ring of a USB bus and its polls: descriptors enter in ring order while valid, the
command at the head acts on the slot it names, completes with its status and leaves the ring, and a descriptor of unknown TYPE
halts its ring. Log entries 127, 128, 129, 130, 131, 132, 134, 135, 136, 200 name the model's own choices in it. -/
def Obligations.UsbRingRows : Prop :=
  ∀ (s : State) (k : Nat), s.busOn k = true →
    let b := s.bus k
    -- the head command
    (∀ (d : Desc) (l : List Desc), b.cmds = d :: l → b.cmdHalt = false → b.cmdBusy = false →
      let type := bits d.ctrl 13 8
      let e := bits d.ctrl 31 24
      let p := bits d.ctrl 23 20
      let st := s.get (USB_EP_STAT_STATE k e)
      let u := s.slot k e
      (type = 0x10 → e ≠ 0 → ∀ r : Bytes, (s.epCheck k e r ≠ 1 → exec (.epConfig k e r) s = .next (s.endCommand k (s.epCheck k e r))) ∧
        (s.epCheck k e r = 1 → exec (.epConfig k e r) s = .next (((((((s.dropOut k e).setSlot k e (epSlot r)).put
          (USB_EP_STAT_STATE k e) 2).put (USB_EP_STAT_MODE k e) (leAt r 9 1 / 128)).put (USB_EP_STAT_ADDR k e) (leAt r 8 1)).put
            (USB_EP_STAT_EPNUM k e) (leAt r 9 1 % 16)).put (USB_EP_STAT_PORT k e) (leAt r 12 1 % 16) |>.endCommand k 1))) ∧
      (type = 0x11 → e ≠ 0 → (st = 0 → exec (.epDisable k e) s = .next (s.endCommand k 0x0C)) ∧
        (st ≠ 0 → exec (.epDisable k e) s =
          .next (((s.disableSlot k e 0x0A).put (USB_EP_STAT_ADDR k e) (s.get (USB_EP_STAT_ADDR k e))).endCommand k 1))) ∧
      (type = 0x12 → e ≠ 0 → (st ≠ 3 → exec (.epReset k e) s = .next (s.endCommand k 0x0C)) ∧
        (st = 3 → exec (.epReset k e) s = .next (((s.put (USB_EP_STAT_STATE k e) 2).setSlot k e
          { u with toggle := false, errs := 0, ping := false, split := false }).endCommand k 1))) ∧
      (type = 0x13 → e ≠ 0 → (st ≠ 1 → exec (.epStop k e) s = .next (s.endCommand k 0x0C)) ∧
        (st = 1 → u.q = [] → exec (.epStop k e) s = .next ((s.put (USB_EP_STAT_STATE k e) 2).endCommand k 1)) ∧
        (∀ x q, st = 1 → u.q = x :: q → 0 < u.moved → exec (.epStop k e) s =
          .next (((s.put (USB_EP_STAT_STATE k e) 2).transferRecord k e x (u.residual x) 0x0A).endCommand k 1))) ∧
      (type = 0x14 → e ≠ 0 → (st = 0 ∨ st = 1 → exec (.setDeq k e d.param) s = .next (s.endCommand k 0x0C)) ∧
        (st = 2 ∨ st = 3 → exec (.setDeq k e d.param) s = .next (let w := s.dropBuf k e; (w.setSlot k e { w.slot k e with
          deq := d.param / 16 * 16, cyc := bit d.param 0, fetching := false, q := [], moved := 0, begun := false }).endCommand k 1))) ∧
      (type = 0x1A → e ≠ 0 →
        (st ≠ 0 → s.slotPort k e = p → u.ttHub = 0 → u.kind = 0 ∨ u.kind = 2 →
          exec (.ttClear k e p) s = .next ((s.setSlot k e { u with split := false }).endCommand k 1)) ∧
        (st = 0 ∨ u.ttHub ≠ 0 → exec (.ttClear k e p) s = .next (s.endCommand k 1))) ∧
      -- a row for another command than the head's has no effect
      (type ≠ 0x10 → ∀ e r, exec (.epConfig k e r) s = .next s) ∧ (type ≠ 0x11 → ∀ e, exec (.epDisable k e) s = .next s) ∧
      (type = 0x12 → ∀ e', e' ≠ e → exec (.epReset k e') s = .next s) ∧
      -- an unknown TYPE
      (type < 0x10 ∨ 0x1B < type → exec (.ringErr k 0) s = .next ((s.setBus k { b with cmdHalt := true }).endCommand k 0x0F)) ∧
      (0x10 ≤ type → type ≤ 0x1B → exec (.ringErr k 0) s = .next s)) ∧
    (∀ e d l, e ≠ 0 → (s.slot k e).q = d :: l → s.get (USB_EP_STAT_STATE k e) = 1 → bits d.ctrl 13 8 = 0 ∨ 5 < bits d.ctrl 13 8 →
      exec (.ringErr k e) s = .next (s.haltSlot k e 0x0F)) ∧
    -- a completed command leaves the ring with its record
    (∀ d l c, b.cmds = d :: l → s.endCommand k c = (s.setBus k { b with cmds := l, cmdBusy := false }).commandRecord k d c) ∧
    -- reading descriptors in ring order
    (∀ a c, takeDescs a c [] = ([], a, c, false)) ∧
    (∀ a c (x : Bytes) l, bit (leAt x 12 4) 0 ≠ c → takeDescs a c (x :: l) = ([], a, c, true)) ∧
    (∀ a c (x : Bytes) l, bit (leAt x 12 4) 0 = c → bits (leAt x 12 4) 13 8 ≠ 6 →
      takeDescs a c (x :: l) = (let r := takeDescs (a + 16) c l; (toDesc a x :: r.1, r.2))) ∧
    (∀ a c (x : Bytes) l, bit (leAt x 12 4) 0 = c → bits (leAt x 12 4) 13 8 = 6 →
      takeDescs a c (x :: l) = takeDescs (leAt x 0 8 / 16 * 16) (c != bit (leAt x 12 4) 1) l) ∧
    (∀ t l, s.ringsAway = false → b.cmdFetching = true → s.fetchTag k b.cmdDeq = some t → ∃ v, exec (.descriptorFetchDone k 0 l) s =
      .next v ∧ (let r := takeDescs b.cmdDeq b.cmdCyc l; let w := s.freeUp t;
        let w := w.setBus k { w.bus k with cmds := (w.bus k).cmds ++ r.1, cmdDeq := r.2.1, cmdCyc := r.2.2.1, cmdFetching := false };
        v = if r.2.2.2 = true ∨ l = [] ∨ w.ringFull k = true then w else w.ringCommand k)) ∧
    (b.cmdFetching = false → ∀ l, exec (.descriptorFetchDone k 0 l) s = .next s) ∧
    -- the poll
    (∀ a, let u := s.setBus k { b with told := false };
      let u := if s.slowPoll k then u else u.put (USB_BUS_STAT_FRINDEX k) (u.get (USB_BUS_STAT_FRINDEX k) + 1);
      (s.ringsAway = true ∨ s.pasid (s.busSlice k) = none → exec (.doorbellPoll k a) s = .next (u.writeRecords k)) ∧
      (∀ pid, s.ringsAway = false → s.pasid (s.busSlice k) = some pid → exec (.doorbellPoll k a) s = .next (
        let w := (u.setBus k { u.bus k with cons := leAt a 256 4 % u.get (USB_EVR_SIZE_SIZE k) }).writeRecords k;
        if w.ringFull k then w
        else ((List.range (if s.slowPoll k then 1 else 256)).filter (fun e => leAt a e 1 != assocGet 0 (w.bus k).db e)).foldl
          (fun u e => let v := u.setBus k { u.bus k with db := assocSet 0 e (leAt a e 1) (u.bus k).db };
            if e = 0 then v.ringCommand k else v.ringSlot k e) w))) ∧
    (s.writeRecords k = (
      let u := s.flushHeld k 16;
      let u := if u.ringFull k && !(u.bus k).held.isEmpty then u.raise 0x0C04 k else u;
      (List.range 16).foldl (fun u p => if bit (u.bus k).hostResume p then u else u.portRecord k p) u)) ∧
    (b.cmdFetching = false → b.cmdHalt = false →
      s.ringCommand k = (s.setBus k { b with cmdFetching := true }).fetchFrom k b.cmdDeq)

/-- R370, R377, R378, R380 to R384. The ports and the transactions of a USB bus: resets, suspend, resume and remote wake,
connection, and what each result of a transaction does to a running slot. Log entries 132, 133, 134, 200, 201 name the model's
own choices in it. -/
def Obligations.UsbPortRows : Prop :=
  ∀ (s : State) (k : Nat), s.busOn k = true →
    let b := s.bus k
    (∀ (d : Desc) (l : List Desc), b.cmds = d :: l → b.cmdHalt = false → b.cmdBusy = false →
      let type := bits d.ctrl 13 8
      let p := bits d.ctrl 23 20
      (type = 0x15 → (s.portBit k p 0 = true → exec (.portReset k p) s = .next ((s.startReset k p).holdCommand k)) ∧
        (s.portBit k p 0 = false → exec (.portReset k p) s = .next (s.endCommand k 0x0C))) ∧
      (type = 0x1B → let ps := (List.range 16).filter (fun p => s.portBit k p 0);
        (ps = [] → exec (.busReset k) s = .next (s.endCommand k 1)) ∧
        (ps ≠ [] → exec (.busReset k) s = .next ((ps.foldl (fun s p => s.startReset k p) s).holdCommand k))) ∧
      (type = 0x16 → (s.portBit k p 1 = true → s.portBit k p 2 = false →
          exec (.portSuspend k p) s = .next ((s.suspend k [p]).endCommand k 1)) ∧
        (s.portBit k p 1 = false ∨ s.portBit k p 2 = true → exec (.portSuspend k p) s = .next (s.endCommand k 0x0C))) ∧
      (type = 0x18 → (s.is (USB_BUS_STAT_SUSP k) = true → exec (.busSuspend k) s = .next (s.endCommand k 0x0C)) ∧
        (s.is (USB_BUS_STAT_SUSP k) = false → exec (.busSuspend k) s = .next (
          let ps := (List.range 16).filter (fun p => s.portBit k p 1 && !s.portBit k p 2);
          let u := (s.suspend k ps).put (USB_BUS_STAT_RUN k) 0;
          ((u.setBus k { u.bus k with byBus := ps.foldl (fun m p => setBit m p true) 0 }).put (USB_BUS_STAT_SUSP k) 1).endCommand k 1))) ∧
      (type = 0x17 → s.resuming k p = false →
        (s.portBit k p 2 = true → exec (.portResume k p) s = .next ((s.driveResume k true [p]).holdCommand k)) ∧
        (s.portBit k p 2 = false → exec (.portResume k p) s = .next (s.endCommand k 0x0C))) ∧
      (type = 0x19 → (s.is (USB_BUS_STAT_SUSP k) = false → exec (.busResume k) s = .next (s.endCommand k 0x0C)) ∧
        (s.is (USB_BUS_STAT_SUSP k) = true → bitList b.byBus 16 = [] →
          exec (.busResume k) s = .next (((s.put (USB_BUS_STAT_SUSP k) 0).put (USB_BUS_STAT_RUN k) 1).endCommand k 1)) ∧
        (s.is (USB_BUS_STAT_SUSP k) = true → bitList b.byBus 16 ≠ [] → (bitList b.byBus 16).any (s.resuming k) = false →
          exec (.busResume k) s = .next ((s.driveResume k true (bitList b.byBus 16)).holdCommand k)))) ∧
    (∀ p v, p < 16 →
      (s.portBit k p 4 = true → exec (.portResetEnd k p v) s = .next (((((s.setPort k p 4 false).setPort k p 1 true).portSpeed k p
        v).setPort k p 20 true |>.portRecord k p).resetEnded k p 1)) ∧
      (s.portBit k p 4 = false → exec (.portResetEnd k p v) s = .next s) ∧
      (bit b.suspending p = true → exec (.suspendIdle k p) s = .next (((s.setBus k { b with
        suspending := setBit b.suspending p false }).setPort k p 2 true).setPort k p 18 true |>.emit (.usb k 3 p []))) ∧
      (bit b.suspending p = false → exec (.suspendIdle k p) s = .next s) ∧
      (s.resuming k p = false → exec (.resumeEnd k p) s = .next s) ∧
      (s.resuming k p = true → exec (.resumeEnd k p) s = .next (
        let u := s.setBus k { b with hostResume := setBit b.hostResume p false, wakeResume := setBit b.wakeResume p false,
                                     suspending := setBit b.suspending p false, byBus := setBit b.byBus p false };
        let u := ((u.setPort k p 2 false).setPort k p 18 true).portRecord k p;
        let z := u.is (USB_BUS_STAT_SUSP k) && (u.bus k).byBus == 0;
        let u := if z then (u.put (USB_BUS_STAT_SUSP k) 0).put (USB_BUS_STAT_RUN k) 1 else u;
        (u.finishCommand k 0x17 (onPort p) true 1).finishCommand k 0x19 (fun _ => true) z 1)) ∧
      (s.portBit k p 2 = false → exec (.remoteWake k p) s = .next s) ∧
      (s.portBit k p 2 = true → s.is (USB_BUS_STAT_SUSP k) = false → s.resuming k p = false →
        exec (.remoteWake k p) s = .next ((s.setPort k p 21 true).driveResume k false [p])) ∧
      (s.portBit k p 5 = true → s.portBit k p 0 = false → exec (.usbConnectChange k p true v) s =
        .next (((s.setPort k p 0 true).portSpeed k p v).setPort k p 16 true)) ∧
      (s.portBit k p 5 = true → exec (.usbConnectChange k p false v) s = .next (s.unplug k p)) ∧
      (s.portBit k p 5 = false → ∀ c, exec (.usbConnectChange k p c v) s = .next s)) ∧
    -- transactions
    (∀ e, let p := s.slotPort k e
      let u := s.slot k e
      s.portBit k p 1 = true → s.portBit k p 2 = false → s.portBit k p 4 = false → s.slotSt k e = 1 →
      (u.bad = true → ∀ r, exec (.usbTransactionResult k e r) s =
        .next (((s.setSlot k e { u with bad := false }).endDesc k e 9).askOut k e)) ∧
      (u.bad = false → s.slotBusy k e = true →
        exec (.usbTransactionResult k e .stall) s = .next ((s.haltSlot k e 3).askOut k e) ∧
        (s.outReady k e = true → exec (.usbTransactionResult k e .ack) s = .next ((s.dataOut k e false).askOut k e)) ∧
        (s.outReady k e = false → exec (.usbTransactionResult k e .ack) s = .next (s.askOut k e)) ∧
        (∀ d sh, s.slotIn k e = true → s.inHeld k e d.length = false → b.inj = false →
          exec (.usbTransactionResult k e (.inData d sh)) s =
            .next ((s.dataIn k e d (sh || decide (d.length < u.mps))).askOut k e)) ∧
        (∀ d sh, s.slotIn k e = true → s.inHeld k e d.length = false → b.inj = true →
          exec (.usbTransactionResult k e (.inData d sh)) s =
            .next (((s.setBus k { b with inj := false }).usbError k e).askOut k e)) ∧
        (∀ d sh, s.slotIn k e = false ∨ s.inHeld k e d.length = true →
          exec (.usbTransactionResult k e (.inData d sh)) s = .next (s.askOut k e)) ∧
        exec (.usbTransactionResult k e .nak) s = .next ((s.setSlot k e { u with
          errs := 0, ping := u.pings && !s.slotIn k e, split := false }).askOut k e) ∧
        (u.kind ≠ 1 → u.errs < 2 → exec (.usbTransactionResult k e .error) s = .next (let w := s.bump (USB_CNT_COUNT k 0);
          (w.setSlot k e { u with errs := u.errs + 1, split := false }).askOut k e)) ∧
        (u.kind ≠ 1 → 2 ≤ u.errs → exec (.usbTransactionResult k e .error) s =
          .next ((((s.bump (USB_CNT_COUNT k 0)).haltSlot k e 4).detect 0x37 k).askOut k e)) ∧
        exec (.usbTransactionResult k e .babble) s = .next (let w := (s.haltSlot k e 5).bump (USB_CNT_COUNT k 3);
          (((w.setPort k p 1 false).setPort k p 17 true).detect 0x38 k).askOut k e))) ∧
    (∀ e r, s.portBit k (s.slotPort k e) 1 = false → exec (.usbTransactionResult k e r) s = .next s) ∧
    -- a slot that halts
    (∀ e c d q, (s.slot k e).q = d :: q → s.haltSlot k e c = (
      let w := ((s.put (USB_EP_STAT_STATE k e) 3).transferRecord k e d ((s.slot k e).residual d) c).dropBuf k e;
      (w.setSlot k e { w.slot k e with
        q := (w.slot k e).q.drop 1, moved := 0, begun := false, gather := [], errs := 0, split := false }).raise 0x0C03 (k * 256 + e)))

/-- R430 to R432, R434, R441, R444, R446. The rows of the cascade group: a port starts, fails to lock, restarts; a HELLO is
refused with its cause or brings the link up; a link goes down; a member is heard, and marked down; a group-wide swap is
prepared, answered, committed and called off. Log entries 80, 81, 86, 87, 182, 207 name the model's own choices in it. -/
def Obligations.CascadeRows : Prop :=
  ∀ s : State,
    -- R430: start, lock timeout, restart
    (∀ p, s.casPortOn p = true → let st := s.get (CAS_PORT_STAT_STATE (p - 1));
      (st = 0 → exec (.casPortStart p) s = .next ((s.put (CAS_PORT_STAT_STATE (p - 1)) 1).sendMarkers p)) ∧
      (st ≠ 0 → exec (.casPortStart p) s = .next s) ∧
      (st = 1 ∨ st = 2 → exec (.casLockTimeout p) s =
        .next ((s.put (CAS_PORT_STAT_STATE (p - 1)) 4).put (CAS_PORT_STAT_CAUSE (p - 1)) 1)) ∧
      (st ≠ 1 → st ≠ 2 → exec (.casLockTimeout p) s = .next s) ∧
      (st = 4 → exec (.casRestartTimer p) s = .next ((s.put (CAS_PORT_STAT_STATE (p - 1)) 1).sendMarkers p)) ∧
      (st ≠ 4 → exec (.casRestartTimer p) s = .next s) ∧
      -- R431: HELLO
      (∀ id role links trunk recs, st = 1 ∨ st = 2 → let u := s.sendHello p;
        ((s.helloRefused p id role ≠ 0 → exec (.hello p id role links trunk recs) s =
            .next ((((u.put (CAS_PORT_STAT_STATE (p - 1)) 4).put (CAS_PORT_STAT_CAUSE (p - 1)) (s.helloRefused p id role)).raise
              0x1005 (p - 1)).detect 0x25 (p - 1))) ∧
         (s.helloRefused p id role = 0 →
            let w := (((u.put (CAS_PORT_STAT_STATE (p - 1)) 3).put (CAS_PORT_STAT_PEER_ID (p - 1)) id).startLink p).raise 0x1001 (p - 1);
            exec (.hello p id role links trunk recs) s =
              .next ((w.hearMember (w.memberAt p) links trunk).takeRecords recs).tellLinks))) ∧
      (∀ id role links trunk recs, st ≠ 1 → st ≠ 2 → exec (.hello p id role links trunk recs) s = .next s) ∧
      -- R432: the link goes down
      (s.linkUp p = true → exec (.casLinkFault p) s = .next (s.casLinkDown p 1) ∧
        exec (.casSilenceTimeout p) s = .next (s.casLinkDown p 5)) ∧
      (s.linkUp p = false → exec (.casLinkFault p) s = .next s ∧ exec (.casSilenceTimeout p) s = .next s) ∧
      -- R434, R441: LINK_STATE
      (∀ links trunk, s.linkUp p = true →
        exec (.linkState p (s.memberAt p) (if s.dock then 1 else 0) links trunk) s = .next (s.hearMember (s.memberAt p) links trunk))) ∧
    -- the causes of a refused HELLO
    (∀ p id role, (s.helloRefused p id role = 0 ↔ id ≠ s.self ∧ id = s.memberAt p ∧ role = (if s.dock then 1 else 0)) ∧
      (id = s.self → s.helloRefused p id role = 3) ∧
      (id ≠ s.self → id ≠ s.memberAt p → s.helloRefused p id role = 2) ∧
      (id ≠ s.self → id = s.memberAt p → role ≠ (if s.dock then 1 else 0) → s.helloRefused p id role = 4)) ∧
    -- R441: 50 us after this hub's own declaration
    (∀ m, s.linksLive = true → s.cascading = true → m < 4 → (s.member m).awaited.isSome = true → s.direct m = false →
      let u := s.setMember m { s.member m with awaited := none };
      (u.seen m = true → exec (.memberDownTimeout m) s = .next u) ∧
      (u.seen m = false → exec (.memberDownTimeout m) s = .next (u.markDown m))) ∧
    -- R444: a member prepares a swap, or refuses
    (∀ p r b t, s.casPortOn p = true → s.linkUp p = true → b ≤ 1 →
      (s.refusesSwap b = true → exec (.gswapPrep p r b t) s = .next (s.sendCtl p 0x13 (leBytes 1 r ++ [1#8]))) ∧
      (s.refusesSwap b = false → exec (.gswapPrep p r b t) s =
        .next ((State.put { s with cas := { s.cas with prep := some ⟨r, b, t, 0, p, s.hubTime⟩ } } CAS_GRP_STAT_GSWAP 1).sendCtl p 0x13
          (leBytes 1 r ++ [0#8])))) ∧
    (∀ b, s.refusesSwap b = true ↔ (s.get ALT_CAL_STAT_PROFILE ≠ 3 ∨ s.is ALT_CAL_STAT_SWAP_ARMED = true ∨
      (s.trunkUp = true ∧ s.tableValid b (s.tableFor b (max 1 (s.get ALT_CAL_STAT_LANES))) = false))) ∧
    -- R444, R446: the prepared member
    (∀ g, s.cas.prep = some g → let u := State.put s CAS_GRP_STAT_GSWAP 0;
      (∀ p, s.casPortOn p = true → s.linkUp p = true →
        exec (.gswapCommit p g.req) s = .next (State.armGroup { s with cas := { s.cas with prep := none } } g.bank g.time) ∧
        exec (.gswapAbort p g.req) s = .next { u with cas := { u.cas with prep := none } }) ∧
      (∀ p r, r ≠ g.req → exec (.gswapCommit p r) s = .next s ∧ exec (.gswapAbort p r) s = .next s) ∧
      (s.running = true → exec .gswapPrepDiscard s = .next { u with cas := { u.cas with prep := none } })) ∧
    (s.cas.prep = none → exec .gswapPrepDiscard s = .next s ∧
      ∀ p r, exec (.gswapCommit p r) s = .next s ∧ exec (.gswapAbort p r) s = .next s) ∧
    -- R444, R446: the coordinator
    (∀ g, s.cas.swap = some g →
      (s.running = true → exec .gswapTimeout s = .next (s.abortSwap g 6)) ∧
      (∀ p, s.casPortOn p = true → s.linkUp p = true →
        exec (.gswapAck p g.req true) s = .next (s.abortSwap g 5) ∧
        (bit g.waiting (s.memberAt p) = true → let left := setBit g.waiting (s.memberAt p) false;
          ((left = 0 → exec (.gswapAck p g.req false) s =
              .next (((s.tellGroup 0x14 (leBytes 1 g.req)).armGroup g.bank g.time).endGroupSwap 0 (leBytes 8 g.time))) ∧
           (left ≠ 0 → exec (.gswapAck p g.req false) s =
              .next { s with cas := { s.cas with swap := some { g with waiting := left } } })))) ∧
      (∀ p r b, r ≠ g.req → exec (.gswapAck p r b) s = .next s)) ∧
    (s.cas.swap = none → exec .gswapTimeout s = .next s ∧ ∀ p r b, exec (.gswapAck p r b) s = .next s)

/-- R214 to R218, R222, R225 to R227, R230, R231, R240, R241, R245, R246, R249, R255, R257, R261, R263, R265. Every well-formed
row of the Windlass instruction set but ILL has one word, and a thread issues exactly that row, with every field, for the word:
no bit of an encoding is dropped, whatever the operands. Log entry 8 names the model's own choices in it. -/
def Obligations.WordsOfRows : Prop :=
  ∀ i w, i.wf = true → windlassWord i = some w → (∀ p t x, i ≠ .wIll p t x) → ∃ p t, decodeWindlass p t w = i

/-- R214, R216, R240. Every one of the 2^32 words is the word of the row that a thread issues for it, which is well-formed where
the pump and the thread exist: two words never give one row. Log entry 8 names the model's own choices in it. -/
def Obligations.RowOfEveryWord : Prop :=
  ∀ p t w, windlassWord (decodeWindlass p t w) = some w ∧ (p < 32 → t < 32 → (decodeWindlass p t w).wf = true)

/-- R250 to R252. With a key of 32 bytes, OPEN undoes SEAL: the ciphertext is as long as the payload, opening it with the tag that SEAL
made gives the payload back, and with any other tag gives nothing. -/
def Obligations.OpenUndoesSeal : Prop :=
  ∀ key iv aad pt : Bytes, key.length = 32 →
    (gcmSeal key iv aad pt).1.length = pt.length ∧
    gcmOpen key iv aad (gcmSeal key iv aad pt).1 (gcmSeal key iv aad pt).2 = some pt ∧
    ∀ tag, tag ≠ (gcmSeal key iv aad pt).2 → gcmOpen key iv aad (gcmSeal key iv aad pt).1 tag = none

/-- R483, R485. Bytes written to a tank read back, every other byte of it and every other tank reads as before, the tanks keep
their canonical form, and no register changes; in a range that is zeroed every byte reads 0, and every other byte as before. Log
entries 121, 206 name the model's own choices in it. -/
def Obligations.TankBytes : Prop :=
  (∀ (s : State) (k a : Nat) (d : Bytes), let t := s.tankWrite k a d;
    t.tankRead k a d.length = d ∧
    (∀ x, x < a ∨ a + d.length ≤ x → memGet (t.tank k) x = memGet (s.tank k) x) ∧
    (∀ j, min j 4 ≠ min k 4 → t.tank j = s.tank j) ∧
    (s.tanksWf = true → t.tanksWf = true) ∧
    (∀ f, t.get f = s.get f)) ∧
  (∀ (m : List Host.Cell) (a n x : Nat), memGet (memZero m a n) x = if a ≤ x ∧ x < a + n then 0#8 else memGet m x)
end

