-- ==== Sys2Proof/Laws/Bytes.lean ====
section
/-! SUPPORT. Byte strings: little-endian numbers and their bytes, and slices. -/
namespace Sys2Proof.Machine

@[simp] theorem leBytes_length (n v : Nat) : (leBytes n v).length = n := by
  induction n generalizing v with
  | zero => rfl
  | succ n ih => simp [leBytes, ih]

@[simp] theorem zeros_length (n : Nat) : (zeros n).length = n := by simp [zeros]

@[simp] theorem slice_length (l : Bytes) (i n : Nat) : (slice l i n).length = n := by
  simp [slice]

theorem fit_length (n : Nat) (l : Bytes) : (fit n l).length = n := by simp [fit]

theorem leNat_leBytes (n v : Nat) : leNat (leBytes n v) = v % 256 ^ n := by
  induction n generalizing v with
  | zero => simp [leBytes, leNat, Nat.mod_one]
  | succ n ih =>
    have e : v % (256 * 256 ^ n) = v % 256 + 256 * (v / 256 % 256 ^ n) := Nat.mod_mul
    simp only [leBytes, leNat, ih, BitVec.toNat_ofNat, Nat.pow_succ']
    rw [e]

theorem leBytes_leNat (l : Bytes) : leBytes l.length (leNat l) = l := by
  induction l with
  | nil => rfl
  | cons b l ih =>
    simp only [List.length_cons, leNat, leBytes]
    have hb := b.isLt
    congr 1
    · apply BitVec.eq_of_toNat_eq
      simpa using hb
    · rw [show (b.toNat + 256 * leNat l) / 256 = leNat l by omega]
      exact ih

/-- A slice that lies inside the string is the bytes themselves. -/
theorem slice_inside (l : Bytes) (i n : Nat) (h : i + n ≤ l.length) : slice l i n = (l.drop i).take n := by
  have : ((l.drop i).take n).length = n := by simp; omega
  simp [slice, this, zeros]

theorem fit_same (l : Bytes) : fit l.length l = l := by
  rw [fit, slice_inside _ _ _ (by simp)]; simp

/-- Cutting a string into words of four bytes and joining them gives its first words back. -/
theorem words_take (b : Bytes) (n : Nat) :
    (List.range n).flatMap (fun i => (b.drop (4 * i)).take 4) = b.take (4 * n) := by
  induction n with
  | zero => simp
  | succ n ih =>
    rw [List.range_succ, List.flatMap_append, ih]
    simp [Nat.mul_add, List.take_add]

/-- The bytes of an overlay. -/
theorem overlay_get (l : Bytes) (i k : Nat) (d : Bytes) :
    (overlay l i d)[k]? = if k < i then (if k < l.length then l[k]? else some 0#8) else if k < i + d.length then d[k - i]? else l[k]? := by
  have hlen : (l.take i ++ zeros (i - l.length)).length = i := by simp; omega
  unfold overlay
  rw [List.append_assoc (l.take i ++ zeros (i - l.length))]
  rw [List.getElem?_append, hlen]
  split
  · rw [List.getElem?_append]
    simp only [List.length_take]
    split
    · rw [List.getElem?_take, if_pos (by omega), if_pos (by omega)]
    · rw [if_neg (by omega)]; unfold zeros; rw [List.getElem?_replicate, if_pos (by omega)]
  · rw [List.getElem?_append]
    split
    · rw [if_pos (by omega)]
    · rw [if_neg (by omega), List.getElem?_drop]; congr 1; omega

/-- Byte k of a number, least significant first. -/
theorem leBytes_get (n v k : Nat) (h : k < (leBytes n v).length) : (leBytes n v)[k] = BitVec.ofNat 8 (v / 256 ^ k) := by
  induction n generalizing v k with
  | zero => simp [leBytes] at h
  | succ n ih =>
    cases k with
    | zero => simp [leBytes]
    | succ k =>
      simp only [leBytes, List.getElem_cons_succ]
      rw [ih, Nat.div_div_eq_div_mul]; congr 2; ring

/-- Byte k of a number, most significant first. -/
theorem beBytes_get (n v k : Nat) (h : k < n) : (beBytes n v)[k]? = some (BitVec.ofNat 8 (v / 256 ^ (n - 1 - k))) := by
  unfold beBytes
  rw [List.getElem?_reverse (by simpa using h), List.getElem?_eq_getElem (by simp; omega), leBytes_get]; simp

end Sys2Proof.Machine
end

