-- ==== Sys2Proof/Laws/State.lean ====
section
/-! SUPPORT. What each named update of the state leaves: one lemma for each field and update, and reading a field after writing one. -/
namespace Sys2Proof.Machine

/-! ### put -/

@[simp] theorem State.put_pending (s : State) (f : Fld) (v : Nat) : (s.put f v).pending = s.pending := rfl
@[simp] theorem State.put_outs (s : State) (f : Fld) (v : Nat) : (s.put f v).outs = s.outs := rfl
@[simp] theorem State.put_latch (s : State) (f : Fld) (v : Nat) : (s.put f v).latch = s.latch := rfl
@[simp] theorem State.put_hubTime (s : State) (f : Fld) (v : Nat) : (s.put f v).hubTime = s.hubTime := rfl
@[simp] theorem State.put_timeRuns (s : State) (f : Fld) (v : Nat) : (s.put f v).timeRuns = s.timeRuns := rfl
@[simp] theorem State.put_free (s : State) (f : Fld) (v : Nat) : (s.put f v).free = s.free := rfl
@[simp] theorem State.put_limited (s : State) (f : Fld) (v : Nat) : (s.put f v).limited = s.limited := rfl
@[simp] theorem State.put_fuses (s : State) (f : Fld) (v : Nat) : (s.put f v).fuses = s.fuses := rfl
@[simp] theorem State.put_power (s : State) (f : Fld) (v : Nat) : (s.put f v).power = s.power := rfl
@[simp] theorem State.put_bkt (s : State) (f : Fld) (v : Nat) : (s.put f v).bkt = s.bkt := rfl
@[simp] theorem State.put_msgs (s : State) (f : Fld) (v : Nat) : (s.put f v).msgs = s.msgs := rfl
@[simp] theorem State.put_msix (s : State) (f : Fld) (v : Nat) : (s.put f v).msix = s.msix := rfl
@[simp] theorem State.put_brg (s : State) (f : Fld) (v : Nat) : (s.put f v).brg = s.brg := rfl
@[simp] theorem State.put_resets (s : State) (f : Fld) (v : Nat) : (s.put f v).resets = s.resets := rfl
@[simp] theorem State.put_ladder (s : State) (f : Fld) (v : Nat) : (s.put f v).ladder = s.ladder := rfl
@[simp] theorem State.put_bist (s : State) (f : Fld) (v : Nat) : (s.put f v).bist = s.bist := rfl
@[simp] theorem State.put_inputs (s : State) (f : Fld) (v : Nat) : (s.put f v).inputs = s.inputs := rfl
@[simp] theorem State.put_vault (s : State) (f : Fld) (v : Nat) : (s.put f v).vault = s.vault := rfl
@[simp] theorem State.put_tanks (s : State) (f : Fld) (v : Nat) : (s.put f v).tanks = s.tanks := rfl
@[simp] theorem State.put_cis (s : State) (f : Fld) (v : Nat) : (s.put f v).cis = s.cis := rfl
@[simp] theorem State.put_pumps (s : State) (f : Fld) (v : Nat) : (s.put f v).pumps = s.pumps := rfl
@[simp] theorem State.put_trunk (s : State) (f : Fld) (v : Nat) : (s.put f v).trunk = s.trunk := rfl
@[simp] theorem State.put_links (s : State) (f : Fld) (v : Nat) : (s.put f v).links = s.links := rfl
@[simp] theorem State.put_allot (s : State) (f : Fld) (v : Nat) : (s.put f v).allot = s.allot := rfl
@[simp] theorem State.put_cas (s : State) (f : Fld) (v : Nat) : (s.put f v).cas = s.cas := rfl
@[simp] theorem State.put_spouts (s : State) (f : Fld) (v : Nat) : (s.put f v).spouts = s.spouts := rfl
@[simp] theorem State.put_hsw (s : State) (f : Fld) (v : Nat) : (s.put f v).hsw = s.hsw := rfl
@[simp] theorem State.put_usb (s : State) (f : Fld) (v : Nat) : (s.put f v).usb = s.usb := rfl
@[simp] theorem State.put_eth (s : State) (f : Fld) (v : Nat) : (s.put f v).eth = s.eth := rfl
@[simp] theorem State.put_ptp (s : State) (f : Fld) (v : Nat) : (s.put f v).ptp = s.ptp := rfl
@[simp] theorem State.put_cfgs (s : State) (f : Fld) (v : Nat) : (s.put f v).cfgs = s.cfgs := rfl
@[simp] theorem State.put_dsp (s : State) (f : Fld) (v : Nat) : (s.put f v).dsp = s.dsp := rfl

/-! ### emit -/

@[simp] theorem State.emit_pending (s : State) (o : Out) : (s.emit o).pending = s.pending := rfl
@[simp] theorem State.emit_regs (s : State) (o : Out) : (s.emit o).regs = s.regs := rfl
@[simp] theorem State.emit_latch (s : State) (o : Out) : (s.emit o).latch = s.latch := rfl
@[simp] theorem State.emit_hubTime (s : State) (o : Out) : (s.emit o).hubTime = s.hubTime := rfl
@[simp] theorem State.emit_timeRuns (s : State) (o : Out) : (s.emit o).timeRuns = s.timeRuns := rfl
@[simp] theorem State.emit_free (s : State) (o : Out) : (s.emit o).free = s.free := rfl
@[simp] theorem State.emit_limited (s : State) (o : Out) : (s.emit o).limited = s.limited := rfl
@[simp] theorem State.emit_fuses (s : State) (o : Out) : (s.emit o).fuses = s.fuses := rfl
@[simp] theorem State.emit_power (s : State) (o : Out) : (s.emit o).power = s.power := rfl
@[simp] theorem State.emit_bkt (s : State) (o : Out) : (s.emit o).bkt = s.bkt := rfl
@[simp] theorem State.emit_msgs (s : State) (o : Out) : (s.emit o).msgs = s.msgs := rfl
@[simp] theorem State.emit_msix (s : State) (o : Out) : (s.emit o).msix = s.msix := rfl
@[simp] theorem State.emit_brg (s : State) (o : Out) : (s.emit o).brg = s.brg := rfl
@[simp] theorem State.emit_resets (s : State) (o : Out) : (s.emit o).resets = s.resets := rfl
@[simp] theorem State.emit_ladder (s : State) (o : Out) : (s.emit o).ladder = s.ladder := rfl
@[simp] theorem State.emit_bist (s : State) (o : Out) : (s.emit o).bist = s.bist := rfl
@[simp] theorem State.emit_inputs (s : State) (o : Out) : (s.emit o).inputs = s.inputs := rfl
@[simp] theorem State.emit_vault (s : State) (o : Out) : (s.emit o).vault = s.vault := rfl
@[simp] theorem State.emit_tanks (s : State) (o : Out) : (s.emit o).tanks = s.tanks := rfl
@[simp] theorem State.emit_cis (s : State) (o : Out) : (s.emit o).cis = s.cis := rfl
@[simp] theorem State.emit_pumps (s : State) (o : Out) : (s.emit o).pumps = s.pumps := rfl
@[simp] theorem State.emit_trunk (s : State) (o : Out) : (s.emit o).trunk = s.trunk := rfl
@[simp] theorem State.emit_links (s : State) (o : Out) : (s.emit o).links = s.links := rfl
@[simp] theorem State.emit_allot (s : State) (o : Out) : (s.emit o).allot = s.allot := rfl
@[simp] theorem State.emit_cas (s : State) (o : Out) : (s.emit o).cas = s.cas := rfl
@[simp] theorem State.emit_spouts (s : State) (o : Out) : (s.emit o).spouts = s.spouts := rfl
@[simp] theorem State.emit_hsw (s : State) (o : Out) : (s.emit o).hsw = s.hsw := rfl
@[simp] theorem State.emit_usb (s : State) (o : Out) : (s.emit o).usb = s.usb := rfl
@[simp] theorem State.emit_eth (s : State) (o : Out) : (s.emit o).eth = s.eth := rfl
@[simp] theorem State.emit_ptp (s : State) (o : Out) : (s.emit o).ptp = s.ptp := rfl
@[simp] theorem State.emit_cfgs (s : State) (o : Out) : (s.emit o).cfgs = s.cfgs := rfl
@[simp] theorem State.emit_dsp (s : State) (o : Out) : (s.emit o).dsp = s.dsp := rfl
@[simp] theorem State.emit_get (s : State) (o : Out) (fld : Fld) : (s.emit o).get fld = s.get fld := rfl
@[simp] theorem State.emit_is (s : State) (o : Out) (fld : Fld) : (s.emit o).is fld = s.is fld := rfl

/-! ### setLink -/

@[simp] theorem State.setLink_pending (s : State) (p : Nat) (l : Link) : (s.setLink p l).pending = s.pending := rfl
@[simp] theorem State.setLink_outs (s : State) (p : Nat) (l : Link) : (s.setLink p l).outs = s.outs := rfl
@[simp] theorem State.setLink_regs (s : State) (p : Nat) (l : Link) : (s.setLink p l).regs = s.regs := rfl
@[simp] theorem State.setLink_latch (s : State) (p : Nat) (l : Link) : (s.setLink p l).latch = s.latch := rfl
@[simp] theorem State.setLink_hubTime (s : State) (p : Nat) (l : Link) : (s.setLink p l).hubTime = s.hubTime := rfl
@[simp] theorem State.setLink_timeRuns (s : State) (p : Nat) (l : Link) : (s.setLink p l).timeRuns = s.timeRuns := rfl
@[simp] theorem State.setLink_free (s : State) (p : Nat) (l : Link) : (s.setLink p l).free = s.free := rfl
@[simp] theorem State.setLink_limited (s : State) (p : Nat) (l : Link) : (s.setLink p l).limited = s.limited := rfl
@[simp] theorem State.setLink_fuses (s : State) (p : Nat) (l : Link) : (s.setLink p l).fuses = s.fuses := rfl
@[simp] theorem State.setLink_power (s : State) (p : Nat) (l : Link) : (s.setLink p l).power = s.power := rfl
@[simp] theorem State.setLink_bkt (s : State) (p : Nat) (l : Link) : (s.setLink p l).bkt = s.bkt := rfl
@[simp] theorem State.setLink_msgs (s : State) (p : Nat) (l : Link) : (s.setLink p l).msgs = s.msgs := rfl
@[simp] theorem State.setLink_msix (s : State) (p : Nat) (l : Link) : (s.setLink p l).msix = s.msix := rfl
@[simp] theorem State.setLink_brg (s : State) (p : Nat) (l : Link) : (s.setLink p l).brg = s.brg := rfl
@[simp] theorem State.setLink_resets (s : State) (p : Nat) (l : Link) : (s.setLink p l).resets = s.resets := rfl
@[simp] theorem State.setLink_ladder (s : State) (p : Nat) (l : Link) : (s.setLink p l).ladder = s.ladder := rfl
@[simp] theorem State.setLink_bist (s : State) (p : Nat) (l : Link) : (s.setLink p l).bist = s.bist := rfl
@[simp] theorem State.setLink_inputs (s : State) (p : Nat) (l : Link) : (s.setLink p l).inputs = s.inputs := rfl
@[simp] theorem State.setLink_vault (s : State) (p : Nat) (l : Link) : (s.setLink p l).vault = s.vault := rfl
@[simp] theorem State.setLink_tanks (s : State) (p : Nat) (l : Link) : (s.setLink p l).tanks = s.tanks := rfl
@[simp] theorem State.setLink_cis (s : State) (p : Nat) (l : Link) : (s.setLink p l).cis = s.cis := rfl
@[simp] theorem State.setLink_pumps (s : State) (p : Nat) (l : Link) : (s.setLink p l).pumps = s.pumps := rfl
@[simp] theorem State.setLink_trunk (s : State) (p : Nat) (l : Link) : (s.setLink p l).trunk = s.trunk := rfl
@[simp] theorem State.setLink_allot (s : State) (p : Nat) (l : Link) : (s.setLink p l).allot = s.allot := rfl
@[simp] theorem State.setLink_cas (s : State) (p : Nat) (l : Link) : (s.setLink p l).cas = s.cas := rfl
@[simp] theorem State.setLink_spouts (s : State) (p : Nat) (l : Link) : (s.setLink p l).spouts = s.spouts := rfl
@[simp] theorem State.setLink_hsw (s : State) (p : Nat) (l : Link) : (s.setLink p l).hsw = s.hsw := rfl
@[simp] theorem State.setLink_usb (s : State) (p : Nat) (l : Link) : (s.setLink p l).usb = s.usb := rfl
@[simp] theorem State.setLink_eth (s : State) (p : Nat) (l : Link) : (s.setLink p l).eth = s.eth := rfl
@[simp] theorem State.setLink_ptp (s : State) (p : Nat) (l : Link) : (s.setLink p l).ptp = s.ptp := rfl
@[simp] theorem State.setLink_cfgs (s : State) (p : Nat) (l : Link) : (s.setLink p l).cfgs = s.cfgs := rfl
@[simp] theorem State.setLink_dsp (s : State) (p : Nat) (l : Link) : (s.setLink p l).dsp = s.dsp := rfl
@[simp] theorem State.setLink_get (s : State) (p : Nat) (l : Link) (fld : Fld) : (s.setLink p l).get fld = s.get fld := rfl
@[simp] theorem State.setLink_is (s : State) (p : Nat) (l : Link) (fld : Fld) : (s.setLink p l).is fld = s.is fld := rfl

/-! ### setSpout -/

@[simp] theorem State.setSpout_pending (s : State) (n : Nat) (x : Spout) : (s.setSpout n x).pending = s.pending := rfl
@[simp] theorem State.setSpout_outs (s : State) (n : Nat) (x : Spout) : (s.setSpout n x).outs = s.outs := rfl
@[simp] theorem State.setSpout_regs (s : State) (n : Nat) (x : Spout) : (s.setSpout n x).regs = s.regs := rfl
@[simp] theorem State.setSpout_latch (s : State) (n : Nat) (x : Spout) : (s.setSpout n x).latch = s.latch := rfl
@[simp] theorem State.setSpout_hubTime (s : State) (n : Nat) (x : Spout) : (s.setSpout n x).hubTime = s.hubTime := rfl
@[simp] theorem State.setSpout_timeRuns (s : State) (n : Nat) (x : Spout) : (s.setSpout n x).timeRuns = s.timeRuns := rfl
@[simp] theorem State.setSpout_free (s : State) (n : Nat) (x : Spout) : (s.setSpout n x).free = s.free := rfl
@[simp] theorem State.setSpout_limited (s : State) (n : Nat) (x : Spout) : (s.setSpout n x).limited = s.limited := rfl
@[simp] theorem State.setSpout_fuses (s : State) (n : Nat) (x : Spout) : (s.setSpout n x).fuses = s.fuses := rfl
@[simp] theorem State.setSpout_power (s : State) (n : Nat) (x : Spout) : (s.setSpout n x).power = s.power := rfl
@[simp] theorem State.setSpout_bkt (s : State) (n : Nat) (x : Spout) : (s.setSpout n x).bkt = s.bkt := rfl
@[simp] theorem State.setSpout_msgs (s : State) (n : Nat) (x : Spout) : (s.setSpout n x).msgs = s.msgs := rfl
@[simp] theorem State.setSpout_msix (s : State) (n : Nat) (x : Spout) : (s.setSpout n x).msix = s.msix := rfl
@[simp] theorem State.setSpout_brg (s : State) (n : Nat) (x : Spout) : (s.setSpout n x).brg = s.brg := rfl
@[simp] theorem State.setSpout_resets (s : State) (n : Nat) (x : Spout) : (s.setSpout n x).resets = s.resets := rfl
@[simp] theorem State.setSpout_ladder (s : State) (n : Nat) (x : Spout) : (s.setSpout n x).ladder = s.ladder := rfl
@[simp] theorem State.setSpout_bist (s : State) (n : Nat) (x : Spout) : (s.setSpout n x).bist = s.bist := rfl
@[simp] theorem State.setSpout_inputs (s : State) (n : Nat) (x : Spout) : (s.setSpout n x).inputs = s.inputs := rfl
@[simp] theorem State.setSpout_vault (s : State) (n : Nat) (x : Spout) : (s.setSpout n x).vault = s.vault := rfl
@[simp] theorem State.setSpout_tanks (s : State) (n : Nat) (x : Spout) : (s.setSpout n x).tanks = s.tanks := rfl
@[simp] theorem State.setSpout_cis (s : State) (n : Nat) (x : Spout) : (s.setSpout n x).cis = s.cis := rfl
@[simp] theorem State.setSpout_pumps (s : State) (n : Nat) (x : Spout) : (s.setSpout n x).pumps = s.pumps := rfl
@[simp] theorem State.setSpout_trunk (s : State) (n : Nat) (x : Spout) : (s.setSpout n x).trunk = s.trunk := rfl
@[simp] theorem State.setSpout_links (s : State) (n : Nat) (x : Spout) : (s.setSpout n x).links = s.links := rfl
@[simp] theorem State.setSpout_allot (s : State) (n : Nat) (x : Spout) : (s.setSpout n x).allot = s.allot := rfl
@[simp] theorem State.setSpout_cas (s : State) (n : Nat) (x : Spout) : (s.setSpout n x).cas = s.cas := rfl
@[simp] theorem State.setSpout_hsw (s : State) (n : Nat) (x : Spout) : (s.setSpout n x).hsw = s.hsw := rfl
@[simp] theorem State.setSpout_usb (s : State) (n : Nat) (x : Spout) : (s.setSpout n x).usb = s.usb := rfl
@[simp] theorem State.setSpout_eth (s : State) (n : Nat) (x : Spout) : (s.setSpout n x).eth = s.eth := rfl
@[simp] theorem State.setSpout_ptp (s : State) (n : Nat) (x : Spout) : (s.setSpout n x).ptp = s.ptp := rfl
@[simp] theorem State.setSpout_cfgs (s : State) (n : Nat) (x : Spout) : (s.setSpout n x).cfgs = s.cfgs := rfl
@[simp] theorem State.setSpout_dsp (s : State) (n : Nat) (x : Spout) : (s.setSpout n x).dsp = s.dsp := rfl
@[simp] theorem State.setSpout_get (s : State) (n : Nat) (x : Spout) (fld : Fld) : (s.setSpout n x).get fld = s.get fld := rfl
@[simp] theorem State.setSpout_is (s : State) (n : Nat) (x : Spout) (fld : Fld) : (s.setSpout n x).is fld = s.is fld := rfl

/-! ### setCtl -/

@[simp] theorem State.setCtl_pending (s : State) (n : Nat) (x : Hsw) : (s.setCtl n x).pending = s.pending := rfl
@[simp] theorem State.setCtl_outs (s : State) (n : Nat) (x : Hsw) : (s.setCtl n x).outs = s.outs := rfl
@[simp] theorem State.setCtl_regs (s : State) (n : Nat) (x : Hsw) : (s.setCtl n x).regs = s.regs := rfl
@[simp] theorem State.setCtl_latch (s : State) (n : Nat) (x : Hsw) : (s.setCtl n x).latch = s.latch := rfl
@[simp] theorem State.setCtl_hubTime (s : State) (n : Nat) (x : Hsw) : (s.setCtl n x).hubTime = s.hubTime := rfl
@[simp] theorem State.setCtl_timeRuns (s : State) (n : Nat) (x : Hsw) : (s.setCtl n x).timeRuns = s.timeRuns := rfl
@[simp] theorem State.setCtl_free (s : State) (n : Nat) (x : Hsw) : (s.setCtl n x).free = s.free := rfl
@[simp] theorem State.setCtl_limited (s : State) (n : Nat) (x : Hsw) : (s.setCtl n x).limited = s.limited := rfl
@[simp] theorem State.setCtl_fuses (s : State) (n : Nat) (x : Hsw) : (s.setCtl n x).fuses = s.fuses := rfl
@[simp] theorem State.setCtl_power (s : State) (n : Nat) (x : Hsw) : (s.setCtl n x).power = s.power := rfl
@[simp] theorem State.setCtl_bkt (s : State) (n : Nat) (x : Hsw) : (s.setCtl n x).bkt = s.bkt := rfl
@[simp] theorem State.setCtl_msgs (s : State) (n : Nat) (x : Hsw) : (s.setCtl n x).msgs = s.msgs := rfl
@[simp] theorem State.setCtl_msix (s : State) (n : Nat) (x : Hsw) : (s.setCtl n x).msix = s.msix := rfl
@[simp] theorem State.setCtl_brg (s : State) (n : Nat) (x : Hsw) : (s.setCtl n x).brg = s.brg := rfl
@[simp] theorem State.setCtl_resets (s : State) (n : Nat) (x : Hsw) : (s.setCtl n x).resets = s.resets := rfl
@[simp] theorem State.setCtl_ladder (s : State) (n : Nat) (x : Hsw) : (s.setCtl n x).ladder = s.ladder := rfl
@[simp] theorem State.setCtl_bist (s : State) (n : Nat) (x : Hsw) : (s.setCtl n x).bist = s.bist := rfl
@[simp] theorem State.setCtl_inputs (s : State) (n : Nat) (x : Hsw) : (s.setCtl n x).inputs = s.inputs := rfl
@[simp] theorem State.setCtl_vault (s : State) (n : Nat) (x : Hsw) : (s.setCtl n x).vault = s.vault := rfl
@[simp] theorem State.setCtl_tanks (s : State) (n : Nat) (x : Hsw) : (s.setCtl n x).tanks = s.tanks := rfl
@[simp] theorem State.setCtl_cis (s : State) (n : Nat) (x : Hsw) : (s.setCtl n x).cis = s.cis := rfl
@[simp] theorem State.setCtl_pumps (s : State) (n : Nat) (x : Hsw) : (s.setCtl n x).pumps = s.pumps := rfl
@[simp] theorem State.setCtl_trunk (s : State) (n : Nat) (x : Hsw) : (s.setCtl n x).trunk = s.trunk := rfl
@[simp] theorem State.setCtl_links (s : State) (n : Nat) (x : Hsw) : (s.setCtl n x).links = s.links := rfl
@[simp] theorem State.setCtl_allot (s : State) (n : Nat) (x : Hsw) : (s.setCtl n x).allot = s.allot := rfl
@[simp] theorem State.setCtl_cas (s : State) (n : Nat) (x : Hsw) : (s.setCtl n x).cas = s.cas := rfl
@[simp] theorem State.setCtl_spouts (s : State) (n : Nat) (x : Hsw) : (s.setCtl n x).spouts = s.spouts := rfl
@[simp] theorem State.setCtl_usb (s : State) (n : Nat) (x : Hsw) : (s.setCtl n x).usb = s.usb := rfl
@[simp] theorem State.setCtl_eth (s : State) (n : Nat) (x : Hsw) : (s.setCtl n x).eth = s.eth := rfl
@[simp] theorem State.setCtl_ptp (s : State) (n : Nat) (x : Hsw) : (s.setCtl n x).ptp = s.ptp := rfl
@[simp] theorem State.setCtl_cfgs (s : State) (n : Nat) (x : Hsw) : (s.setCtl n x).cfgs = s.cfgs := rfl
@[simp] theorem State.setCtl_dsp (s : State) (n : Nat) (x : Hsw) : (s.setCtl n x).dsp = s.dsp := rfl
@[simp] theorem State.setCtl_get (s : State) (n : Nat) (x : Hsw) (fld : Fld) : (s.setCtl n x).get fld = s.get fld := rfl
@[simp] theorem State.setCtl_is (s : State) (n : Nat) (x : Hsw) (fld : Fld) : (s.setCtl n x).is fld = s.is fld := rfl

/-! ### setBus -/

@[simp] theorem State.setBus_pending (s : State) (k : Nat) (b : UsbBus) : (s.setBus k b).pending = s.pending := rfl
@[simp] theorem State.setBus_outs (s : State) (k : Nat) (b : UsbBus) : (s.setBus k b).outs = s.outs := rfl
@[simp] theorem State.setBus_regs (s : State) (k : Nat) (b : UsbBus) : (s.setBus k b).regs = s.regs := rfl
@[simp] theorem State.setBus_latch (s : State) (k : Nat) (b : UsbBus) : (s.setBus k b).latch = s.latch := rfl
@[simp] theorem State.setBus_hubTime (s : State) (k : Nat) (b : UsbBus) : (s.setBus k b).hubTime = s.hubTime := rfl
@[simp] theorem State.setBus_timeRuns (s : State) (k : Nat) (b : UsbBus) : (s.setBus k b).timeRuns = s.timeRuns := rfl
@[simp] theorem State.setBus_free (s : State) (k : Nat) (b : UsbBus) : (s.setBus k b).free = s.free := rfl
@[simp] theorem State.setBus_limited (s : State) (k : Nat) (b : UsbBus) : (s.setBus k b).limited = s.limited := rfl
@[simp] theorem State.setBus_fuses (s : State) (k : Nat) (b : UsbBus) : (s.setBus k b).fuses = s.fuses := rfl
@[simp] theorem State.setBus_power (s : State) (k : Nat) (b : UsbBus) : (s.setBus k b).power = s.power := rfl
@[simp] theorem State.setBus_bkt (s : State) (k : Nat) (b : UsbBus) : (s.setBus k b).bkt = s.bkt := rfl
@[simp] theorem State.setBus_msgs (s : State) (k : Nat) (b : UsbBus) : (s.setBus k b).msgs = s.msgs := rfl
@[simp] theorem State.setBus_msix (s : State) (k : Nat) (b : UsbBus) : (s.setBus k b).msix = s.msix := rfl
@[simp] theorem State.setBus_brg (s : State) (k : Nat) (b : UsbBus) : (s.setBus k b).brg = s.brg := rfl
@[simp] theorem State.setBus_resets (s : State) (k : Nat) (b : UsbBus) : (s.setBus k b).resets = s.resets := rfl
@[simp] theorem State.setBus_ladder (s : State) (k : Nat) (b : UsbBus) : (s.setBus k b).ladder = s.ladder := rfl
@[simp] theorem State.setBus_bist (s : State) (k : Nat) (b : UsbBus) : (s.setBus k b).bist = s.bist := rfl
@[simp] theorem State.setBus_inputs (s : State) (k : Nat) (b : UsbBus) : (s.setBus k b).inputs = s.inputs := rfl
@[simp] theorem State.setBus_vault (s : State) (k : Nat) (b : UsbBus) : (s.setBus k b).vault = s.vault := rfl
@[simp] theorem State.setBus_tanks (s : State) (k : Nat) (b : UsbBus) : (s.setBus k b).tanks = s.tanks := rfl
@[simp] theorem State.setBus_cis (s : State) (k : Nat) (b : UsbBus) : (s.setBus k b).cis = s.cis := rfl
@[simp] theorem State.setBus_pumps (s : State) (k : Nat) (b : UsbBus) : (s.setBus k b).pumps = s.pumps := rfl
@[simp] theorem State.setBus_trunk (s : State) (k : Nat) (b : UsbBus) : (s.setBus k b).trunk = s.trunk := rfl
@[simp] theorem State.setBus_links (s : State) (k : Nat) (b : UsbBus) : (s.setBus k b).links = s.links := rfl
@[simp] theorem State.setBus_allot (s : State) (k : Nat) (b : UsbBus) : (s.setBus k b).allot = s.allot := rfl
@[simp] theorem State.setBus_cas (s : State) (k : Nat) (b : UsbBus) : (s.setBus k b).cas = s.cas := rfl
@[simp] theorem State.setBus_spouts (s : State) (k : Nat) (b : UsbBus) : (s.setBus k b).spouts = s.spouts := rfl
@[simp] theorem State.setBus_hsw (s : State) (k : Nat) (b : UsbBus) : (s.setBus k b).hsw = s.hsw := rfl
@[simp] theorem State.setBus_eth (s : State) (k : Nat) (b : UsbBus) : (s.setBus k b).eth = s.eth := rfl
@[simp] theorem State.setBus_ptp (s : State) (k : Nat) (b : UsbBus) : (s.setBus k b).ptp = s.ptp := rfl
@[simp] theorem State.setBus_cfgs (s : State) (k : Nat) (b : UsbBus) : (s.setBus k b).cfgs = s.cfgs := rfl
@[simp] theorem State.setBus_dsp (s : State) (k : Nat) (b : UsbBus) : (s.setBus k b).dsp = s.dsp := rfl
@[simp] theorem State.setBus_get (s : State) (k : Nat) (b : UsbBus) (fld : Fld) : (s.setBus k b).get fld = s.get fld := rfl
@[simp] theorem State.setBus_is (s : State) (k : Nat) (b : UsbBus) (fld : Fld) : (s.setBus k b).is fld = s.is fld := rfl

/-! ### setEth -/

@[simp] theorem State.setEth_pending (s : State) (n : Nat) (e : Eth) : (s.setEth n e).pending = s.pending := rfl
@[simp] theorem State.setEth_outs (s : State) (n : Nat) (e : Eth) : (s.setEth n e).outs = s.outs := rfl
@[simp] theorem State.setEth_regs (s : State) (n : Nat) (e : Eth) : (s.setEth n e).regs = s.regs := rfl
@[simp] theorem State.setEth_latch (s : State) (n : Nat) (e : Eth) : (s.setEth n e).latch = s.latch := rfl
@[simp] theorem State.setEth_hubTime (s : State) (n : Nat) (e : Eth) : (s.setEth n e).hubTime = s.hubTime := rfl
@[simp] theorem State.setEth_timeRuns (s : State) (n : Nat) (e : Eth) : (s.setEth n e).timeRuns = s.timeRuns := rfl
@[simp] theorem State.setEth_free (s : State) (n : Nat) (e : Eth) : (s.setEth n e).free = s.free := rfl
@[simp] theorem State.setEth_limited (s : State) (n : Nat) (e : Eth) : (s.setEth n e).limited = s.limited := rfl
@[simp] theorem State.setEth_fuses (s : State) (n : Nat) (e : Eth) : (s.setEth n e).fuses = s.fuses := rfl
@[simp] theorem State.setEth_power (s : State) (n : Nat) (e : Eth) : (s.setEth n e).power = s.power := rfl
@[simp] theorem State.setEth_bkt (s : State) (n : Nat) (e : Eth) : (s.setEth n e).bkt = s.bkt := rfl
@[simp] theorem State.setEth_msgs (s : State) (n : Nat) (e : Eth) : (s.setEth n e).msgs = s.msgs := rfl
@[simp] theorem State.setEth_msix (s : State) (n : Nat) (e : Eth) : (s.setEth n e).msix = s.msix := rfl
@[simp] theorem State.setEth_brg (s : State) (n : Nat) (e : Eth) : (s.setEth n e).brg = s.brg := rfl
@[simp] theorem State.setEth_resets (s : State) (n : Nat) (e : Eth) : (s.setEth n e).resets = s.resets := rfl
@[simp] theorem State.setEth_ladder (s : State) (n : Nat) (e : Eth) : (s.setEth n e).ladder = s.ladder := rfl
@[simp] theorem State.setEth_bist (s : State) (n : Nat) (e : Eth) : (s.setEth n e).bist = s.bist := rfl
@[simp] theorem State.setEth_inputs (s : State) (n : Nat) (e : Eth) : (s.setEth n e).inputs = s.inputs := rfl
@[simp] theorem State.setEth_vault (s : State) (n : Nat) (e : Eth) : (s.setEth n e).vault = s.vault := rfl
@[simp] theorem State.setEth_tanks (s : State) (n : Nat) (e : Eth) : (s.setEth n e).tanks = s.tanks := rfl
@[simp] theorem State.setEth_cis (s : State) (n : Nat) (e : Eth) : (s.setEth n e).cis = s.cis := rfl
@[simp] theorem State.setEth_pumps (s : State) (n : Nat) (e : Eth) : (s.setEth n e).pumps = s.pumps := rfl
@[simp] theorem State.setEth_trunk (s : State) (n : Nat) (e : Eth) : (s.setEth n e).trunk = s.trunk := rfl
@[simp] theorem State.setEth_links (s : State) (n : Nat) (e : Eth) : (s.setEth n e).links = s.links := rfl
@[simp] theorem State.setEth_allot (s : State) (n : Nat) (e : Eth) : (s.setEth n e).allot = s.allot := rfl
@[simp] theorem State.setEth_cas (s : State) (n : Nat) (e : Eth) : (s.setEth n e).cas = s.cas := rfl
@[simp] theorem State.setEth_spouts (s : State) (n : Nat) (e : Eth) : (s.setEth n e).spouts = s.spouts := rfl
@[simp] theorem State.setEth_hsw (s : State) (n : Nat) (e : Eth) : (s.setEth n e).hsw = s.hsw := rfl
@[simp] theorem State.setEth_usb (s : State) (n : Nat) (e : Eth) : (s.setEth n e).usb = s.usb := rfl
@[simp] theorem State.setEth_ptp (s : State) (n : Nat) (e : Eth) : (s.setEth n e).ptp = s.ptp := rfl
@[simp] theorem State.setEth_cfgs (s : State) (n : Nat) (e : Eth) : (s.setEth n e).cfgs = s.cfgs := rfl
@[simp] theorem State.setEth_dsp (s : State) (n : Nat) (e : Eth) : (s.setEth n e).dsp = s.dsp := rfl
@[simp] theorem State.setEth_get (s : State) (n : Nat) (e : Eth) (fld : Fld) : (s.setEth n e).get fld = s.get fld := rfl
@[simp] theorem State.setEth_is (s : State) (n : Nat) (e : Eth) (fld : Fld) : (s.setEth n e).is fld = s.is fld := rfl

/-! ### setVec -/

@[simp] theorem State.setVec_pending (s : State) (v : Nat) (x : Vec) : (s.setVec v x).pending = s.pending := rfl
@[simp] theorem State.setVec_outs (s : State) (v : Nat) (x : Vec) : (s.setVec v x).outs = s.outs := rfl
@[simp] theorem State.setVec_regs (s : State) (v : Nat) (x : Vec) : (s.setVec v x).regs = s.regs := rfl
@[simp] theorem State.setVec_latch (s : State) (v : Nat) (x : Vec) : (s.setVec v x).latch = s.latch := rfl
@[simp] theorem State.setVec_hubTime (s : State) (v : Nat) (x : Vec) : (s.setVec v x).hubTime = s.hubTime := rfl
@[simp] theorem State.setVec_timeRuns (s : State) (v : Nat) (x : Vec) : (s.setVec v x).timeRuns = s.timeRuns := rfl
@[simp] theorem State.setVec_free (s : State) (v : Nat) (x : Vec) : (s.setVec v x).free = s.free := rfl
@[simp] theorem State.setVec_limited (s : State) (v : Nat) (x : Vec) : (s.setVec v x).limited = s.limited := rfl
@[simp] theorem State.setVec_fuses (s : State) (v : Nat) (x : Vec) : (s.setVec v x).fuses = s.fuses := rfl
@[simp] theorem State.setVec_power (s : State) (v : Nat) (x : Vec) : (s.setVec v x).power = s.power := rfl
@[simp] theorem State.setVec_bkt (s : State) (v : Nat) (x : Vec) : (s.setVec v x).bkt = s.bkt := rfl
@[simp] theorem State.setVec_msgs (s : State) (v : Nat) (x : Vec) : (s.setVec v x).msgs = s.msgs := rfl
@[simp] theorem State.setVec_brg (s : State) (v : Nat) (x : Vec) : (s.setVec v x).brg = s.brg := rfl
@[simp] theorem State.setVec_resets (s : State) (v : Nat) (x : Vec) : (s.setVec v x).resets = s.resets := rfl
@[simp] theorem State.setVec_ladder (s : State) (v : Nat) (x : Vec) : (s.setVec v x).ladder = s.ladder := rfl
@[simp] theorem State.setVec_bist (s : State) (v : Nat) (x : Vec) : (s.setVec v x).bist = s.bist := rfl
@[simp] theorem State.setVec_inputs (s : State) (v : Nat) (x : Vec) : (s.setVec v x).inputs = s.inputs := rfl
@[simp] theorem State.setVec_vault (s : State) (v : Nat) (x : Vec) : (s.setVec v x).vault = s.vault := rfl
@[simp] theorem State.setVec_tanks (s : State) (v : Nat) (x : Vec) : (s.setVec v x).tanks = s.tanks := rfl
@[simp] theorem State.setVec_cis (s : State) (v : Nat) (x : Vec) : (s.setVec v x).cis = s.cis := rfl
@[simp] theorem State.setVec_pumps (s : State) (v : Nat) (x : Vec) : (s.setVec v x).pumps = s.pumps := rfl
@[simp] theorem State.setVec_trunk (s : State) (v : Nat) (x : Vec) : (s.setVec v x).trunk = s.trunk := rfl
@[simp] theorem State.setVec_links (s : State) (v : Nat) (x : Vec) : (s.setVec v x).links = s.links := rfl
@[simp] theorem State.setVec_allot (s : State) (v : Nat) (x : Vec) : (s.setVec v x).allot = s.allot := rfl
@[simp] theorem State.setVec_cas (s : State) (v : Nat) (x : Vec) : (s.setVec v x).cas = s.cas := rfl
@[simp] theorem State.setVec_spouts (s : State) (v : Nat) (x : Vec) : (s.setVec v x).spouts = s.spouts := rfl
@[simp] theorem State.setVec_hsw (s : State) (v : Nat) (x : Vec) : (s.setVec v x).hsw = s.hsw := rfl
@[simp] theorem State.setVec_usb (s : State) (v : Nat) (x : Vec) : (s.setVec v x).usb = s.usb := rfl
@[simp] theorem State.setVec_eth (s : State) (v : Nat) (x : Vec) : (s.setVec v x).eth = s.eth := rfl
@[simp] theorem State.setVec_ptp (s : State) (v : Nat) (x : Vec) : (s.setVec v x).ptp = s.ptp := rfl
@[simp] theorem State.setVec_cfgs (s : State) (v : Nat) (x : Vec) : (s.setVec v x).cfgs = s.cfgs := rfl
@[simp] theorem State.setVec_dsp (s : State) (v : Nat) (x : Vec) : (s.setVec v x).dsp = s.dsp := rfl
@[simp] theorem State.setVec_get (s : State) (v : Nat) (x : Vec) (fld : Fld) : (s.setVec v x).get fld = s.get fld := rfl
@[simp] theorem State.setVec_is (s : State) (v : Nat) (x : Vec) (fld : Fld) : (s.setVec v x).is fld = s.is fld := rfl

/-! ### setFrame -/

@[simp] theorem State.setFrame_pending (s : State) (id : Nat) (f : Frame) : (s.setFrame id f).pending = s.pending := rfl
@[simp] theorem State.setFrame_outs (s : State) (id : Nat) (f : Frame) : (s.setFrame id f).outs = s.outs := rfl
@[simp] theorem State.setFrame_regs (s : State) (id : Nat) (f : Frame) : (s.setFrame id f).regs = s.regs := rfl
@[simp] theorem State.setFrame_latch (s : State) (id : Nat) (f : Frame) : (s.setFrame id f).latch = s.latch := rfl
@[simp] theorem State.setFrame_hubTime (s : State) (id : Nat) (f : Frame) : (s.setFrame id f).hubTime = s.hubTime := rfl
@[simp] theorem State.setFrame_timeRuns (s : State) (id : Nat) (f : Frame) : (s.setFrame id f).timeRuns = s.timeRuns := rfl
@[simp] theorem State.setFrame_free (s : State) (id : Nat) (f : Frame) : (s.setFrame id f).free = s.free := rfl
@[simp] theorem State.setFrame_limited (s : State) (id : Nat) (f : Frame) : (s.setFrame id f).limited = s.limited := rfl
@[simp] theorem State.setFrame_fuses (s : State) (id : Nat) (f : Frame) : (s.setFrame id f).fuses = s.fuses := rfl
@[simp] theorem State.setFrame_power (s : State) (id : Nat) (f : Frame) : (s.setFrame id f).power = s.power := rfl
@[simp] theorem State.setFrame_bkt (s : State) (id : Nat) (f : Frame) : (s.setFrame id f).bkt = s.bkt := rfl
@[simp] theorem State.setFrame_msgs (s : State) (id : Nat) (f : Frame) : (s.setFrame id f).msgs = s.msgs := rfl
@[simp] theorem State.setFrame_msix (s : State) (id : Nat) (f : Frame) : (s.setFrame id f).msix = s.msix := rfl
@[simp] theorem State.setFrame_brg (s : State) (id : Nat) (f : Frame) : (s.setFrame id f).brg = s.brg := rfl
@[simp] theorem State.setFrame_resets (s : State) (id : Nat) (f : Frame) : (s.setFrame id f).resets = s.resets := rfl
@[simp] theorem State.setFrame_ladder (s : State) (id : Nat) (f : Frame) : (s.setFrame id f).ladder = s.ladder := rfl
@[simp] theorem State.setFrame_bist (s : State) (id : Nat) (f : Frame) : (s.setFrame id f).bist = s.bist := rfl
@[simp] theorem State.setFrame_inputs (s : State) (id : Nat) (f : Frame) : (s.setFrame id f).inputs = s.inputs := rfl
@[simp] theorem State.setFrame_vault (s : State) (id : Nat) (f : Frame) : (s.setFrame id f).vault = s.vault := rfl
@[simp] theorem State.setFrame_tanks (s : State) (id : Nat) (f : Frame) : (s.setFrame id f).tanks = s.tanks := rfl
@[simp] theorem State.setFrame_pumps (s : State) (id : Nat) (f : Frame) : (s.setFrame id f).pumps = s.pumps := rfl
@[simp] theorem State.setFrame_trunk (s : State) (id : Nat) (f : Frame) : (s.setFrame id f).trunk = s.trunk := rfl
@[simp] theorem State.setFrame_links (s : State) (id : Nat) (f : Frame) : (s.setFrame id f).links = s.links := rfl
@[simp] theorem State.setFrame_allot (s : State) (id : Nat) (f : Frame) : (s.setFrame id f).allot = s.allot := rfl
@[simp] theorem State.setFrame_cas (s : State) (id : Nat) (f : Frame) : (s.setFrame id f).cas = s.cas := rfl
@[simp] theorem State.setFrame_spouts (s : State) (id : Nat) (f : Frame) : (s.setFrame id f).spouts = s.spouts := rfl
@[simp] theorem State.setFrame_hsw (s : State) (id : Nat) (f : Frame) : (s.setFrame id f).hsw = s.hsw := rfl
@[simp] theorem State.setFrame_usb (s : State) (id : Nat) (f : Frame) : (s.setFrame id f).usb = s.usb := rfl
@[simp] theorem State.setFrame_eth (s : State) (id : Nat) (f : Frame) : (s.setFrame id f).eth = s.eth := rfl
@[simp] theorem State.setFrame_ptp (s : State) (id : Nat) (f : Frame) : (s.setFrame id f).ptp = s.ptp := rfl
@[simp] theorem State.setFrame_cfgs (s : State) (id : Nat) (f : Frame) : (s.setFrame id f).cfgs = s.cfgs := rfl
@[simp] theorem State.setFrame_dsp (s : State) (id : Nat) (f : Frame) : (s.setFrame id f).dsp = s.dsp := rfl
@[simp] theorem State.setFrame_get (s : State) (id : Nat) (f : Frame) (fld : Fld) : (s.setFrame id f).get fld = s.get fld := rfl
@[simp] theorem State.setFrame_is (s : State) (id : Nat) (f : Frame) (fld : Fld) : (s.setFrame id f).is fld = s.is fld := rfl

/-! ### setWell -/

@[simp] theorem State.setWell_pending (s : State) (n : Nat) (w : Well) : (s.setWell n w).pending = s.pending := rfl
@[simp] theorem State.setWell_outs (s : State) (n : Nat) (w : Well) : (s.setWell n w).outs = s.outs := rfl
@[simp] theorem State.setWell_regs (s : State) (n : Nat) (w : Well) : (s.setWell n w).regs = s.regs := rfl
@[simp] theorem State.setWell_latch (s : State) (n : Nat) (w : Well) : (s.setWell n w).latch = s.latch := rfl
@[simp] theorem State.setWell_hubTime (s : State) (n : Nat) (w : Well) : (s.setWell n w).hubTime = s.hubTime := rfl
@[simp] theorem State.setWell_timeRuns (s : State) (n : Nat) (w : Well) : (s.setWell n w).timeRuns = s.timeRuns := rfl
@[simp] theorem State.setWell_free (s : State) (n : Nat) (w : Well) : (s.setWell n w).free = s.free := rfl
@[simp] theorem State.setWell_limited (s : State) (n : Nat) (w : Well) : (s.setWell n w).limited = s.limited := rfl
@[simp] theorem State.setWell_fuses (s : State) (n : Nat) (w : Well) : (s.setWell n w).fuses = s.fuses := rfl
@[simp] theorem State.setWell_power (s : State) (n : Nat) (w : Well) : (s.setWell n w).power = s.power := rfl
@[simp] theorem State.setWell_bkt (s : State) (n : Nat) (w : Well) : (s.setWell n w).bkt = s.bkt := rfl
@[simp] theorem State.setWell_msgs (s : State) (n : Nat) (w : Well) : (s.setWell n w).msgs = s.msgs := rfl
@[simp] theorem State.setWell_msix (s : State) (n : Nat) (w : Well) : (s.setWell n w).msix = s.msix := rfl
@[simp] theorem State.setWell_brg (s : State) (n : Nat) (w : Well) : (s.setWell n w).brg = s.brg := rfl
@[simp] theorem State.setWell_resets (s : State) (n : Nat) (w : Well) : (s.setWell n w).resets = s.resets := rfl
@[simp] theorem State.setWell_ladder (s : State) (n : Nat) (w : Well) : (s.setWell n w).ladder = s.ladder := rfl
@[simp] theorem State.setWell_bist (s : State) (n : Nat) (w : Well) : (s.setWell n w).bist = s.bist := rfl
@[simp] theorem State.setWell_inputs (s : State) (n : Nat) (w : Well) : (s.setWell n w).inputs = s.inputs := rfl
@[simp] theorem State.setWell_vault (s : State) (n : Nat) (w : Well) : (s.setWell n w).vault = s.vault := rfl
@[simp] theorem State.setWell_tanks (s : State) (n : Nat) (w : Well) : (s.setWell n w).tanks = s.tanks := rfl
@[simp] theorem State.setWell_pumps (s : State) (n : Nat) (w : Well) : (s.setWell n w).pumps = s.pumps := rfl
@[simp] theorem State.setWell_trunk (s : State) (n : Nat) (w : Well) : (s.setWell n w).trunk = s.trunk := rfl
@[simp] theorem State.setWell_links (s : State) (n : Nat) (w : Well) : (s.setWell n w).links = s.links := rfl
@[simp] theorem State.setWell_allot (s : State) (n : Nat) (w : Well) : (s.setWell n w).allot = s.allot := rfl
@[simp] theorem State.setWell_cas (s : State) (n : Nat) (w : Well) : (s.setWell n w).cas = s.cas := rfl
@[simp] theorem State.setWell_spouts (s : State) (n : Nat) (w : Well) : (s.setWell n w).spouts = s.spouts := rfl
@[simp] theorem State.setWell_hsw (s : State) (n : Nat) (w : Well) : (s.setWell n w).hsw = s.hsw := rfl
@[simp] theorem State.setWell_usb (s : State) (n : Nat) (w : Well) : (s.setWell n w).usb = s.usb := rfl
@[simp] theorem State.setWell_eth (s : State) (n : Nat) (w : Well) : (s.setWell n w).eth = s.eth := rfl
@[simp] theorem State.setWell_ptp (s : State) (n : Nat) (w : Well) : (s.setWell n w).ptp = s.ptp := rfl
@[simp] theorem State.setWell_cfgs (s : State) (n : Nat) (w : Well) : (s.setWell n w).cfgs = s.cfgs := rfl
@[simp] theorem State.setWell_dsp (s : State) (n : Nat) (w : Well) : (s.setWell n w).dsp = s.dsp := rfl
@[simp] theorem State.setWell_get (s : State) (n : Nat) (w : Well) (fld : Fld) : (s.setWell n w).get fld = s.get fld := rfl
@[simp] theorem State.setWell_is (s : State) (n : Nat) (w : Well) (fld : Fld) : (s.setWell n w).is fld = s.is fld := rfl

/-! ### setThread -/

@[simp] theorem State.setThread_pending (s : State) (p t : Nat) (th : Thread) : (s.setThread p t th).pending = s.pending := rfl
@[simp] theorem State.setThread_outs (s : State) (p t : Nat) (th : Thread) : (s.setThread p t th).outs = s.outs := rfl
@[simp] theorem State.setThread_regs (s : State) (p t : Nat) (th : Thread) : (s.setThread p t th).regs = s.regs := rfl
@[simp] theorem State.setThread_latch (s : State) (p t : Nat) (th : Thread) : (s.setThread p t th).latch = s.latch := rfl
@[simp] theorem State.setThread_hubTime (s : State) (p t : Nat) (th : Thread) : (s.setThread p t th).hubTime = s.hubTime := rfl
@[simp] theorem State.setThread_timeRuns (s : State) (p t : Nat) (th : Thread) : (s.setThread p t th).timeRuns = s.timeRuns := rfl
@[simp] theorem State.setThread_free (s : State) (p t : Nat) (th : Thread) : (s.setThread p t th).free = s.free := rfl
@[simp] theorem State.setThread_limited (s : State) (p t : Nat) (th : Thread) : (s.setThread p t th).limited = s.limited := rfl
@[simp] theorem State.setThread_fuses (s : State) (p t : Nat) (th : Thread) : (s.setThread p t th).fuses = s.fuses := rfl
@[simp] theorem State.setThread_power (s : State) (p t : Nat) (th : Thread) : (s.setThread p t th).power = s.power := rfl
@[simp] theorem State.setThread_bkt (s : State) (p t : Nat) (th : Thread) : (s.setThread p t th).bkt = s.bkt := rfl
@[simp] theorem State.setThread_msgs (s : State) (p t : Nat) (th : Thread) : (s.setThread p t th).msgs = s.msgs := rfl
@[simp] theorem State.setThread_msix (s : State) (p t : Nat) (th : Thread) : (s.setThread p t th).msix = s.msix := rfl
@[simp] theorem State.setThread_brg (s : State) (p t : Nat) (th : Thread) : (s.setThread p t th).brg = s.brg := rfl
@[simp] theorem State.setThread_resets (s : State) (p t : Nat) (th : Thread) : (s.setThread p t th).resets = s.resets := rfl
@[simp] theorem State.setThread_ladder (s : State) (p t : Nat) (th : Thread) : (s.setThread p t th).ladder = s.ladder := rfl
@[simp] theorem State.setThread_bist (s : State) (p t : Nat) (th : Thread) : (s.setThread p t th).bist = s.bist := rfl
@[simp] theorem State.setThread_inputs (s : State) (p t : Nat) (th : Thread) : (s.setThread p t th).inputs = s.inputs := rfl
@[simp] theorem State.setThread_vault (s : State) (p t : Nat) (th : Thread) : (s.setThread p t th).vault = s.vault := rfl
@[simp] theorem State.setThread_tanks (s : State) (p t : Nat) (th : Thread) : (s.setThread p t th).tanks = s.tanks := rfl
@[simp] theorem State.setThread_cis (s : State) (p t : Nat) (th : Thread) : (s.setThread p t th).cis = s.cis := rfl
@[simp] theorem State.setThread_trunk (s : State) (p t : Nat) (th : Thread) : (s.setThread p t th).trunk = s.trunk := rfl
@[simp] theorem State.setThread_links (s : State) (p t : Nat) (th : Thread) : (s.setThread p t th).links = s.links := rfl
@[simp] theorem State.setThread_allot (s : State) (p t : Nat) (th : Thread) : (s.setThread p t th).allot = s.allot := rfl
@[simp] theorem State.setThread_cas (s : State) (p t : Nat) (th : Thread) : (s.setThread p t th).cas = s.cas := rfl
@[simp] theorem State.setThread_spouts (s : State) (p t : Nat) (th : Thread) : (s.setThread p t th).spouts = s.spouts := rfl
@[simp] theorem State.setThread_hsw (s : State) (p t : Nat) (th : Thread) : (s.setThread p t th).hsw = s.hsw := rfl
@[simp] theorem State.setThread_usb (s : State) (p t : Nat) (th : Thread) : (s.setThread p t th).usb = s.usb := rfl
@[simp] theorem State.setThread_eth (s : State) (p t : Nat) (th : Thread) : (s.setThread p t th).eth = s.eth := rfl
@[simp] theorem State.setThread_ptp (s : State) (p t : Nat) (th : Thread) : (s.setThread p t th).ptp = s.ptp := rfl
@[simp] theorem State.setThread_cfgs (s : State) (p t : Nat) (th : Thread) : (s.setThread p t th).cfgs = s.cfgs := rfl
@[simp] theorem State.setThread_dsp (s : State) (p t : Nat) (th : Thread) : (s.setThread p t th).dsp = s.dsp := rfl
@[simp] theorem State.setThread_get (s : State) (p t : Nat) (th : Thread) (fld : Fld) : (s.setThread p t th).get fld = s.get fld := rfl
@[simp] theorem State.setThread_is (s : State) (p t : Nat) (th : Thread) (fld : Fld) : (s.setThread p t th).is fld = s.is fld := rfl

/-! ### setGcl -/

@[simp] theorem State.setGcl_pending (s : State) (n : Nat) (g : Gcl) : (s.setGcl n g).pending = s.pending := rfl
@[simp] theorem State.setGcl_outs (s : State) (n : Nat) (g : Gcl) : (s.setGcl n g).outs = s.outs := rfl
@[simp] theorem State.setGcl_regs (s : State) (n : Nat) (g : Gcl) : (s.setGcl n g).regs = s.regs := rfl
@[simp] theorem State.setGcl_latch (s : State) (n : Nat) (g : Gcl) : (s.setGcl n g).latch = s.latch := rfl
@[simp] theorem State.setGcl_hubTime (s : State) (n : Nat) (g : Gcl) : (s.setGcl n g).hubTime = s.hubTime := rfl
@[simp] theorem State.setGcl_timeRuns (s : State) (n : Nat) (g : Gcl) : (s.setGcl n g).timeRuns = s.timeRuns := rfl
@[simp] theorem State.setGcl_free (s : State) (n : Nat) (g : Gcl) : (s.setGcl n g).free = s.free := rfl
@[simp] theorem State.setGcl_limited (s : State) (n : Nat) (g : Gcl) : (s.setGcl n g).limited = s.limited := rfl
@[simp] theorem State.setGcl_fuses (s : State) (n : Nat) (g : Gcl) : (s.setGcl n g).fuses = s.fuses := rfl
@[simp] theorem State.setGcl_power (s : State) (n : Nat) (g : Gcl) : (s.setGcl n g).power = s.power := rfl
@[simp] theorem State.setGcl_bkt (s : State) (n : Nat) (g : Gcl) : (s.setGcl n g).bkt = s.bkt := rfl
@[simp] theorem State.setGcl_msgs (s : State) (n : Nat) (g : Gcl) : (s.setGcl n g).msgs = s.msgs := rfl
@[simp] theorem State.setGcl_msix (s : State) (n : Nat) (g : Gcl) : (s.setGcl n g).msix = s.msix := rfl
@[simp] theorem State.setGcl_brg (s : State) (n : Nat) (g : Gcl) : (s.setGcl n g).brg = s.brg := rfl
@[simp] theorem State.setGcl_resets (s : State) (n : Nat) (g : Gcl) : (s.setGcl n g).resets = s.resets := rfl
@[simp] theorem State.setGcl_ladder (s : State) (n : Nat) (g : Gcl) : (s.setGcl n g).ladder = s.ladder := rfl
@[simp] theorem State.setGcl_bist (s : State) (n : Nat) (g : Gcl) : (s.setGcl n g).bist = s.bist := rfl
@[simp] theorem State.setGcl_inputs (s : State) (n : Nat) (g : Gcl) : (s.setGcl n g).inputs = s.inputs := rfl
@[simp] theorem State.setGcl_vault (s : State) (n : Nat) (g : Gcl) : (s.setGcl n g).vault = s.vault := rfl
@[simp] theorem State.setGcl_tanks (s : State) (n : Nat) (g : Gcl) : (s.setGcl n g).tanks = s.tanks := rfl
@[simp] theorem State.setGcl_cis (s : State) (n : Nat) (g : Gcl) : (s.setGcl n g).cis = s.cis := rfl
@[simp] theorem State.setGcl_pumps (s : State) (n : Nat) (g : Gcl) : (s.setGcl n g).pumps = s.pumps := rfl
@[simp] theorem State.setGcl_trunk (s : State) (n : Nat) (g : Gcl) : (s.setGcl n g).trunk = s.trunk := rfl
@[simp] theorem State.setGcl_links (s : State) (n : Nat) (g : Gcl) : (s.setGcl n g).links = s.links := rfl
@[simp] theorem State.setGcl_cas (s : State) (n : Nat) (g : Gcl) : (s.setGcl n g).cas = s.cas := rfl
@[simp] theorem State.setGcl_spouts (s : State) (n : Nat) (g : Gcl) : (s.setGcl n g).spouts = s.spouts := rfl
@[simp] theorem State.setGcl_hsw (s : State) (n : Nat) (g : Gcl) : (s.setGcl n g).hsw = s.hsw := rfl
@[simp] theorem State.setGcl_usb (s : State) (n : Nat) (g : Gcl) : (s.setGcl n g).usb = s.usb := rfl
@[simp] theorem State.setGcl_eth (s : State) (n : Nat) (g : Gcl) : (s.setGcl n g).eth = s.eth := rfl
@[simp] theorem State.setGcl_ptp (s : State) (n : Nat) (g : Gcl) : (s.setGcl n g).ptp = s.ptp := rfl
@[simp] theorem State.setGcl_cfgs (s : State) (n : Nat) (g : Gcl) : (s.setGcl n g).cfgs = s.cfgs := rfl
@[simp] theorem State.setGcl_dsp (s : State) (n : Nat) (g : Gcl) : (s.setGcl n g).dsp = s.dsp := rfl
@[simp] theorem State.setGcl_get (s : State) (n : Nat) (g : Gcl) (fld : Fld) : (s.setGcl n g).get fld = s.get fld := rfl
@[simp] theorem State.setGcl_is (s : State) (n : Nat) (g : Gcl) (fld : Fld) : (s.setGcl n g).is fld = s.is fld := rfl

/-! ### setMember -/

@[simp] theorem State.setMember_pending (s : State) (j : Nat) (m : Member) : (s.setMember j m).pending = s.pending := rfl
@[simp] theorem State.setMember_outs (s : State) (j : Nat) (m : Member) : (s.setMember j m).outs = s.outs := rfl
@[simp] theorem State.setMember_regs (s : State) (j : Nat) (m : Member) : (s.setMember j m).regs = s.regs := rfl
@[simp] theorem State.setMember_latch (s : State) (j : Nat) (m : Member) : (s.setMember j m).latch = s.latch := rfl
@[simp] theorem State.setMember_hubTime (s : State) (j : Nat) (m : Member) : (s.setMember j m).hubTime = s.hubTime := rfl
@[simp] theorem State.setMember_timeRuns (s : State) (j : Nat) (m : Member) : (s.setMember j m).timeRuns = s.timeRuns := rfl
@[simp] theorem State.setMember_free (s : State) (j : Nat) (m : Member) : (s.setMember j m).free = s.free := rfl
@[simp] theorem State.setMember_limited (s : State) (j : Nat) (m : Member) : (s.setMember j m).limited = s.limited := rfl
@[simp] theorem State.setMember_fuses (s : State) (j : Nat) (m : Member) : (s.setMember j m).fuses = s.fuses := rfl
@[simp] theorem State.setMember_power (s : State) (j : Nat) (m : Member) : (s.setMember j m).power = s.power := rfl
@[simp] theorem State.setMember_bkt (s : State) (j : Nat) (m : Member) : (s.setMember j m).bkt = s.bkt := rfl
@[simp] theorem State.setMember_msgs (s : State) (j : Nat) (m : Member) : (s.setMember j m).msgs = s.msgs := rfl
@[simp] theorem State.setMember_msix (s : State) (j : Nat) (m : Member) : (s.setMember j m).msix = s.msix := rfl
@[simp] theorem State.setMember_brg (s : State) (j : Nat) (m : Member) : (s.setMember j m).brg = s.brg := rfl
@[simp] theorem State.setMember_resets (s : State) (j : Nat) (m : Member) : (s.setMember j m).resets = s.resets := rfl
@[simp] theorem State.setMember_ladder (s : State) (j : Nat) (m : Member) : (s.setMember j m).ladder = s.ladder := rfl
@[simp] theorem State.setMember_bist (s : State) (j : Nat) (m : Member) : (s.setMember j m).bist = s.bist := rfl
@[simp] theorem State.setMember_inputs (s : State) (j : Nat) (m : Member) : (s.setMember j m).inputs = s.inputs := rfl
@[simp] theorem State.setMember_vault (s : State) (j : Nat) (m : Member) : (s.setMember j m).vault = s.vault := rfl
@[simp] theorem State.setMember_tanks (s : State) (j : Nat) (m : Member) : (s.setMember j m).tanks = s.tanks := rfl
@[simp] theorem State.setMember_cis (s : State) (j : Nat) (m : Member) : (s.setMember j m).cis = s.cis := rfl
@[simp] theorem State.setMember_pumps (s : State) (j : Nat) (m : Member) : (s.setMember j m).pumps = s.pumps := rfl
@[simp] theorem State.setMember_trunk (s : State) (j : Nat) (m : Member) : (s.setMember j m).trunk = s.trunk := rfl
@[simp] theorem State.setMember_links (s : State) (j : Nat) (m : Member) : (s.setMember j m).links = s.links := rfl
@[simp] theorem State.setMember_allot (s : State) (j : Nat) (m : Member) : (s.setMember j m).allot = s.allot := rfl
@[simp] theorem State.setMember_spouts (s : State) (j : Nat) (m : Member) : (s.setMember j m).spouts = s.spouts := rfl
@[simp] theorem State.setMember_hsw (s : State) (j : Nat) (m : Member) : (s.setMember j m).hsw = s.hsw := rfl
@[simp] theorem State.setMember_usb (s : State) (j : Nat) (m : Member) : (s.setMember j m).usb = s.usb := rfl
@[simp] theorem State.setMember_eth (s : State) (j : Nat) (m : Member) : (s.setMember j m).eth = s.eth := rfl
@[simp] theorem State.setMember_ptp (s : State) (j : Nat) (m : Member) : (s.setMember j m).ptp = s.ptp := rfl
@[simp] theorem State.setMember_cfgs (s : State) (j : Nat) (m : Member) : (s.setMember j m).cfgs = s.cfgs := rfl
@[simp] theorem State.setMember_dsp (s : State) (j : Nat) (m : Member) : (s.setMember j m).dsp = s.dsp := rfl
@[simp] theorem State.setMember_get (s : State) (j : Nat) (m : Member) (fld : Fld) : (s.setMember j m).get fld = s.get fld := rfl
@[simp] theorem State.setMember_is (s : State) (j : Nat) (m : Member) (fld : Fld) : (s.setMember j m).is fld = s.is fld := rfl

/-! ### setLayer -/

@[simp] theorem State.setLayer_pending (s : State) (l : Nat) (x : Layer) : (s.setLayer l x).pending = s.pending := rfl
@[simp] theorem State.setLayer_outs (s : State) (l : Nat) (x : Layer) : (s.setLayer l x).outs = s.outs := rfl
@[simp] theorem State.setLayer_regs (s : State) (l : Nat) (x : Layer) : (s.setLayer l x).regs = s.regs := rfl
@[simp] theorem State.setLayer_latch (s : State) (l : Nat) (x : Layer) : (s.setLayer l x).latch = s.latch := rfl
@[simp] theorem State.setLayer_hubTime (s : State) (l : Nat) (x : Layer) : (s.setLayer l x).hubTime = s.hubTime := rfl
@[simp] theorem State.setLayer_timeRuns (s : State) (l : Nat) (x : Layer) : (s.setLayer l x).timeRuns = s.timeRuns := rfl
@[simp] theorem State.setLayer_free (s : State) (l : Nat) (x : Layer) : (s.setLayer l x).free = s.free := rfl
@[simp] theorem State.setLayer_limited (s : State) (l : Nat) (x : Layer) : (s.setLayer l x).limited = s.limited := rfl
@[simp] theorem State.setLayer_fuses (s : State) (l : Nat) (x : Layer) : (s.setLayer l x).fuses = s.fuses := rfl
@[simp] theorem State.setLayer_power (s : State) (l : Nat) (x : Layer) : (s.setLayer l x).power = s.power := rfl
@[simp] theorem State.setLayer_bkt (s : State) (l : Nat) (x : Layer) : (s.setLayer l x).bkt = s.bkt := rfl
@[simp] theorem State.setLayer_msgs (s : State) (l : Nat) (x : Layer) : (s.setLayer l x).msgs = s.msgs := rfl
@[simp] theorem State.setLayer_msix (s : State) (l : Nat) (x : Layer) : (s.setLayer l x).msix = s.msix := rfl
@[simp] theorem State.setLayer_brg (s : State) (l : Nat) (x : Layer) : (s.setLayer l x).brg = s.brg := rfl
@[simp] theorem State.setLayer_resets (s : State) (l : Nat) (x : Layer) : (s.setLayer l x).resets = s.resets := rfl
@[simp] theorem State.setLayer_ladder (s : State) (l : Nat) (x : Layer) : (s.setLayer l x).ladder = s.ladder := rfl
@[simp] theorem State.setLayer_bist (s : State) (l : Nat) (x : Layer) : (s.setLayer l x).bist = s.bist := rfl
@[simp] theorem State.setLayer_inputs (s : State) (l : Nat) (x : Layer) : (s.setLayer l x).inputs = s.inputs := rfl
@[simp] theorem State.setLayer_vault (s : State) (l : Nat) (x : Layer) : (s.setLayer l x).vault = s.vault := rfl
@[simp] theorem State.setLayer_tanks (s : State) (l : Nat) (x : Layer) : (s.setLayer l x).tanks = s.tanks := rfl
@[simp] theorem State.setLayer_cis (s : State) (l : Nat) (x : Layer) : (s.setLayer l x).cis = s.cis := rfl
@[simp] theorem State.setLayer_pumps (s : State) (l : Nat) (x : Layer) : (s.setLayer l x).pumps = s.pumps := rfl
@[simp] theorem State.setLayer_trunk (s : State) (l : Nat) (x : Layer) : (s.setLayer l x).trunk = s.trunk := rfl
@[simp] theorem State.setLayer_links (s : State) (l : Nat) (x : Layer) : (s.setLayer l x).links = s.links := rfl
@[simp] theorem State.setLayer_allot (s : State) (l : Nat) (x : Layer) : (s.setLayer l x).allot = s.allot := rfl
@[simp] theorem State.setLayer_cas (s : State) (l : Nat) (x : Layer) : (s.setLayer l x).cas = s.cas := rfl
@[simp] theorem State.setLayer_spouts (s : State) (l : Nat) (x : Layer) : (s.setLayer l x).spouts = s.spouts := rfl
@[simp] theorem State.setLayer_hsw (s : State) (l : Nat) (x : Layer) : (s.setLayer l x).hsw = s.hsw := rfl
@[simp] theorem State.setLayer_usb (s : State) (l : Nat) (x : Layer) : (s.setLayer l x).usb = s.usb := rfl
@[simp] theorem State.setLayer_eth (s : State) (l : Nat) (x : Layer) : (s.setLayer l x).eth = s.eth := rfl
@[simp] theorem State.setLayer_ptp (s : State) (l : Nat) (x : Layer) : (s.setLayer l x).ptp = s.ptp := rfl
@[simp] theorem State.setLayer_cfgs (s : State) (l : Nat) (x : Layer) : (s.setLayer l x).cfgs = s.cfgs := rfl
@[simp] theorem State.setLayer_get (s : State) (l : Nat) (x : Layer) (fld : Fld) : (s.setLayer l x).get fld = s.get fld := rfl
@[simp] theorem State.setLayer_is (s : State) (l : Nat) (x : Layer) (fld : Fld) : (s.setLayer l x).is fld = s.is fld := rfl

/-! ### Keyed stores -/

theorem assocGet_put_same {α : Type} (d : α) (k : Nat) (v : α) (l : List (Nat × α)) : assocGet d (assocPut k v l) k = v := by
  induction l with
  | nil => simp [assocPut, assocGet]
  | cons e l ih =>
    obtain ⟨k', v'⟩ := e
    unfold assocPut
    split
    · simp [assocGet]
    · split
      · simp [assocGet]
      · simp_all [assocGet]

theorem assocGet_put_other {α : Type} (d : α) (k j : Nat) (v : α) (l : List (Nat × α)) (h : j ≠ k) :
    assocGet d (assocPut k v l) j = assocGet d l j := by
  induction l with
  | nil => simp [assocPut, assocGet, h]
  | cons e l ih =>
    obtain ⟨k', v'⟩ := e
    unfold assocPut
    split
    · subst_vars; simp [assocGet, h]
    · split
      · simp [assocGet, h]
      · simp [assocGet, ih]

theorem assocGet_del_other {α : Type} (d : α) (k j : Nat) (l : List (Nat × α)) (h : j ≠ k) :
    assocGet d (assocDel k l) j = assocGet d l j := by
  induction l with
  | nil => rfl
  | cons e l ih =>
    obtain ⟨k', v'⟩ := e
    unfold assocDel
    split
    · subst_vars; simp [assocGet, h, ih]
    · simp [assocGet, ih]

theorem keysFrom_mono {α : Type} (l : List (Nat × α)) (a b : Nat) (h : a ≤ b) (hk : keysFrom b l = true) :
    keysFrom a l = true := by
  cases l with
  | nil => rfl
  | cons e l =>
    obtain ⟨k, v⟩ := e
    simp only [keysFrom, Bool.and_eq_true, decide_eq_true_eq] at hk ⊢
    exact ⟨by omega, hk.2⟩

theorem keysFrom_put {α : Type} (k : Nat) (v : α) (l : List (Nat × α)) (b : Nat) (hb : b ≤ k) (hk : keysFrom b l = true) :
    keysFrom b (assocPut k v l) = true := by
  induction l generalizing b with
  | nil => simp [assocPut, keysFrom, hb]
  | cons e l ih =>
    obtain ⟨k', v'⟩ := e
    simp only [keysFrom, Bool.and_eq_true, decide_eq_true_eq] at hk
    unfold assocPut
    split
    · subst_vars; simp [keysFrom, hk]
    · split
      · simp only [keysFrom, Bool.and_eq_true, decide_eq_true_eq]
        exact ⟨hb, by omega, hk.2⟩
      · simp only [keysFrom, Bool.and_eq_true, decide_eq_true_eq]
        exact ⟨hk.1, ih (k' + 1) (by omega) hk.2⟩

theorem keysFrom_del {α : Type} (k : Nat) (l : List (Nat × α)) (b : Nat) (hk : keysFrom b l = true) :
    keysFrom b (assocDel k l) = true := by
  induction l generalizing b with
  | nil => rfl
  | cons e l ih =>
    obtain ⟨k', v'⟩ := e
    simp only [keysFrom, Bool.and_eq_true, decide_eq_true_eq] at hk
    unfold assocDel
    split
    · exact ih b (keysFrom_mono l b (k' + 1) (by omega) hk.2)
    · simp only [keysFrom, Bool.and_eq_true, decide_eq_true_eq]
      exact ⟨hk.1, ih (k' + 1) hk.2⟩

theorem assocGet_del_same {α : Type} (d : α) (k : Nat) (l : List (Nat × α)) : assocGet d (assocDel k l) k = d := by
  induction l with
  | nil => rfl
  | cons e l ih =>
    obtain ⟨k', v'⟩ := e
    unfold assocDel
    split
    · exact ih
    · rename_i hne
      simp [assocGet, hne, ih]

/-! ### Register fields -/

/-- Reading another field after writing one. -/
theorem State.get_put_other (s : State) (f g : Fld) (v : Nat) (h : g.key ≠ f.key) : (s.put f v).get g = s.get g := by
  unfold State.get State.put assocSet
  split
  · exact assocGet_del_other _ _ _ _ h
  · exact assocGet_put_other _ _ _ _ _ h

/-- Reading a field after writing it. -/
theorem State.get_put_same (s : State) (f : Fld) (v : Nat) : (s.put f v).get f = v % 2 ^ f.w := by
  unfold State.get State.put assocSet
  split
  · rename_i h
    rw [assocGet_del_same, h]
  · exact assocGet_put_same _ _ _ _

/-- Reading a field after writing a value other than its reset value. -/
theorem State.get_put_kept (s : State) (f : Fld) (v : Nat) (h : v % 2 ^ f.w ≠ f.rst) : (s.put f v).get f = v % 2 ^ f.w := by
  unfold State.get State.put assocSet
  rw [if_neg h]
  exact assocGet_put_same _ _ _ _

end Sys2Proof.Machine
end

