-- ==== Sys2Proof/Laws/Bucket.lean ====
section
/-! SUPPORT. What placing a command on a bucket channel does (R32 to R36). -/
namespace Sys2Proof.Machine

/-- The keys of the bucket's request registers. -/
def reqKey (k : Nat) : Prop := 0x10004000 * 32 ≤ k ∧ k < 0x10008000 * 32

/-- Writing a request register of a channel that is not busy. -/
theorem State.reqWrite_idle (s : State) (ch i v : Nat) (h : s.is (GLB_BKT_STAT_BUSY ch) = false) :
    s.reqWrite ch i v = s.put (GLB_BKT_REQ_DATA ch i) v := by simp [State.reqWrite, h]

/-- The request registers written one after the other. -/
def State.putReqs (s : State) (ch : Nat) (b : Bytes) : List Nat → State
  | [] => s
  | i :: l => (s.put (GLB_BKT_REQ_DATA ch i) (leAt b (4 * i) 4)).putReqs ch b l

theorem State.putReqs_get_other (s : State) (ch : Nat) (b : Bytes) (l : List Nat) (f : Fld)
    (h : ∀ i ∈ l, f.key ≠ (GLB_BKT_REQ_DATA ch i).key) : (s.putReqs ch b l).get f = s.get f := by
  induction l generalizing s with
  | nil => rfl
  | cons i l ih =>
    rw [State.putReqs, ih _ (fun j hj => h j (by simp [hj])), State.get_put_other _ _ _ _ (h i (by simp))]

theorem leAt4_lt (b : Bytes) (i : Nat) : leAt b i 4 < 2 ^ 32 := by
  have h : ∀ l : Bytes, leNat l < 256 ^ l.length := by
    intro l
    induction l with
    | nil => simp [leNat]
    | cons x l ih =>
      simp only [leNat, List.length_cons, Nat.pow_succ']
      have := x.isLt
      omega
  have := h (slice b i 4)
  rw [slice_length] at this
  simpa [leAt] using this

theorem reqKey_ne (ch ch' i j : Nat) (hi : i < 16) (hj : j < 16) (h : i ≠ j ∨ ch ≠ ch') :
    (GLB_BKT_REQ_DATA ch i).key ≠ (GLB_BKT_REQ_DATA ch' j).key := by
  simp only [Fld.key, GLB_BKT_REQ_DATA]; omega

theorem State.putReqs_get (s : State) (ch : Nat) (b : Bytes) (l : List Nat) (hn : l.Nodup)
    (hl : ∀ i ∈ l, i < 16) (i : Nat) (hi : i ∈ l) : (s.putReqs ch b l).get (GLB_BKT_REQ_DATA ch i) = leAt b (4 * i) 4 := by
  induction l generalizing s with
  | nil => simp at hi
  | cons j l ih =>
    rw [List.nodup_cons] at hn
    rw [State.putReqs]
    by_cases hij : i = j
    · subst hij
      rw [State.putReqs_get_other _ _ _ _ _ (fun k hk => reqKey_ne _ _ _ _ (hl i (by simp)) (hl k (by simp [hk]))
        (Or.inl (fun e => hn.1 (e ▸ hk)))), State.get_put_same]
      exact Nat.mod_eq_of_lt (leAt4_lt _ _)
    · exact ih _ hn.2 (fun k hk => hl k (by simp [hk])) (by simpa [hij] using hi)

theorem State.fillRequest_eq (s : State) (ch : Nat) (b : Bytes) (h : s.is (GLB_BKT_STAT_BUSY ch) = false) :
    s.fillRequest ch b = s.putReqs ch b (List.range 16) := by
  have key : ∀ (l : List Nat) (s : State), (∀ i ∈ l, i < 16) → s.is (GLB_BKT_STAT_BUSY ch) = false →
      l.foldl (fun s i => s.reqWrite ch i (leAt b (4 * i) 4)) s = s.putReqs ch b l := by
    intro l
    induction l with
    | nil => intros; rfl
    | cons i l ih =>
      intro s hl hs
      have hi := hl i (by simp)
      rw [List.foldl_cons, State.reqWrite_idle _ _ _ _ hs, State.putReqs]
      refine ih _ (fun k hk => hl k (by simp [hk])) ?_
      rw [State.is, State.get_put_other]
      · exact hs
      · simp only [Fld.key, GLB_BKT_REQ_DATA, GLB_BKT_STAT_BUSY]; omega
  exact key _ _ (fun i hi => by simpa using hi) h

/-- The request bytes of a channel after they have been written. -/
theorem State.request_fill (s : State) (ch : Nat) (b : Bytes)
    (h : s.is (GLB_BKT_STAT_BUSY ch) = false) (hb : b.length = 64) : (s.fillRequest ch b).request ch = b := by
  rw [State.fillRequest_eq _ _ _ h, State.request]
  have e : ∀ i ∈ List.range 16, leBytes 4 ((s.putReqs ch b (List.range 16)).get (GLB_BKT_REQ_DATA ch i)) =
      (b.drop (4 * i)).take 4 := by
    intro i hi
    have hi' : i < 16 := by simpa using hi
    rw [State.putReqs_get _ _ _ _ List.nodup_range (fun k hk => by simpa using hk) i hi, leAt]
    have e := leBytes_leNat (slice b (4 * i) 4)
    rw [slice_length] at e
    rw [e]
    exact slice_inside _ _ _ (by omega)
  rw [List.flatMap_congr e, words_take]
  simp [← hb]

/-- Fields outside the request registers keep their value while a request is written. -/
theorem State.fillRequest_get (s : State) (ch : Nat) (b : Bytes) (f : Fld) (h : s.is (GLB_BKT_STAT_BUSY ch) = false)
    (hf : ∀ i < 16, f.key ≠ (GLB_BKT_REQ_DATA ch i).key) : (s.fillRequest ch b).get f = s.get f := by
  rw [State.fillRequest_eq _ _ _ h]
  exact State.putReqs_get_other _ _ _ _ _ (fun i hi => hf i (by simpa using hi))

theorem State.putReqs_frame (s : State) (ch : Nat) (b : Bytes) (l : List Nat) :
    s.putReqs ch b l = { s with regs := (s.putReqs ch b l).regs } := by
  induction l generalizing s with
  | nil => rfl
  | cons i l ih => rw [State.putReqs, ih]; rfl

/-- Only the register store changes while a request is written. -/
theorem State.fillRequest_frame (s : State) (ch : Nat) (b : Bytes) (h : s.is (GLB_BKT_STAT_BUSY ch) = false) :
    s.fillRequest ch b = { s with regs := (s.fillRequest ch b).regs } := by
  rw [State.fillRequest_eq _ _ _ h]; exact State.putReqs_frame _ _ _ _

/-- The fields that the firmware test and the checks of a GO read. -/
theorem State.firmware_regs (s t : State) (hp : t.power = s.power) (hh : t.get FLT_STAT_HALT = s.get FLT_STAT_HALT) :
    t.firmware = s.firmware := by
  simp only [State.firmware, State.halted, State.is, hp, hh]

theorem requestBytes_length (op seq : Nat) (args : Bytes) : (requestBytes op seq args).length = 64 := by
  simp [requestBytes, fit_length]

theorem requestBytes_op (op seq : Nat) (args : Bytes) (h : op < 65536) : leAt (requestBytes op seq args) 0 2 = op := by
  rw [leAt, slice_inside _ _ _ (by simp [requestBytes_length])]
  simp only [requestBytes, List.append_assoc, List.drop_zero]
  rw [List.take_append_of_le_length (by simp), List.take_of_length_le (by simp), leNat_leBytes]
  omega

theorem requestBytes_seq (op seq : Nat) (args : Bytes) (h : seq < 65536) : leAt (requestBytes op seq args) 2 2 = seq := by
  rw [leAt, slice_inside _ _ _ (by simp [requestBytes_length])]
  simp only [requestBytes, List.append_assoc]
  rw [List.drop_append_of_le_length (by simp), List.drop_of_length_le (by simp), List.nil_append,
    List.take_append_of_le_length (by simp), List.take_of_length_le (by simp), leNat_leBytes]
  omega

theorem requestBytes_args (op seq : Nat) (args : Bytes) (h : args.length = 60) : (requestBytes op seq args).drop 4 = args := by
  rw [requestBytes, List.drop_append]
  have := fit_same args
  rw [h] at this
  simp [this]

theorem State.startedWells_frame {s t : State} (hc : t.cis = s.cis) (hl : t.links = s.links) : t.startedWells = s.startedWells := by
  rw [State.startedWells, State.startedWells, hc, hl]

/-- Placing a command on a channel that can take it: the request registers are written, the command is accepted, and it starts at
once where no other command is queued. -/
theorem State.bktSubmit_ready (s : State) (ch op seq : Nat) (args : Bytes) (hr : s.bktReady ch = true) (ho : op < 65536)
    (hs : seq < 65536) (ha : args.length = 60) :
    s.bktSubmit ch op seq args =
      (s.accepted ⟨ch, op, seq, args⟩).startCmd := by
  simp only [State.bktReady, Bool.and_eq_true, decide_eq_true_eq, Bool.not_eq_true', List.isEmpty_iff] at hr
  obtain ⟨⟨⟨⟨⟨hf, hd⟩, hc⟩, hq⟩, hb⟩, hg⟩ := hr
  have fr := s.fillRequest_frame ch (requestBytes op seq args) hb
  have gt : ∀ f : Fld, (∀ i < 16, f.key ≠ (GLB_BKT_REQ_DATA ch i).key) →
      (s.fillRequest ch (requestBytes op seq args)).get f = s.get f := fun f h => s.fillRequest_get ch _ f hb h
  have e1 : (s.fillRequest ch (requestBytes op seq args)).firmware = true := by
    rw [State.firmware_regs s _ (by rw [fr]) (gt _ ?_)]
    · exact hf
    · intro i hi; simp only [Fld.key, FLT_STAT_HALT, GLB_BKT_REQ_DATA]; omega
  have e2 : (s.fillRequest ch (requestBytes op seq args)).power.dryEntry = false := by rw [fr]; exact hd
  have e3 : (s.fillRequest ch (requestBytes op seq args)).is (GLB_BKT_STAT_BUSY ch) = false := by
    rw [State.is, gt]
    · exact hb
    · intro i hi; simp only [Fld.key, GLB_BKT_STAT_BUSY, GLB_BKT_REQ_DATA]; omega
  have e4 : (s.fillRequest ch (requestBytes op seq args)).stepsRun ch = false := by
    rw [← hg]
    have r : (s.fillRequest ch (requestBytes op seq args)).resetting ch = s.resetting ch := by
      simp only [State.resetting, State.is]
      rw [gt, gt]
      · intro i hi; simp only [Fld.key, SLC_STAT_REMOVING, GLB_BKT_REQ_DATA]; omega
      · intro i hi; simp only [Fld.key, SLC_STAT_RESETTING, GLB_BKT_REQ_DATA]; omega
    have w : (s.fillRequest ch (requestBytes op seq args)).startedWells = s.startedWells :=
      State.startedWells_frame (by rw [fr]) (by rw [fr])
    have x : ∀ n, (s.fillRequest ch (requestBytes op seq args)).get (WEL_CFG_SLICE n) = s.get (WEL_CFG_SLICE n) := by
      intro n
      exact gt _ (by intro i hi; simp only [Fld.key, WEL_CFG_SLICE, GLB_BKT_REQ_DATA]; omega)
    simp only [State.stepsRun, r, w, x]
  have e5 : (s.fillRequest ch (requestBytes op seq args)).bkt.queue = [] := by rw [fr]; exact hq
  simp only [State.bktSubmit, State.bktGo, hf, e1, e2, e3, e4, e5, s.request_fill ch _ hb (requestBytes_length _ _ _),
    requestBytes_op _ _ _ ho, requestBytes_seq _ _ _ hs, requestBytes_args _ _ _ ha]
  simp [Nat.not_le.mpr hc, State.accepted]

theorem State.accept_get (s : State) (c : BktCmd) (f : Fld) (h : f.key < 0x10004000 * 32 ∨ 0x10008000 * 32 ≤ f.key)
    (hc : c.ch < 64) : (s.accept c).get f = s.get f := by
  have e : (s.accept c).get f =
      (((s.put (GLB_BKT_STAT_LAST_SEQ c.ch) c.seq).put (GLB_BKT_STAT_DONE c.ch) 0).put (GLB_BKT_STAT_BUSY c.ch) 1).get f := rfl
  rw [e, State.get_put_other, State.get_put_other, State.get_put_other]
  · simp only [Fld.key, GLB_BKT_STAT_LAST_SEQ] at *; omega
  · simp only [Fld.key, GLB_BKT_STAT_DONE] at *; omega
  · simp only [Fld.key, GLB_BKT_STAT_BUSY] at *; omega

/-- Accepting a command changes no register outside the bucket's. -/
theorem State.accepted_get (s : State) (c : BktCmd) (f : Fld) (hb : s.is (GLB_BKT_STAT_BUSY c.ch) = false)
    (h : f.key < 0x10004000 * 32 ∨ 0x10008000 * 32 ≤ f.key) (hc : c.ch < 64) : (s.accepted c).get f = s.get f := by
  rw [State.accepted, State.accept_get _ _ _ h hc]
  refine State.fillRequest_get _ _ _ _ hb ?_
  intro i hi
  simp only [Fld.key, GLB_BKT_REQ_DATA] at *
  omega

/-- Accepting a command changes the register store and the controller's queue. -/
theorem State.accepted_frame (s : State) (c : BktCmd) (hb : s.is (GLB_BKT_STAT_BUSY c.ch) = false) :
    s.accepted c = { s with regs := (s.accepted c).regs, bkt := { s.bkt with queue := s.bkt.queue ++ [c] } } := by
  have e := s.fillRequest_frame c.ch (requestBytes c.op c.seq c.args) hb
  rw [State.accepted, e]
  rfl

theorem State.bktTakes_ready (s : State) (c : BktCmd) (h : s.bktTakes c = true) :
    s.bktReady c.ch = true ∧ c.seq < 65536 ∧ c.args.length = 60 ∧ s.get SEC_STAT_LC ≠ 5 ∧ s.bound c.ch = true ∧ c.ch < 64 ∧
      s.is (GLB_BKT_STAT_BUSY c.ch) = false ∧ s.firmware = true ∧ s.power.dryEntry = false ∧ s.bkt.queue = [] := by
  simp only [State.bktTakes, State.bktReady, Bool.and_eq_true, decide_eq_true_eq, Bool.not_eq_true', bne_iff_ne,
    List.isEmpty_iff] at h ⊢
  obtain ⟨⟨⟨⟨⟨⟨⟨⟨⟨a, b⟩, c⟩, d⟩, e⟩, f⟩, h⟩, i⟩, j⟩, k⟩ := h
  exact ⟨⟨⟨⟨⟨⟨a, b⟩, c⟩, d⟩, e⟩, f⟩, h, i, j, k, c, e, a, b, d⟩

/-- The slice of the channel is bound after the acceptance as before. -/
theorem State.accepted_bound (s : State) (c : BktCmd) (h : s.bktTakes c = true) : (s.accepted c).bound c.ch = true := by
  obtain ⟨_, _, _, _, hb, hc, hy, _⟩ := s.bktTakes_ready c h
  rw [State.bound, State.is, State.accepted_get _ _ _ hy _ hc]
  · exact hb
  · right; simp only [Fld.key, SLC_BIND_BOUND]; omega

/-- A command that can start at once runs its entry of the table on the accepted state. -/
theorem State.submit_starts (s : State) (c : BktCmd) (f : BktCmd → State → BktStage × State) (h : s.bktTakes c = true)
    (ho : c.op < 65536) (hf : bktTable c.op = some f) :
    s.bktSubmit c.ch c.op c.seq c.args = State.started c (f c (s.accepted c)) := by
  obtain ⟨hr, hs, ha, hl, _, hc, hy, hw, hdry, hq⟩ := s.bktTakes_ready c h
  rw [State.bktSubmit_ready _ _ _ _ _ hr ho hs ha]
  have fr := s.accepted_frame c hy
  have e1 : (s.accepted c).bkt.queue = [c] := by rw [fr]; simp [hq]
  have e2 : (s.accepted c).firmware = true := by
    rw [State.firmware_regs s _ (by rw [fr]) (s.accepted_get c _ hy (by right; decide) hc)]; exact hw
  have e3 : (s.accepted c).power.dryEntry = false := by rw [fr]; exact hdry
  have e4 : (s.accepted c).get SEC_STAT_LC ≠ 5 := by rw [s.accepted_get c _ hy (by right; decide) hc]; exact hl
  show (s.accepted c).startCmd = _
  unfold State.startCmd
  rw [e1]
  simp only [e2, e3, State.runCmd, e4, hf, false_and, if_false, Bool.not_true, Bool.or_false, Bool.false_eq_true]

/-- Such a command, other than CLK_DRY_ENTER, holds its stage. -/
theorem State.submit_runs (s : State) (c : BktCmd) (f : BktCmd → State → BktStage × State) (h : s.bktTakes c = true)
    (ho : c.op < 65536) (hf : bktTable c.op = some f) (hd : c.op ≠ 0x0100) :
    s.bktSubmit c.ch c.op c.seq c.args = staged (f c (s.accepted c)) := by
  rw [s.submit_starts c f h ho hf]
  rcases f c (s.accepted c) with ⟨g, u⟩
  cases g <;> simp [State.started, hd]

end Sys2Proof.Machine
end

