-- ==== Sys2Proof/Laws/Events.lean ====
section
/-! SUPPORT. What raising an event can touch (R286 to R292): the outputs, the counts in registers, the message queue and the memory of
rate limits, and nothing else. -/
namespace Sys2Proof.Machine

/-- Two states that differ at most in the outputs, the registers, the messages and the rate limits. -/
def EventOnly (s t : State) : Prop :=
  t = { s with outs := t.outs, regs := t.regs, msgs := t.msgs, limited := t.limited }

theorem EventOnly.refl (s : State) : EventOnly s s := rfl

theorem EventOnly.trans {s t u : State} (a : EventOnly s t) (b : EventOnly t u) : EventOnly s u := by
  unfold EventOnly at *; rw [b, a]

theorem EventOnly.put (s : State) (f : Fld) (v : Nat) : EventOnly s (s.put f v) := rfl

theorem EventOnly.bump (s : State) (f : Fld) : EventOnly s (s.bump f) := rfl

theorem EventOnly.emit (s : State) (o : Out) : EventOnly s (s.emit o) := rfl

theorem EventOnly.eventMsg (s : State) (code inst payload : Nat) : EventOnly s (s.eventMsg code inst payload).2 := by
  unfold State.eventMsg
  repeat' first | split | exact EventOnly.refl s | exact EventOnly.bump s _ | dsimp only

theorem EventOnly.discardNote (s : State) : EventOnly s s.discardNote := by
  unfold State.discardNote
  dsimp only
  split
  · have h0 : EventOnly s { s.emit (.event 0x1301 0 0) with limited := assocSet 0 (0x1301 * 65536) (s.hubTime + 1) s.limited } := rfl
    have h := EventOnly.eventMsg { s.emit (.event 0x1301 0 0) with
      limited := assocSet 0 (0x1301 * 65536) (s.hubTime + 1) s.limited } 0x1301 0 0
    split
    · rename_i u hu; rw [hu] at h; exact h0.trans h
    · rename_i m u hu
      rw [hu] at h
      split
      · exact (h0.trans h).trans (EventOnly.bump u _)
      · exact (h0.trans h).trans rfl
  · exact EventOnly.refl s

theorem EventOnly.queueMsg (s : State) (m : Msg) : EventOnly s (s.queueMsg m) := by
  unfold State.queueMsg
  split
  · exact (EventOnly.bump s _).trans (EventOnly.discardNote _)
  · rfl

theorem EventOnly.raiseP (s : State) (code inst payload : Nat) : EventOnly s (s.raiseP code inst payload) := by
  unfold State.raiseP State.routeEvent
  have h := (EventOnly.emit s (.event code inst payload)).trans (EventOnly.eventMsg (s.emit (.event code inst payload)) code inst payload)
  split
  · rename_i u hu; rw [hu] at h; exact h
  · rename_i m u hu; rw [hu] at h; exact h.trans (EventOnly.queueMsg u m)

theorem EventOnly.raise (s : State) (code inst : Nat) : EventOnly s (s.raise code inst) := EventOnly.raiseP s code inst 0

theorem EventOnly.raiseEvery (s : State) (period code inst payload : Nat) : EventOnly s (s.raiseEvery period code inst payload) := by
  unfold State.raiseEvery
  dsimp only
  split
  · exact (EventOnly.raiseP s code inst payload).trans rfl
  · exact EventOnly.refl s

theorem EventOnly.power {s t : State} (h : EventOnly s t) : t.power = s.power := by rw [h]
theorem EventOnly.bist {s t : State} (h : EventOnly s t) : t.bist = s.bist := by rw [h]
theorem EventOnly.bkt {s t : State} (h : EventOnly s t) : t.bkt = s.bkt := by rw [h]
theorem EventOnly.brg {s t : State} (h : EventOnly s t) : t.brg = s.brg := by rw [h]
theorem EventOnly.cis {s t : State} (h : EventOnly s t) : t.cis = s.cis := by rw [h]
theorem EventOnly.pumps {s t : State} (h : EventOnly s t) : t.pumps = s.pumps := by rw [h]
theorem EventOnly.links {s t : State} (h : EventOnly s t) : t.links = s.links := by rw [h]
theorem EventOnly.tanks {s t : State} (h : EventOnly s t) : t.tanks = s.tanks := by rw [h]
theorem EventOnly.vault {s t : State} (h : EventOnly s t) : t.vault = s.vault := by rw [h]
theorem EventOnly.ladder {s t : State} (h : EventOnly s t) : t.ladder = s.ladder := by rw [h]

end Sys2Proof.Machine
end

