-- ==== Sys2Proof/Laws/Stores.lean ====
section
/-! SUPPORT. Reading the keyed stores of the state after a write: links, spouts, buses, vectors, threads, wells, ports and layers; and a run of register writes. -/
namespace Sys2Proof.Machine

theorem assocGet_set_same {α : Type} [DecidableEq α] (d : α) (k : Nat) (v : α) (l : List (Nat × α)) :
    assocGet d (assocSet d k v l) k = v := by
  unfold assocSet
  split
  · rw [assocGet_del_same]; symm; assumption
  · exact assocGet_put_same _ _ _ _

theorem assocGet_set_other {α : Type} [DecidableEq α] (d : α) (k j : Nat) (v : α) (l : List (Nat × α)) (h : j ≠ k) :
    assocGet d (assocSet d k v l) j = assocGet d l j := by
  unfold assocSet
  split
  · exact assocGet_del_other _ _ _ _ h
  · exact assocGet_put_other _ _ _ _ _ h

theorem assocFind_put {α : Type} (k : Nat) (v : α) (l : List (Nat × α)) : assocFind (assocPut k v l) k = some v := by
  induction l with
  | nil => simp [assocPut, assocFind]
  | cons e l ih =>
    obtain ⟨k', v'⟩ := e
    unfold assocPut
    split
    · simp [assocFind]
    · split
      · simp [assocFind]
      · simp_all [assocFind]

theorem assocFind_put_other {α : Type} (k j : Nat) (v : α) (l : List (Nat × α)) (h : j ≠ k) :
    assocFind (assocPut k v l) j = assocFind l j := by
  induction l with
  | nil => simp [assocPut, assocFind, h]
  | cons e l ih =>
    obtain ⟨k', v'⟩ := e
    unfold assocPut
    split
    · subst_vars; simp [assocFind, h]
    · split
      · simp [assocFind, h]
      · simp [assocFind, ih]

theorem keysFrom_set {α : Type} [DecidableEq α] (d : α) (k : Nat) (v : α) (l : List (Nat × α)) (hk : keysFrom 0 l = true) :
    keysFrom 0 (assocSet d k v l) = true := by
  unfold assocSet
  split
  · exact keysFrom_del _ _ _ hk
  · exact keysFrom_put _ _ _ _ (Nat.zero_le _) hk

@[simp] theorem State.link_setLink (s : State) (p : Nat) (x : Link) : (s.setLink p x).link p = x :=
  assocGet_set_same _ _ _ _
theorem State.link_setLink_other (s : State) (p i : Nat) (x : Link) (h : i ≠ p) : (s.setLink p x).link i = s.link i :=
  assocGet_set_other _ _ _ _ _ h

@[simp] theorem State.spout_setSpout (s : State) (n : Nat) (x : Spout) : (s.setSpout n x).spout n = x :=
  assocGet_set_same _ _ _ _
theorem State.spout_setSpout_other (s : State) (n i : Nat) (x : Spout) (h : i ≠ n) : (s.setSpout n x).spout i = s.spout i :=
  assocGet_set_other _ _ _ _ _ h

@[simp] theorem State.ctl_setCtl (s : State) (n : Nat) (x : Hsw) : (s.setCtl n x).ctl n = x :=
  assocGet_set_same _ _ _ _
theorem State.ctl_setCtl_other (s : State) (n i : Nat) (x : Hsw) (h : i ≠ n) : (s.setCtl n x).ctl i = s.ctl i :=
  assocGet_set_other _ _ _ _ _ h

@[simp] theorem State.bus_setBus (s : State) (k : Nat) (x : UsbBus) : (s.setBus k x).bus k = x :=
  assocGet_set_same _ _ _ _
theorem State.bus_setBus_other (s : State) (k i : Nat) (x : UsbBus) (h : i ≠ k) : (s.setBus k x).bus i = s.bus i :=
  assocGet_set_other _ _ _ _ _ h

@[simp] theorem State.vec_setVec (s : State) (v : Nat) (x : Vec) : (s.setVec v x).vec v = x :=
  assocGet_set_same _ _ _ _
theorem State.vec_setVec_other (s : State) (v i : Nat) (x : Vec) (h : i ≠ v) : (s.setVec v x).vec i = s.vec i :=
  assocGet_set_other _ _ _ _ _ h

@[simp] theorem State.well_setWell (s : State) (n : Nat) (x : Well) : (s.setWell n x).well n = x :=
  assocGet_set_same _ _ _ _
theorem State.well_setWell_other (s : State) (n i : Nat) (x : Well) (h : i ≠ n) : (s.setWell n x).well i = s.well i :=
  assocGet_set_other _ _ _ _ _ h

@[simp] theorem State.ethPort_setEth (s : State) (n : Nat) (x : Eth) : (s.setEth n x).ethPort n = x :=
  assocGet_set_same _ _ _ _
theorem State.ethPort_setEth_other (s : State) (n i : Nat) (x : Eth) (h : i ≠ n) : (s.setEth n x).ethPort i = s.ethPort i :=
  assocGet_set_other _ _ _ _ _ h

@[simp] theorem State.layer_setLayer (s : State) (l : Nat) (x : Layer) : (s.setLayer l x).layer l = x :=
  assocGet_set_same _ _ _ _
theorem State.layer_setLayer_other (s : State) (l i : Nat) (x : Layer) (h : i ≠ l) : (s.setLayer l x).layer i = s.layer i :=
  assocGet_set_other _ _ _ _ _ h

@[simp] theorem State.member_setMember (s : State) (j : Nat) (x : Member) : (s.setMember j x).member j = x :=
  assocGet_set_same _ _ _ _
theorem State.member_setMember_other (s : State) (j i : Nat) (x : Member) (h : i ≠ j) : (s.setMember j x).member i = s.member i :=
  assocGet_set_other _ _ _ _ _ h

/-- A field that no write of the run names keeps its value. -/
theorem State.puts_get_other (s : State) (F : Nat → Fld) (V : Nat → Nat) (l : List Nat) (g : Fld) (h : ∀ i, i ∈ l → g.key ≠ (F i).key) :
    (l.foldl (fun s i => s.put (F i) (V i)) s).get g = s.get g := by
  induction l generalizing s with
  | nil => rfl
  | cons a l ih =>
    rw [List.foldl_cons, ih _ (fun i hi => h i (by simp [hi])), State.get_put_other _ _ _ _ (h a (by simp))]

/-- A field that a run of writes with distinct keys names has the value written. -/
theorem State.puts_get (s : State) (F : Nat → Fld) (V : Nat → Nat) (l : List Nat) (hn : l.Nodup)
    (hk : ∀ i j, i ∈ l → j ∈ l → i ≠ j → (F i).key ≠ (F j).key) (i : Nat) (hi : i ∈ l) :
    (l.foldl (fun s i => s.put (F i) (V i)) s).get (F i) = V i % 2 ^ (F i).w := by
  induction l generalizing s with
  | nil => cases hi
  | cons a l ih =>
    rw [List.nodup_cons] at hn
    rw [List.foldl_cons]
    rcases List.mem_cons.mp hi with rfl | h
    · rw [State.puts_get_other, State.get_put_same]
      intro j hj
      exact hk i j hi (by simp [hj]) (fun e => hn.1 (e ▸ hj))
    · exact ih _ hn.2 (fun i j hi hj => hk i j (by simp [hi]) (by simp [hj])) h

/-- A run of register writes changes registers only. -/
theorem State.puts_frame (s : State) (F : Nat → Fld) (V : Nat → Nat) (l : List Nat) :
    l.foldl (fun s i => s.put (F i) (V i)) s = { s with regs := (l.foldl (fun s i => s.put (F i) (V i)) s).regs } := by
  induction l generalizing s with
  | nil => rfl
  | cons a l ih => rw [List.foldl_cons]; rw [ih (s.put (F a) (V a))]; rfl

end Sys2Proof.Machine
end

