-- ==== Sys2Proof/Laws/Memory.lean ====
section
/-! SUPPORT. Memories: every operation keeps the canonical form, and what a byte reads as after a write. -/
namespace Sys2Proof.Machine

/-- The canonical form is that the addresses rise and no entry holds 0. -/
theorem wf_iff (m : List Host.Cell) : Memory.wf m = true ↔ keysFrom 0 m = true ∧ ∀ c, c ∈ m → c.2 ≠ 0#8 := by
  have step : ∀ (l : List (Nat × Byte)) (b : Nat), (∀ c, c ∈ l.head? → b ≤ c.1) →
      (assocWf (fun _ => 0#8) l = true ↔ keysFrom b l = true ∧ ∀ c, c ∈ l → c.2 ≠ 0#8) := by
    intro l
    induction l with
    | nil => intro b _; simp [assocWf, keysFrom]
    | cons e l ih =>
      intro b hb
      obtain ⟨k, v⟩ := e
      have hk : b ≤ k := hb (k, v) (by simp)
      cases l with
      | nil => simp [assocWf, keysFrom, hk]
      | cons e' l =>
        obtain ⟨k', v'⟩ := e'
        by_cases hlt : k < k'
        · have := ih (k + 1) (by intro c hc; simp at hc; subst hc; exact hlt)
          simp only [assocWf, Bool.and_eq_true, decide_eq_true_eq, this]
          simp only [keysFrom, Bool.and_eq_true, decide_eq_true_eq]
          constructor
          · rintro ⟨⟨h1, h2⟩, ⟨h3, h4⟩, h5⟩
            exact ⟨⟨hk, h3, h4⟩, by intro c hc; rcases List.mem_cons.mp hc with rfl | hc; exact h1; exact h5 c hc⟩
          · rintro ⟨⟨h1, h3, h4⟩, h5⟩
            exact ⟨⟨h5 (k, v) (by simp), hlt⟩, ⟨h3, h4⟩, fun c hc => h5 c (List.mem_cons_of_mem _ hc)⟩
        · constructor
          · intro h; simp only [assocWf, Bool.and_eq_true, decide_eq_true_eq] at h; exact absurd h.1.2 hlt
          · rintro ⟨h, -⟩; simp only [keysFrom, Bool.and_eq_true, decide_eq_true_eq] at h; omega
  exact step m 0 (by simp)

theorem mem_assocDel {α : Type} (k : Nat) (l : List (Nat × α)) (c : Nat × α) (h : c ∈ assocDel k l) : c ∈ l := by
  induction l with
  | nil => exact h
  | cons e l ih =>
    obtain ⟨k', v⟩ := e
    unfold assocDel at h
    split at h
    · exact List.mem_cons_of_mem _ (ih h)
    · rcases List.mem_cons.mp h with rfl | h
      · exact List.mem_cons_self
      · exact List.mem_cons_of_mem _ (ih h)

theorem mem_assocPut {α : Type} (k : Nat) (v : α) (l : List (Nat × α)) (c : Nat × α) (h : c ∈ assocPut k v l) : c = (k, v) ∨ c ∈ l := by
  induction l with
  | nil => simpa [assocPut] using h
  | cons e l ih =>
    obtain ⟨k', v'⟩ := e
    unfold assocPut at h
    split at h
    · rcases List.mem_cons.mp h with h | h
      · exact .inl h
      · exact .inr (List.mem_cons_of_mem _ h)
    · split at h
      · rcases List.mem_cons.mp h with h | h
        · exact .inl h
        · exact .inr h
      · rcases List.mem_cons.mp h with rfl | h
        · exact .inr List.mem_cons_self
        · rcases ih h with h | h
          · exact .inl h
          · exact .inr (List.mem_cons_of_mem _ h)

/-- Writing one byte keeps the canonical form. -/
theorem wf_memSet (m : List Host.Cell) (a : Nat) (b : Byte) (h : Memory.wf m = true) : Memory.wf (memSet m a b) = true := by
  rw [wf_iff] at h ⊢
  refine ⟨keysFrom_set _ _ _ _ h.1, ?_⟩
  intro c hc
  unfold memSet assocSet at hc
  split at hc
  · exact h.2 c (mem_assocDel _ _ _ hc)
  · rcases mem_assocPut _ _ _ _ hc with rfl | hc
    · assumption
    · exact h.2 c hc

/-- Writing bytes keeps the canonical form. -/
theorem wf_memWrite (m : List Host.Cell) (a : Nat) (d : Bytes) (h : Memory.wf m = true) : Memory.wf (memWrite m a d) = true := by
  induction d generalizing m a with
  | nil => exact h
  | cons b d ih => exact ih _ _ (wf_memSet m a b h)

theorem keysFrom_filter {α : Type} (q : Nat × α → Bool) (l : List (Nat × α)) (b : Nat) (h : keysFrom b l = true) :
    keysFrom b (l.filter q) = true := by
  induction l generalizing b with
  | nil => rfl
  | cons e l ih =>
    obtain ⟨k, v⟩ := e
    simp only [keysFrom, Bool.and_eq_true, decide_eq_true_eq] at h
    rw [List.filter_cons]
    split
    · simp only [keysFrom, Bool.and_eq_true, decide_eq_true_eq]; exact ⟨h.1, ih _ h.2⟩
    · exact ih _ (keysFrom_mono _ _ _ (by omega) h.2)

/-- Zeroing a range keeps the canonical form. -/
theorem wf_memZero (m : List Host.Cell) (a n : Nat) (h : Memory.wf m = true) : Memory.wf (memZero m a n) = true := by
  rw [wf_iff] at h ⊢
  exact ⟨keysFrom_filter _ _ _ h.1, fun c hc => h.2 c (List.mem_filter.mp hc).1⟩

/-- The byte just written. -/
theorem memGet_memSet_same (m : List Host.Cell) (a : Nat) (b : Byte) : memGet (memSet m a b) a = b := assocGet_set_same _ _ _ _

/-- Every other byte. -/
theorem memGet_memSet_other (m : List Host.Cell) (a x : Nat) (b : Byte) (h : x ≠ a) : memGet (memSet m a b) x = memGet m x :=
  assocGet_set_other _ _ _ _ _ h

/-- A byte outside the range written. -/
theorem memGet_memWrite_other (m : List Host.Cell) (a x : Nat) (d : Bytes) (h : x < a ∨ a + d.length ≤ x) :
    memGet (memWrite m a d) x = memGet m x := by
  induction d generalizing m a with
  | nil => rfl
  | cons b d ih =>
    simp only [List.length_cons] at h
    show memGet (memWrite (memSet m a b) (a + 1) d) x = _
    rw [ih _ _ (by omega), memGet_memSet_other _ _ _ _ (by omega)]

/-- A byte of the range written. -/
theorem memGet_memWrite (m : List Host.Cell) (a i : Nat) (d : Bytes) (hi : i < d.length) :
    memGet (memWrite m a d) (a + i) = d[i] := by
  induction d generalizing m a i with
  | nil => simp at hi
  | cons b d ih =>
    show memGet (memWrite (memSet m a b) (a + 1) d) (a + i) = _
    cases i with
    | zero => rw [memGet_memWrite_other _ _ _ _ (by omega)]; exact memGet_memSet_same m a b
    | succ i =>
      have := ih (memSet m a b) (a + 1) i (by simpa using hi)
      rw [show a + (i + 1) = a + 1 + i by omega, this]; rfl

/-- Reading the range just written gives the bytes written. -/
theorem memRead_memWrite (m : List Host.Cell) (a : Nat) (d : Bytes) :
    memRead (memWrite m a d) a d.length = d := by
  apply List.ext_getElem
  · simp [memRead]
  · intro i h1 h2
    simp only [memRead, List.getElem_map, List.getElem_range]
    exact memGet_memWrite m a i d h2

/-- The tanks of a state reset are in canonical form. -/
theorem reset_tanksWf : State.reset.tanksWf = true := by decide

/-- Writing a tank keeps every tank in canonical form. -/
theorem setTank_tanksWf (s : State) (k : Nat) (m : List Host.Cell) (h : s.tanksWf = true) (hm : Memory.wf m = true) :
    (s.setTank k m).tanksWf = true := by
  simp only [State.tanksWf, Bool.and_eq_true] at h
  obtain ⟨⟨⟨⟨h0, h1⟩, h2⟩, h3⟩, h4⟩ := h
  unfold State.setTank
  split <;> simp [State.tanksWf, *]

/-- A tank of a state whose tanks are in canonical form. -/
theorem tank_wf (s : State) (k : Nat) (h : s.tanksWf = true) : Memory.wf (s.tank k) = true := by
  simp only [State.tanksWf, Bool.and_eq_true] at h
  obtain ⟨⟨⟨⟨h0, h1⟩, h2⟩, h3⟩, h4⟩ := h
  unfold State.tank
  split <;> assumption

/-- Writing bytes of a tank keeps every tank in canonical form. -/
theorem tankWrite_tanksWf (s : State) (k a : Nat) (d : Bytes) (h : s.tanksWf = true) : (s.tankWrite k a d).tanksWf = true :=
  setTank_tanksWf s k _ h (wf_memWrite _ _ _ (tank_wf s k h))

end Sys2Proof.Machine
end

