-- ==== Sys2Proof/Laws/Registers.lean ====
section
/-! SUPPORT. A register-write row: what a write by slice 0 to a register of the map does, and where the map's registers stand. -/
namespace Sys2Proof.Machine

/-- A write by slice 0 to a present register of the map, outside the MSI-X table and configuration space. -/
theorem State.rowWrite_zero (s : State) (a base : Nat) (ix : List Nat) (fs : List (Fld × Acc)) (v : W32)
    (hf : s.firmware = true) (h4 : a % 4 = 0) (hp : s.regPresent a = true) (hm : a < 0x11130000 ∨ 0x11138100 ≤ a)
    (hc : a < 0x10C00000 ∨ 0x10C20000 ≤ a ∨ a % 0x10000 < 0x8000) (hr : findReg a = some (base, ix, fs)) :
    s.rowWrite true 0 a v = .next (s.writeReg 0 base ix fs v.toNat) := by
  have q1 : ¬ (0x11130000 ≤ a ∧ a < 0x11138100) := by omega
  have q2 : ¬ (0x10C00000 ≤ a ∧ a < 0x10C20000 ∧ 0x8000 ≤ a % 0x10000) := by omega
  have q3 : v.toNat % 2 ^ 32 = v.toNat := Nat.mod_eq_of_lt v.isLt
  simp only [State.rowWrite, State.regWrite, State.refuses, State.write32, hf, h4, hp, hr, q1, q2, q3]
  simp

/-- The blocks below the policers are present on every part. -/
theorem State.regPresent_low (s : State) (a : Nat) (h : a < 0x10070000) : s.regPresent a = true := by
  unfold State.regPresent
  repeat rw [if_neg (by omega)]

/-- Where the registers of an array stand: the row of the map at base, with index n for the word n strides on. -/
def placed (base stride count : Nat) (fs : Nat → List (Fld × Acc)) : Bool :=
  (List.range count).all (fun n => decide (findReg (base + stride * n) = some (base, [n], fs n)))

theorem findReg_placed (base stride count : Nat) (fs : Nat → List (Fld × Acc)) (h : placed base stride count fs = true) (n : Nat)
    (hn : n < count) : findReg (base + stride * n) = some (base, [n], fs n) := by
  have := List.all_eq_true.mp h n (by simpa using hn)
  simpa using this

/-- A register-write row of slice 0 on entry n of an array. -/
theorem State.rowWrite_placed (s : State) (base stride count : Nat) (fs : Nat → List (Fld × Acc)) (n : Nat) (v : W32)
    (h : placed base stride count fs = true) (hf : s.firmware = true) (hn : n < count) (h4 : (base + stride * n) % 4 = 0)
    (hp : s.regPresent (base + stride * n) = true)
    (hm : base + stride * n < 0x11130000 ∨ 0x11138100 ≤ base + stride * n)
    (hc : base + stride * n < 0x10C00000 ∨ 0x10C20000 ≤ base + stride * n ∨ (base + stride * n) % 0x10000 < 0x8000) :
    s.rowWrite (decide (n < count)) 0 (base + stride * n) v = .next (s.writeReg 0 base [n] (fs n) v.toNat) := by
  rw [decide_eq_true hn]
  exact s.rowWrite_zero _ _ _ _ v hf h4 hp hm hc (findReg_placed base stride count fs h n hn)

theorem placed_laneCtrl : placed 0x10020100 0x40 4 (fun n => [(TRK_LANE_CTRL_PRBS_CLR n, .w1s), (TRK_LANE_CTRL_ADAPT_HOLD n, .rw),
    (TRK_LANE_CTRL_EQ_OVR n, .rw), (TRK_LANE_CTRL_SQ_MODE n, .rwc 0 2)]) = true := by decide +kernel

theorem placed_laneInj : placed 0x10020118 0x40 4 (fun n => [(TRK_LANE_INJ_PRBS_ERR n, .w1s), (TRK_LANE_INJ_BURST n, .rw),
    (TRK_LANE_INJ_LOL n, .rw), (TRK_LANE_INJ_LOS n, .rw)]) = true := by decide +kernel

theorem placed_welCfg : placed 0x10090000 0x40 512 (fun n => [(WEL_CFG_EN n, .rw), (WEL_CFG_ISL_MODE n, .rw), (WEL_CFG_BP_PRI n, .rw),
    (WEL_CFG_SLICE n, .rw), (WEL_CFG_PORT n, .rw)]) = true := by decide +kernel

end Sys2Proof.Machine
end

