-- ==== Sys2Proof/Laws/Windlass.lean ====
section
/-! SUPPORT. The issue of a Windlass instruction: what it comes to when the thread may issue it. -/
namespace Sys2Proof.Machine

/-- An instruction that the thread issues acts as its body says. -/
theorem State.issue_acts (s : State) (p t : Nat) (i : Instr) (body : State → Thread → Act) (h : s.issues p t i = true) :
    s.issue p t i body = s.acts p t (body s (s.thread p t)) := by
  simp only [State.issues, Bool.and_eq_true, decide_eq_true_eq, beq_iff_eq] at h
  obtain ⟨⟨⟨⟨⟨⟨⟨h1, h2⟩, h3⟩, h4⟩, h5⟩, h6⟩, h7⟩, h8⟩ := h
  have q2 : ¬ (s.nPumps ≤ p ∨ 32 ≤ t) := by omega
  have q5 : ¬ (s.thread p t).budget ≤ (s.thread p t).steps := by omega
  have q4 : (s.thread p t).stop = none := by simpa using h4
  simp only [State.issue, h1, q2, h3, q4, q5, h6, h7, h8]
  simp [State.acts]


/-- A value within one and a half times the range wraps at most once. -/
theorem bmod_once (k : Nat) (x : Int) (h1 : -(3 * 2 ^ k) ≤ x) (h2 : x < 3 * 2 ^ k) :
    (x.bmod (2 ^ (k + 1)) = x ∧ -(2 ^ k) ≤ x ∧ x < 2 ^ k) ∨ (x.bmod (2 ^ (k + 1)) = x - 2 ^ (k + 1) ∧ 2 ^ k ≤ x) ∨ (x.bmod (2 ^ (k + 1)) = x + 2 ^ (k + 1) ∧ x < -(2 ^ k)) := by
  have e : (2 : Int) ^ (k + 1) = 2 * 2 ^ k := by ring
  have p : (0 : Int) < 2 ^ k := by positivity
  have e' : ((2 ^ (k + 1) : Nat) : Int) = 2 * 2 ^ k := by push_cast; ring
  have b1 := Int.bmod_lt (x := x) (m := 2 ^ (k + 1)) (by positivity)
  have b2 := Int.le_bmod (x := x) (m := 2 ^ (k + 1)) (by positivity)
  have d : ∃ q : Int, x.bmod (2 ^ (k + 1)) = x - q * (2 * 2 ^ k) := by
    have := Int.bmod_emod (x := x) (m := 2 ^ (k + 1))
    have h := Int.emod_emod_of_dvd
    refine ⟨(x - x.bmod (2 ^ (k + 1))) / (2 * 2 ^ k), ?_⟩
    have dv : (2 * 2 ^ k : Int) ∣ x - x.bmod (2 ^ (k + 1)) := by
      rw [← e']; exact Int.dvd_of_emod_eq_zero (by rw [Int.sub_emod, this]; simp)
    rw [Int.ediv_mul_cancel dv]; ring
  obtain ⟨q, hq⟩ := d
  rw [e'] at b1 b2
  generalize (2 : Int) ^ k = P at *
  rw [e]
  have q1 : -1 ≤ q := by by_contra h; have : q * (2 * P) ≤ -2 * (2 * P) := by nlinarith
                         omega
  have q2 : q ≤ 1 := by by_contra h; have : 2 * (2 * P) ≤ q * (2 * P) := by nlinarith
                        omega
  have : q = -1 ∨ q = 0 ∨ q = 1 := by omega
  rcases this with rfl | rfl | rfl
  · right; right; constructor; linarith; omega
  · left; refine ⟨by linarith, by omega, by omega⟩
  · right; left; constructor; linarith; omega


/-- The sign rule of signed overflow on addition is that of the exact sum. -/
theorem overflow_add (k : Nat) (A B : Int) (c : Bool) (hA : -(2^k) ≤ A ∧ A < 2^k) (hB : -(2^k) ≤ B ∧ B < 2^k) :
  ((decide (A < 0) == decide (B < 0)) && (decide ((A + B + c.toNat).bmod (2^(k+1)) < 0) != decide (A < 0))) = decide (A + B + c.toNat < -(2 ^ k) ∨ 2 ^ k ≤ A + B + (c.toNat : Int)) := by
  have hc : (c.toNat : Int) = 0 ∨ (c.toNat : Int) = 1 := by cases c <;> simp
  have e : (2 : Int) ^ (k + 1) = 2 * 2 ^ k := by ring
  have p : (0 : Int) < 2 ^ k := by positivity
  have := bmod_once k (A + B + c.toNat) (by omega) (by omega)
  rw [e] at this
  generalize (2 : Int) ^ k = P at *
  rw [Bool.eq_iff_iff]
  simp only [Bool.and_eq_true, beq_iff_eq, bne_iff_ne, ne_eq, decide_eq_decide, decide_eq_true_eq]
  rcases this with ⟨h, h1, h2⟩ | ⟨h, h1⟩ | ⟨h, h1⟩ <;> rw [h] <;> omega

/-- Signed overflow of an addition with carry is that of the exact sum (R221). -/
theorem addFlags_overflow (w : Nat) (hw : 0 < w) (a b : BitVec w) (c : Bool) :
    (a.msb == b.msb && (a + b + BitVec.ofNat w c.toNat).msb != a.msb) = decide (a.toInt + b.toInt + c.toNat < -(2 ^ (w - 1)) ∨ 2 ^ (w - 1) ≤ a.toInt + b.toInt + (c.toNat : Int)) := by
  obtain ⟨k, rfl⟩ : ∃ k, w = k + 1 := ⟨w - 1, by omega⟩
  have e : (a + b + BitVec.ofNat (k+1) c.toNat).toInt = (a.toInt + b.toInt + c.toNat).bmod (2 ^ (k + 1)) := by
    simp [BitVec.toInt_add, BitVec.toInt_ofNat', Int.add_bmod]
  rw [BitVec.msb_eq_toInt, BitVec.msb_eq_toInt, BitVec.msb_eq_toInt, e]
  have ha := BitVec.le_toInt a
  have ha' := BitVec.toInt_lt (x := a)
  have hb := BitVec.le_toInt b
  have hb' := BitVec.toInt_lt (x := b)
  simp only [Nat.add_sub_cancel] at *
  exact overflow_add k a.toInt b.toInt c ⟨ha, ha'⟩ ⟨hb, hb'⟩

/-- The sign rule of signed overflow on subtraction is that of the exact difference. -/
theorem overflow_sub (k : Nat) (A B : Int) (c : Bool) (hA : -(2 ^ k) ≤ A ∧ A < 2 ^ k) (hB : -(2 ^ k) ≤ B ∧ B < 2 ^ k) :
    ((decide (A < 0) != decide (B < 0)) && (decide ((A - B - c.toNat).bmod (2 ^ (k + 1)) < 0) != decide (A < 0))) =
      decide (A - B - c.toNat < -(2 ^ k) ∨ 2 ^ k ≤ A - B - (c.toNat : Int)) := by
  have hc : (c.toNat : Int) = 0 ∨ (c.toNat : Int) = 1 := by cases c <;> simp
  have e : (2 : Int) ^ (k + 1) = 2 * 2 ^ k := by ring
  have p : (0 : Int) < 2 ^ k := by positivity
  have := bmod_once k (A - B - c.toNat) (by omega) (by omega)
  rw [e] at this
  generalize (2 : Int) ^ k = P at *
  rw [Bool.eq_iff_iff]
  simp only [Bool.and_eq_true, bne_iff_ne, ne_eq, decide_eq_decide, decide_eq_true_eq]
  rcases this with ⟨h, h1, h2⟩ | ⟨h, h1⟩ | ⟨h, h1⟩ <;> rw [h] <;> omega

/-- Signed overflow of a subtraction with borrow is that of the exact difference (R221). -/
theorem subFlags_overflow (w : Nat) (hw : 0 < w) (a b : BitVec w) (c : Bool) :
    (a.msb != b.msb && (a - b - BitVec.ofNat w c.toNat).msb != a.msb) = decide (a.toInt - b.toInt - c.toNat < -(2 ^ (w - 1)) ∨ 2 ^ (w - 1) ≤ a.toInt - b.toInt - (c.toNat : Int)) := by
  obtain ⟨k, rfl⟩ : ∃ k, w = k + 1 := ⟨w - 1, by omega⟩
  have e : (a - b - BitVec.ofNat (k+1) c.toNat).toInt = (a.toInt - b.toInt - c.toNat).bmod (2 ^ (k + 1)) := by
    simp [BitVec.toInt_sub, BitVec.toInt_ofNat', Int.sub_bmod]
  rw [BitVec.msb_eq_toInt, BitVec.msb_eq_toInt, BitVec.msb_eq_toInt, e]
  have ha := BitVec.le_toInt a
  have ha' := BitVec.toInt_lt (x := a)
  have hb := BitVec.le_toInt b
  have hb' := BitVec.toInt_lt (x := b)
  simp only [Nat.add_sub_cancel] at *
  exact overflow_sub k a.toInt b.toInt c ⟨ha, ha'⟩ ⟨hb, hb'⟩

/-- CLZ finds the highest bit that is 1 (R221). -/
theorem clz_spec (w : Nat) (a : BitVec w) (h : a ≠ 0#w) :
    clz a < w ∧ a.getLsbD (w - 1 - clz a) = true ∧ (∀ i, w - 1 - clz a < i → a.getLsbD i = false) := by
  have h0 : a.toNat ≠ 0 := by intro q; apply h; apply BitVec.eq_of_toNat_eq; simpa using q
  have hl : Nat.log2 a.toNat < w := (Nat.log2_lt h0).mpr a.isLt
  have e : w - 1 - clz a = Nat.log2 a.toNat := by unfold clz; rw [if_neg h0]; omega
  refine ⟨by unfold clz; rw [if_neg h0]; omega, ?_, ?_⟩
  · rw [e]; unfold BitVec.getLsbD
    exact Nat.testBit_log2 h0
  · intro i hi; rw [e] at hi; unfold BitVec.getLsbD
    apply Nat.testBit_lt_two_pow
    exact Nat.lt_of_lt_of_le Nat.lt_log2_self (Nat.pow_le_pow_right (by decide) hi)

/-- CTZ finds the lowest bit that is 1 (R221). -/
theorem ctz_spec (w : Nat) (a : BitVec w) (h : a ≠ 0#w) :
    ctz a < w ∧ a.getLsbD (ctz a) = true ∧ ∀ i, i < ctz a → a.getLsbD i = false := by
  unfold ctz
  cases hf : (List.range w).find? (fun i => a.getLsbD i) with
  | none =>
    exfalso; apply h
    rw [List.find?_eq_none] at hf
    apply BitVec.eq_of_getLsbD_eq; intro i hi
    have := hf i (by simpa using hi)
    simpa using this
  | some k =>
    rw [List.find?_range_eq_some] at hf
    obtain ⟨h1, h2, h3⟩ := hf
    refine ⟨by simpa using h2, by simpa using h1, ?_⟩
    intro i hi
    have := h3 i (by simpa using hi)
    simpa using this

/-- CLZ and CTZ of 0 give the width (R221). -/
theorem zero_counts (w : Nat) : clz (0#w) = w ∧ ctz (0#w) = w := by
  refine ⟨by simp [clz], ?_⟩
  unfold ctz
  rw [List.find?_eq_none.mpr (by simp)]; rfl

/-- Writing a register leaves the others, and g0 always (R210). -/
theorem Thread.reg_setReg (th : Thread) (gd k : BitVec 4) (v : W64) (h : k ≠ gd ∨ k = 0#4) : (th.setReg gd v).reg k = th.reg k := by
  unfold Thread.setReg
  split
  · rfl
  · unfold Thread.reg
    split
    · rfl
    · rename_i q r
      dsimp only
      have hk : k.toNat ≠ gd.toNat := by
        intro e; rcases h with h | h
        · exact h (BitVec.eq_of_toNat_eq e)
        · exact r h
      unfold assocSet
      split
      · exact assocGet_del_other _ _ _ _ hk
      · exact assocGet_put_other _ _ _ _ _ hk

/-! Writing a register changes nothing else of the thread. -/

@[simp] theorem Thread.setReg_pc (th : Thread) (r : BitVec 4) (v : W64) : (th.setReg r v).pc = th.pc := by
  unfold Thread.setReg; split <;> rfl
@[simp] theorem Thread.setReg_flg (th : Thread) (r : BitVec 4) (v : W64) : (th.setReg r v).flg = th.flg := by
  unfold Thread.setReg; split <;> rfl
@[simp] theorem Thread.setReg_mem (th : Thread) (r : BitVec 4) (v : W64) : (th.setReg r v).mem = th.mem := by
  unfold Thread.setReg; split <;> rfl
@[simp] theorem Thread.setReg_chain (th : Thread) (r : BitVec 4) (v : W64) : (th.setReg r v).chain = th.chain := by
  unfold Thread.setReg; split <;> rfl
@[simp] theorem Thread.setReg_st (th : Thread) (r : BitVec 4) (v : W64) : (th.setReg r v).st = th.st := by
  unfold Thread.setReg; split <;> rfl
@[simp] theorem Thread.setReg_ctx (th : Thread) (r : BitVec 4) (v : W64) : (th.setReg r v).ctx = th.ctx := by
  unfold Thread.setReg; split <;> rfl

/-- Reading the register just written (R210). -/
theorem Thread.reg_setReg_same (th : Thread) (gd : BitVec 4) (v : W64) (h : gd ≠ 0#4) : (th.setReg gd v).reg gd = v := by
  unfold Thread.setReg Thread.reg
  rw [if_neg h, if_neg h]
  exact assocGet_set_same _ _ _ _

/-- The bits of a field (R222). -/
theorem bits_testBit (v pos w i : Nat) (hw : 0 < w) : (bits v (pos + w - 1) pos).testBit i = (decide (i < w) && v.testBit (pos + i)) := by
  unfold bits
  have : pos + w - 1 + 1 - pos = w := by omega
  rw [this, Nat.testBit_mod_two_pow, Nat.testBit_div_two_pow, Nat.add_comm]

end Sys2Proof.Machine
end

