-- ==== Sys2Proof/Laws/Words.lean ====
section
/-! SUPPORT. The fields of the words of the Windlass formats (R214): each field reads back what the format put there, and a word is the
format of its own fields. -/
namespace Sys2Proof.Machine

open BitVec

/-! ## Two fields side by side -/

theorem append_high {n m : Nat} (x : BitVec n) (y : BitVec m) : (x ++ y).extractLsb' m n = x := extractLsb'_append_eq_left

theorem append_low {n m : Nat} (x : BitVec n) (y : BitVec m) : (x ++ y).extractLsb' 0 m = y := extractLsb'_append_eq_right

theorem skipLow {n m k l : Nat} {x : BitVec n} {y : BitVec m} (h : m ≤ k) : (x ++ y).extractLsb' k l = x.extractLsb' (k - m) l :=
  extractLsb'_append_eq_of_le h

/-- A value is its high bits beside its low bits. -/
theorem split_append {n m : Nat} (w : BitVec (n + m)) : w = w.extractLsb' m n ++ w.extractLsb' 0 m := by
  apply eq_of_getLsbD_eq; intro i hi
  simp only [getLsbD_append, getLsbD_extractLsb']
  split
  · simp [*]
  · rw [show m + (i - m) = i by omega]; simp [show i - m < n by omega]

/-! ## The fields of each format -/

@[simp] theorem fmtA_opcode (op : BitVec 6) (gd ga gb : BitVec 4) (fn : BitVec 14) : (fmtA op gd ga gb fn).extractLsb' 26 6 = op :=
  (skipLow (by omega)).trans ((skipLow (by omega)).trans ((skipLow (by omega)).trans ((skipLow (by omega)).trans extractLsb'_eq_self)))
@[simp] theorem fmtA_gd (op : BitVec 6) (gd ga gb : BitVec 4) (fn : BitVec 14) : (fmtA op gd ga gb fn).extractLsb' 22 4 = gd :=
  (skipLow (by omega)).trans ((skipLow (by omega)).trans ((skipLow (by omega)).trans (append_low _ _)))
@[simp] theorem fmtA_ga (op : BitVec 6) (gd ga gb : BitVec 4) (fn : BitVec 14) : (fmtA op gd ga gb fn).extractLsb' 18 4 = ga :=
  (skipLow (by omega)).trans ((skipLow (by omega)).trans (append_low _ _))
@[simp] theorem fmtA_gb (op : BitVec 6) (gd ga gb : BitVec 4) (fn : BitVec 14) : (fmtA op gd ga gb fn).extractLsb' 14 4 = gb :=
  (skipLow (by omega)).trans (append_low _ _)
@[simp] theorem fmtA_fn (op : BitVec 6) (gd ga gb : BitVec 4) (fn : BitVec 14) : (fmtA op gd ga gb fn).extractLsb' 0 14 = fn :=
  append_low _ _

@[simp] theorem fmtI_opcode (op : BitVec 6) (gd ga : BitVec 4) (imm : BitVec 18) : (fmtI op gd ga imm).extractLsb' 26 6 = op :=
  (skipLow (by omega)).trans ((skipLow (by omega)).trans ((skipLow (by omega)).trans extractLsb'_eq_self))
@[simp] theorem fmtI_gd (op : BitVec 6) (gd ga : BitVec 4) (imm : BitVec 18) : (fmtI op gd ga imm).extractLsb' 22 4 = gd :=
  (skipLow (by omega)).trans ((skipLow (by omega)).trans (append_low _ _))
@[simp] theorem fmtI_ga (op : BitVec 6) (gd ga : BitVec 4) (imm : BitVec 18) : (fmtI op gd ga imm).extractLsb' 18 4 = ga :=
  (skipLow (by omega)).trans (append_low _ _)
@[simp] theorem fmtI_imm (op : BitVec 6) (gd ga : BitVec 4) (imm : BitVec 18) : (fmtI op gd ga imm).extractLsb' 0 18 = imm :=
  append_low _ _

/-- A word of format Q is one of format A with the selector and MOD side by side. -/
theorem fmtQ_eq (op : BitVec 6) (gd ga gb : BitVec 4) (sel : BitVec 6) (mod : BitVec 8) :
    fmtQ op gd ga gb sel mod = fmtA op gd ga gb (sel ++ mod) := by
  apply eq_of_getLsbD_eq; intro i hi
  simp only [fmtQ, fmtA, getLsbD_append]
  by_cases h : i < 8
  · simp [h, show i < 14 by omega]
  · by_cases h2 : i < 14
    · simp [h, h2, show i - 8 < 6 by omega]
    · simp [h, h2, show ¬ i - 8 < 6 by omega, show i - 8 - 6 = i - 14 by omega]

@[simp] theorem fmtQ_opcode (op : BitVec 6) (gd ga gb : BitVec 4) (sel : BitVec 6) (mod : BitVec 8) :
    (fmtQ op gd ga gb sel mod).extractLsb' 26 6 = op := by simp [fmtQ_eq]
@[simp] theorem fmtQ_gd (op : BitVec 6) (gd ga gb : BitVec 4) (sel : BitVec 6) (mod : BitVec 8) :
    (fmtQ op gd ga gb sel mod).extractLsb' 22 4 = gd := by simp [fmtQ_eq]
@[simp] theorem fmtQ_ga (op : BitVec 6) (gd ga gb : BitVec 4) (sel : BitVec 6) (mod : BitVec 8) :
    (fmtQ op gd ga gb sel mod).extractLsb' 18 4 = ga := by simp [fmtQ_eq]
@[simp] theorem fmtQ_gb (op : BitVec 6) (gd ga gb : BitVec 4) (sel : BitVec 6) (mod : BitVec 8) :
    (fmtQ op gd ga gb sel mod).extractLsb' 14 4 = gb := by simp [fmtQ_eq]
@[simp] theorem fmtQ_sel (op : BitVec 6) (gd ga gb : BitVec 4) (sel : BitVec 6) (mod : BitVec 8) :
    (fmtQ op gd ga gb sel mod).extractLsb' 8 6 = sel :=
  (skipLow (by omega)).trans (append_low _ _)
@[simp] theorem fmtQ_mod (op : BitVec 6) (gd ga gb : BitVec 4) (sel : BitVec 6) (mod : BitVec 8) :
    (fmtQ op gd ga gb sel mod).extractLsb' 0 8 = mod :=
  append_low _ _

@[simp] theorem fmtW_opcode (gd : BitVec 4) (off : BitVec 8) (size : BitVec 3) (gx : BitVec 4) (sub : BitVec 7) :
    (fmtW gd off size gx sub).extractLsb' 26 6 = 0x2C#6 :=
  (skipLow (by omega)).trans ((skipLow (by omega)).trans ((skipLow (by omega)).trans extractLsb'_eq_self))
@[simp] theorem fmtW_gd (gd : BitVec 4) (off : BitVec 8) (size : BitVec 3) (gx : BitVec 4) (sub : BitVec 7) :
    (fmtW gd off size gx sub).extractLsb' 22 4 = gd := (skipLow (by omega)).trans ((skipLow (by omega)).trans (append_low _ _))
@[simp] theorem fmtW_off (gd : BitVec 4) (off : BitVec 8) (size : BitVec 3) (gx : BitVec 4) (sub : BitVec 7) :
    (fmtW gd off size gx sub).extractLsb' 14 8 = off := (skipLow (by omega)).trans (append_low _ _)
@[simp] theorem fmtW_fn (gd : BitVec 4) (off : BitVec 8) (size : BitVec 3) (gx : BitVec 4) (sub : BitVec 7) :
    (fmtW gd off size gx sub).extractLsb' 0 14 = winFn size gx sub := append_low _ _

/-! ## The small fields -/

@[simp] theorem aluFn_zero (m : AluMod) (c : BitVec 4) (o : BitVec 6) : (aluFn m c o).extractLsb' 10 2 = 0#2 :=
  (skipLow (by omega)).trans ((skipLow (by omega)).trans (append_low _ _))
@[simp] theorem aluFn_cond (m : AluMod) (c : BitVec 4) (o : BitVec 6) : (aluFn m c o).extractLsb' 6 4 = c :=
  (skipLow (by omega)).trans (append_low _ _)
@[simp] theorem aluFn_oper (m : AluMod) (c : BitVec 4) (o : BitVec 6) : (aluFn m c o).extractLsb' 0 6 = o := append_low _ _
@[simp] theorem aluFn_s (m : AluMod) (c : BitVec 4) (o : BitVec 6) : (aluFn m c o)[13] = m.setFlags := by
  rw [← getLsbD_eq_getElem]; simp only [aluFn, getLsbD_append]; simp
@[simp] theorem aluFn_w (m : AluMod) (c : BitVec 4) (o : BitVec 6) : (aluFn m c o)[12] = m.w32 := by
  rw [← getLsbD_eq_getElem]; simp only [aluFn, getLsbD_append]; simp

@[simp] theorem bitFn_pos (p w : BitVec 6) (x : Bool) : (bitFn p w x).extractLsb' 8 6 = p :=
  (skipLow (by omega)).trans ((skipLow (by omega)).trans ((skipLow (by omega)).trans extractLsb'_eq_self))
@[simp] theorem bitFn_wm1 (p w : BitVec 6) (x : Bool) : (bitFn p w x).extractLsb' 2 6 = w :=
  (skipLow (by omega)).trans ((skipLow (by omega)).trans (append_low _ _))
@[simp] theorem bitFn_sx (p w : BitVec 6) (x : Bool) : (bitFn p w x)[1] = x := by
  rw [← getLsbD_eq_getElem]; simp only [bitFn, getLsbD_append]; simp
@[simp] theorem bitFn_zero (p w : BitVec 6) (x : Bool) : (bitFn p w x)[0] = false := by
  rw [← getLsbD_eq_getElem]; simp only [bitFn, getLsbD_append]; simp
@[simp] theorem bitFn_low (p w : BitVec 6) : (bitFn p w false).extractLsb' 0 2 = 0#2 := by
  apply eq_of_getLsbD_eq; intro i hi
  have : i = 0 ∨ i = 1 := by omega
  rcases this with rfl | rfl <;> (simp only [bitFn, getLsbD_append, getLsbD_extractLsb']; simp)

@[simp] theorem winFn_size (size : BitVec 3) (gx : BitVec 4) (sub : BitVec 7) : (winFn size gx sub).extractLsb' 11 3 = size :=
  (skipLow (by omega)).trans ((skipLow (by omega)).trans extractLsb'_eq_self)
@[simp] theorem winFn_gx (size : BitVec 3) (gx : BitVec 4) (sub : BitVec 7) : (winFn size gx sub).extractLsb' 7 4 = gx :=
  (skipLow (by omega)).trans (append_low _ _)
@[simp] theorem winFn_sub (size : BitVec 3) (gx : BitVec 4) (sub : BitVec 7) : (winFn size gx sub).extractLsb' 0 7 = sub :=
  append_low _ _

@[simp] theorem catMod_fields : ∀ (x : Bool) (w : BitVec 3), (catMod x w).extractLsb' 4 4 = 0#4 ∧ (catMod x w)[3] = x ∧
    (catMod x w).extractLsb' 0 3 = w := by decide
@[simp] theorem enqMod_fields : ∀ c l d : Bool, (enqMod c l d).extractLsb' 3 5 = 0#5 ∧ (enqMod c l d)[2] = c ∧
    (enqMod c l d)[1] = l ∧ (enqMod c l d)[0] = d := by decide
@[simp] theorem enqMod_low : ∀ c : Bool, (enqMod c false false).extractLsb' 0 2 = 0#2 := by decide
@[simp] theorem lkpMod_fields : ∀ k : BitVec 4, (lkpMod k).extractLsb' 4 4 = 0#4 ∧ (lkpMod k).extractLsb' 0 4 = k := by decide
@[simp] theorem crcMod_fields : ∀ x : Bool, (crcMod x).extractLsb' 1 7 = 0#7 ∧ (crcMod x)[0] = x := by decide
@[simp] theorem tmrMod_fields : ∀ k : BitVec 2, (tmrMod k).extractLsb' 2 6 = 0#6 ∧ (tmrMod k).extractLsb' 0 2 = k := by decide

/-- J has a format of its own: the opcode and 26 bits. -/
theorem jWord_opcode (off : BitVec 26) : BitVec.extractLsb' 26 6 (n := 32) (0x17#6 ++ off) = 0x17#6 := append_high _ _
theorem jWord_off (off : BitVec 26) : BitVec.extractLsb' 0 26 (n := 32) (0x17#6 ++ off) = off := append_low _ _

/-! ## A word is the format of its own fields -/

theorem fmtA_fields (w : W32) : w = fmtA (w.extractLsb' 26 6) (w.extractLsb' 22 4) (w.extractLsb' 18 4) (w.extractLsb' 14 4)
    (w.extractLsb' 0 14) := by
  apply eq_of_getLsbD_eq; intro i hi
  simp only [fmtA, getLsbD_append, getLsbD_extractLsb']
  by_cases h1 : i < 14
  · simp [h1]
  by_cases h2 : i < 18
  · simp [h1, show i - 14 < 4 by omega, show 14 + (i - 14) = i by omega]
  by_cases h3 : i < 22
  · simp [h1, show ¬ i - 14 < 4 by omega, show i - 14 - 4 < 4 by omega, show 18 + (i - 14 - 4) = i by omega]
  by_cases h4 : i < 26
  · simp [h1, show ¬ i - 14 < 4 by omega, show ¬ i - 14 - 4 < 4 by omega, show i - 14 - 4 - 4 < 4 by omega,
      show 22 + (i - 14 - 4 - 4) = i by omega]
  · simp [h1, show ¬ i - 14 < 4 by omega, show ¬ i - 14 - 4 < 4 by omega, show ¬ i - 14 - 4 - 4 < 4 by omega,
      show i - 14 - 4 - 4 - 4 < 6 by omega, show 26 + (i - 14 - 4 - 4 - 4) = i by omega]

theorem fmtI_fields (w : W32) : w = fmtI (w.extractLsb' 26 6) (w.extractLsb' 22 4) (w.extractLsb' 18 4) (w.extractLsb' 0 18) := by
  apply eq_of_getLsbD_eq; intro i hi
  simp only [fmtI, getLsbD_append, getLsbD_extractLsb']
  by_cases h1 : i < 18
  · simp [h1]
  by_cases h3 : i < 22
  · simp [h1, show i - 18 < 4 by omega, show 18 + (i - 18) = i by omega]
  by_cases h4 : i < 26
  · simp [h1, show ¬ i - 18 < 4 by omega, show i - 18 - 4 < 4 by omega, show 22 + (i - 18 - 4) = i by omega]
  · simp [h1, show ¬ i - 18 < 4 by omega, show ¬ i - 18 - 4 < 4 by omega, show i - 18 - 4 - 4 < 6 by omega,
      show 26 + (i - 18 - 4 - 4) = i by omega]

theorem fmtQ_fields (w : W32) : w = fmtQ (w.extractLsb' 26 6) (w.extractLsb' 22 4) (w.extractLsb' 18 4) (w.extractLsb' 14 4)
    (w.extractLsb' 8 6) (w.extractLsb' 0 8) := by
  have h := split_append (n := 6) (m := 8) (w.extractLsb' 0 14)
  have e1 : (w.extractLsb' 0 14).extractLsb' 8 6 = w.extractLsb' 8 6 := extractLsb'_extractLsb'_of_le (by omega)
  have e2 : (w.extractLsb' 0 14).extractLsb' 0 8 = w.extractLsb' 0 8 := extractLsb'_extractLsb'_of_le (by omega)
  rw [fmtQ_eq, ← e1, ← e2, ← h]
  exact fmtA_fields w

theorem fmtW_fields (w : W32) (h : w.extractLsb' 26 6 = 0x2C#6) : w = fmtW (w.extractLsb' 22 4) (w.extractLsb' 14 8)
    ((w.extractLsb' 0 14).extractLsb' 11 3) ((w.extractLsb' 0 14).extractLsb' 7 4) ((w.extractLsb' 0 14).extractLsb' 0 7) := by
  have e : winFn ((w.extractLsb' 0 14).extractLsb' 11 3) ((w.extractLsb' 0 14).extractLsb' 7 4) ((w.extractLsb' 0 14).extractLsb' 0 7) =
      w.extractLsb' 0 14 := by
    apply eq_of_getLsbD_eq; intro i hi
    simp only [winFn, getLsbD_append, getLsbD_extractLsb']
    by_cases h1 : i < 7
    · simp [h1, hi]
    by_cases h2 : i < 11
    · simp [h1, hi, show i - 7 < 4 by omega, show 7 + (i - 7) = i by omega]
    · simp [h1, hi, show ¬ i - 7 < 4 by omega, show i - 7 - 4 < 3 by omega, show 11 + (i - 7 - 4) = i by omega]
  unfold fmtW
  rw [e, ← h]
  apply eq_of_getLsbD_eq; intro i hi
  simp only [getLsbD_append, getLsbD_extractLsb']
  by_cases h1 : i < 14
  · simp [h1]
  by_cases h2 : i < 22
  · simp [h1, show i - 14 < 8 by omega, show 14 + (i - 14) = i by omega]
  by_cases h3 : i < 26
  · simp [h1, show ¬ i - 14 < 8 by omega, show i - 14 - 8 < 4 by omega, show 22 + (i - 14 - 8) = i by omega]
  · simp [h1, show ¬ i - 14 < 8 by omega, show ¬ i - 14 - 8 < 4 by omega, show i - 14 - 8 - 4 < 6 by omega,
      show 26 + (i - 14 - 8 - 4) = i by omega]

/-- FN of an ALU word is its S, W, COND and operation where bits [11:10] are zero. -/
theorem aluFn_fields (f : BitVec 14) (h : f.extractLsb' 10 2 = 0#2) :
    aluFn ⟨f.getLsbD 13, f.getLsbD 12⟩ (f.extractLsb' 6 4) (f.extractLsb' 0 6) = f := by
  apply eq_of_getLsbD_eq; intro i hi
  have h10 : f.getLsbD 10 = false := by have := congrArg (·.getLsbD 0) h; simpa using this
  have h11 : f.getLsbD 11 = false := by have := congrArg (·.getLsbD 1) h; simpa using this
  simp only [aluFn, getLsbD_append, getLsbD_extractLsb']
  by_cases h1 : i < 6
  · simp [h1]
  by_cases h2 : i < 10
  · simp [h1, show i - 6 < 4 by omega, show 6 + (i - 6) = i by omega]
  · have : i = 10 ∨ i = 11 ∨ i = 12 ∨ i = 13 := by omega
    rcases this with rfl | rfl | rfl | rfl
    · rw [h10]; simp
    · rw [h11]; simp
    · simp
    · simp

/-- FN of a bit-field word. -/
theorem bitFn_fields (f : BitVec 14) (h : f.getLsbD 0 = false) : bitFn (f.extractLsb' 8 6) (f.extractLsb' 2 6) (f.getLsbD 1) = f := by
  apply eq_of_getLsbD_eq; intro i hi
  simp only [bitFn, getLsbD_append, getLsbD_extractLsb']
  by_cases h0 : i < 2
  · have : i = 0 ∨ i = 1 := by omega
    rcases this with rfl | rfl
    · rw [h]; simp
    · simp
  by_cases h1 : i < 8
  · simp [show ¬ i < 1 by omega, show ¬ i - 1 < 1 by omega, show i - 1 - 1 < 6 by omega, show 2 + (i - 1 - 1) = i by omega]
  · simp [show ¬ i < 1 by omega, show ¬ i - 1 < 1 by omega, show ¬ i - 1 - 1 < 6 by omega, show i - 1 - 1 - 6 < 6 by omega,
      show 8 + (i - 1 - 1 - 6) = i by omega]

theorem catMod_all : ∀ m : BitVec 8, m.extractLsb' 4 4 = 0#4 → catMod (m.getLsbD 3) (m.extractLsb' 0 3) = m := by decide
theorem enqMod_all : ∀ m : BitVec 8, m.extractLsb' 3 5 = 0#5 → enqMod (m.getLsbD 2) (m.getLsbD 1) (m.getLsbD 0) = m := by decide
theorem lkpMod_all : ∀ m : BitVec 8, m.extractLsb' 4 4 = 0#4 → lkpMod (m.extractLsb' 0 4) = m := by decide
theorem crcMod_all : ∀ m : BitVec 8, m.extractLsb' 1 7 = 0#7 → crcMod (m.getLsbD 0) = m := by decide
theorem tmrMod_all : ∀ m : BitVec 8, m.extractLsb' 2 6 = 0#6 → tmrMod (m.extractLsb' 0 2) = m := by decide

/-- A word of J. -/
theorem jWord_fields (w : W32) (h : w.extractLsb' 26 6 = 0x17#6) : w = 0x17#6 ++ w.extractLsb' 0 26 := by
  rw [← h]
  exact split_append (n := 6) (m := 26) w

end Sys2Proof.Machine
end

