-- ==== Sys2Proof/Tests/Slice0.lean ====
section
/-! SUPPORT. The author's own tests: the checks of well-formedness, worked examples of the manual, and, for each statement of
Certificates/Slice0/Obligations.lean that has hypotheses, a theorem test_hyps_… that shows concrete states and operands which meet the
hypotheses of its clauses, at the edge of a range where a clause has one. The expected values of the worked examples are the manual's. -/
namespace Sys2Proof.Tests
open Sys2Proof.Machine

-- One theorem at a time: checked side by side, their threads need more memory than the check allows.
set_option Elab.async false

/-! ## Small states -/

/-- A hub in start-up phase p, every register at its reset value. -/
def inPhase (p : Phase) : State := { power := { phase := p } }

/-- A hub that has finished start-up. -/
def up : State := inPhase .run

/-- The same in dock role. -/
def upDock : State := up.put GLB_HUB_STAT_ROLE 1

/-- With a field set. -/
def upWith (f : Fld) (v : Nat) : State := up.put f v

/-- With several fields set. -/
def upW (l : List (Fld × Nat)) : State := l.foldl (fun s e => s.put e.1 e.2) up

/-- An ill-formed command for each check of Instr.wf, which the check refuses. -/
theorem test_wf_refuses_1 :
    ([
      .clkWarmReset 64 0 (List.replicate 60 0),
      .clkWarmReset 0 65536 (List.replicate 60 0),
      .clkWarmReset 0 0 [],
      .drowseEnWrite 64 0,
      .domainIdleGate 27,
      .pllLockLost 5,
      .registerWrite 64 0 4 0,
      .registerWrite 0 2 4 0,
      .registerWrite 0 0 2 0,
      .lowWordReadLatch 64 0,
      .lowWordReadLatch 0 2,
      .laneSignalDetect 4,
      .prbsClr 64 0 0,
      .prbsClr 0 4 0,
      .flitReceive 4 (List.replicate 8 0) (List.replicate 248 0) false 0,
      .flitReceive 1 [] [] false 0,
      .flitSlot 4,
      .fallbackAnn 0 0 0 0,
      .fallbackAnn 0 5 0 0,
      .altCalEntWrite 64 0 1 0 0,
      .altCalEntWrite 0 2 1 0 0,
      .altCalEntWrite 0 0 0 0 0,
      .altCalEntWrite 0 0 5 0 0,
      .altCalEntWrite 0 0 1 1024 0,
      .shaperShadowWrite 64 0 0x24 0,
      .shaperShadowWrite 0 512 0x24 0,
      .shaperShadowWrite 0 0 0x20 0,
      .shaperShadowWrite 0 0 0x38 0,
      .shaperShadowWrite 0 0 0x26 0,
      .portSchedule 35,
      .gateTransition 8,
      .cfgChange 64 0 0,
      .cfgChange 0 8 0,
      .frameIngress 0 [],
      .frameIngress 35 [],
      .welCfgWrite 64 0 0,
      .welCfgWrite 0 512 0,
      .chainDispatch 32 0,
      .chainDispatch 0 32,
      .ctxStateWrite 64 0 0] : List Instr).all (fun i => i.wf == false) = true := by decide +kernel

/-- An ill-formed command for each check of Instr.wf, which the check refuses. -/
theorem test_wf_refuses_2 :
    ([
      .ctxStateWrite 0 1024 0,
      .ctxRecordWrite 64 0 0 0,
      .ctxRecordWrite 0 1024 0 0,
      .ctxRecordWrite 0 0 0x80 0,
      .ctxRecordWrite 0 0 2 0,
      .loadWindowWrite 64 0 0 0,
      .loadWindowWrite 0 64 0 0,
      .loadWindowWrite 0 0 1024 0,
      .contextTimerExpiry 1024 0,
      .contextTimerExpiry 0 4,
      .wIll 32 0 0,
      .wIll 0 32 0,
      .wCsel 32 0 0 0 0 0 ⟨false, false⟩,
      .wCsel 0 32 0 0 0 0 ⟨false, false⟩,
      .wCsel 0 0 0 0 0 15 ⟨false, false⟩,
      .wMfs 32 0 0 3,
      .wMfs 0 32 0 3,
      .wMfs 0 0 0 5,
      .wMts 32 0 0 3,
      .wMts 0 32 0 3,
      .wMts 0 0 0 4,
      .wEnq 32 0 0 0 false false false,
      .wEnq 0 32 0 0 false false false,
      .wEnq 0 0 1 0 true false false,
      .wCld 32 0 0 0 false 0,
      .wCld 0 32 0 0 false 0,
      .wCld 0 0 0 1 true 0,
      .wYld 32 0 0 0,
      .wYld 0 32 0 0,
      .wYld 0 0 0 3,
      .drdTimeout 64,
      .lateFaultReport 0 0 64 0 0 0,
      .brgWinCfgWrite 64 0 0 0,
      .brgWinCfgWrite 0 64 0 0,
      .brgWinCfgWrite 0 0 0x10 0,
      .brgWinCfgWrite 0 0 2 0,
      .remoteMessageReceive 0 [],
      .msixUnmask 64 0 0,
      .msixUnmask 0 2048 0,
      .msgRtWrite 64 0 0] : List Instr).all (fun i => i.wf == false) = true := by decide +kernel

/-- An ill-formed command for each check of Instr.wf, which the check refuses. -/
theorem test_wf_refuses_3 :
    ([
      .msgRtWrite 0 4096 0,
      .drpToggle 16,
      .sptPolicyWrite 64 0 0,
      .sptPolicyWrite 0 16 0,
      .sptPdoWrite 64 0 0 0,
      .sptPdoWrite 0 16 0 0,
      .sptPdoWrite 0 0 4 0,
      .doorbellPoll 4 (List.replicate 260 0),
      .doorbellPoll 0 [],
      .descriptorFetchDone 4 0 [],
      .descriptorFetchDone 0 256 [],
      .epConfig 4 0 (List.replicate 32 0),
      .epConfig 0 256 (List.replicate 32 0),
      .epConfig 0 0 [],
      .epDisable 4 0,
      .epDisable 0 256,
      .portReset 4 1,
      .portReset 0 16,
      .busSuspend 4,
      .ttClear 4 0 1,
      .ttClear 0 256 1,
      .ttClear 0 0 16,
      .usbBusCfgWrite 64 0 0,
      .usbBusCfgWrite 0 4 0,
      .deviceRequest 2 false 0 0 ⟨[], false⟩,
      .rootPortLinkChange 2 true 0 4,
      .rootPortLinkChange 0 true 0 8,
      .configAccess 2 0 0 false 0,
      .configAccess 0 8 0 false 0,
      .configAccess 0 0 4096 false 0,
      .dspLayerEnable 64 0 0,
      .dspLayerEnable 0 6 0,
      .casPortStart 0,
      .casPortStart 4,
      .memberDownTimeout 4,
      .gswapPrep 0 0 0 0,
      .gswapPrep 4 0 0 0,
      .gswapPrep 1 0 2 0,
      .injDownWrite 64 1 0,
      .injDownWrite 0 0 0] : List Instr).all (fun i => i.wf == false) = true := by decide +kernel

/-- An ill-formed command for each check of Instr.wf, which the check refuses. -/
theorem test_wf_refuses_4 :
    ([
      .injDownWrite 0 4 0,
      .fabricTimeout 20,
      .inputActiveEdge 12,
      .delayedRequestReceive ⟨0, 0, false, 0, 0, 64, 0, false, 0, 0, [], false⟩,
      .delayedRequestReceive ⟨0, 0, true, 0, 0, 0, 0, true, 0, 0, [], false⟩] : List Instr).all (fun i => i.wf == false) = true := by decide +kernel

/-- The same commands with the operand in its range. -/
theorem test_wf_accepts_1 :
    ([
      .clkWarmReset 0 0 (List.replicate 60 0),
      .drowseEnWrite 0 0,
      .domainIdleGate 0,
      .pllLockLost 0,
      .registerWrite 0 0 4 0,
      .lowWordReadLatch 0 0,
      .laneSignalDetect 0,
      .prbsClr 0 0 0,
      .flitReceive 1 (List.replicate 8 0) (List.replicate 248 0) false 0,
      .flitSlot 1,
      .fallbackAnn 0 1 0 0,
      .altCalEntWrite 0 0 1 0 0,
      .shaperShadowWrite 0 0 0x24 0,
      .portSchedule 1,
      .gateTransition 0,
      .cfgChange 0 0 0,
      .frameIngress 1 [],
      .welCfgWrite 0 0 0,
      .chainDispatch 0 0,
      .ctxStateWrite 0 0 0,
      .ctxRecordWrite 0 0 0 0,
      .loadWindowWrite 0 0 0 0,
      .contextTimerExpiry 0 0,
      .wIll 0 0 0,
      .wCsel 0 0 0 0 0 0 ⟨false, false⟩,
      .wMfs 0 0 0 3,
      .wMts 0 0 0 3,
      .wEnq 0 0 0 0 false false false,
      .wCld 0 0 0 0 false 0,
      .wYld 0 0 0 0,
      .drdTimeout 0,
      .lateFaultReport 0 0 0 0 0 0,
      .brgWinCfgWrite 0 0 0 0,
      .remoteMessageReceive 0 (List.replicate 24 0),
      .msixUnmask 0 0 0,
      .msgRtWrite 0 0 0,
      .drpToggle 0,
      .sptPolicyWrite 0 0 0,
      .sptPdoWrite 0 0 0 0,
      .doorbellPoll 0 (List.replicate 260 0)] : List Instr).all (fun i => i.wf == true) = true := by decide +kernel

/-- The same commands with the operand in its range. -/
theorem test_wf_accepts_2 :
    ([
      .descriptorFetchDone 0 0 [],
      .epConfig 0 0 (List.replicate 32 0),
      .epDisable 0 0,
      .portReset 0 1,
      .busSuspend 0,
      .ttClear 0 0 1,
      .usbBusCfgWrite 0 0 0,
      .deviceRequest 0 false 0 0 ⟨[], false⟩,
      .rootPortLinkChange 0 true 0 4,
      .configAccess 0 0 0 false 0,
      .dspLayerEnable 0 0 0,
      .casPortStart 1,
      .memberDownTimeout 0,
      .gswapPrep 1 0 0 0,
      .injDownWrite 0 1 0,
      .fabricTimeout 0,
      .inputActiveEdge 0,
      .delayedRequestReceive ⟨0, 0, false, 0, 0, 0, 0, false, 0, 0, [], false⟩] : List Instr).all (fun i => i.wf == true) = true := by decide +kernel

theorem test_hyps_RegisterRows :
    up.firmware = true ∧ up.refuses 0 0x10010000 true = false ∧ up.refuses 63 0x10010000 true = true ∧
    (up.regPresent 0x10010000 = true ∧ (findReg 0x10010000).isSome = true) := by decide

def goodImage : Image := ⟨true, true, 0, 1, 1, 0, [], []⟩

theorem test_hyps_StartUpRows :
    State.reset.power.phase = .held ∧
    ((inPhase .pll).power.phase = .pll ∧ (inPhase .pll).fuses.bistSectors = 0) ∧
    ((inPhase .auth).power.phase = .auth ∧ ((inPhase .auth).bootOrder none none).find? (fun e => (inPhase .auth).accepts e.2) = none) ∧
    ((inPhase .auth).bootOrder (some goodImage) none).find? (fun e => (inPhase .auth).accepts e.2) = some (1, goodImage) ∧
    ((inPhase .priming).power.phase = .priming ∧ (inPhase .priming).linksLive = true) ∧
    (up.coreUp = true ∧ up.power.dryEntry = false ∧ up.firmware = true) ∧
    (inPhase .powerFail).power.phase = .powerFail := by decide

def entering : State := { power := { phase := .run, dryEntry := true } }
def dryWoken : State := { power := { phase := .dry, wake := some .timer } }

theorem test_hyps_DryRows :
    entering.power.dryEntry = true ∧
    ((inPhase .dry).power.phase = .dry ∧ (inPhase .dry).power.dryEntry = false ∧ (inPhase .dry).wakeEnabled .wakeN = true ∧
      (inPhase .dry).power.wake = none) ∧
    ((entering.put GLB_WAKE_SRC_ENTRY 1).wakeEnabled .wakeN = true ∧ entering.power.wake = none ∧ entering.power.phase ≠ .dry) ∧
    (dryWoken.power.phase = .dry ∧ dryWoken.power.wake.isSome = true) ∧
    ((upWith CLK_PLL_STAT_REFCLK_OK 1).get CLK_PLL_STAT_REFCLK_OK = 1 ∧ (200 : Int).natAbs ≤ 200 ∧ 200 < (-201 : Int).natAbs) := by decide

theorem test_hyps_ClockRows :
    ((upWith CLK_PWR_CTRL_DROWSE_EN 1).running = true ∧ (upWith CLK_PWR_CTRL_DROWSE_EN 1).is CLK_PWR_CTRL_DROWSE_EN = true ∧
      bit ((upWith CLK_PWR_CTRL_DROWSE_EN 1).get CLK_KEEP_KEEP) 8 = false ∧ (upWith CLK_PWR_CTRL_DROWSE_EN 1).domainIdle 8 = true) ∧
    bit ((upWith CLK_GATE_GATED (2 ^ 26)).get CLK_GATE_GATED) 26 = true ∧
    ((upWith CLK_PLL_STAT_SERDES_LOCK 16).linksLive = true ∧ bit ((upWith CLK_PLL_STAT_SERDES_LOCK 16).get CLK_PLL_STAT_SERDES_LOCK) 4 = true) ∧
    ((upWith CLK_PLL_STAT_ROOT_LOCK 1).coreUp = true ∧ (upWith CLK_PLL_STAT_ROOT_LOCK 1).is CLK_PLL_STAT_ROOT_LOCK = true ∧
      (upWith CLK_PLL_STAT_ROOT_LOCK 1).rootInUse = false) ∧
    (let s := (upWith FLT_STAT_HALT 1).put FLT_CTRL_FLASH_COPY 1;
      s.halted = true ∧ s.is FLT_CTRL_FLASH_COPY = true ∧ s.is FLT_STAT_COPIED = false ∧ s.is FLT_STAT_COPY_FAIL = false) ∧
    (upDock.coreUp = true ∧ upDock.dock = true ∧ upDock.brg.upWait = [] ∧ upDock.brg.up = [] ∧ upDock.heldPort 28 = false ∧
      endpointSpeed 5 8 = true ∧ endpointSpeed 6 8 = false ∧ endpointSpeed 1 3 = false) ∧
    (let s := { upDock with power := { upDock.power with epLink := true } };
      s.linksLive = true ∧ s.dock = true ∧ s.power.epLink = true) := by decide

theorem test_hyps_IdleStepPassesTime :
    (up.pending = [] ∧ up.timeRuns = false) ∧
    (let s := { up with timeRuns := true, hubTime := 7 };
      s.pending = [] ∧ s.timeRuns = true ∧ (s.hubTime + 1) % 1000000000 ≠ 0 ∧ s.hubTime + 1 < 2 ^ 64) ∧
    (let s := { up with timeRuns := true, hubTime := 999999999 };
      s.pending = [] ∧ s.timeRuns = true ∧ (s.hubTime + 1) % 1000000000 = 0 ∧ s.hubTime + 1 < 2 ^ 64) := by decide

/-- A command of channel ch with opcode op, its arguments zero but for the bytes given at the start. -/
def cmd (ch op : Nat) (a : List Nat) : BktCmd := ⟨ch, op, 1, fit 60 (a.map (BitVec.ofNat 8))⟩

/-- A hub that executes command c at the given stage. -/
def executing (c : BktCmd) (st : BktStage) : State := { up with bkt := { queue := [c], stage := st } }

/-- A hub with a derivation key in slot 2 that executes SEC_KEY_DERIVE from slot 2 to slot 5. -/
def deriver : State := (executing (cmd 0 0x1112 [2, 5]) .atEnd).put (SEC_SLOT_ATTR_ATTR 2) (2 ^ 31 + 3 * 2 ^ 26)

theorem test_hyps_BucketCompleteRow :
    (let s := executing (cmd 0 1 []) (.ready 0 []);
      s.firmware = true ∧ s.power.dryEntry = false ∧ s.bkt.queue = cmd 0 1 [] :: [] ∧ s.bkt.stage = .ready 0 []) ∧
    ((executing (cmd 0 0x200 []) .atEnd).bkt.stage = .atEnd ∧ (cmd 0 0x200 []).op = 0x0200) ∧
    ((executing (cmd 0 0x201 []) .atEnd).bkt.stage = .atEnd ∧ (cmd 0 0x201 []).op = 0x0201) ∧
    (deriver.bkt.stage = .atEnd ∧ (cmd 0 0x1112 [2, 5]).op = 0x1112 ∧ deriver.bkt.tampered = false ∧
      (deriver.deriveKey ((cmd 0 0x1112 [2, 5]).byte 4)).isSome = true ∧ deriver.slotValid 5 = false ∧
      deriver.sliceGen (deriver.slotOwner 5) = deriver.bkt.keyGen) ∧
    ((executing (cmd 0 1 []) .waiting).bkt.stage = .waiting ∧ BktIo.done ≠ .noAnswer) := by decide

theorem test_hyps_ResponseWritten :
    (cmd 63 1 []).ch < 64 ∧ up.bkt.discard.contains 63 = false ∧ up.is (GLB_BKT_CTRL_IRQ_EN 63) = false ∧ 5 ≠ 6 := by decide

theorem test_hyps_RequestReachesController : up.bktTakes (cmd 0 0xFFFF []) = true ∧ (cmd 0 0xFFFF []).op < 65536 := by decide

theorem test_hyps_GoRefused :
    up.firmware = true ∧ (up.power.dryEntry = false ∧ (upWith (GLB_BKT_STAT_BUSY 63) 1).is (GLB_BKT_STAT_BUSY 63) = true) ∧
    (upWith (SLC_STAT_RESETTING 63) 1).resetting 63 = true ∧ entering.firmware = true ∧ entering.power.dryEntry = true := by decide

theorem test_hyps_RegisterWriteRow :
    up.firmware = true ∧
    (up.refuses 0 0x10020100 true = false ∧ up.regPresent 0x10020100 = true ∧ (findReg 0x10020100).isSome = true) ∧
    (up.refuses 63 0x10020100 true = true) ∧
    (0x10000010 % 8 = 0 ∧ up.refuses 0 0x10000010 true = false ∧ up.refuses 0 0x10000014 true = false) ∧
    (let s := { up with fuses := { variant := 2 } };
      s.refuses 0 0x10110000 true = false ∧ s.regPresent 0x10110000 = false) ∧
    (up.refuses 0 0x1000FF00 true = false ∧ findReg 0x1000FF00 = none) := by decide

theorem test_hyps_LowWordLatchRow :
    (up.firmware = true ∧ assocFind up.latch 0x10000010 = none) ∧
    assocFind ({ up with latch := [(0x10000014, 9)] } : State).latch 0x10000014 = some 9 := by decide

theorem test_hyps_RaiseRecordsAndRoutes :
    up.is (MSG_EVT_MAP_EN 0 2) = false ∧
    (let s := (upWith (MSG_EVT_MAP_EN 0 2) 1).emit (.event 2 0 0);
      (s.eventMsg 2 0 0).1.isSome = true ∧ ((s.eventMsg 2 0 0).1.elim true (fun m => (s.eventMsg 2 0 0).2.msgFull m)) = false) := by decide

/-- PMP_LDSEL of slices 4 and 5 share an 8-byte word: each slice reaches its own half (R305). -/
theorem test_hyps_WideAccesses : let a := (PMP_LDSEL_PAGE 4).addr;
    a % 8 = 0 ∧ up.firmware = true ∧ (up.refuses 0 a false = false ∧ up.refuses 0 (a + 4) false = false ∧ up.refuses 0 a true = false) ∧
    (up.refuses 4 a false = false ∧ up.refuses 4 (a + 4) false = true ∧ up.refuses 4 a true = false ∧ up.refuses 4 (a + 4) true = true) ∧
    (up.refuses 5 a false = true ∧ up.refuses 5 (a + 4) false = false ∧ up.refuses 5 a true = true ∧ up.refuses 5 (a + 4) true = false) ∧
    (up.refuses 63 a false = true ∧ up.refuses 63 (a + 4) false = true ∧ up.refuses 63 (a + 4) true = true) ∧
    (2 % 4 ≠ 0 ∧ 4 % 8 ≠ 0 ∧ up.get (SLC_DENY_COUNT 63) < 0xFFFFFFFF) := by decide

/-- Command c can start on s, and once it is accepted the state meets f. -/
def canStart (s : State) (c : BktCmd) (f : State → Bool) : Bool := s.bktTakes c && f (s.accepted c)

theorem test_hyps_BucketHubRows :
    canStart up (cmd 0 0 []) (fun _ => true) = true ∧ canStart up (cmd 0 1 []) (fun _ => true) = true ∧
    canStart up (cmd 0 0x1400 [1]) (fun _ => true) = true ∧
    canStart up (cmd 0 0x100 []) (fun a => decide (a.vault.change = none) && !a.anyReset) = true ∧
    canStart up (cmd 0 0x200 [0x50, 0, 32]) (fun _ => true) = true ∧ canStart up (cmd 0 0x201 [0x50, 0, 1]) (fun _ => true) = true ∧
    canStart { up with ladder := { contained := [(0x28, 4)] } } (cmd 0 0x1200 [0x28, 0, 0, 0, 4, 0])
      (fun a => decide ((0x28, 4) ∈ a.ladder.contained) && !detectorHolds 0x28 4 0 &&
        decide ([1, 2, 3].filter (detectorHolds 0x28 4) = [])) = true ∧
    canStart (upWith FLT_IN_STAT_CHAT 0x800) (cmd 0 0x1201 [11]) (fun a => bit (a.get FLT_IN_STAT_CHAT) 11) = true ∧
    canStart up (cmd 0 0x1202 [0, 0, 0, 0, 2, 0]) (fun a => !((bitList 2 10).any (fun k => !a.sectorPresent k)) &&
      decide (a.get SEC_STAT_LC ≠ 1 ∧ a.get SEC_STAT_LC ≠ 2 ∧ a.vault.change = none) && !a.anyReset) = true ∧
    canStart (upWith FLT_STAT_FROZEN 1) (cmd 0 0x1203 []) (fun a => a.is FLT_STAT_FROZEN) = true := by decide +kernel

/-- A hub whose trunk is up at a rate, in profile Isochronous, on bank 0. -/
def trunked : State := { upW [(TRK_PRIME_STAT_RATE, 1), (TRK_PRIME_STAT_STATE, 9)] with links := [(0, { up := true })] }

theorem test_hyps_BucketTransportRows :
    canStart trunked (cmd 0 0x202 [0, 3]) (fun a => a.trunkUp && !a.is (TRK_LANE_STAT_IN_SVC 3)) = true ∧
    canStart up (cmd 0 0x400 [1, 1]) (fun a => decide (1 ≠ a.bankInUse) && !a.is ALT_CAL_STAT_SWAP_ARMED) = true ∧
    canStart ((trunked.put ALT_CAL_STAT_VALID_B 0xF).put ALT_CAL_STAT_LANES 1) (cmd 0 0x401 [0]) (fun a => a.trunkUp &&
      !a.is ALT_CAL_STAT_SWAP_ARMED && decide (a.get ALT_CAL_STAT_PROFILE ≠ 3) &&
      a.tableValid (1 - a.bankInUse) (a.tableFor (1 - a.bankInUse) (a.get ALT_CAL_STAT_LANES)) &&
      decide (a.allot.profile = none ∧ a.allot.fallback = none)) = true ∧
    canStart up (cmd 0 0x402 [2]) (fun a => decide (a.allot.profile = none) && !a.exceedsCap a.bankInUse (isoCap 2) &&
      !a.is ALT_CAL_STAT_SWAP_ARMED) = true ∧
    canStart (upWith ALT_CAL_STAT_PROFILE 3) (cmd 0 0x1000 [1]) (fun a => a.hasCascade && decide (a.coordinator = a.self) &&
      !a.refusesSwap 1 && decide (a.cas.swap = none ∧ (a.put CAS_GRP_STAT_GSWAP 1).otherMask = 0)) = true ∧
    canStart up (cmd 0 0x1001 []) (fun a => a.hasCascade) = true ∧
    canStart up (cmd 0 0x500 [255, 1]) (fun _ => true) = true ∧ canStart up (cmd 0 0x1300 [255, 15]) (fun _ => true) = true ∧
    canStart up (cmd 0 0x1301 [255, 15]) (fun _ => true) = true ∧
    canStart (upW [(SPT_ALT_CFG_SAM_EN 3, 1), (SPT_STAT_DATA_ROLE 3, 1), (SPT_STAT_PD 3, 1)]) (cmd 0 0xA00 [3, 1])
      (fun a => a.modeOn 3 2 && a.is (SPT_STAT_DATA_ROLE 3) && a.is (SPT_STAT_PD 3) && decide (a.get (SPT_ALT_STAT_MUX 3) = 0)) = true ∧
    canStart (upWith (SPT_STAT_STATE 15) 6) (cmd 0 0xA01 [15]) (fun a => a.attached 15) = true ∧
    canStart { up with spouts := [(15, { partnerVdos := [1] })] } (cmd 0 0xA02 [15, 0])
      (fun a => decide ((a.spout 15).partnerVdos ≠ [])) = true := by decide +kernel

theorem test_hyps_BucketPageSliceRows :
    canStart up (cmd 0 0x600 [32, 0, 224, 0, 63]) (fun a => !badPages (cmd 0 0x600 [32, 0, 224, 0, 63]) &&
      a.pagesIn (cmd 0 0x600 [32, 0, 224, 0, 63]) [0]) = true ∧
    canStart (upWith (PMP_PAGE_STATE 255) 2) (cmd 0 0x601 [255, 0, 1, 0]) (fun a => !badPages (cmd 0 0x601 [255, 0, 1, 0]) &&
      a.ownsPages (cmd 0 0x601 [255, 0, 1, 0]) && a.pagesIn (cmd 0 0x601 [255, 0, 1, 0]) [2]) = true ∧
    canStart (upWith (PMP_PAGE_STATE 255) 1) (cmd 0 0x602 [255, 0, 1, 0]) (fun a => a.ownsPages (cmd 0 0x602 [255, 0, 1, 0]) &&
      a.pagesIn (cmd 0 0x602 [255, 0, 1, 0]) [1]) = true ∧
    canStart (upWith (PMP_PAGE_STATE 32) 1) (cmd 0 0x603 [32, 0, 1, 0]) (fun a => a.ownsPages (cmd 0 0x603 [32, 0, 1, 0]) &&
      a.pagesIn (cmd 0 0x603 [32, 0, 1, 0]) [1, 2]) = true ∧
    canStart upDock (cmd 0 0x900 [63, 0, 0, 0, 0xFF, 0xFF, 0xF, 0]) (fun a => a.dock && !a.bound 63 &&
      !(List.range 64).any (fun n => n != 63 && a.bound n && a.get (SLC_BIND_PASID n) == 0xFFFFF)) = true ∧
    canStart (upDock.put (SLC_BIND_BOUND 63) 1) (cmd 0 0x901 [63]) (fun a => a.dock && a.bound 63 && !a.resetting 63 &&
      !a.genHeld 63 (a.nextGen 63) && decide ((a.sliceSteps 63 (a.nextGen 63) false).pathOut = none ∧
        (a.sliceSteps 63 (a.nextGen 63) false).otherMembers = [])) = true ∧
    canStart (upDock.put (SLC_BIND_BOUND 1) 1) (cmd 0 0x902 [1]) (fun a => a.dock && a.bound 1 && !a.resetting 1 &&
      !a.genHeld 1 (a.nextGen 1) && decide ((a.sliceSteps 1 (a.nextGen 1) true).pathOut = none ∧
        (a.sliceSteps 1 (a.nextGen 1) true).otherMembers = [])) = true := by decide +kernel

/-- A key slot's word: VALID, with the given low fields. -/
def keyWord (x : Nat) : Nat := 2 ^ 31 + x

theorem test_hyps_BucketVaultRows :
    (up.accepted (cmd 0 0x1100 [])).keysHeld = false ∧ canStart up (cmd 0 0x1100 []) (fun _ => true) = true ∧
    canStart up (cmd 0 0x1101 []) (fun a => decide (a.get SEC_STAT_LC = 0 ∧ a.fuses.ownerHash = none)) = true ∧
    canStart up (cmd 0 0x1102 []) (fun a => a.tamperInjectable && !a.is SEC_STAT_ROOT_VALID && !a.vault.trngBad) = true ∧
    canStart up (cmd 0 0x1103 []) (fun a => !a.vault.trngBad) = true ∧ canStart up (cmd 0 0x1104 [4]) (fun _ => true) = true ∧
    canStart { upWith SEC_STAT_ROOT_VALID 1 with fuses := { ownerHash := some [] } } (cmd 0 0x1105 [1]) (fun a =>
      decide (lcChange (a.get SEC_STAT_LC) 1 = some false) && a.is SEC_STAT_ROOT_VALID && a.fuses.ownerHash.isSome) = true ∧
    canStart (upW [(SEC_STAT_DEBUG, 1), (SEC_STAT_LC, 3)]) (cmd 0 0x1106 []) (fun a => a.is SEC_STAT_DEBUG &&
      decide (a.get SEC_STAT_LC = 3)) = true ∧
    canStart (upWith (SLC_BIND_BOUND 63) 1) (cmd 0 0x1110 [127, 63]) (fun a => !a.slotValid 127 && a.bound 63) = true ∧
    canStart up (cmd 0 0x1111 [127]) (fun a => a.ownSlot (cmd 0 0x1111 [127]) 127 && !a.ownLocked (cmd 0 0x1111 [127]) 127 &&
      !a.slotValid 127) = true ∧
    canStart (upWith SEC_STAT_ROOT_VALID 1) (cmd 0 0x1112 [0xFF, 127]) (fun a => !a.ownLocked (cmd 0 0x1112 [0xFF, 127]) 127 &&
      !a.slotValid 127 && (a.deriveKey 0xFF).isSome) = true ∧
    canStart (upW [(SEC_SLOT_ATTR_ATTR 0, keyWord (2 ^ 28)), (SEC_SLOT_ATTR_ATTR 127, keyWord (2 ^ 27))]) (cmd 0 0x1113 [0, 127])
      (fun a => a.ownSlot (cmd 0 0x1113 [0, 127]) 127 && a.slotUsable 0 && a.slotExport 0 && a.wrapper 127) = true ∧
    canStart (upWith (SEC_SLOT_ATTR_ATTR 127) (keyWord (2 ^ 27))) (cmd 0 0x1114 [0, 127])
      (fun a => !a.ownLocked (cmd 0 0x1114 [0, 127]) 0 && !a.slotValid 0 && a.wrapper 127) = true ∧
    canStart up (cmd 0 0x1115 [127]) (fun _ => true) = true ∧
    canStart (upWith (SEC_SLOT_ATTR_ATTR 127) (63 * 2 ^ 16)) (cmd 0 0x1116 [127]) (fun a => a.ownSlot (cmd 0 0x1116 [127]) 127) = true :=
  by decide +kernel

/-- A hub in priming state k. -/
def primed (k : Nat) : State := upWith TRK_PRIME_STAT_STATE k

/-- The same with the trunk as given. -/
def primedT (k : Nat) (t : Trunk) : State := { primed k with trunk := t }

theorem test_hyps_PrimingRows :
    up.linksLive = true ∧
    (let s := ({ primed 1 with trunk := { light := 8 } } : State).put TRK_OE_EN 1;
      s.primeState = 1 ∧ s.is TRK_OE_EN = true ∧ bit (s.get TRK_CTRL_LANE_EN) 3 = true ∧ bit s.trunk.light 3 = true ∧
        s.is (TRK_LANE_STAT_LOS 3) = false) ∧
    ((primed 2).primeState ≠ 1 ∧ (primed 1).is TRK_OE_EN = false ∧ (primed 1).trunk.light = 0) ∧
    ((primed 2).linksLive = true ∧ (primed 2).primeState = 2 ∧ (primed 2).get TRK_PRIME_STAT_RX_LANES = 0) ∧
    (((primed 2).put TRK_PRIME_STAT_RX_LANES 8).primeState = 2 ∧ ((primed 2).put TRK_PRIME_STAT_RX_LANES 8).get TRK_PRIME_STAT_RX_LANES ≠ 0) ∧
    ((primed 3).primeState = 3 ∧ (primed 7).primeState = 7 ∧ (primed 8).primeState = 8 ∧ (primed 5).primeState = 5 ∧ (primed 6).primeState = 6) ∧
    (((primed 4).put TRK_PRIME_STAT_RATE 1).primeState = 4 ∧ ((primed 4).put TRK_PRIME_STAT_RATE 1).get TRK_PRIME_STAT_RATE ≠ 0) ∧
    ((primedT 8 { timer := some 0 }).linksLive = true ∧ 1 ≤ (primedT 1 { timer := some 0 }).primeState ∧
      (primedT 8 { timer := some 0 }).primeState ≤ 8) ∧
    (let s : State := { primedT 8 { timer := some 0 } with hubTime := 50000000 };
      s.trunk.timer = some 0 ∧ 0 + 50000000 ≤ s.hubTime) ∧
    (((primed 0xA).put TRK_CTRL_AUTO 1).primeState = 0xA ∧ ((primed 0xA).put TRK_CTRL_AUTO 1).is TRK_CTRL_AUTO = true) ∧
    ((primed 1).primingNow = true ∧ bit (((primed 1).put TRK_CTRL_LANE_EN 8).get TRK_CTRL_LANE_EN) 3 = true ∧
      ((primed 1).put (TRK_LANE_STAT_LOS 3) 0).is (TRK_LANE_STAT_LOS 3) = false) ∧
    (((primed 1).setLol 3 false).primingNow = true ∧ ((primed 1).setLol 3 false).is (TRK_LANE_STAT_LOL 3) = false) ∧
    (((primed 9).put (TRK_LANE_STAT_IN_SVC 3) 1).primeState = 9 ∧ ((primed 9).put (TRK_LANE_STAT_IN_SVC 3) 1).is (TRK_LANE_STAT_IN_SVC 3) = true) ∧
    bit (((primed 3).put TRK_PRIME_STAT_RX_LANES 8).get TRK_PRIME_STAT_RX_LANES) 3 = true := by decide

theorem test_hyps_TrainingRows :
    (let s := (primed 8).put TRK_PRIME_STAT_TX_LANES 12;
      4 ≤ s.primeState ∧ s.primeState ≤ 8 ∧ s.get TRK_PRIME_STAT_TX_LANES &&& 8 ≠ 0 ∧ s.get TRK_PRIME_STAT_TX_LANES &&& 3 = 0) ∧
    (let s := (primed 6).put TRK_PRIME_STAT_TX_LANES 12;
      s.linksLive = true ∧ s.primeState = 6 ∧ (s.peerLanes { lmask := 8, round := 8 }).primeState = 6) ∧
    (let s := ({ primed 6 with trunk := { round := 8 } } : State).put TRK_PRIME_STAT_TX_LANES 12;
      (s.peerLanes { lmask := 8, round := 8 }).primeState = 6 ∧ 8 = (s.peerLanes { lmask := 8, round := 8 }).trunk.round) ∧
    ((primed 7).coversRx (primed 7).trunk.relock = true ∧
      ((primed 7).put TRK_PRIME_STAT_RX_LANES 8).coversRx ((primed 7).put TRK_PRIME_STAT_RX_LANES 8).trunk.relock = false) ∧
    ((primed 4).trunkUp = false ∧ (primed 7).trunkUp = false ∧ trunked.trunk.readmit = none ∧ trunked.trunkUp = true) ∧
    ((primedT 5 { step := some (3, 16) }).primeState = 5 ∧ (primedT 5 { step := some (3, 16) }).trunk.step = some (3, 16) ∧
      (16 : Nat) ≤ 255) ∧
    ((primed 4).trunk.readmit = none ∧ (primed 4).primeState = 4 ∧ (primed 7).primeState = 7 ∧ (primed 8).primeState = 8) ∧
    (let s : State := { trunked with trunk := { readmit := some (1, 3) } };
      s.linksLive = true ∧ s.trunk.readmit = some (1, 3) ∧ s.trunkUp = true) ∧
    (let s : State := { trunked with trunk := { readmit := some (0, 3) } };
      s.trunk.readmit = some (0, 3) ∧ s.trunkUp = true) ∧
    ((primedT 4 { own := some true, peer := some true }).trunk.own = some true ∧
      (primedT 4 { own := some true, peer := some true }).trunk.peer = some true) ∧
    ((primedT 4 { own := some true, peer := some false }).trunk.own = some true ∧
      (primedT 4 { own := some true, peer := some false }).trunk.peer = some false ∧ (true && false) = false) ∧
    (primedT 4 {}).trunk.own = none := by decide

/-- The trunk up in the active role. -/
def settled : State := { trunked with trunk := { role := 1 } }

theorem test_hyps_LaneRows :
    (up.firmware = true ∧ up.linksLive = true ∧ up.inputMasked 9 = false ∧ up.inputMasked 10 = false) ∧
    (let s := (settled.put TRK_PWR_L0Q_EN 1).put ALT_CAL_STAT_PROFILE 2;
      s.linksLive = true ∧ s.settledTrunk = true ∧ s.is TRK_PWR_L0Q_EN = true ∧ s.get ALT_CAL_STAT_PROFILE = 2 ∧
        s.get TRK_PWR_TX_STATE = 0 ∧ s.ownedWithin 1000 = false ∧ s.trunkQuiet = true) ∧
    (let s : State := { settled with hubTime := 2 ^ 40 }; (s.link 0).lastBusy + s.get TRK_PWR_IDLE * 1000 ≤ s.hubTime) ∧
    (settled.trunkUp = true ∧ settled.l2dReady = true ∧ trunked.trunkUp = true ∧ trunked.l2dReady = false) ∧
    (let s : State := { (settled.put TRK_PWR_L2D_REQ 1) with trunk := { role := 1, l2dAsked := true, l2dEnter := true } };
      s.linksLive = true ∧ s.l2dReady = true ∧ s.is TRK_PWR_L2D_REQ = true ∧ s.trunk.l2dAsked = true ∧ s.trunk.l2dEnter = true ∧
        s.trunkQuiet = true) ∧
    (settled.is TRK_PWR_L2D_REQ = false ∧ settled.trunk.l2dAsked = false ∧ settled.trunk.l2dEnter = false ∧
      (settled.put TRK_PWR_L2D_REQ 1).trunkQuiet = true ∧ (settled.put TRK_PWR_L2D_REQ 1).get TRK_PWR_TX_STATE ≠ 2 ∧
      (settled.put TRK_PWR_L2D_REQ 1).l2dReady = true) ∧
    (10 ^ 10 ≤ assocGet 0 ({ clean := [(3, 10 ^ 10)] } : Trunk).clean 3) ∧
    ({ up with trunk := { sq := [(3, 1)] } } : State).checking 3 = true ∧
    ((upWith (TRK_LANE_STAT_IN_SVC 3) 1).is (TRK_LANE_STAT_IN_SVC 3) = true ∧ (upWith (TRK_LANE_STAT_IN_SVC 3) 1).is (TRK_LANE_STAT_QUAL 3) = false) ∧
    (let s := (primed 9).put (TRK_LANE_STAT_IN_SVC 3) 1; s.primeState = 9 ∧ s.is (TRK_LANE_STAT_IN_SVC 3) = true) ∧
    (up.injectable = true ∧ (upWith SEC_STAT_LC 2).injectable = false) := by decide +kernel

theorem test_hyps_ConduitReceiveRows :
    (trunked.linkLive 0 = true ∧ trunked.get TRK_PWR_RX_STATE ≠ 2 ∧ trunked.dock = false) ∧
    ((parseHeader [0x40#8]).ftype = 4) ∧
    (newer 127 (trunked.link 0).laneTx = true ∧ countBits (setBit 15 3 false % 16) 4 ≠ 0 ∧ newer 128 (trunked.link 0).laneTx = false) ∧
    (newer 1 (trunked.link 0).annRx = true ∧ newer 0 (trunked.link 0).annRx = false) ∧
    ((trunked.link 0).announced.contains (5, 1 % 2 == 1) = false ∧
      (({ up := true, announced := [(5, true)] } : Link).announced.contains (5, 1 % 2 == 1)) = true) ∧
    ((2 ^ 31 - 1 + 2 ^ 32 - assocGet 0 (trunked.link 0).est 1) % 2 ^ 32 < 2 ^ 31) ∧
    (({ trunked with trunk := { role := 2 } } : State).trunk.role = 2 ∧ (trunked.link 0).frozen = false) ∧
    (({ trunked with links := [(0, { up := true, stbyState := some 5 })] } : State).link 0).stbyState.isSome = true ∧
    (let s := { trunked with links := [(0, { up := true, expect := 5, held := [⟨3, 1, 1, 0, [], 1, 0⟩], txNext := 5 })] };
      ((s.ackUpTo 0 3).link 0).replayFrom ≠ some ((3 + 1) % 4096)) ∧
    (let l : Link := { up := true, replayFrom := some 4, txNext := 6, held := [⟨4, 1, 1, 0, [], 1, 0⟩, ⟨5, 1, 1, 0, [], 1, 0⟩] };
      let s : State := { trunked with links := [(0, l)] };
      ((s.ackUpTo 0 3).link 0).replayFrom = some ((3 + 1) % 4096)) := by decide +kernel

theorem test_hyps_ConduitTimerRows :
    (trunked.linkLive 0 = true ∧ trunked.replayLimit 0 = false) ∧
    (let s : State := { upW [(CAS_CTRL_EN, 1), (CAS_PORT_CTRL_EN 2, 1)] with links := [(3, { up := true })] };
      s.linkLive 3 = true ∧ s.replayLimit 3 = false) ∧
    (let s : State := { trunked.put CND_RETRY_REPLAY_MAX 1 with links := [(0, { up := true, replay := [3], held := [⟨3, 1, 1, 0, [], 2, 0⟩] })] };
      s.linkLive 0 = true ∧ s.replayLimit 0 = true) ∧
    (let s : State := { trunked with links := [(0, { up := true, txSlot := 1023 })] };
      0 < (s.link 0).txSlot ∧ (s.link 0).txSlot < 1024 ∧ s.get TRK_PWR_TX_STATE = 0 ∧ s.is TRK_PWR_L2D_REQ = false ∧
        s.slotOwner? (s.link 0).txSlot = none ∧ (s.put TRK_PWR_TX_STATE 1).get TRK_PWR_TX_STATE = 1 ∧
        (s.put TRK_PWR_TX_STATE 1).ownedWithin 100 = false ∧ (s.put TRK_PWR_TX_STATE 1).trunkWants = false ∧
        (s.put TRK_PWR_TX_STATE 2).get TRK_PWR_TX_STATE = 2) ∧
    (let s := ((trunked.put (ALT_CAL_ENT_OWN 0 0 1023) 1).put (ALT_CAL_ENT_ALLOT 0 0 1023) 7);
      ({ s with allot := { tableN := 1 } } : State).slotOwner? 1023 = some 7) ∧
    (let s : State := { trunked with hubTime := 10 ^ 9, links := [(0, { up := true, held := [⟨3, 1, 1, 0, [], 1, 0⟩] })] };
      (s.link 0).held = ⟨3, 1, 1, 0, [], 1, 0⟩ :: [] ∧ s.trunk.role ≠ 2 ∧ s.linkLive 0 = true ∧ 0 + s.get CND_RETRY_TIMEOUT * 1000 ≤ s.hubTime) ∧
    (let s : State := { trunked with hubTime := 10 ^ 9, links := [(0, { up := true, pack := some ⟨2, 0, [], 0, [], false⟩ })] };
      (s.link 0).pack = some ⟨2, 0, [], 0, [], false⟩ ∧ 0 + 10 * s.get CND_CTRL_PACK_WIN ≤ s.hubTime) ∧
    (let s := ({ trunked with links := [(0, { up := true, expect := 7 })] } : State).put TRK_PWR_TX_STATE 1;
      s.linkLive 0 = true ∧ s.get TRK_PWR_TX_STATE = 1 ∧ s.aseqOut 0 ≠ (s.link 0).aseqSent ∧ (s.link 0).txSlot < 1024) ∧
    (up.firmware = true ∧ up.injectable = true ∧ (upWith SEC_STAT_LC 2).injectable = false ∧ (upWith SEC_STAT_LC 2).firmware = true) ∧
    (bit 1 0 = true ∧ bit 2 1 = true) := by decide +kernel

theorem test_hyps_AllotmentRows :
    (let s : State := { trunked with links := [(0, { up := true, txSlot := 1024 })] };
      s.linksLive = true ∧ s.trunkUp = true ∧ (s.link 0).txSlot = 1024) ∧
    (let s : State := { up with allot := { profile := some (2, 0) } };
      s.is ALT_CAL_STAT_SWAP_ARMED = false ∧ s.allot.fallback = none ∧ s.allot.profile = some (2, s.get ALT_CYCLE_CYCLE)) ∧
    (({ up with allot := { profile := some (2, 1) } } : State).allot.profile = some (2, 1) ∧ 1 ≠ up.get ALT_CYCLE_CYCLE ∧
      up.allot.profile = none) ∧
    up.running = true ∧
    (let s : State := { up with cis := { direct := [(32, [0])] } };
      s.portOpen 32 = true ∧ assocFind s.cis.tx 32 = none ∧ (s.takeNext 32).1 = some (none, 0)) ∧
    (up.portOpen 32 = true ∧ (up.takeNext 32).1 = none) ∧
    (let s : State := { up with cis := { tx := [(28, ⟨0, none, 0⟩)] } };
      assocFind s.cis.tx 28 = some ⟨0, none, 0⟩) ∧
    (let s : State := { up with cis := { tx := [(11, ⟨0, none, 0⟩), (27, ⟨0, some 5, 0⟩)] } };
      assocFind s.cis.tx 11 = some ⟨0, none, 0⟩ ∧ assocFind s.cis.tx 27 = some ⟨0, some 5, 0⟩) ∧
    (let s : State := { up with hubTime := 5, allot := { gates := [(7, { pend := some (⟨[], 1, 0, 0⟩, 5) })] } };
      (s.gcl 7).pend = some (⟨[], 1, 0, 0⟩, 5) ∧ 5 ≤ s.hubTime) ∧
    (let s : State := { up with hubTime := 4, allot := { gates := [(7, { pend := some (⟨[], 1, 0, 0⟩, 5) })] } };
      (s.gcl 7).pend = some (⟨[], 1, 0, 0⟩, 5) ∧ s.hubTime < 5) := by decide +kernel

theorem test_hyps_AllotmentRegisters :
    0 = up.bankInUse ∧ (upWith ALT_CAL_STAT_SWAP_ARMED 1).is ALT_CAL_STAT_SWAP_ARMED = true ∧
    (1 ≠ up.bankInUse ∧ up.is ALT_CAL_STAT_SWAP_ARMED = false) ∧ 0 < (⟨[], 1, 0, 0⟩ : GclCfg).cycle := by decide

theorem test_hyps_SchedulerChoice :
    let s : State := { upWith (WEL_CFG_EN 5) 1 with cis := { wells := [(5, { q := [0], tags := some (0, 1) })] } };
    let key := 0 * 8 + s.get (WEL_SCHED_PRIO 5);
    (s.chooseWell key (fun s n => (s.well n).q ≠ [])).isSome = true ∧ s.chooseWell key (fun _ _ => false) = none := by decide +kernel

/-- Port 3 of the Ethernet ports (port 7) with its link up and a class entry 2 that takes every frame. -/
def etherUp : State := upW [(ETH_STAT_LINK 3, 1), (CTX_ETH_CLS0_EN 3 2, 1), (CTX_ETH_CLS0_CTX 3 2, 40)]

theorem test_hyps_CisternRows :
    (etherUp.running = true ∧ etherUp.portPresent 7 = true ∧ etherUp.heldPort 7 = false ∧ etherUp.is (ETH_STAT_LINK (7 - 4)) = true) ∧
    (up.portPresent 12 = true ∧ 12 - 12 < up.nWide ∧ up.portPresent 28 = true ∧ up.portPresent 29 = true ∧ up.dock = false ∧
      up.heldPort 28 = false ∧ up.portPresent 31 = true ∧ up.portPresent 33 = true) ∧
    (up.get (WEL_PORT_USE_USE 11) < up.get (WEL_PORT_Q_QUOTA 11) ∧ up.noRoom 64 = false ∧
      (upWith WEL_CIS_STAT_FREE_CELLS 0).noRoom 64 = true ∧ up.backPressured 28 = false ∧
      (upWith (WEL_PORT_Q_QUOTA 11) 0).get (WEL_PORT_Q_QUOTA 11) ≤ (upWith (WEL_PORT_Q_QUOTA 11) 0).get (WEL_PORT_USE_USE 11) ∧
      (upWith WEL_CIS_STAT_GRES 1).backPressured 34 = true) ∧
    (({ up with fuses := { variant := 2 } } : State).idleContext 11 = true ∧ up.idleContext 11 = false ∧ 11 < up.nCtx ∧
      16384 < ({ data := List.replicate 16385 0 } : Frame).data.length) ∧
    (upWith WEL_CIS_STAT_FREE_CELLS 0).freeCells < cellsFor 64 ∧ (cellsFor 64 ≤ up.freeCells ∧ 0 < up.freeFds) ∧ up.nCtx ≤ 1024 ∧
    (etherUp.clsMatches (7 - 4) 2 (ethHead [1, 2]) = true ∧ etherUp.clsMatches (7 - 4) 0 (ethHead [1, 2]) = false ∧
      etherUp.clsMatches (7 - 4) 1 (ethHead [1, 2]) = false) ∧
    (let s := upW [(WEL_DEPTH_CELLS 5, 8), (WEL_HIMARK_HIGH 5, 8), (WEL_LOMARK_LOW 5, 8)];
      s.sheds 5 = false ∧ s.is (WEL_DEPTH_CONG 5) = false ∧ s.get (WEL_HIMARK_HIGH 5) ≤ s.get (WEL_DEPTH_CELLS 5) ∧
      (s.put (WEL_DEPTH_CONG 5) 1).is (WEL_DEPTH_CONG 5) = true ∧
      min ((s.put (WEL_DEPTH_CONG 5) 1).get (WEL_LOMARK_LOW 5)) ((s.put (WEL_DEPTH_CONG 5) 1).get (WEL_HIMARK_HIGH 5)) ≤ 8) ∧
    (let s := upW [(WEL_DEPTH_CELLS 5, 7), (WEL_HIMARK_HIGH 5, 8), (WEL_LOMARK_LOW 5, 9), (WEL_DEPTH_CONG 5, 1)];
      s.is (WEL_DEPTH_CONG 5) = true ∧ s.get (WEL_DEPTH_CELLS 5) < min (s.get (WEL_LOMARK_LOW 5)) (s.get (WEL_HIMARK_HIGH 5)) ∧
      (s.put (WEL_DEPTH_CONG 5) 0).get (WEL_DEPTH_CELLS 5) < (s.put (WEL_DEPTH_CONG 5) 0).get (WEL_HIMARK_HIGH 5)) ∧
    (let s : State := { upW [(WEL_DIP_RING_SIZE, 8192), (WEL_DIP_WPTR_INDEX, 8190)] with cis := { dipBuf := [[0]] } };
      s.running = true ∧ s.cis.dipBuf = [0] :: [] ∧ s.is WEL_DIP_CTRL_FULL = false ∧
      s.get WEL_DIP_WPTR_INDEX + 1 < s.get WEL_DIP_RING_SIZE ∧ (s.put WEL_DIP_CTRL_FULL 1).is WEL_DIP_CTRL_FULL = true ∧
      s.get WEL_DIP_RING_SIZE ≤ 8192) ∧
    (up.is (WEL_CFG_EN 511) = false ∧ up.get (WEL_DEPTH_CELLS 511) = 0 ∧ up.portPresent (bits 28 5 0) = true ∧ bits 32 5 0 = 32 ∧
      up.slicePort 0 (bits 33 5 0) = false ∧ (upWith (SLC_PORTS_PORTS 0) (2 ^ 28)).slicePort 0 (bits 28 5 0) = true ∧
      up.portPresent (bits 33 5 0) = true ∧ up.get (WEL_CFG_SLICE 511) = 0 ∧ (upWith (WEL_CFG_SLICE 511) 5).get (WEL_CFG_SLICE 511) ≠ 0) ∧
    (bits 0 30 30 = up.get (WEL_CFG_ISL_MODE 5) ∧ bits (2 ^ 30) 30 30 ≠ up.get (WEL_CFG_ISL_MODE 5)) ∧
    (bit (2 ^ 31) 31 = true ∧ bit 0 31 = false ∧ (upWith WEL_DIP_CTRL_EN 1).is WEL_DIP_CTRL_EN = true) := by decide +kernel

/-- One thread of a hub. -/
def withThread (s : State) (p t : Nat) (th : Thread) : State :=
  { s with pumps := { s.pumps with threads := assocSet {} (p * 32 + t) th s.pumps.threads } }

/-- Context 40 RUN, with a chain pending for thread 3 of pump 2. -/
def chainPending : State :=
  { upW [(CTX_STATE_STATE 40, 1), (CTX_CFG_MAXTHR 40, 1), (CTX_CFG_PRI 40, 1)] with pumps := { pend := [⟨0, 40, 2⟩] } }

theorem test_hyps_ThreadRows :
    (chainPending.running = true ∧ chainPending.power.dryEntry = false ∧ 2 < chainPending.nPumps ∧ (chainPending.thread 2 3).st = .idle ∧
      chainPending.nextChain 2 3 = some ⟨0, 40, 2⟩ ∧ chainPending.eligible 2 3 ⟨0, 40, 2⟩ = true ∧ chainPending.is (CTX_CFG_PRI 40) = true) ∧
    chainPending.nextChain 2 31 = none ∧
    (let s := withThread up 2 3 { st := .wait, waiting := some (.fill 5) };
      s.running = true ∧ (s.thread 2 3).st = .wait ∧ (s.thread 2 3).waiting = some (.fill 5)) ∧
    (let o : LongOp := ⟨.trim, 1, 0, 0, 0, 0⟩;
      let s := withThread up 2 3 { st := .wait, waiting := some (.long o) };
      (s.thread 2 3).waiting = some (.long o) ∧ s.longReady (s.thread 2 3) o = true ∧ s.engineHas 2 3 o = true ∧
        s.longCut (s.thread 2 3) o = false) ∧
    (let o : LongOp := ⟨.fetch, 1, 0, 16384, 0, 8⟩;
      let s := { withThread up 2 3 { st := .wait, waiting := some (.long o), chain := some 0 } with
        cis := { frames := [(0, {})] } };
      s.longReady (s.thread 2 3) o = true ∧ s.engineHas 2 3 o = true ∧ s.longCut (s.thread 2 3) o = true) ∧
    (let o : LongOp := ⟨.crc16, 1, 0, 0, 8, 0⟩;
      let s := { withThread up 2 3 { st := .wait, waiting := some (.long o), chain := some 0 } with cis := { frames := [(0, { closed := false })] } };
      (s.thread 2 3).waiting = some (.long o) ∧ s.longReady (s.thread 2 3) o = false) ∧
    (let s := withThread up 2 3 { st := .park, park := 1, parkTime := 0 };
      (s.thread 2 3).st = .park ∧ (s.thread 2 3).park = 1 ∧ (s.thread 2 3).parkTime ≤ s.hubTime) ∧
    (let s := withThread up 2 3 { st := .park, park := 1, parkTime := 1 }; s.hubTime < (s.thread 2 3).parkTime) ∧
    (let s : State := { up with pumps := { timers := [(40 * 4 + 3, ⟨0, 9⟩)] } };
      assocFind s.pumps.timers (40 * 4 + 3) = some ⟨0, 9⟩ ∧ (⟨0, 9⟩ : Timer).time ≤ s.hubTime) ∧
    assocFind up.pumps.timers (40 * 4 + 3) = none := by decide

theorem test_hyps_ContextRegisters :
    (isSystem 31 = true ∧ up.nCtx ≤ 1024 ∧ isSystem 32 = false ∧ 32 < up.nCtx ∧ up.resetting (up.ctxSlice 32) = false ∧
      up.get (CTX_STATE_STATE 32) = 0 ∧ up.activation 32 ≠ 0) ∧
    (let s := upW [(PMP_PAGE_STATE 0, 2), (PMP_PAGE_SLICE 0, 0), (CTX_ENTRY_ENTRY 32, 0), (CTX_CFG_MAXTHR 32, 1), (CTX_BUDGET_STEPS 32, 64)];
      s.get (CTX_STATE_STATE 32) = 0 ∧ s.activation 32 = 0) ∧
    (upWith (CTX_STATE_STATE 32) 1).get (CTX_STATE_STATE 32) = 1 ∧ (upWith (CTX_STATE_STATE 32) 2).get (CTX_STATE_STATE 32) = 2 ∧
    (upWith (CTX_STATE_STATE 32) 3).get (CTX_STATE_STATE 32) = 3 ∧ (upWith (CTX_STATE_ACTIVE 32) 1).get (CTX_STATE_ACTIVE 32) ≠ 0 ∧
    up.get (PMP_PAGE_STATE (up.get (PMP_LDSEL_PAGE 5))) ≠ 1 ∧
    (let s := upW [(PMP_LDSEL_PAGE 5, 9), (PMP_PAGE_STATE 9, 1), (PMP_PAGE_SLICE 9, 5)];
      s.get (PMP_PAGE_STATE (s.get (PMP_LDSEL_PAGE 5))) = 1 ∧ s.get (PMP_PAGE_SLICE (s.get (PMP_LDSEL_PAGE 5))) = 5) := by decide

/-- A hub whose thread 3 of pump 2, of system context 5, is READY at pc 0x40, where the word w stands in its code. -/
def issuing (w : W32) (th : Thread) : State :=
  let s := upWith (PMP_PAGE_STATE 0) 3
  { s with
    tanks := { s.tanks with t1 := memWrite [] 0x40 (leBytes 4 w.toNat) }
    pumps := { s.pumps with
      threads := [(2 * 32 + 3, { th with st := .ready, ctx := 5, pc := 0x40, steps := 0, budget := 64, stop := none })]
      icache := [(2, [1])] } }

/-- That thread issues the row of its word, whatever word it is and whatever the thread's registers, flags, chain and memory are: this
meets the premise of every Windlass row. -/
theorem issuing_issues (w : W32) (th : Thread) : (issuing w th).issues 2 3 (decodeWindlass 2 3 w) = true := by
  have hf : (issuing w th).fetchWord 0x40 = w := by
    have h : memRead (memWrite [] 0x40 (leBytes 4 w.toNat)) 0x40 4 = leBytes 4 w.toNat :=
      memRead_memWrite [] 0x40 (leBytes 4 w.toNat)
    rw [State.fetchWord, show (issuing w th).tankRead 1 0x40 4 = _ from h, leNat_leBytes]
    apply BitVec.eq_of_toNat_eq
    have := w.isLt
    simp only [BitVec.toNat_ofNat]
    omega
  have ht : (issuing w th).thread 2 3 =
      { th with st := .ready, ctx := 5, pc := 0x40, steps := 0, budget := 64, stop := none } := by
    simp [State.thread, issuing, assocGet]
  simp only [State.issues, ht, hf]
  have h1 : (issuing w th).running = true := by rfl
  have h2 : (issuing w th).nPumps = 32 := by rfl
  have h3 : ∀ u : Thread, u.pc = 0x40 → u.ctx = 5 → (issuing w th).fetchAllowed u = true := by
    intro u a b
    simp [State.fetchAllowed, a, b]
    rfl
  have h4 : (issuing w th).lineHeld 2 0x40 = true := by rfl
  have h5 : (issuing w th).pick 2 = some 3 := by
    simp [State.pick, issuing, State.thread, assocGet, upWith, up, inPhase, State.put, List.range, List.range.loop]
  simp [h1, h2, h3, h4, h5]

/-- The thread of such a hub. -/
def issuer (th : Thread) : Thread := (issuing 0#32 th).thread 2 3

theorem test_hyps_WindlassAlu : (issuing 0x04000000#32 {}).issues 2 3 (.wAdd 2 3 0#4 0#4 0#4 ⟨false, false⟩) = true :=
  issuing_issues 0x04000000#32 {}

theorem test_hyps_WindlassImmediates : (issuing 0x30148100#32 {}).issues 2 3 (.wCmpi 2 3 5#4 0x8100#18) = true :=
  issuing_issues 0x30148100#32 {}

theorem test_hyps_WindlassControl :
    ((issuer { g := [(1, 4)] }).reg 1#4).toNat % 4 = 0 ∧ ((issuer { g := [(1, 6)] }).reg 1#4).toNat % 4 ≠ 0 ∧
    condHolds 3#4 { v := true } = true ∧ condHolds 11#4 { v := true } = false := by decide

theorem test_hyps_WindlassLocal :
    ∀ n : Nat, n = 2 ∨ n = 4 ∨ n = 8 →
      ((issuer { g := [(1, 0x7F8)] }).reg 1#4 + (0#18).signExtend 64 : W64).toNat % n = 0 ∧
      ((issuer { g := [(1, 0x7F8)] }).reg 1#4 + (1#18).signExtend 64 : W64).toNat % n ≠ 0 := by
  rintro n (rfl | rfl | rfl) <;> decide

theorem test_hyps_WindlassWindow : (issuer {}).chain = none ∧ (issuer { chain := some 9 }).chain = some 9 := by decide

/-- A hub with a table page of slice 0 and a key slot 2 of the given use for context 5. -/
def tunnel (use : Nat) : State :=
  upW [(PMP_PAGE_STATE 1, 3), (CTX_KEY_SLOT 5, 2), (CTX_KEY_KEN 5, 1), (SEC_SLOT_ATTR_ATTR 2, 2 ^ 31 + use * 2 ^ 26)]

theorem test_hyps_WindlassTunnel :
    (16383 ≤ 16383 ∧ (0 : Nat) ≤ 16384 ∧ 16383 < 16384) ∧
    (0x1000 + 64 * 2 ^ 0 ≤ 0x100000 ∧ (tunnel 0).tablePages 5 0x1000 (64 * 2 ^ 0) = true ∧ 0x1000 % 64 = 0 ∧
      (tunnel 0).tablePages 5 0x1008 (64 * 2 ^ 0) = true ∧ 0x1008 % 64 ≠ 0 ∧ (tunnel 0).tablePages 5 0x40000 64 = false ∧
      0x100000 < 0xFFFC8 + 64 * 2 ^ 0) ∧
    ((tunnel 0).is (CTX_KEY_KEN 5) = true ∧ (tunnel 0).refSlot 5 ((tunnel 0).get (CTX_KEY_SLOT 5)) = 0 ∧
      (tunnel 0).slotUsable 2 = true ∧ (tunnel 0).slotUse 2 = 0 ∧ (tunnel 1).slotUsable 2 = true ∧ (tunnel 1).slotUse 2 = 1) ∧
    (up.refWell 5 7 = 0 ∧ up.get (WEL_CFG_PORT 7) ≤ 3 ∧ up.refRemote 5 0 = 0) ∧
    (let s := upW [(WEL_CFG_PORT 7, 32), (WEL_CFG_EN 7, 1)];
      s.refWell 5 7 = 0 ∧ s.get (WEL_CFG_PORT 7) = 32 ∧ s.refCtx 5 (bits (2 ^ 32 * 40) 41 32) = 0) ∧
    (up.refPort 5 28 = 0 ∧ 3 < 28 ∧ 28 ≠ 32) ∧ (0 ≤ 3 ∧ up.refPort 5 0 = 0) ∧ up.refPort 5 32 = 0 ∧
    (up.refEntry 5 9 = 0 ∧ up.pumpMessages 2 < 64) ∧
    64 ≤ ({ up with msgs := List.replicate 64 ⟨0, 0, 0, 0, 0, 0, none, 0, 0, some 2⟩ } : State).pumpMessages 2 ∧
    up.refCtx 5 40 = 0 := by decide +kernel

theorem test_hyps_TunnelResults :
    ({ chain := some 9 } : Thread).chain = some 9 ∧
    (let s := up.tankWrite 1 0x1000 (leBytes 8 (2 ^ 63 + 7));
      s.lookup ⟨.lkpd, 0, 0, 0, 0x1000, 0⟩ = some 7 ∧ s.lookup ⟨.lkpd, 0, 0, 1, 0x1000, 0⟩ = none ∧
      s.lookup ⟨.lkpx, 0, 0, 0, 0x1000, 0⟩ = none) ∧
    (let s := up.tankWrite 1 0x1000 (leBytes 8 5 ++ leBytes 8 (2 ^ 63 + 7));
      s.lookup ⟨.lkpx, 0, 0, 5, 0x1000, 0⟩ = some 7) ∧
    (up.chain ({} : Thread)).data.length < 16 := by decide +kernel

/-- A dock hub whose endpoint link is up, with the fields given. -/
def host (l : List (Fld × Nat)) : State :=
  let s := upW ((GLB_HUB_STAT_ROLE, 1) :: l)
  { s with power := { s.power with epLink := true } }

/-- A read request of the dock for slice 0, and a tag that holds it. -/
def someReq (write : Bool) : BrReq := ⟨none, 0, 0, 0, write, 0, 0, 0x10000000, 4, []⟩
def someTag (st : TagSt) (write : Bool) : Tag := ⟨st, someReq write, [], false, none, 0, true⟩

/-- With a bridge as given. -/
def bridged (s : State) (b : Bridge) : State := { s with brg := b }

/-- A window of the dock, posted or not, whose target is hub h. -/
def window4 (h wmode : Nat) : State :=
  host [(BRG_WIN_CFG_EN 4, 1), (BRG_WIN_CFG_SIZE 4, 12), (BRG_WIN_CFG_HUB 4, h), (BRG_WIN_CFG_WMODE 4, wmode)]

/-- A dock hub with its trunk up and a window for hub h. -/
def linkedHost (wmode h : Nat) : State :=
  { (window4 h wmode).put TRK_PRIME_STAT_STATE 9 with links := [(0, { up := true })], trunk := { role := 1 } }

theorem test_hyps_HostAccessRows :
    ((host []).endpoint = true ∧ (host []).firmware = true ∧ 0xFFFFFC + 4 ≤ 2 ^ 24 ∧ freshKey (host []).brg.dn 0 1024 = some 0) ∧
    ((host []).slotSize = 24 ∧ (host []).winTarget 4 0 = none) ∧
    ((window4 0 0).endpoint = true ∧ ((window4 0 0).winTarget 4 0xFFF).map (fun x => (x.1.hub, x.2)) = some (0, 0xFFF) ∧
      (window4 0 0).is BRG_CTRL_COMPAT = false ∧ (window4 0 0).is (BRG_WIN_CFG_EN 4) = true ∧
      (window4 0 0).get (BRG_WIN_CFG_SIZE 4) = 12) ∧
    ((window4 3 0).winTarget 4 8).map (fun x => (x.1.hub, x.1.posted)) = some (3, true) ∧
    ((host []).mayStart (host []).brg.dnWait ⟨some 4, 0, 0, 0, false, 0, 0, 8, 4, []⟩ = true ∧
      (host []).mayStart [⟨some 4, 0, 0, 0, true, 0, 0, 8, 4, []⟩] ⟨some 4, 0, 0, 0, false, 0, 0, 8, 4, []⟩ = false) ∧
    (configSpace 0x10000000 = false ∧ (host []).delayed = false) ∧
    ((host [(GLB_HUB_STAT_TRK_UP, 1)]).wayTo 1 = none ∧ (linkedHost 0 3).wayTo ((linkedHost 0 3).hubName 3) = some 0) ∧
    (let u := (window4 0 1).endpointError 12;
      u.slotSize = 24 ∧ (u.winTarget 4 8).map (fun x => x.1.posted) = some false ∧ u.winTarget 5 8 = none ∧
        ((window4 0 0).endpointError 12 |>.winTarget 4 8 |>.map (fun x => x.1.posted)) = some true) ∧
    ((window4 3 1).winTarget 4 8).map (fun x => (x.1.hub, x.1.posted)) = some (3, false) ∧
    ((host [(FLT_STAT_HALT, 1)]).endpoint = true ∧ (host [(FLT_STAT_HALT, 1)]).firmware = false) := by decide +kernel

theorem freshKey_full {α : Type} (l : List (Nat × α)) (k n : Nat) (h : ∀ i, n ≤ i → i < n + k → assocFind l i ≠ none) :
    freshKey l n k = none := by
  induction k generalizing n with
  | zero => rfl
  | succ k ih =>
    have h0 : (assocFind l n).isNone = false := by
      have := h n (Nat.le_refl n) (by omega)
      cases e : assocFind l n <;> simp_all
    simp only [freshKey, h0]
    exact ih (n + 1) (fun i a b => h i (by omega) (by omega))

theorem assocFind_run {α : Type} (x : α) (m a i : Nat) (h1 : a ≤ i) (h2 : i < a + m) :
    assocFind ((List.range' a m).map (fun t => (t, x))) i = some x := by
  induction m generalizing a with
  | zero => omega
  | succ m ih =>
    simp only [List.range'_succ, List.map_cons, assocFind]
    by_cases e : i = a
    · simp [e]
    · rw [if_neg (by omega)]
      exact ih (a + 1) (by omega) (by omega)

/-- A dock hub whose every downstream tag is taken. -/
def noTags : State := bridged (host []) { dn := (List.range' 0 1024).map (fun t => (t, someTag .issued false)) }

theorem test_hyps_HostAccessRows_full : freshKey noTags.brg.dn 0 1024 = none ∧ noTags.endpoint = true :=
  ⟨freshKey_full _ _ _ (fun i h1 h2 => by
    have : assocFind noTags.brg.dn i = some (someTag .issued false) := assocFind_run _ 1024 0 i h1 h2
    simp [this]), by rfl⟩

theorem test_hyps_TagRows :
    up.running = true ∧ (assocFind up.brg.dn 1023 = none ∧ assocFind up.brg.up 1023 = none ∧
      assocFind (up.endpointError 16).brg.up 1023 = none ∧ assocFind ((host []).endpointError 16).brg.up 1023 = none) ∧
    (let b : Bridge := { dn := [(7, someTag .issued false), (8, someTag .abandoned false), (9, someTag .issued true)],
                         up := [(7, someTag .issued false), (8, someTag .abandoned false)] };
      let s := bridged up b;
      assocFind s.brg.dn 7 = some (someTag .issued false) ∧ 1 ≠ s.sliceGen (someTag .issued false).req.slice ∧
      0 = s.sliceGen (someTag .abandoned false).req.slice ∧ assocFind s.brg.dn 8 = some (someTag .abandoned false) ∧
      assocFind s.brg.dn 9 = some (someTag .issued true) ∧ (someTag .issued true).req.unit = 0 ∧
      assocFind s.brg.up 7 = some (someTag .issued false) ∧ assocFind s.brg.up 8 = some (someTag .abandoned false)) ∧
    (let s : State := { bridged up { dn := [(7, someTag .issued false), (8, someTag .abandoned false)] } with hubTime := 2 ^ 40 };
      (someTag .issued false).since + s.get BRG_TIMERS_RD_TO * 10000 ≤ s.hubTime ∧
      (someTag .abandoned false).since + s.get BRG_TIMERS_RD_TO * 10000 + (s.get BRG_ORD_DRD_TO * 1000 + 1000000) ≤ s.hubTime ∧
      0 + s.upTimeout + (s.get BRG_ORD_DRD_TO * 1000 + 1000000) ≤ s.hubTime ∧ s.dock = false) ∧
    (up.brg.dnWait = [] ∧ up.brg.upWait = [] ∧ up.brg.dn.find? (fun e => e.2.st == TagSt.issued && !e.2.gone) = none) := by decide +kernel

/-- A slot that holds a delayed request of requester 5 and tag 6. -/
def heldSlot (a : Option (CplStatus × Bytes)) : DrdSlot := ⟨5, 6, 0, 0, false, 0, 4, [], a, 0⟩

theorem test_hyps_DelayedRows :
    (0 = up.ageGone.sliceGen 0 ∧ 1 ≠ up.ageGone.sliceGen 0) ∧
    (∀ a ∈ [none, some (CplStatus.ok, [1#8])],
      (bridged up { slots := [(3, heldSlot a)] }).brg.slots.find? (fun e => e.2.requester == 5 && e.2.tag == 6) = some (3, heldSlot a)) ∧
    (up.brg.slots.find? (fun e => e.2.requester == 5 && e.2.tag == 6) = none ∧ assocFind up.ageGone.brg.gone (5 * 65536 + 6) = none ∧
      freshKey up.brg.slots 0 64 = some 0) ∧
    assocFind (bridged up { gone := [(5 * 65536 + 6, 0)] }).ageGone.brg.gone (5 * 65536 + 6) ≠ none ∧
    freshKey (bridged up { slots := (List.range 64).map (fun i => (i, heldSlot none)) }).brg.slots 0 64 = none ∧
    (let s := bridged { trunked with trunk := { role := 1 } } { reqs := [(9, ⟨0, someReq false, false⟩)] };
      s.running = true ∧ assocFind s.brg.reqs 9 = some ⟨0, someReq false, false⟩) ∧
    (let s : State := { bridged up { slots := [(3, heldSlot (some (.ok, [])))] } with hubTime := 2 ^ 40 };
      assocFind s.brg.slots 3 = some (heldSlot (some (.ok, []))) ∧ (heldSlot none).since + s.get BRG_ORD_DRD_TO * 1000 ≤ s.hubTime) ∧
    ((upWith BRG_ORD_DRAIN 1).is BRG_ORD_DRAIN = true ∧ (upWith BRG_ORD_DRAIN 1).crossing = false) ∧
    (bridged (upWith BRG_ORD_DRAIN 1) { dn := [(0, ⟨.issued, { someReq false with hub := 3 }, [], false, none, 0, true⟩)] }).crossing = true ∧
    (up.brg.late.length < 16 ∧ 16 ≤ (bridged up { late := List.replicate 16 ⟨0, 0, 0, 0, 0, 0, 0⟩, lateOvf := true }).brg.late.length) := by
  decide +kernel

/-- A message for routing entry 9. -/
def someMsg (hops : Nat) : Msg := ⟨0, 0x0201, 0, 9, hops, 0, none, 0, 9, none⟩

/-- Entry 9 enabled towards the port and target given. -/
def routed (p t : Nat) : State := ((host []).put (MSG_RT_EN 9) 1 |>.put (MSG_RT_PORT 9) p).put (MSG_RT_TARGET 9) t

theorem test_hyps_MessageRows :
    (({ up with msgs := [someMsg 0] } : State).msgs = someMsg 0 :: [] ∧ ({ up with msgs := [someMsg 0] } : State).deliverable (someMsg 0) = true) ∧
    (up.msgs = [] ∧ up.is (MSG_RT_EN (someMsg 0).entry) = false) ∧
    (let s := (routed 28 7).put (MSG_VEC_RANGE_COUNT 0) 8;
      s.is (MSG_RT_EN 9) = true ∧ s.get (MSG_RT_PORT 9) = 28 ∧ s.dock = true ∧ s.get (MSG_RT_TARGET 9) = 7 ∧
      s.vecOwner 7 = some (s.get (MSG_RT_SLICE 9)) ∧ (s.vec 7).masked = true ∧ (s.setVec 7 ⟨0, 0, false, false⟩).vecOwner 7 = some 0 ∧
      ((s.setVec 7 ⟨0, 0, false, false⟩).vec 7).masked = false ∧ s.brg.ep.msix = false ∧
      (let u := bridged (s.setVec 7 ⟨0, 0, false, false⟩) { ep := { msix := true } };
        (u.vec 7).masked = false ∧ u.brg.ep.mask = false ∧ u.brg.ep.msix = true)) ∧
    (let s := (routed 28 8).put (MSG_VEC_RANGE_COUNT 0) 8; s.vecOwner 8 ≠ some (s.get (MSG_RT_SLICE 9)) ∧ s.get (MSG_RT_TARGET 9) < 2048) ∧
    (let s := routed 32 40; s.is (MSG_RT_EN 9) = true ∧ s.get (MSG_RT_PORT 9) = 32 ∧ isSystem 40 = false ∧
      s.ctxSlice 40 = s.get (MSG_RT_SLICE 9)) ∧
    (let s := routed 3 0; s.get (MSG_RT_PORT 9) = 3 ∧ (someMsg 3).hops < 4 ∧ 4 ≤ (someMsg 4).hops) ∧
    (let s := (routed 3 0).put (MSG_RT_SLICE 9) 5; let b : Bytes := List.replicate 15 0#8 ++ [5#8] ++ List.replicate 8 0#8;
      s.is (MSG_RT_EN 9) = true ∧ leAt b 15 1 = 5 ∧ s.get (MSG_RT_SLICE 9) = 5 ∧
      (s.put (MSG_RT_SLICE 9) 6).get (MSG_RT_SLICE 9) ≠ 5 ∧ (s.put (MSG_RT_SLICE 9) 6).get (MSG_RT_SLICE 9) ≠ 0) ∧
    up.msgFull (someMsg 0) = false := by decide +kernel

/-- A slice reset of slice 5 that waits for the hubs of mask w. -/
def sliceRst (w : Nat) : SliceReset := { slice := 5, remove := false, ch := 0, waiting := w, unreached := 0 }

/-- Member 0 of a dock group, with its cascade link to member 1 up. -/
def grouped : State :=
  { upW [(GLB_HUB_STAT_ROLE, 1), (CAS_CTRL_EN, 1), (CAS_PORT_CTRL_EN 0, 1), (CAS_PORT_STAT_STATE 0, 3)] with
    cas := { members := [(1, { present := true })] }, links := [(1, { up := true })] }

theorem test_hyps_SliceResetRows :
    up.running = true ∧ up.resets = [] ∧
    (let s : State := { up with resets := [sliceRst 6] };
      s.resets = sliceRst 6 :: [] ∧ bit (sliceRst 6).waiting 1 = true ∧ setBit (sliceRst 6).waiting 1 false ≠ 0 ∧
      bit (sliceRst 6).waiting 0 = false) ∧
    (bit (sliceRst 4).waiting 2 = true ∧ setBit (sliceRst 4).waiting 2 false = 0 ∧ (sliceRst 4).remove = false ∧
      (sliceRst 4).report = none ∧ ({ sliceRst 4 with report := some 1 } : SliceReset).report = some 1) ∧
    (up.get (SLC_STAT_GEN 5) = 0 ∧ up.get (SLC_STAT_GEN 5) ≠ 1) ∧
    (memberBits up.reachable = 0 ∧ memberBits grouped.reachable ≠ 0) := by decide +kernel

theorem test_hyps_VaultEventRows :
    (up.tamperArmed (.mesh 4) = false ∧ up.tamperArmed .supply = true) ∧
    (State.reset.tamperArmed .supply = true ∧ State.reset.coreUp = false ∧ State.reset.pumps.threads = []) ∧
    (deriver.coreUp = true ∧ deriver.bist.running = false ∧ deriver.pumps.threads = [] ∧ deriver.slotValid 2 = true) ∧
    (up.vault.trngBad = false ∧ ({ up with vault := { trngBad := true } } : State).vault.trngBad = true) ∧
    (({ up with vault := { wiping := true } } : State).vault.wiping = true ∧ up.tanks.wipes < 0xFFFFFFFF ∧
      up.vault.wiping = false) := by decide

theorem test_hyps_BailerRows :
    (up.power.phase ≠ .held ∧ up.power.phase ≠ .dry) ∧ (inPhase .dry).power.phase = .dry ∧
    (up.bailOn = true ∧ up.coreClock = true ∧ up.firmware = true ∧ up.tanks.doorbells < 0xFFFFFFFF) ∧
    ((inPhase .pll).bailOn = true ∧ (inPhase .pll).coreClock = false) ∧
    (0x023FF000 + 4096 ≤ 0x02400000 ∧ 0x023DFF00 + 256 ≤ 0x023E0000 ∧ 0x023E0000 < 0x023DFF01 + 256) := by decide

/-- A hub that handles fault f. -/
def faulting (det lvl : Nat) : State :=
  { up with ladder := { cur := some ⟨det, 0, lvl, false, 0, 0, 0, true⟩, queue := [⟨6, 0, 1, false, 0, 0, 0, true⟩] } }

/-- A hub whose power-on BIST has the sectors given to run. -/
def testing (l : List Nat) : State := { inPhase .bist with bist := { running := true, powerOn := true, todo := l } }

theorem test_hyps_FaultRows :
    up.ladder.cur = none ∧
    ((faulting 6 1).ladder.cur = some ⟨6, 0, 1, false, 0, 0, 0, true⟩ ∧ (faulting 6 4).ladder.cur = some ⟨6, 0, 4, false, 0, 0, 0, true⟩ ∧
      (faulting 6 5).ladder.cur = some ⟨6, 0, 5, false, 0, 0, 0, true⟩ ∧ (faulting 6 5).is FLT_CTRL_FLASH_COPY = false) ∧
    (faulting 6 1).ladder.queue = ⟨6, 0, 1, false, 0, 0, 0, true⟩ :: [] ∧
    (up.running = true ∧ up.coreUp = true ∧ (-128 : Int) ≤ up.get FLT_TEMP_WARN ∧ (-128 : Int) ≤ up.get FLT_TEMP_CRIT ∧
      signed 8 (up.get FLT_TEMP_NOW) ≤ up.get FLT_TEMP_WARN ∧ (up.get FLT_TEMP_WARN : Int) < 127) ∧
    ((testing [3, 4]).bist.todo = 3 :: 4 :: [] ∧ (testing [3]).bist.todo = [3] ∧ (testing [3]).bist.powerOn = true ∧
      (testing [3]).bist.running = true ∧ up.bist.running = false) ∧
    (up.monitors = true ∧ bit (up.get FLT_IN_STAT_STUCK) 11 = false ∧ (assocGet {} up.inputs 11).last = none) ∧
    (let s : State := { up with inputs := assocSet {} 11 ⟨some 0⟩ [], hubTime := 100000 };
      let c := State.bump { s with inputs := assocSet {} 11 ⟨some s.hubTime⟩ s.inputs } (FLT_IN_CNT_COUNT 11);
      (assocGet {} s.inputs 11).last = some 0 ∧ s.hubTime ≤ 0 + 100000 ∧ c.get (FLT_IN_CNT_COUNT 11) < c.get FLT_IN_CFG_CHAT_THR ∧
      (c.put FLT_IN_CFG_CHAT_THR 1).get FLT_IN_CFG_CHAT_THR ≤ (c.put FLT_IN_CFG_CHAT_THR 1).get (FLT_IN_CNT_COUNT 11) ∧
      bit (c.get FLT_IN_STAT_CHAT) 11 = false) := by decide

/-- Ethernet port 3 up, with the fields given besides. -/
def ether (l : List (Fld × Nat)) : State := upW ((ETH_STAT_LINK 3, 1) :: l)

theorem test_hyps_EthernetRows :
    (up.ethOn 3 = true ∧ up.is (ETH_STAT_LINK 3) = false ∧ (ether []).ethOn 3 = true ∧ (ether []).is (ETH_STAT_LINK 3) = true) ∧
    (59 + 4 < 64 ∧ 64 ≤ 60 + 4 ∧ 60 + 4 ≤ (ether []).get (ETH_CFG_MAXLEN 3)) ∧
    (macControl ([1, 0x80, 0xC2, 0, 0, 1] ++ List.replicate 6 0#8 ++ [0x88, 8, 0, 1]) = some 1 ∧
      macControl ([1, 0x80, 0xC2, 0, 0, 1] ++ List.replicate 6 0#8 ++ [0x88, 8, 1, 1]) = some 0x101 ∧
      macControl (List.replicate 60 0#8) = none) ∧
    ((ether [(WEL_CIS_STAT_FREE_CELLS, 0)]).noRoom 60 = true ∧ (ether []).noRoom 60 = false ∧
      (ether [(WEL_PORT_Q_QUOTA 7, 4), (WEL_PORT_USE_USE 7, 4)]).get (WEL_PORT_Q_QUOTA 7) ≤
        (ether [(WEL_PORT_Q_QUOTA 7, 4), (WEL_PORT_USE_USE 7, 4)]).get (WEL_PORT_USE_USE 7) ∧
      (ether [(WEL_PORT_Q_QUOTA 7, 4)]).get (WEL_PORT_USE_USE 7) < (ether [(WEL_PORT_Q_QUOTA 7, 4)]).get (WEL_PORT_Q_QUOTA 7)) ∧
    ((ether [(ETH_FC_CFG_HONOUR 3, 0)]).is (ETH_FC_CFG_HONOUR 3) = false ∧ (ether [(ETH_FC_CFG_HONOUR 3, 1)]).is (ETH_FC_CFG_HONOUR 3) = true) ∧
    (let s : State := { ether [] with eth := [(3, { pauseTo := 9 })] };
      s.hubTime < (s.ethPort 3).pauseTo ∧ ((ether []).ethPort 3).pauseTo ≤ (ether []).hubTime) ∧
    ((ether [(ETH_STAT_TX_XOFF 3, 1)]).get (ETH_STAT_TX_XOFF 3) ≠ 0 ∧ ((ether [(ETH_STAT_TX_XOFF 3, 1)]).ethPort 3).paused = false ∧
      (({ ether [] with eth := [(3, { paused := true })] } : State).ethPort 3).paused = true ∧ (ether []).get (ETH_STAT_TX_XOFF 3) = 0) ∧
    ((upWith (ETH_CFG_EN 3) 1).is (ETH_CFG_EN 3) = true ∧ (upWith (ETH_CFG_EN 3) 1).linkSpeed 3 2 = some 2 ∧
      (upWith (ETH_CFG_EN 3) 1).linkSpeed 3 0 = none) ∧
    (up.inputMasked 3 = false ∧ (upWith FLT_IN_STAT_CHAT 8).inputMasked 3 = true) ∧
    (((ether []).ethPort 3).waits = [] ∧ assocFind (ether []).cis.tx 7 = none ∧
      assocFind ({ ether [] with cis := { tx := [(7, ⟨0, none, 0⟩)] } } : State).cis.tx 7 = some ⟨0, none, 0⟩) ∧
    ((upWith ETH_PTP_CFG_EN 1).is ETH_PTP_CFG_EN = true ∧ (upWith ETH_PTP_CFG_EN 1).islanded = false ∧ (upWith ETH_PTP_CFG_EN 1).ptp.hold = 0 ∧
      (upWith ETH_PTP_CFG_EN 0).is ETH_PTP_CFG_EN = false ∧ ({ up with ptp := { hold := 1 } } : State).ptp.hold ≠ 0) ∧
    ((upWith ETH_MDIO_CMD_BUSY 1).is ETH_MDIO_CMD_BUSY = true ∧ up.is ETH_MDIO_CMD_BUSY = false) := by decide

/-- Root port 1 with its link up, window 2 enabled at address 0x1000 towards the target given. -/
def rootUp (target : Nat) : State :=
  upW [(PCI_RP_STAT_LINK 1, 1), (PCI_RP_IWIN_CFG_EN 1 2, 1), (PCI_RP_IWIN_CFG_SIZE 1 2, 12), (PCI_RP_IWIN_LO_BASE 1 2, 0x1000),
    (PCI_RP_IWIN_CFG_TARGET 1 2, target), (PCI_RP_MSI_LO_BASE 1, 0x8000)]

theorem test_hyps_RootPortRows :
    ((rootUp 1).rootPort 1 = true ∧ (rootUp 1).is (PCI_RP_STAT_LINK 1) = true ∧ up.is (PCI_RP_STAT_LINK 1) = false) ∧
    (0x8FFF / 4096 = ((rootUp 1).get (PCI_RP_MSI_LO_BASE 1) + 2 ^ 32 * (rootUp 1).get (PCI_RP_MSI_HI_BASE 1)) / 4096 ∧
      0x1FFC / 4096 ≠ 0x8000 / 4096) ∧
    ((rootUp 1).iwin 1 0x1FFC 4 = some 2 ∧ (rootUp 1).iwin 1 0x1FFD 4 = none) ∧
    ((rootUp 1).is (PCI_RP_IWIN_CFG_TARGET 1 2) = true ∧ (rootUp 0).is (PCI_RP_IWIN_CFG_TARGET 1 2) = false ∧
      (rootUp 0).iwin 1 0x1FFC 4 = some 2) ∧
    ((rootUp 0).backPressured 29 = false ∧ ((rootUp 0).put WEL_CIS_STAT_GRES 1).backPressured 29 = true) ∧
    ((rootUp 0).islanded = false ∧ ((rootUp 0).put GLB_HUB_STAT_ISLAND 1).islanded = true) ∧
    (let s := upW [(PCI_RP_CTRL_EN 1, 1), (PCI_RP_CTRL_PERST 1, 0), (PCI_RP_CTRL_MAX_GEN 1, 3)];
      s.rootPort 1 = true ∧ s.is (PCI_RP_CTRL_EN 1) = true ∧ s.is (PCI_RP_CTRL_PERST 1) = false ∧ 3 ≤ s.get (PCI_RP_CTRL_MAX_GEN 1)) ∧
    (upWith (PCI_RP_CTRL_EN 1) 0).is (PCI_RP_CTRL_EN 1) = false ∧
    (assocFind (rootUp 0).cfgs 1 = none ∧
      assocFind ({ rootUp 0 with cfgs := [(1, ⟨0, 4092, false, 0, none⟩)] } : State).cfgs 1 = some ⟨0, 4092, false, 0, none⟩) := by decide +kernel

/-- Layer 5 enabled for slice 3 with lines of 8 bytes, four of them in its ring. -/
def layered (l : List (Fld × Nat)) : State :=
  upW ([(DSP_LYR_CFG_EN 5, 1), (DSP_LYR_CFG_SLICE 5, 3), (DSP_LYR_SIZE_W 5, 2), (DSP_LYR_SIZE_H 5, 8), (DSP_LYR_RING_LINES 5, 4)] ++ l)

/-- A line record of layer 5 at line y and offset o, with n bytes of data. -/
def lineRec (y o n : Nat) : Bytes := [5#8, 0#8] ++ beBytes 2 y ++ beBytes 4 o ++ List.replicate n 0#8

/-- Layer 5 whose slot 2 holds x. -/
def slotted (x : LineSlot) (l : List (Fld × Nat)) : State := (layered l).setLineSlot 5 2 (some x)

theorem test_hyps_DisplayRows :
    ((layered []).running = true ∧ (layered []).hasDisplay = true ∧ (layered []).lineBytes 5 = 8 ∧ 9 ≤ (lineRec 2 0 8).length ∧
      beAt (lineRec 2 4 4) 0 1 = 5 ∧ beAt (lineRec 2 4 4) 2 2 = 2 ∧ beAt (lineRec 2 4 4) 4 4 = 4 ∧ (lineRec 2 4 4).drop 8 ≠ [] ∧
      (layered []).get (DSP_LYR_SIZE_H 5) = 8 ∧ (layered []).is (DSP_LYR_CFG_EN 5) = true ∧ (layered []).get (DSP_LYR_CFG_SLICE 5) = 3 ∧
      (layered []).slotOf 5 2 = 2 ∧ (layered []).is (DSP_LYR_CFG_STATIC 5) = false ∧ assocFind ((layered []).layer 5).slots 2 = none) ∧
    (assocFind ((slotted ⟨2, 4, false, none⟩ []).layer 5).slots 2 = some ⟨2, 4, false, none⟩ ∧
      assocFind ((slotted ⟨6, 4, false, none⟩ []).layer 5).slots 2 = some ⟨6, 4, false, none⟩ ∧
      assocFind ((slotted ⟨2, 8, true, none⟩ [(DSP_LYR_CFG_STATIC 5, 1)]).layer 5).slots 2 = some ⟨2, 8, true, none⟩ ∧
      (layered [(DSP_LYR_CFG_STATIC 5, 1)]).is (DSP_LYR_CFG_STATIC 5) = true) ∧
    ({ up with fuses := { variant := 2 } } : State).hasDisplay = false ∧
    (let s : State := { upWith DSP_CTRL_EN 1 with dsp := { use := some ⟨8, 4, 8, 4, 0, 60⟩ } };
      s.running = true ∧ s.is DSP_CTRL_EN = true ∧ s.dsp.use = some ⟨8, 4, 8, 4, 0, 60⟩) ∧
    (up.dsp.use = none ∧ up.dsp.pend = none) ∧
    ((upWith (DSP_OUT_STAT_STATE 3) 2).get (DSP_OUT_STAT_STATE 3) = 2 ∧ up.get (DSP_OUT_STAT_STATE 3) ≠ 2) := by decide +kernel

/-- Hot-insertion controller 3 in state k, enabled, with the fields given besides. -/
def hot (k : Nat) (l : List (Fld × Nat)) : State := upW ([(HSW_STAT_STATE 3, k), (HSW_CFG_EN 3, 1), (HSW_STAT_SENSE_OK 3, 1)] ++ l)

theorem test_hyps_HotSwapRows :
    ((hot 0 []).ctlOn 3 = true ∧ (inPhase .pll).ctlOn 3 = true ∧ (hot 0 []).get (HSW_STAT_STATE 3) = 0 ∧
      (hot 0 [(HSW_STAT_REQ 3, 1)]).is (HSW_STAT_REQ 3) = true ∧ (hot 0 []).is (HSW_STAT_REQ 3) = false) ∧
    ((hot 0 []).vinInside 3 0 = false ∧ (hot 0 []).vinInside 3 500 = true) ∧
    (((hot 0 []).ctl 3).oldVsel = none ∧ (hot 0 []).is (HSW_INJ_SENSE_OPEN 3) = false ∧
      (hot 0 [(HSW_INJ_SENSE_OPEN 3, 1)]).is (HSW_INJ_SENSE_OPEN 3) = true) ∧
    (let s : State := { hot 1 [(HSW_STAT_REQ 3, 1)] with hsw := [(3, { elapsed := true, inserted := true })] };
      s.get (HSW_STAT_STATE 3) = 1 ∧ s.is (HSW_STAT_REQ 3) = true ∧ s.is (HSW_CFG_EN 3) = true ∧ (s.ctl 3).elapsed = true ∧
        (s.ctl 3).inserted = true ∧ (s.ctl 3).retryRun = false ∧ s.is (HSW_STAT_SENSE_OK 3) = true ∧ s.is HSW_BUS_STAT_REV = false ∧
        ((hot 1 []).ctl 3).elapsed = false) ∧
    ((hot 2 []).overVoltage 3 0 0 = false ∧ (hot 2 []).overVoltage 3 (2 ^ 15) 0 = true ∧ 90 * 100 ≤ 100 * 90 ∧ 100 * 89 < 90 * 100) ∧
    ((hot 3 []).is (HSW_STAT_FWARN 3) = false ∧ (hot 3 [(HSW_STAT_FWARN 3, 1)]).is (HSW_STAT_FWARN 3) = true ∧
      (hot 3 []).overVoltage 3 0 0 = false ∧ (hot 3 []).overCurrent 3 0 = false ∧ (hot 3 []).overCurrent 3 32767 = true ∧
      95 * 0 ≤ 100 * 0) ∧
    ((hot 3 []).is (HSW_INJ_OC 3) = false ∧ (hot 3 [(HSW_INJ_OC 3, 1)]).is (HSW_INJ_OC 3) = true) ∧
    ((hot 5 []).get (HSW_STAT_STATE 3) = 5 ∧ (hot 6 []).get (HSW_STAT_STATE 3) = 6 ∧ (hot 4 []).get (HSW_STAT_STATE 3) = 4) ∧
    ((hot 0 [(HSW_STAT_VIN_OK 3, 1)]).is (HSW_STAT_VIN_OK 3) = true ∧ (hot 0 [(HSW_STAT_GATE 3, 1)]).is (HSW_STAT_GATE 3) = true ∧
      (hot 0 []).is (HSW_STAT_GATE 3) = false ∧ (hot 0 []).is (HSW_STAT_PRE 3) = false ∧
      (hot 0 [(HSW_STAT_PG 3, 1)]).is (HSW_STAT_PG 3) = true ∧ (hot 0 []).is (HSW_STAT_PG 3) = false ∧
      (({ hot 5 [] with hsw := [(3, { retryRun := true })] } : State).ctl 3).retryRun = true ∧
      (({ hot 5 [] with hsw := [(3, { senseBad := true })] } : State).ctl 3).senseBad = true ∧ ((hot 5 []).ctl 3).senseBad = false) ∧
    (up.spoutPower = true ∧ up.is HSW_BUS_STAT_REV = false ∧ up.is HSW_BUS_STAT_PFW = false ∧
      (upWith HSW_BUS_STAT_PFW 1).is HSW_BUS_STAT_PFW = true) := by decide +kernel

/-- Spout 2 in attach state k with the unit's data x and the fields given besides. -/
def spoutIn (k : Nat) (x : Spout) (l : List (Fld × Nat)) : State :=
  { upW ((SPT_STAT_STATE 2, k) :: l) with spouts := [(2, x)] }

theorem test_hyps_SpoutAttachRows :
    ((spoutIn 1 {} [(SPT_CFG_MODE 2, 3)]).policyOn 2 = true ∧ (spoutIn 1 {} [(SPT_CFG_MODE 2, 3)]).get (SPT_STAT_STATE 2) = 1 ∧
      (spoutIn 1 {} [(SPT_CFG_MODE 2, 3)]).get (SPT_CFG_MODE 2) = 3 ∧ ((spoutIn 1 {} []).spout 2).checking = false ∧
      ((spoutIn 1 { checkDue := true } []).spout 2).checkDue = true ∧ ((spoutIn 1 { checking := true } []).spout 2).checking = true ∧
      (spoutIn 1 {} [(SPT_CFG_MODE 2, 1)]).get (SPT_CFG_MODE 2) ≠ 3) ∧
    ((spoutIn 0 {} []).ctlOn 2 = true ∧ (inPhase .priming).policyOn 2 = false) ∧
    (∀ k ∈ [0, 1, 2, 3, 4, 5, 6, 7, 8, 9, 10, 11, 12, 13], (spoutIn k {} []).get (SPT_STAT_STATE 2) = k) ∧
    (((spoutIn 3 { cc := ⟨true, 0, false, true⟩ } [(SPT_CFG_MODE 2, 3), (SPT_CFG_TRY 2, 2)]).spout 2).cc.rd = true ∧
      (spoutIn 3 {} [(SPT_CFG_MODE 2, 3), (SPT_CFG_TRY 2, 2)]).get (SPT_CFG_TRY 2) = 2 ∧ (spoutIn 3 {} []).get (SPT_CFG_TRY 2) ≠ 2) ∧
    (0 < ((spoutIn 4 { cc := ⟨false, 3, false, false⟩ } []).spout 2).cc.rp ∧ (spoutIn 4 {} [(SPT_CFG_TRY 2, 1)]).get (SPT_CFG_TRY 2) = 1 ∧
      (spoutIn 4 {} []).get (SPT_CFG_TRY 2) ≠ 1) ∧
    (((spoutIn 6 { absent := true } []).spout 2).absent = true ∧ ((spoutIn 6 { absent := true } []).spout 2).restoring = false ∧
      ((spoutIn 6 {} []).spout 2).absent = false) ∧
    (let s := spoutIn 5 { checking := true } [(SPT_WET_CFG_WET_THR 2, 20), (SPT_WET_CFG_DRY_THR 2, 10)];
      s.is (SPT_INJ_WET 2) = false ∧ s.skipped 2 1 = false ∧ (s.get (SPT_WET_CFG_WET_THR 2) < 21 ∧ ¬ 21 < s.get (SPT_WET_CFG_DRY_THR 2)) ∧
      (9 < s.get (SPT_WET_CFG_DRY_THR 2) ∧ ¬ s.get (SPT_WET_CFG_WET_THR 2) < 9)) ∧
    ((spoutIn 13 {} []).is (HSW_INJ_CC_OVP 2) = false ∧ (spoutIn 13 {} [(HSW_INJ_CC_OVP 2, 1)]).is (HSW_INJ_CC_OVP 2) = true) ∧
    ((spoutIn 1 {} []).spout 2).dayG = none := by decide

/-- Spout 2 attached as Source or Sink. -/
def sourcing (x : Spout) (l : List (Fld × Nat)) : State := spoutIn 6 x ((SPT_STAT_PWR_ROLE 2, 1) :: l)
def sinking (x : Spout) (l : List (Fld × Nat)) : State := spoutIn 7 x l

theorem test_hyps_SpoutPolicyRows :
    ((sourcing {} []).policyOn 2 = true ∧ (sourcing {} []).attached 2 = true ∧ (sourcing {} []).is (SPT_STAT_PWR_ROLE 2) = true ∧
      (sinking {} []).policyOn 2 = true ∧ (sinking {} []).attached 2 = true ∧ (sinking {} []).is (SPT_STAT_PWR_ROLE 2) = false) ∧
    (((sourcing { offered := [(0, 300)] } []).spout 2).offered[1 - 1]? = some (0, 300) ∧
      ((sourcing {} []).spout 2).offered[1 - 1]? = none) ∧
    (((sourcing { asked := some (1, 300, 0) } []).spout 2).asked = some (1, 300, 0) ∧
      (sourcing {} [(HSW_STAT_PG 2, 1)]).is (HSW_STAT_PG 2) = true ∧ (sourcing {} []).is (HSW_STAT_PG 2) = false ∧
      ((sourcing {} []).spout 2).asked = none) ∧
    (((sinking { mine := 1 } []).spout 2).mine = 1 ∧ ((sinking { mine := 2 } []).spout 2).mine = 2 ∧
      ((sinking { sinkReq := 1 } []).spout 2).mine = 0 ∧ ((sinking { sinkReq := 1 } []).spout 2).sinkReq = 1) ∧
    (let s := sourcing {} [(SPT_POLICY_PRS_ACC 2, 1), (SPT_POLICY_PR_WANT 2, 1)];
      (s.spout 2).mine ≠ 1 ∧ s.is (SPT_POLICY_PRS_ACC 2) = true ∧ s.is (SPT_STAT_PWR_ROLE 2) = s.is (SPT_POLICY_PR_WANT 2) ∧
      (s.spout 2).swapping = 0 ∧ s.is (HSW_STAT_FWARN 2) = false ∧ (s.put (HSW_STAT_FWARN 2) 1).is (HSW_STAT_FWARN 2) = true) ∧
    (let s := sinking {} [(SPT_POLICY_PRS_ACC 2, 1), (SPT_POLICY_PR_WANT 2, 0), (HSW_STAT_SENSE_OK 2, 1)];
      (s.spout 2).mine ≠ 1 ∧ s.is (SPT_POLICY_PRS_ACC 2) = true ∧ s.is (SPT_STAT_PWR_ROLE 2) = s.is (SPT_POLICY_PR_WANT 2) ∧
      s.is (HSW_STAT_SENSE_OK 2) = true ∧ s.is HSW_BUS_STAT_REV = false ∧ s.get (HSW_STAT_STATE 2) ≠ 5 ∧ s.get (HSW_STAT_STATE 2) ≠ 6 ∧
      (s.ctl 2).retryRun = false ∧ (s.put (HSW_STAT_STATE 2) 5).get (HSW_STAT_STATE 2) = 5 ∧
      (s.put (HSW_STAT_SENSE_OK 2) 0).is (HSW_STAT_SENSE_OK 2) = false) ∧
    (sinking {} [(SPT_POLICY_PRS_ACC 2, 0)]).is (SPT_POLICY_PRS_ACC 2) = false ∧
    (let s := sinking {} [(SPT_POLICY_DRS_ACC 2, 1), (SPT_POLICY_DR_WANT 2, 0)];
      (s.spout 2).mine ≠ 2 ∧ s.is (SPT_POLICY_DRS_ACC 2) = true ∧ s.is (SPT_STAT_DATA_ROLE 2) = s.is (SPT_POLICY_DR_WANT 2) ∧
      (s.put (SPT_POLICY_DRS_ACC 2) 0).is (SPT_POLICY_DRS_ACC 2) = false) ∧
    (let s := sinking {} [(SPT_POLICY_VCS_ACC 2, 1), (SPT_STAT_VCONN 2, 1)];
      s.is (SPT_POLICY_VCS_ACC 2) = true ∧ s.is (SPT_STAT_VCONN 2) = true ∧ (s.put (SPT_POLICY_VCS_ACC 2) 0).is (SPT_POLICY_VCS_ACC 2) = false) ∧
    ((sinking {} []).get (SPT_SWAP_STAT_RETRIES 2) < 10 ∧ 10 ≤ (sinking {} [(SPT_SWAP_STAT_RETRIES 2, 10)]).get (SPT_SWAP_STAT_RETRIES 2)) ∧
    (let s := sinking { again := 1 } [(SPT_POLICY_SWAP_EN 2, 1), (SPT_POLICY_PR_WANT 2, 0)];
      (s.spout 2).again = 1 ∧ s.wishPr 2 = true ∧ s.is (HSW_STAT_FWARN 2) = false ∧ (s.put (SPT_POLICY_SWAP_EN 2) 0).wishPr 2 = false) ∧
    (((sourcing { swapping := 1 } []).spout 2).swapping = 1 ∧ ((sinking { swapping := 1 } []).spout 2).toSource = false ∧
      ((sinking { swapping := 3 } []).spout 2).swapping = 3 ∧ ((sinking { sinkReq := 2 } []).spout 2).sinkReq = 2 ∧
      ((sinking { restoring := true } []).spout 2).restoring = true) := by decide

/-- A SAM record: header type y, length field len, n payload bytes, and the CRC given. -/
def samRecord (y len n crc : Nat) : Bytes := beBytes 8 (y * 2 ^ 60 + len * 2 ^ 42) ++ List.replicate n 0#8 ++ beBytes 4 crc

theorem test_hyps_SpoutModeRows :
    ((spoutIn 6 { entering := 2 } []).policyOn 2 = true ∧ ((spoutIn 6 { entering := 2 } []).spout 2).entering ≠ 0 ∧
      ((spoutIn 6 {} []).spout 2).entering = 0 ∧ ((spoutIn 6 { exiting := true } []).spout 2).exiting = true) ∧
    ((spoutIn 6 {} [(SPT_ALT_STAT_MUX 2, 1)]).get (SPT_ALT_STAT_MUX 2) = 1 ∧ (spoutIn 6 {} []).get (SPT_ALT_STAT_MUX 2) ≠ 1) ∧
    ((spoutIn 6 { disc := 1 } []).attached 2 = true ∧ ((spoutIn 6 { disc := 1 } []).spout 2).disc = 1) ∧
    (let s := spoutIn 6 { disc := 2 } [(SPT_ALT_CFG_AUTO_MODE 2, 2), (SPT_ALT_CFG_SAM_EN 2, 1)];
      (s.spout 2).disc = 2 ∧ s.get (SPT_ALT_CFG_AUTO_MODE 2) = 2 ∧ s.modeOn 2 2 = true ∧ (s.put (SPT_ALT_CFG_SAM_EN 2) 0).modeOn 2 2 = false) ∧
    (let s := spoutIn 6 { disc := 3 } [(SPT_STAT_DATA_ROLE 2, 1), (SPT_ALT_CFG_DP_EN 2, 1)];
      (s.spout 2).disc = 3 ∧ s.is (SPT_STAT_DATA_ROLE 2) = true ∧ bit (([1] : List Nat).headD 0) 0 = true ∧
        s.modeOn 2 1 = true ∧ (s.put (SPT_ALT_CFG_AUTO_MODE 2) 1).get (SPT_ALT_CFG_AUTO_MODE 2) = 1) ∧
    (let s := spoutIn 6 {} [(SPT_ALT_STAT_MUX 2, 2)];
      2 < s.nWide ∧ s.get (SPT_ALT_STAT_MUX 2) = 2 ∧ s.is (SPT_ALT_STAT_SAM_UP 2) = false ∧
      (s.put (SPT_ALT_STAT_SAM_UP 2) 1).is (SPT_ALT_STAT_SAM_UP 2) = true) ∧
    (let r := samRecord 0 4 4 (crc32c ((samRecord 0 4 4 0).take 12));
      beAt r 0 8 / 2 ^ 60 = 0 ∧ bits (beAt r 0 8) 55 42 = 4 ∧ r.length = 4 + 12 ∧ crc32c (r.take (8 + 4)) = beAt r (8 + 4) 4 ∧
      crc32c ((samRecord 0 4 4 0).take (8 + 4)) ≠ beAt (samRecord 0 4 4 0) (8 + 4) 4) ∧
    (up.noRoom 4 = false ∧ (upWith WEL_CIS_STAT_FREE_CELLS 0).noRoom 4 = true) ∧
    (beAt (samRecord 1 0 0 0) 0 8 / 2 ^ 60 = 1 ∧ 2 ≤ beAt (samRecord 2 0 0 0) 0 8 / 2 ^ 60) := by decide +kernel

/-- Bus 1 enabled for slice 0 with its data b and the fields given besides. -/
def bussed (b : UsbBus) (l : List (Fld × Nat)) : State := { upW ((USB_BUS_CFG_EN 1, 1) :: l) with usb := [(1, b)] }

/-- A command descriptor of the type, port and slot given. -/
def command (type p e : Nat) : Desc := ⟨0, 0, 0, type * 2 ^ 8 + p * 2 ^ 20 + e * 2 ^ 24⟩

theorem test_hyps_UsbRingRows :
    ((bussed {} []).busOn 1 = true ∧ (bussed { cmds := [command 0x10 5 200] } []).bus 1 = { cmds := [command 0x10 5 200] }) ∧
    (∀ k ∈ [0x0F, 0x10, 0x11, 0x12, 0x13, 0x14, 0x1A, 0x1B, 0x1C], bits (command k 5 200).ctrl 13 8 = k ∧
      bits (command k 5 200).ctrl 31 24 = 200 ∧ bits (command k 5 200).ctrl 23 20 = 5) ∧
    ((bussed {} []).epCheck 1 200 [] ≠ 1 ∧ (bussed {} [(USB_SPT_MAP_EN 0, 1), (USB_SPT_MAP_BUS 0, 1)]).epCheck 1 200 [] = 1) ∧
    (∀ k ∈ [0, 1, 2, 3], (bussed {} [(USB_EP_STAT_STATE 1 200, k)]).get (USB_EP_STAT_STATE 1 200) = k) ∧
    (let s := bussed { slots := [(200, { q := [command 1 0 0], moved := 8, kind := 2 })] } [(USB_EP_STAT_PORT 1 200, 5)];
      (s.slot 1 200).q = command 1 0 0 :: [] ∧ 0 < (s.slot 1 200).moved ∧ s.slotPort 1 200 = 5 ∧ (s.slot 1 200).ttHub = 0 ∧
      (s.slot 1 200).kind = 2) ∧
    (5 < bits (command 6 0 0).ctrl 13 8 ∧ ((bussed { slots := [(200, { q := [command 6 0 0] })] } []).slot 1 200).q = [command 6 0 0]) ∧
    (bit (leAt (List.replicate 16 0#8) 12 4) 0 = false ∧
      bits (leAt (List.replicate 12 0#8 ++ [0#8, 6#8, 0#8, 0#8]) 12 4) 13 8 = 6) ∧
    (let s := bridged (bussed { cmdFetching := true, cmdDeq := 64 } [])
        { up := [(3, ⟨.issued, ⟨none, 33, 0, 0, false, 0, 0, 64, 16, []⟩, [], false, none, 0, true⟩)] };
      s.ringsAway = false ∧ (s.bus 1).cmdFetching = true ∧ s.fetchTag 1 (s.bus 1).cmdDeq = some 3) ∧
    ((upWith GLB_HUB_STAT_ISLAND 1).ringsAway = true ∧ (bussed {} [(SLC_BIND_BOUND 0, 1), (SLC_BIND_PASID 0, 9)]).pasid 0 = some 9 ∧
      (bussed {} []).ringsAway = false ∧ (bussed {} [(SLC_BIND_BOUND 0, 0)]).pasid 0 = none ∧ (bussed {} [(SLC_BIND_BOUND 0, 0)]).busSlice 1 = 0) := by
  decide +kernel

theorem test_hyps_UsbPortRows :
    (∀ k ∈ [0x15, 0x16, 0x17, 0x18, 0x19, 0x1B], bits (command k 5 0).ctrl 13 8 = k ∧ bits (command k 5 0).ctrl 23 20 = 5) ∧
    (∀ i ∈ [0, 1, 2, 4, 5], (bussed {} [(USB_PORTSC_STATUS 1 5, 2 ^ i)]).portBit 1 5 i = true ∧ (bussed {} []).portBit 1 5 i = false) ∧
    ((bussed {} []).busOn 1 = true ∧ ((bussed { cmds := [command 0x15 5 0] } []).bus 1).cmdHalt = false ∧
      ((bussed { cmds := [command 0x15 5 0] } []).bus 1).cmdBusy = false) ∧
    ((bussed {} [(USB_BUS_STAT_SUSP 1, 1)]).is (USB_BUS_STAT_SUSP 1) = true ∧ (bussed {} []).is (USB_BUS_STAT_SUSP 1) = false ∧
      bitList ((bussed { byBus := 32 } []).bus 1).byBus 16 = [5] ∧ bitList ((bussed {} []).bus 1).byBus 16 = [] ∧
      (bitList ((bussed { byBus := 32 } []).bus 1).byBus 16).any ((bussed { byBus := 32 } []).resuming 1) = false) ∧
    (bit ((bussed { suspending := 32 } []).bus 1).suspending 5 = true ∧ bit ((bussed {} []).bus 1).suspending 5 = false ∧
      (bussed { hostResume := 32 } []).resuming 1 5 = true ∧ (bussed {} []).resuming 1 5 = false) ∧
    (let s := bussed { slots := [(200, { q := [command 1 0 0], kind := 2, dirIn := true, errs := 2, mps := 64 })], inj := true }
        [(USB_EP_STAT_PORT 1 200, 5), (USB_EP_STAT_STATE 1 200, 1), (USB_PORTSC_STATUS 1 5, 0x23)];
      s.portBit 1 5 1 = true ∧ s.portBit 1 5 2 = false ∧ s.portBit 1 5 4 = false ∧ s.slotPort 1 200 = 5 ∧ s.slotSt 1 200 = 1 ∧
      s.slotBusy 1 200 = true ∧ (s.slot 1 200).bad = false ∧ s.slotIn 1 200 = true ∧ s.inHeld 1 200 8 = false ∧ (s.bus 1).inj = true ∧
      (s.put WEL_CIS_STAT_GRES 1).inHeld 1 200 8 = true ∧ (s.slot 1 200).kind ≠ 1 ∧ 2 ≤ (s.slot 1 200).errs) ∧
    (let s := bussed { slots := [(200, { q := [command 1 0 0], kind := 2, errs := 1 })] } [(USB_EP_STAT_STATE 1 200, 1)];
      s.slotBusy 1 200 = true ∧ s.slotIn 1 200 = false ∧ s.outReady 1 200 = true ∧ (s.bus 1).inj = false ∧ (s.slot 1 200).errs < 2) ∧
    (let s := bussed { slots := [(200, { q := [⟨0, 0, 8, 0x100⟩], kind := 2, bad := true })] } [(USB_EP_STAT_STATE 1 200, 1)];
      s.slotSt 1 200 = 1 ∧ (s.slot 1 200).bad = true ∧ s.outReady 1 200 = false) := by decide +kernel

/-- Member 0 of a cascade with port 2 (towards member 2) enabled in state k, and the fields given besides. -/
def cascaded (k : Nat) (l : List (Fld × Nat)) : State :=
  upW ([(CAS_CTRL_EN, 1), (CAS_PORT_CTRL_EN 1, 1), (CAS_PORT_STAT_STATE 1, k)] ++ l)

/-- The same with the link up. -/
def joined (c : Cascade) : State := { cascaded 3 [] with links := [(2, { up := true })], cas := c }

/-- A group swap that awaits the members of mask w. -/
def gswap (w : Nat) : GroupSwap := { req := 7, bank := 1, time := 1000, waiting := w, port := 2, since := 0 }

theorem test_hyps_CascadeRows :
    (∀ k ∈ [0, 1, 2, 3, 4], (cascaded k []).casPortOn 2 = true ∧ (cascaded k []).get (CAS_PORT_STAT_STATE (2 - 1)) = k) ∧
    ((cascaded 1 []).helloRefused 2 0 0 = 3 ∧ (cascaded 1 []).helloRefused 2 1 0 = 2 ∧ (cascaded 1 []).helloRefused 2 2 1 = 4 ∧
      (cascaded 1 []).helloRefused 2 2 0 = 0) ∧
    ((joined {}).casPortOn 2 = true ∧ (joined {}).linkUp 2 = true ∧ (cascaded 3 []).linkUp 2 = false) ∧
    ((joined { members := [(1, { awaited := some (0, 0) })] }).linksLive = true ∧ (joined {}).cascading = true ∧
      ((joined { members := [(1, { awaited := some (0, 0) })] }).member 1).awaited.isSome = true ∧ (joined {}).direct 1 = false ∧
      (joined {}).seen 1 = false ∧ (joined { members := [(2, { links := 2 })] }).seen 1 = true) ∧
    ((joined {}).refusesSwap 1 = true ∧ ((joined {}).put ALT_CAL_STAT_PROFILE 3).refusesSwap 1 = false) ∧
    ((joined { prep := some (gswap 0) }).cas.prep = some (gswap 0) ∧ (joined {}).cas.prep = none ∧ 8 ≠ (gswap 0).req ∧
      (joined {}).running = true) ∧
    ((joined { swap := some (gswap 4) }).cas.swap = some (gswap 4) ∧ (joined {}).cas.swap = none ∧
      bit (gswap 4).waiting ((joined {}).memberAt 2) = true ∧ setBit (gswap 4).waiting ((joined {}).memberAt 2) false = 0 ∧
      setBit (gswap 6).waiting ((joined {}).memberAt 2) false ≠ 0) := by decide +kernel

theorem test_hyps_WordsOfRows :
    (.wEnq 2 3 4#4 5#4 true false true : Instr).wf = false ∧ (.wEnq 2 3 0#4 5#4 true false true : Instr).wf = true ∧
    windlassWord (.wEnq 2 3 0#4 5#4 true false true) = some 0xD4014005#32 := by decide

theorem test_hyps_OpenUndoesSeal : ((List.range 32).map (BitVec.ofNat 8)).length = 32 := by decide

theorem test_hyps_TankBytes : ((State.reset.tankWrite 3 0xFFFFF [1#8, 2#8]).tankRead 3 0xFFFFF 2 = [1#8, 2#8]) ∧ min 5 4 ≠ min 3 4 := by
  decide

/-! ## The command queue and the bucket: 01's example of FW_INFO -/

/-- The register write of slice 0 that 01's example makes. -/
def wr (addr v : Nat) : Instr := .registerWrite 0 addr 4 (BitVec.ofNat 64 v)

/-- The state after a command. -/
def after (s : State) (i : Instr) : State := match exec i s with
  | .next t => t
  | _ => s

/-- A hub whose channel 0 holds the request bytes of the example. -/
def asked : State := after up (wr 0x10004000 0x00070001)

theorem test_fwInfo_request : asked.word 0x10004000 = 0x00070001 := by decide +kernel

theorem test_fwInfo_go : (after asked (wr 0x10004080 3)).word 0x10004084 % 4 = 1 ∧
    (after asked (wr 0x10004080 3)).bkt.queue.map (fun c => (c.ch, c.op, c.seq)) = [(0, 1, 7)] := by decide +kernel

/-- The response of a command whose busy bit is set. -/
def answered : State := after (after asked (wr 0x10004080 3)) (.bucketComplete .done)

theorem test_fwInfo_response : answered.word 0x10004084 % 4 = 2 ∧ answered.word 0x10004040 = 0x00070001 ∧
    answered.word 0x10004044 = 0 := by decide +kernel

theorem test_fwInfo_clear : (after answered (wr 0x10004084 2)).word 0x10004084 % 4 = 0 := by decide +kernel

theorem test_decodeTableWord : decodeTableWord 32 0xB1430800 = none ∧ State.reset.withFetchWord 32 0xB1430800 = State.reset := by decide

/-! ## The trunk: 02's coefficients and 03's flit -/

theorem test_clampEq : clampEq 20 50 20 = ⟨15, 40, 8⟩ ∧ clampEq 4 63 10 = ⟨4, 49, 10⟩ := by decide

theorem test_hcrc : crc8 [0x18, 0xa9, 0x47, 0xc1, 0x37, 0xc3, 0x02] = 0xFE := by decide +kernel

/-- The flit of 03's example, and the hub B that receives it. -/
def flitBytes : Bytes :=
  [0x18, 0xa9, 0x47, 0xc1, 0x37, 0xc3, 0x02, 0xfe, 0x12, 0x19, 0x30, 0x30] ++ List.replicate 100 0#8 ++ [0x70, 0x9e, 0x21, 0x10] ++
    List.replicate 140 0#8

theorem test_flit_header : let h := parseHeader flitBytes;
    flitBytes.length = 256 ∧ h.ftype = 1 ∧ h.cls = 2 ∧ h.lseq = 0x2A5 ∧ h.aseq = 0x1F0 := by decide +kernel

def hubB : State :=
  { upW [(TRK_PRIME_STAT_RATE, 1), (TRK_PRIME_STAT_STATE, 9), (SLC_STAT_GEN 0, 3), (CTX_STATE_STATE 0x48, 1), (CTX_OWNER_SLICE 0x1C2, 5),
      (SLC_STAT_GEN 5, 0x12), (CTX_STATE_STATE 0x1C2, 1)] with
    links := [(0, { up := true, expect := 0x2A5 })] }

theorem test_flit_receive : let t := after hubB (.flitReceive 0 (flitBytes.take 8) (flitBytes.drop 8) false 0);
    (t.link 0).expect = 0x2A6 ∧ (t.pumps.pend.map (fun e => (e.ctx, (t.frame e.frame).data.length))) = [(0x48, 100)] := by decide +kernel

/-! ## Windlass: 07's and 08's worked words -/

theorem test_words_07 :
    decodeWindlass 0 0 0xB1430800#32 = .wWld 0 0 5#4 12#8 1#3 0#4 ∧ decodeWindlass 0 0 0x30148100#32 = .wCmpi 0 0 5#4 0x8100#18 ∧
    decodeWindlass 0 0 0x5A000004#32 = .wBc 0 0 8#4 4#18 ∧ decodeWindlass 0 0 0x09D8002C#32 = .wBfx 0 0 7#4 6#4 0#6 11#6 false ∧
    decodeWindlass 0 0 0x0A180D08#32 = .wBfx 0 0 8#4 6#4 13#6 2#6 false := by decide

theorem test_words_08 :
    decodeWindlass 0 0 0xD4140000#32 = .wEnq 0 0 5#4 0#4 false false false ∧
    decodeWindlass 0 0 0xD401C001#32 = .wEnq 0 0 0#4 7#4 true false false ∧
    decodeWindlass 0 0 0xCE4D0000#32 = .wSeal 0 0 9#4 3#4 4#4 := by decide

/-- One word of each other format, its fields laid out by R214, R218, R222, R245, R249, R261, R263 and R265. -/
theorem test_words_formats :
    decodeWindlass 1 2 (0x01#6 ++ 3#4 ++ 4#4 ++ 5#4 ++ 0b11#2 ++ 0#6 ++ 1#6) = .wSub 1 2 3#4 4#4 5#4 ⟨true, true⟩ ∧
    decodeWindlass 1 2 (0x17#6 ++ 0x3FFFFFF#26) = .wJ 1 2 0x3FFFFFF#26 ∧
    decodeWindlass 1 2 (0x10#6 ++ 3#4 ++ 4#4 ++ 0x3FFFE#18) = .wBeq 1 2 3#4 4#4 0x3FFFE#18 ∧
    decodeWindlass 1 2 (0x30#6 ++ 3#4 ++ 4#4 ++ 5#4 ++ 0#6 ++ 7#8) = .wFetch 1 2 3#4 4#4 5#4 7#8 ∧
    decodeWindlass 1 2 (0x32#6 ++ 3#4 ++ 4#4 ++ 5#4 ++ 1#6 ++ 1#8) = .wCrc32c 1 2 3#4 4#4 5#4 true ∧
    decodeWindlass 1 2 (0x38#6 ++ 3#4 ++ 0#4 ++ 5#4 ++ 2#6 ++ 0x0A#8) = .wCadd 1 2 3#4 0#4 5#4 true 2#3 ∧
    decodeWindlass 1 2 (0x39#6 ++ 0#4 ++ 4#4 ++ 5#4 ++ 0#6 ++ 3#8) = .wTset 1 2 4#4 5#4 3#2 ∧
    decodeWindlass 1 2 (0x3A#6 ++ 0#12 ++ 1#6 ++ 0#8) = .wEnd 1 2 ∧
    decodeWindlass 1 2 (0x23#6 ++ 3#4 ++ 4#4 ++ 8#18) = .wLd64 1 2 3#4 4#4 8#18 ∧ decodeWindlass 1 2 0#32 = .wIll 1 2 0#32 := by decide

/-- 07's frame: bytes 12 to 15 are 81 00 60 64. -/
def tagged : Bytes := List.replicate 12 0#8 ++ [0x81, 0, 0x60, 0x64]

/-- A thread that holds that frame issues word w with registers g. -/
def fragment (w : W32) (g : List (Nat × W64)) (f : Flags) : State :=
  let s := issuing w { g := g, flg := f, chain := some 0 }
  { s with cis := { s.cis with frames := [(0, { data := tagged })] } }

theorem test_fragment_wld : ((after (fragment 0xB1430800#32 [] {}) (.wWld 2 3 5#4 12#8 1#3 0#4)).thread 2 3).reg 5#4 = 0x8100#64 := by
  decide +kernel

theorem test_fragment_cmpi : ((after (fragment 0x30148100#32 [(5, 0x8100)] {}) (.wCmpi 2 3 5#4 0x8100#18)).thread 2 3).flg =
    ⟨false, true, true, false⟩ := by decide +kernel

theorem test_fragment_bc :
    ((after (fragment 0x5A000004#32 [] ⟨false, true, true, false⟩) (.wBc 2 3 8#4 4#18)).thread 2 3).pc = 0x44 ∧
    ((after (fragment 0x5A000004#32 [] ⟨false, false, true, false⟩) (.wBc 2 3 8#4 4#18)).thread 2 3).pc = 0x50 := by decide +kernel

theorem test_fragment_bfx :
    ((after (fragment 0x09D8002C#32 [(6, 0x6064)] {}) (.wBfx 2 3 7#4 6#4 0#6 11#6 false)).thread 2 3).reg 7#4 = 0x64#64 ∧
    ((after (fragment 0x0A180D08#32 [(6, 0x6064)] {}) (.wBfx 2 3 8#4 6#4 13#6 2#6 false)).thread 2 3).reg 8#4 = 3#64 := by decide +kernel

theorem test_crc32c : crc32c [0x31, 0x32, 0x33, 0x34, 0x35, 0x36, 0x37, 0x38, 0x39] = 0xE3069283 := by decide +kernel

/-! ## Power path and Ethernet: 12's overcurrent limit, 14's PAUSE hold -/

theorem test_ocLimit : (sourcing { pdoCur := 300 } [(SPT_CONTRACT_VALID 2, 1), (SPT_STAT_PWR_ROLE 2, 1)]).ocLimit 2 = 3750 := by decide +kernel

theorem test_quantaTime : (upWith (ETH_STAT_SPEED 2) 2).quantaTime 2 0xFFFF = 13421568 := by decide +kernel

/-! ## The step -/

theorem test_step_front : (match step { up with pending := [wr 0x10000020 0xA5, .lpoTrim 0] } with
    | .next t => t.pending == [.lpoTrim 0] && t.word 0x10000020 == 0xA5
    | _ => false) = true := by decide +kernel
/-- AES-256-GCM with a zero key, a zero IV and no data: the tag of test case 13 of the GCM specification. -/
theorem test_gcm : beNat (gcmSeal (List.replicate 32 0#8) (List.replicate 12 0#8) [] []).2 = 0x530f8afbc74536b9a963b4f1c4cb738b := by decide +kernel

end Sys2Proof.Tests
end

section
/-! PROOFS. The activation check and the writes of a context's registers and of a load window (R193 to R195, R197). -/
namespace Sys2Proof.Machine

/-! ### The activation check (R194) -/

theorem State.bound_eq_false_iff (s : State) (sl : Nat) : (!s.bound sl) = true ↔ s.is (SLC_BIND_BOUND sl) = false := by
  rw [Bool.not_eq_true', State.bound]

/-- The causes in the order in which they apply, by the registers they are read from. -/
theorem State.activation_eq_registers (s : State) (c : Nat) :
    s.activation c =
      if s.nPumps ≤ s.get (CTX_CFG_PUMP c) then 1
      else if s.get (PMP_PAGE_STATE (s.get (CTX_ENTRY_ENTRY c) * 4 / 4096)) ≠ 2 ∨
        s.get (PMP_PAGE_SLICE (s.get (CTX_ENTRY_ENTRY c) * 4 / 4096)) ≠ s.get (CTX_OWNER_SLICE c) then 2
      else if s.get (WEL_CFG_SLICE (s.get (CTX_WELL_WELL c))) ≠ s.get (CTX_OWNER_SLICE c) then 3
      else if s.is (CTX_KEY_KEN c) = true ∧
        bits (s.get (SEC_SLOT_ATTR_ATTR (s.get (CTX_KEY_SLOT c)))) 21 16 ≠ s.get (CTX_OWNER_SLICE c) then 4
      else if s.is (SLC_BIND_BOUND (s.get (CTX_OWNER_SLICE c))) = false then 5 else 0 := by
  simp only [State.activation, State.ctxSlice, State.slotOwner, State.attr, State.bound_eq_false_iff]

/-- CHK holds every cause whole: its field is four bits wide. -/
theorem State.activation_lt_16 (s : State) (c : Nat) : s.activation c < 16 := by
  rw [State.activation_eq_registers]
  repeat' split
  all_goals decide

/-! ### What the activation leaves in CTX_STATE -/

theorem ctxStateState_key_ne_chk (c : Nat) : (CTX_STATE_STATE c).key ≠ (CTX_STATE_CHK c).key := by
  simp only [Fld.key, CTX_STATE_STATE, CTX_STATE_CHK]
  omega

theorem State.activate_chk (s : State) (c v : Nat) : (s.activate c v).get (CTX_STATE_CHK c) = s.activation c := by
  have hchk : (s.put (CTX_STATE_CHK c) (s.activation c)).get (CTX_STATE_CHK c) = s.activation c :=
    (s.get_put_same _ _).trans (Nat.mod_eq_of_lt (s.activation_lt_16 c))
  by_cases hpass : s.activation c = 0
  · rw [State.activate, if_pos hpass]
    exact (State.get_put_other _ _ _ _ (ctxStateState_key_ne_chk c).symm).trans hchk
  · rw [State.activate, if_neg hpass]
    exact hchk

theorem State.activate_state_of_pass (s : State) (c v : Nat) (h : s.activation c = 0) :
    (s.activate c v).get (CTX_STATE_STATE c) = v % 8 := by
  rw [State.activate, if_pos h]
  exact State.get_put_same _ _ _

theorem State.activate_state_of_fail (s : State) (c v : Nat) (h : s.activation c ≠ 0) :
    (s.activate c v).get (CTX_STATE_STATE c) = s.get (CTX_STATE_STATE c) := by
  rw [State.activate, if_neg h]
  exact State.get_put_other _ _ _ _ (ctxStateState_key_ne_chk c)

/-! ### A write of CTX_STATE.STATE (R193) -/

/-- System contexts and absent ones take no write. -/
theorem State.ctxStateSet_of_not_host (s : State) (c v : Nat) (h : isSystem c = true ∨ s.nCtx ≤ c) : s.ctxStateSet c v = s := by
  rw [State.ctxStateSet, if_pos h]

/-- Values outside R193's table are ignored. -/
theorem State.ctxStateSet_reserved (s : State) (c v : Nat) (hv : 3 ≤ v) : s.ctxStateSet c v = s := by
  simp only [State.ctxStateSet]
  split
  · rfl
  · split
    case h_9 => rfl
    all_goals omega

/-- R193's table has no row from RUN to RUN. -/
theorem State.ctxStateSet_run_run (s : State) (c : Nat) (hst : s.get (CTX_STATE_STATE c) = 1) : s.ctxStateSet c 1 = s := by
  simp [State.ctxStateSet, hst]

/-- R193's table has no row from FAULT to HOLD. -/
theorem State.ctxStateSet_fault_hold (s : State) (c : Nat) (hst : s.get (CTX_STATE_STATE c) = 3) : s.ctxStateSet c 2 = s := by
  simp [State.ctxStateSet, hst]

section
variable {s : State} {c : Nat} (hsys : isSystem c = false) (hctx : c < s.nCtx)
include hsys hctx

theorem State.ctxStateSet_off_run (hres : s.resetting (s.ctxSlice c) = false) (hst : s.get (CTX_STATE_STATE c) = 0) :
    s.ctxStateSet c 1 = s.activate c 1 := by
  simp [State.ctxStateSet, hsys, hctx, hst, hres]

theorem State.ctxStateSet_run_hold (hst : s.get (CTX_STATE_STATE c) = 1) :
    s.ctxStateSet c 2 = (s.put (CTX_STATE_STATE c) 2).idleCheck c := by
  simp [State.ctxStateSet, hsys, hctx, hst]

theorem State.ctxStateSet_hold_run (hst : s.get (CTX_STATE_STATE c) = 2) : s.ctxStateSet c 1 = s.activate c 1 := by
  simp [State.ctxStateSet, hsys, hctx, hst]

theorem State.ctxStateSet_fault_run (hst : s.get (CTX_STATE_STATE c) = 3) : s.ctxStateSet c 1 = s.activate c 1 := by
  simp [State.ctxStateSet, hsys, hctx, hst]

theorem State.ctxStateSet_off (hst : s.get (CTX_STATE_STATE c) = 1 ∨ s.get (CTX_STATE_STATE c) = 2 ∨ s.get (CTX_STATE_STATE c) = 3) :
    s.ctxStateSet c 0 = s.turnOff c 8 := by
  obtain hst | hst | hst := hst <;> simp [State.ctxStateSet, hsys, hctx, hst]

end

/-- OFF to RUN: STATE and CHK after the write show whether the activation check passed. -/
theorem State.ctxStateSet_off_run_result (s : State) (c : Nat) (hsys : isSystem c = false) (hctx : c < s.nCtx)
    (hres : s.resetting (s.ctxSlice c) = false) (hst : s.get (CTX_STATE_STATE c) = 0) :
    (s.activation c = 0 → (s.ctxStateSet c 1).get (CTX_STATE_STATE c) = 1 ∧ (s.ctxStateSet c 1).get (CTX_STATE_CHK c) = 0) ∧
    (s.activation c ≠ 0 → (s.ctxStateSet c 1).get (CTX_STATE_STATE c) = 0 ∧
      (s.ctxStateSet c 1).get (CTX_STATE_CHK c) = s.activation c) := by
  rw [State.ctxStateSet_off_run hsys hctx hres hst]
  constructor
  · intro hpass
    exact ⟨s.activate_state_of_pass c 1 hpass, (s.activate_chk c 1).trans hpass⟩
  · intro hfail
    exact ⟨(s.activate_state_of_fail c 1 hfail).trans hst, s.activate_chk c 1⟩

/-! ### The record's other registers (R195) -/

/-- In RUN, or with an active thread, the record is bound: neither of R195's conditions holds. -/
theorem State.not_mayMove_not_mayBind (s : State) (c : Nat) (h : s.get (CTX_STATE_STATE c) = 1 ∨ s.get (CTX_STATE_ACTIVE c) ≠ 0) :
    s.mayMoveContext c = false ∧ s.mayBindContext c = false := by
  obtain h | h := h <;> simp [State.mayMoveContext, State.mayBindContext, h]

theorem State.ctxBind_of_not_mayBind (s : State) (c : Nat) (sys : Bool) (fs : List (Fld × Acc)) (v : Nat)
    (h : s.mayBindContext c = false) : s.ctxBind c sys fs v = s := by
  simp [State.ctxBind, h]

theorem State.ctxOwner_of_not_mayMove (s : State) (sl c v : Nat) (h : s.mayMoveContext c = false) : s.ctxOwner sl c v = s := by
  simp [State.ctxOwner, h]

section
variable (s : State) (sl c v : Nat) (fs : List (Fld × Acc))

theorem State.writeReg_ctxEntry : s.writeReg sl 0x10200008 [c] fs v = s.ctxBind c false fs v := rfl

theorem State.writeReg_ctxOwner : s.writeReg sl 0x1020000C [c] fs v = s.ctxOwner sl c v := rfl

theorem State.writeReg_ctxKey : s.writeReg sl 0x10200010 [c] fs v = s.ctxBind c false fs v := rfl

theorem State.writeReg_ctxWell : s.writeReg sl 0x10200014 [c] fs v = s.ctxBind c true fs v := rfl

theorem State.writeReg_loadWindow (word : Nat) : s.writeReg sl 0x101C0000 [sl, word] fs v = s.loadWrite sl word v := rfl

/-- ENTRY, KEY, WELL and OWNER keep their values in RUN and while a thread is active. -/
theorem State.writeReg_boundContext (h : s.get (CTX_STATE_STATE c) = 1 ∨ s.get (CTX_STATE_ACTIVE c) ≠ 0) :
    s.writeReg sl 0x10200008 [c] fs v = s ∧ s.writeReg sl 0x10200010 [c] fs v = s ∧ s.writeReg sl 0x10200014 [c] fs v = s ∧
      s.writeReg sl 0x1020000C [c] fs v = s := by
  obtain ⟨hmove, hbind⟩ := s.not_mayMove_not_mayBind c h
  rw [State.writeReg_ctxEntry, State.writeReg_ctxKey, State.writeReg_ctxWell, State.writeReg_ctxOwner]
  exact ⟨s.ctxBind_of_not_mayBind c _ fs v hbind, s.ctxBind_of_not_mayBind c _ fs v hbind,
    s.ctxBind_of_not_mayBind c _ fs v hbind, s.ctxOwner_of_not_mayMove sl c v hmove⟩

end

/-! ### The load window (R197) -/

section
variable (s : State) (sl word v : Nat)

theorem State.loadWrite_ignored (h : s.get (PMP_PAGE_STATE (s.get (PMP_LDSEL_PAGE sl))) ≠ 1 ∨
    s.get (PMP_PAGE_SLICE (s.get (PMP_LDSEL_PAGE sl))) ≠ sl) : s.loadWrite sl word v = s :=
  if_neg (not_and_or.mpr h)

theorem State.loadWrite_reaches_page (hopen : s.get (PMP_PAGE_STATE (s.get (PMP_LDSEL_PAGE sl))) = 1)
    (hown : s.get (PMP_PAGE_SLICE (s.get (PMP_LDSEL_PAGE sl))) = sl) :
    s.loadWrite sl word v = s.tankWrite 1 (s.get (PMP_LDSEL_PAGE sl) * 4096 + 4 * word) (leBytes 4 v) :=
  if_pos ⟨hopen, hown⟩

end

/-- Settles O31: the activation check by its causes, then the writes of STATE from each state, of a bound record, and through
the load window. -/
theorem contextRegisters : Obligations.ContextRegisters := by
  unfold Obligations.ContextRegisters
  refine ⟨State.activation_eq_registers, State.ctxStateSet_of_not_host, ?reserved, State.ctxStateSet_off_run_result, ?run, ?hold,
    ?fault, ?bound, ?window⟩
  case reserved => exact fun s c v _ _ => s.ctxStateSet_reserved c v
  case run =>
    intro s c hsys hctx hst
    exact ⟨State.ctxStateSet_run_hold hsys hctx hst, State.ctxStateSet_off hsys hctx (.inl hst), s.ctxStateSet_run_run c hst⟩
  case hold =>
    intro s c hsys hctx hst
    exact ⟨State.ctxStateSet_off hsys hctx (.inr (.inl hst)), State.ctxStateSet_hold_run hsys hctx hst⟩
  case fault =>
    intro s c hsys hctx hst
    exact ⟨State.ctxStateSet_off hsys hctx (.inr (.inr hst)), State.ctxStateSet_fault_run hsys hctx hst,
      s.ctxStateSet_fault_hold c hst⟩
  case bound => exact fun s c fs v h => s.writeReg_boundContext 0 c v fs h
  case window =>
    intro s sl word v fs
    rw [State.writeReg_loadWindow]
    exact ⟨s.loadWrite_ignored sl word v, s.loadWrite_reaches_page sl word v⟩

end Sys2Proof.Machine
end

section
/-! PROOFS. The ALU group, the branches and jumps, and the special registers (R210, R211, R218 to R221, R224 to R227). -/
namespace Sys2Proof.Machine

/-! ### The issue of an instruction by its body -/

/-- Where a thread issues its instruction, what the instruction's body says of it is what the hub acts on. -/
theorem exec_of_issues {s : State} {p t : Nat} {i : Instr} {body : State → Thread → Act} {x : Act}
    (hexec : exec i s = .next (s.issue p t i body)) (hbody : body s (s.thread p t) = x) (h : s.issues p t i = true) :
    exec i s = .next (s.acts p t x) := by
  rw [hexec, State.issue_acts s p t i body h, hbody]

theorem pcAdd_one (pc : Nat) : pcAdd pc 1 = (pc + 4) % 2 ^ 20 := by
  unfold pcAdd
  omega

/-! ### How an ALU instruction ends (R219, R220) -/

/-- The model's way to end an ALU instruction, one result at the width in use, is `Thread.aluEnd` of the results at both. -/
theorem Thread.aluResult_next_eq_aluEnd (th : Thread) (gd : BitVec 4) (m : AluMod) (f : AluOp) (a b : W64) (c : Bool) :
    let x := aluResult f m.w32 a b c
    let u := th.setReg gd x.1
    (if m.setFlags then { u with flg := x.2 } else u).next =
      th.aluEnd gd m (f 64 a b b c) (f 32 (a.setWidth 32) (b.setWidth 32) b c) := by
  unfold aluResult Thread.aluEnd
  cases m.w32 <;> rfl

/-- An ALU instruction that its thread issues, with its results at 64 and at 32 bits. -/
theorem exec_alu {s : State} {p t : Nat} {i : Instr} {gd ga gb : BitVec 4} {m : AluMod} {f : AluOp} {r : AluRes 64} {q : AluRes 32}
    (hexec : exec i s = .next (alu i p t gd ga gb m f s))
    (h64 : f 64 ((s.thread p t).reg ga) ((s.thread p t).reg gb) ((s.thread p t).reg gb) (s.thread p t).flg.c = r)
    (h32 : f 32 (((s.thread p t).reg ga).setWidth 32) (((s.thread p t).reg gb).setWidth 32) ((s.thread p t).reg gb)
      (s.thread p t).flg.c = q) :
    s.issues p t i = true → exec i s = .next (s.acts p t (.upd ((s.thread p t).aluEnd gd m r q))) := by
  subst h64 h32
  exact exec_of_issues hexec (congrArg Act.upd (Thread.aluResult_next_eq_aluEnd _ gd m f _ _ _))

/-- CSEL takes its condition from the flags as they stand before it (R225). -/
theorem exec_csel {s : State} {p t : Nat} (gd ga gb cond : BitVec 4) (m : AluMod) :
    let th := s.thread p t
    let sel := fun (w : Nat) (a b : BitVec w) => plain (if condHolds cond th.flg then a else b)
    s.issues p t (.wCsel p t gd ga gb cond m) = true → exec (.wCsel p t gd ga gb cond m) s = .next (s.acts p t (.upd
      (th.aluEnd gd m (sel 64 (th.reg ga) (th.reg gb)) (sel 32 ((th.reg ga).setWidth 32) ((th.reg gb).setWidth 32))))) :=
  exec_of_issues rfl (congrArg Act.upd (Thread.aluResult_next_eq_aluEnd _ gd m
    (fun _ a b _ _ => plain (if condHolds cond (s.thread p t).flg then a else b)) _ _ (s.thread p t).flg.c))

section
variable (th : Thread) (gd : BitVec 4) (m : AluMod) (r : AluRes 64) (q : AluRes 32)

/-- The registers after an ALU instruction are those after the write of gd. -/
theorem Thread.aluEnd_reg (k : BitVec 4) :
    (th.aluEnd gd m r q).reg k = (th.setReg gd (if m.w32 then q.r.setWidth 64 else r.r)).reg k := by
  unfold Thread.aluEnd
  cases m.setFlags <;> rfl

theorem Thread.aluEnd_reg_same (h : gd ≠ 0#4) : (th.aluEnd gd m r q).reg gd = if m.w32 then q.r.setWidth 64 else r.r := by
  rw [Thread.aluEnd_reg, Thread.reg_setReg_same _ _ _ h]

theorem Thread.aluEnd_reg_other (k : BitVec 4) (h : k ≠ gd ∨ k = 0#4) : (th.aluEnd gd m r q).reg k = th.reg k := by
  rw [Thread.aluEnd_reg, Thread.reg_setReg _ _ _ _ h]

theorem Thread.aluEnd_flg : (th.aluEnd gd m r q).flg = if m.setFlags then if m.w32 then flagsOf q else flagsOf r else th.flg := by
  unfold Thread.aluEnd
  cases m.setFlags <;> simp [Thread.next]

theorem Thread.aluEnd_pc : (th.aluEnd gd m r q).pc = (th.pc + 4) % 2 ^ 20 := by
  unfold Thread.aluEnd
  cases m.setFlags <;> simp [Thread.next, pcAdd_one]

/-- An ALU instruction leaves local memory, the chain and the thread's state. -/
theorem Thread.aluEnd_frame : (th.aluEnd gd m r q).mem = th.mem ∧ (th.aluEnd gd m r q).chain = th.chain ∧
    (th.aluEnd gd m r q).st = th.st := by
  unfold Thread.aluEnd
  cases m.setFlags <;> simp [Thread.next]

end

/-! ### The results of the arithmetic operations, with C and V of the exact sum or difference (R221) -/

section
variable {w : Nat} (hw : 0 < w) (a b : BitVec w)
include hw

theorem addFlags_eq (c : Bool) :
    addFlags a b c = ⟨a + b + BitVec.ofNat w c.toNat, decide (2 ^ w ≤ a.toNat + b.toNat + c.toNat),
      decide (a.toInt + b.toInt + c.toNat < -(2 ^ (w - 1)) ∨ 2 ^ (w - 1) ≤ a.toInt + b.toInt + (c.toNat : Int))⟩ := by
  rw [addFlags, addFlags_overflow w hw a b c]

theorem subFlags_eq (c : Bool) :
    subFlags a b c = ⟨a - b - BitVec.ofNat w c.toNat, decide (b.toNat + c.toNat ≤ a.toNat),
      decide (a.toInt - b.toInt - c.toNat < -(2 ^ (w - 1)) ∨ 2 ^ (w - 1) ≤ a.toInt - b.toInt - (c.toNat : Int))⟩ := by
  rw [subFlags, subFlags_overflow w hw a b c]

theorem addFlags_no_carry :
    addFlags a b false = ⟨a + b, decide (2 ^ w ≤ a.toNat + b.toNat),
      decide (a.toInt + b.toInt < -(2 ^ (w - 1)) ∨ 2 ^ (w - 1) ≤ a.toInt + b.toInt)⟩ := by
  rw [addFlags_eq hw]
  simp

theorem subFlags_no_borrow :
    subFlags a b false = ⟨a - b, decide (b.toNat ≤ a.toNat),
      decide (a.toInt - b.toInt < -(2 ^ (w - 1)) ∨ 2 ^ (w - 1) ≤ a.toInt - b.toInt)⟩ := by
  rw [subFlags_eq hw]
  simp

end

section
variable {w : Nat} (a b : BitVec w) (g : W64) (c : Bool)

theorem opMin_eq : opMin w a b g c = ⟨if a.toInt ≤ b.toInt then a else b, false, false⟩ := by
  simp [opMin, plain, BitVec.sle]

theorem opMax_eq : opMax w a b g c = ⟨if a.toInt ≤ b.toInt then b else a, false, false⟩ := by
  simp [opMax, plain, BitVec.sle]

theorem opMinu_eq : opMinu w a b g c = ⟨if a.toNat ≤ b.toNat then a else b, false, false⟩ := by
  simp [opMinu, plain, BitVec.ule]

theorem opMaxu_eq : opMaxu w a b g c = ⟨if a.toNat ≤ b.toNat then b else a, false, false⟩ := by
  simp [opMaxu, plain, BitVec.ule]

end

/-- Settles O32: each row by its operation's results at both widths, then the counts of zero bits, then what the end of an ALU
instruction leaves in the thread. -/
theorem windlassAlu : Obligations.WindlassAlu := by
  unfold Obligations.WindlassAlu
  refine ⟨?rows, ?counts, ?frame⟩
  case rows =>
    intro s p t gd ga gb m
    have h64 : 0 < 64 := by decide
    have h32 : 0 < 32 := by decide
    -- a row closed at once is one whose result the model's operation writes as the statement does
    refine ⟨?add, ?sub, ?addc, ?subb, exec_alu rfl rfl rfl, exec_alu rfl rfl rfl, exec_alu rfl rfl rfl, exec_alu rfl rfl rfl,
      exec_alu rfl rfl rfl, exec_alu rfl rfl rfl, exec_alu rfl rfl rfl, exec_alu rfl rfl rfl, exec_alu rfl rfl rfl,
      exec_alu rfl rfl rfl, exec_alu rfl rfl rfl, ?min, ?max, ?minu, ?maxu, exec_alu rfl rfl rfl, exec_alu rfl rfl rfl,
      exec_alu rfl rfl rfl, exec_alu rfl rfl rfl, fun cond => exec_csel gd ga gb cond m⟩
    case add => exact exec_alu rfl (addFlags_no_carry h64 _ _) (addFlags_no_carry h32 _ _)
    case sub => exact exec_alu rfl (subFlags_no_borrow h64 _ _) (subFlags_no_borrow h32 _ _)
    case addc => exact exec_alu rfl (addFlags_eq h64 _ _ _) (addFlags_eq h32 _ _ _)
    case subb => exact exec_alu rfl (subFlags_eq h64 _ _ _) (subFlags_eq h32 _ _ _)
    case min => exact exec_alu rfl (opMin_eq _ _ _ _) (opMin_eq _ _ _ _)
    case max => exact exec_alu rfl (opMax_eq _ _ _ _) (opMax_eq _ _ _ _)
    case minu => exact exec_alu rfl (opMinu_eq _ _ _ _) (opMinu_eq _ _ _ _)
    case maxu => exact exec_alu rfl (opMaxu_eq _ _ _ _) (opMaxu_eq _ _ _ _)
  case counts =>
    intro w a
    refine ⟨?_, fun h => ?_⟩
    · rintro rfl
      exact zero_counts w
    · obtain ⟨hlt, hone, habove⟩ := clz_spec w a h
      exact ⟨hlt, hone, habove, ctz_spec w a h⟩
  case frame =>
    intro th gd m r q
    obtain ⟨hmem, hchain, hst⟩ := th.aluEnd_frame gd m r q
    refine ⟨th.aluEnd_reg_same gd m r q, fun h => ?_, th.aluEnd_reg_other gd m r q, fun h => ?_, hmem, hchain, hst,
      th.aluEnd_pc gd m r q⟩
    · rw [Thread.aluEnd_flg, if_pos h]
      rfl
    · rw [Thread.aluEnd_flg, h]
      rfl

/-! ### Branches (R224 to R226) -/

/-- The pc that a branch leaves: the destination of its offset where it is taken, else the next instruction. -/
theorem Thread.branch_eq (th : Thread) (taken : Bool) (off : Int) :
    th.branch taken off = { th with pc := if taken then pcAdd th.pc off else pcAdd th.pc 1 } := by
  cases taken <;> rfl

/-- A jump after a write of a register goes from the thread's own pc. -/
theorem Thread.setReg_branch (th : Thread) (r : BitVec 4) (v : W64) (off : Int) :
    (th.setReg r v).branch true off = { th.setReg r v with pc := pcAdd th.pc off } := by
  rw [Thread.branch_eq, Thread.setReg_pc]
  rfl

/-- A compare-and-branch that its thread issues, with the relation it tests. -/
theorem exec_branchOp {s : State} {p t : Nat} {i : Instr} {ga gb : BitVec 4} {off : BitVec 18} {f : W64 → W64 → Bool} {holds : Bool}
    (hexec : exec i s = .next (branchOp i p t ga gb off f s))
    (hf : f ((s.thread p t).reg ga) ((s.thread p t).reg gb) = holds) :
    s.issues p t i = true → exec i s = .next (s.acts p t (.upd { s.thread p t with
      pc := if holds then pcAdd (s.thread p t).pc off.toInt else pcAdd (s.thread p t).pc 1 })) := by
  subst hf
  exact exec_of_issues hexec (congrArg Act.upd (Thread.branch_eq _ _ _))

/-! ### Condition codes (R225) -/

/-- Bit 3 of a code negates the test that its low three bits name. -/
theorem condHolds_xor_eight (c : BitVec 4) (f : Flags) : condHolds (c ^^^ 8#4) f = !condHolds c f := by
  have hcode : ∀ c : BitVec 4, ((c ^^^ 8#4).getLsbD 3 = !c.getLsbD 3) ∧
      (c.getLsbD 3 = true → (c ^^^ 8#4).toNat = c.toNat - 8) ∧ (c.getLsbD 3 = false → (c ^^^ 8#4).toNat - 8 = c.toNat) := by decide
  obtain ⟨hbit, hlow, hhigh⟩ := hcode c
  rw [condHolds, condHolds, hbit]
  cases hc : c.getLsbD 3 with
  | false => rw [hhigh hc]; rfl
  | true => rw [hlow hc]; exact (Bool.not_not _).symm

/-! ### Jumps and special registers (R211, R226, R227) -/

section
variable {s : State} {p t : Nat} (gd ga : BitVec 4)

/-- JALR to an aligned target (R226). -/
theorem exec_jalr_aligned (ha : ((s.thread p t).reg ga).toNat % 4 = 0) :
    s.issues p t (.wJalr p t gd ga) = true → exec (.wJalr p t gd ga) s = .next (s.acts p t (.upd
      { (s.thread p t).setReg gd (BitVec.ofNat 64 (pcAdd (s.thread p t).pc 1)) with
        pc := ((s.thread p t).reg ga).toNat % 2 ^ 20 })) :=
  exec_of_issues rfl (if_neg (not_not.mpr ha))

/-- JALR to a target that is not a multiple of 4 raises ALIGN (R226). -/
theorem exec_jalr_misaligned (ha : ((s.thread p t).reg ga).toNat % 4 ≠ 0) :
    s.issues p t (.wJalr p t gd ga) = true → exec (.wJalr p t gd ga) s = .next (s.acts p t (.trap 5)) :=
  exec_of_issues rfl (if_pos ha)

/-- MFS, by the value that its selector reads, writes gd and goes on (R227). -/
theorem exec_mfs {sel : BitVec 14} {v : W64} {body : State → Thread → Act}
    (hexec : exec (.wMfs p t gd sel) s = .next (s.issue p t (.wMfs p t gd sel) body))
    (hbody : body s (s.thread p t) = .upd ((s.thread p t).setReg gd v).next) :
    s.issues p t (.wMfs p t gd sel) = true → exec (.wMfs p t gd sel) s = .next (s.acts p t (.upd
      { (s.thread p t).setReg gd v with pc := pcAdd (s.thread p t).pc 1 })) := by
  refine exec_of_issues hexec (hbody.trans ?_)
  rw [Thread.next, Thread.setReg_pc]

end

/-- Settles O34: each row by the pc it leaves, then the condition codes. -/
theorem windlassControl : Obligations.WindlassControl := by
  unfold Obligations.WindlassControl
  refine ⟨?rows, ?codes⟩
  case rows =>
    intro s p t ga gb gd off
    refine ⟨?beq, ?bne, exec_branchOp rfl rfl, ?bge, exec_branchOp rfl rfl, ?bgeu, ?bc, ?j, ?jl, exec_jalr_aligned gd ga,
      exec_jalr_misaligned gd ga, exec_mfs gd rfl rfl, exec_mfs gd rfl rfl,
      exec_mfs gd rfl rfl, exec_mfs gd rfl rfl, exec_mfs gd rfl rfl, ?mts, ?ill, ?trap⟩
    case beq => exact exec_branchOp rfl (beq_eq_decide _ _)
    case bne => exact exec_branchOp rfl (by rw [bne, beq_eq_decide, decide_not])
    case bge => exact exec_branchOp rfl BitVec.sle_eq_not_slt.symm
    case bgeu => exact exec_branchOp rfl (BitVec.ule_eq_not_ult _ _).symm
    case bc => exact fun cond => exec_of_issues rfl (congrArg Act.upd (Thread.branch_eq _ _ _))
    case j => exact fun j => exec_of_issues rfl rfl
    case jl => exact exec_of_issues rfl (congrArg Act.upd (Thread.setReg_branch _ _ _ _))
    case mts => exact exec_of_issues rfl rfl
    case ill => exact fun w => exec_of_issues rfl rfl
    case trap => exact exec_of_issues rfl rfl
  case codes =>
    intro f
    exact ⟨rfl, rfl, rfl, rfl, rfl, rfl, rfl, rfl, fun c => condHolds_xor_eight c f⟩

end Sys2Proof.Machine
end

section
/-! PROOFS. Completions, the timeouts of tags and the work the bridge has for itself (R277 to R279, R307). -/
namespace Sys2Proof.Machine

/-! ### What a completion does to the tag it names (R277, R279) -/

section
variable {s : State} {t gen : Nat} {st : CplStatus} {d : Bytes} {g : Tag}

/-- A completion for a FREE tag is counted. -/
theorem State.completeDn_of_free (h : assocFind s.brg.dn t = none) : s.completeDn t gen st d = s.bump (BRG_CNT_COUNT 6) := by
  rw [State.completeDn, h]

theorem State.completeUp_of_free (h : assocFind s.brg.up t = none) : s.completeUp t gen st d = s.bump (BRG_CNT_COUNT 6) := by
  rw [State.completeUp, h]

/-- A completion of another generation is dropped, unless it is for a request of another hub, which checks it itself (R307). -/
theorem State.completeDn_of_stale (h : assocFind s.brg.dn t = some g) (hgen : gen ≠ s.sliceGen g.req.slice) (hu : g.req.unit < 65536) :
    s.completeDn t gen st d =
      if g.st = .abandoned then (s.dropStale g.req.slice).freeDn t else s.dropStale g.req.slice := by
  simp [State.completeDn, h, hgen, hu]

theorem State.completeUp_of_stale (h : assocFind s.brg.up t = some g) (hgen : gen ≠ s.sliceGen g.req.slice) (hu : g.req.unit < 65536) :
    s.completeUp t gen st d =
      if g.st = .abandoned then (s.dropStale g.req.slice).freeUp t else s.dropStale g.req.slice := by
  simp [State.completeUp, h, hgen, hu]

/-- A late completion is counted and frees its ABANDONED tag. -/
theorem State.completeDn_of_abandoned (h : assocFind s.brg.dn t = some g) (hgen : gen = s.sliceGen g.req.slice) (hst : g.st = .abandoned) :
    s.completeDn t gen st d = (s.bump (BRG_CNT_COUNT 1)).freeDn t := by
  simp [State.completeDn, h, hgen, hst]

/-- The completion of a write of the host frees its tag, and the reads behind it learn of it. -/
theorem State.completeDn_of_hostWrite (h : assocFind s.brg.dn t = some g) (hgen : gen = s.sliceGen g.req.slice) (hst : g.st = .issued)
    (hw : g.req.write = true) (hu : g.req.unit = 0) : s.completeDn t gen st d = (s.freeDn t).writeEnds t g.req (st != .ok) := by
  simp [State.completeDn, h, hgen, hst, hw, hu]

/-- The completion of a read is kept with its tag, until no write stands before it. -/
theorem State.completeDn_of_read (h : assocFind s.brg.dn t = some g) (hgen : gen = s.sliceGen g.req.slice) (hst : g.st = .issued)
    (hw : g.req.write = false) :
    s.completeDn t gen st d =
      let u : State := { s with brg := { s.brg with
        dn := assocPut t { g with st := .done, ans := some (st, d) } s.brg.dn, reqs := assocDel t s.brg.reqs } }
      u.passReads u.brg.dn.length := by
  simp [State.completeDn, h, hgen, hst, hw]

/-- An upstream completion frees its tag and goes to its unit. -/
theorem State.completeUp_of_issued (h : assocFind s.brg.up t = some g) (hgen : gen = s.sliceGen g.req.slice) (hst : g.st = .issued) :
    s.completeUp t gen st d = (s.freeUp t).completeTo g.req.unit t (cplCode st) (if st = .ok then d else []) := by
  simp [State.completeUp, h, hgen, hst]

end

/-! ### Freeing and abandoning a tag (R277, R278) -/

section
variable {s : State} {t : Nat} {g : Tag}

/-- With no request waiting, the freed tag is all that changes. -/
theorem State.freeDn_of_none_waits (h : s.brg.dnWait = []) :
    s.freeDn t = { s with brg := { s.brg with dn := assocDel t s.brg.dn, reqs := assocDel t s.brg.reqs } } := by
  simp [State.freeDn, h, State.drainDn]

theorem State.freeUp_of_none_waits (h : s.brg.upWait = []) :
    s.freeUp t = { s with brg := { s.brg with up := assocDel t s.brg.up, reqs := assocDel (1024 + t) s.brg.reqs } } := by
  simp [State.freeUp, h, State.drainUp]

/-- An outstanding read of the host that is abandoned is answered with Completer Abort. -/
theorem State.abandonDn_of_hostRead (h : assocFind s.brg.dn t = some g) (hst : g.st = .issued) (hw : g.req.write = false)
    (hu : g.req.unit = 0) :
    s.abandonDn t = State.emit { s with brg := { s.brg with
      dn := assocPut t { g with st := .abandoned, since := s.hubTime } s.brg.dn
      reqs := s.brg.reqs.map (fun e => if e.1 = t then (e.1, e.2.stop) else e) } } (.hostCpl t 2 []) := by
  simp [State.abandonDn, h, hst, hw, hu, State.completeTo]

theorem State.abandonUp_of_issued (st : Nat) (h : assocFind s.brg.up t = some g) (hst : g.st = .issued) :
    s.abandonUp t st = State.completeTo { s with brg := { s.brg with
      up := assocPut t { g with st := .abandoned, since := s.hubTime } s.brg.up
      reqs := s.brg.reqs.map (fun e => if e.1 = 1024 + t then (e.1, e.2.stop) else e) } } g.req.unit t st [] := by
  simp [State.abandonUp, h, hst]

/-- A zone hub has no endpoint to note an error. -/
theorem State.endpointError_of_zone (b : Nat) (h : s.dock = false) : s.endpointError b = s := by
  simp [State.endpointError, h]

end

/-! ### The work the bridge has for itself -/

theorem State.runBridge_of_none_waits {s : State} (h : s.brg.dn.find? (fun e => e.2.st == .issued && !e.2.gone) = none) :
    s.runBridge = s := by
  unfold State.runBridge
  cases s.brg.dn.length + s.brg.dnWait.length with
  | zero => rfl
  | succ k => rw [State.runLocal, h]

/-- The bridge with one downstream tag and nothing else outstanding or waiting. -/
def soleTag (t : Nat) (g : Tag) : Bridge := { dn := [(t, g)] }

/-- The one tag's read has its completion: the host is answered, and the bridge is empty. -/
theorem State.passReads_soleTag {s : State} {t : Nat} {g : Tag} {st : CplStatus} {d : Bytes} (hs : s.brg = soleTag t g)
    (hst : g.st = .done) (hafter : g.after = []) (hp : g.poisoned = false) (hans : g.ans = some (st, d)) (hu : g.req.unit = 0) :
    s.passReads 1 = State.emit { s with brg := {} } (.hostCpl t (cplCode st) (if st = .ok then d else [])) := by
  have hfree : s.freeDn t = { s with brg := {} } := by
    rw [State.freeDn_of_none_waits (by rw [hs]; rfl), hs]
    simp [soleTag, assocDel]
  simp [State.passReads, hs, soleTag, hst, hafter, hp, hans, hu, hfree, State.completeTo]

/-- The one read outstanding waits for no write: its completion answers the host. -/
theorem State.completeDn_soleTag {s : State} {t gen : Nat} {g : Tag} {st : CplStatus} {d : Bytes} (hs : s.brg = soleTag t g)
    (hst : g.st = .issued) (hafter : g.after = []) (hp : g.poisoned = false) (hw : g.req.write = false) (hu : g.req.unit = 0)
    (hgen : gen = s.sliceGen g.req.slice) :
    s.completeDn t gen st d = State.emit { s with brg := {} } (.hostCpl t (cplCode st) (if st = .ok then d else [])) := by
  have hfind : assocFind s.brg.dn t = some g := by simp [hs, soleTag, assocFind]
  rw [State.completeDn_of_read hfind hgen hst hw, hs]
  have hput : assocPut t { g with st := .done, ans := some (st, d) } (soleTag t g).dn =
      [(t, { g with st := .done, ans := some (st, d) })] := by simp [soleTag, assocPut]
  simp only [hput]
  exact State.passReads_soleTag rfl rfl hafter hp rfl hu

/-! ### The rows of tags while the hub runs -/

section
variable {s : State} {t gen : Nat} {st : CplStatus} {d : Bytes} {g : Tag} (hrun : s.running = true)
include hrun

theorem exec_completionReceive_dn :
    exec (.completionReceive false t gen st d) s = .next (s.completeDn t gen st d).runBridge := by
  change execCompletionReceive false t gen st d s = _
  simp [execCompletionReceive, hrun]

/-- An upstream completion for a FREE tag is an unexpected completion at the endpoint. -/
theorem exec_completionReceive_up_of_free (h : assocFind s.brg.up t = none) :
    exec (.completionReceive true t gen st d) s = .next ((s.endpointError 16).completeUp t gen st d).runBridge := by
  change execCompletionReceive true t gen st d s = _
  simp [execCompletionReceive, hrun, h]

theorem exec_completionReceive_up_of_held (h : assocFind s.brg.up t = some g) :
    exec (.completionReceive true t gen st d) s = .next (s.completeUp t gen st d).runBridge := by
  change execCompletionReceive true t gen st d s = _
  simp [execCompletionReceive, hrun, h]

theorem exec_readTimeout_of_due (h : assocFind s.brg.dn t = some g) (hst : g.st = .issued)
    (hdue : g.since + s.get BRG_TIMERS_RD_TO * 10000 ≤ s.hubTime) :
    exec (.readTimeout t) s =
      .next (((s.abandonDn t).bump (BRG_CNT_COUNT 0)).raise 0x0804 g.req.slice).runBridge := by
  change execReadTimeout t s = _
  simp [execReadTimeout, hrun, h, hst, hdue]

theorem exec_abandonedTagExpiry_dn_of_due (h : assocFind s.brg.dn t = some g) (hst : g.st = .abandoned)
    (hdue : g.since + s.get BRG_TIMERS_RD_TO * 10000 + s.expiryTail ≤ s.hubTime) :
    exec (.abandonedTagExpiry false t) s = .next (s.freeDn t).runBridge := by
  change execAbandonedTagExpiry false t s = _
  simp [execAbandonedTagExpiry, hrun, h, hst, hdue]

theorem exec_abandonedTagExpiry_up_of_due (h : assocFind s.brg.up t = some g) (hst : g.st = .abandoned)
    (hdue : g.since + s.upTimeout + s.expiryTail ≤ s.hubTime) :
    exec (.abandonedTagExpiry true t) s = .next (s.freeUp t).runBridge := by
  change execAbandonedTagExpiry true t s = _
  simp [execAbandonedTagExpiry, hrun, h, hst, hdue]

theorem exec_upstreamCompletionTimeout_of_due (h : assocFind s.brg.up t = some g) (hst : g.st = .issued)
    (hdue : g.since + s.upTimeout ≤ s.hubTime) :
    exec (.upstreamCompletionTimeout t) s = .next ((s.endpointError 14).abandonUp t 2).runBridge := by
  change execUpstreamCompletionTimeout t s = _
  simp [execUpstreamCompletionTimeout, hrun, h, hst, hdue]

end

/-- Settles O40: each row's outcome as the step of its tag, then what a freed tag and an idle bridge leave. -/
theorem tagRows : Obligations.TagRows := by
  unfold Obligations.TagRows
  intro s t gen d hrun
  refine ⟨?dnFree, ?upFree, ?dnStale, ?upStale, ?dnLate, ?dnWrite, ?upIssued, ?soleRead, ?readTimeout, ?dnExpiry, ?upExpiry,
    fun g => exec_upstreamCompletionTimeout_of_due hrun, ?upTimeoutZone, ?freeDn, ?freeUp, State.runBridge_of_none_waits⟩
  case dnFree =>
    intro st h
    rw [exec_completionReceive_dn hrun, State.completeDn_of_free h]
  case upFree =>
    intro st h h'
    rw [exec_completionReceive_up_of_free hrun h, State.completeUp_of_free h']
  case dnStale =>
    intro st g h hgen hu
    rw [exec_completionReceive_dn hrun, State.completeDn_of_stale h hgen hu]
    rfl
  case upStale =>
    intro st g h hgen hu
    rw [exec_completionReceive_up_of_held hrun h, State.completeUp_of_stale h hgen hu]
    rfl
  case dnLate =>
    intro st g h hgen hst
    rw [exec_completionReceive_dn hrun, State.completeDn_of_abandoned h hgen hst]
  case dnWrite =>
    intro st g h hgen hst hw hu
    rw [exec_completionReceive_dn hrun, State.completeDn_of_hostWrite h hgen hst hw hu]
  case upIssued =>
    intro st g h hgen hst
    rw [exec_completionReceive_up_of_held hrun h, State.completeUp_of_issued h hgen hst]
  case soleRead =>
    intro st r n x hs hw hu hgen
    rw [exec_completionReceive_dn hrun, State.completeDn_soleTag hs rfl rfl rfl hw hu hgen]
    exact congrArg _ (State.runBridge_of_none_waits rfl)
  case readTimeout =>
    intro g h hst hdue hw hu
    rw [exec_readTimeout_of_due hrun h hst hdue, State.abandonDn_of_hostRead h hst hw hu]
    rfl
  case dnExpiry => exact fun g h hst hdue => exec_abandonedTagExpiry_dn_of_due hrun h hst hdue
  case upExpiry => exact fun g h hst hdue => exec_abandonedTagExpiry_up_of_due hrun h hst hdue
  case upTimeoutZone =>
    intro g h hst hdue hzone
    rw [exec_upstreamCompletionTimeout_of_due hrun h hst hdue, State.endpointError_of_zone 14 hzone,
      State.abandonUp_of_issued 2 h hst]
    rfl
  case freeDn =>
    intro h
    rw [State.freeDn_of_none_waits h]
  case freeUp =>
    intro h
    rw [State.freeUp_of_none_waits h]

end Sys2Proof.Machine
end

section
/-! PROOFS. The samples, the state machine and the timers of the hot-insertion controllers, and the cabinet bus (R345 to R354,
R357, R360, R361). -/
namespace Sys2Proof.Machine

/-! ### Writes that a controller's own data and its flags see -/

@[simp] theorem State.ctl_put (s : State) (f : Fld) (v n : Nat) : (s.put f v).ctl n = s.ctl n := rfl

@[simp] theorem State.ctl_putB (s : State) (f : Fld) (b : Bool) (n : Nat) : (s.putB f b).ctl n = s.ctl n := rfl

/-- A field of at least one bit reads back the flag written to it. -/
theorem State.is_putB_same (s : State) (f : Fld) (b : Bool) (h : 0 < f.w) : (s.putB f b).is f = b := by
  have hw : 1 < 2 ^ f.w := Nat.one_lt_two_pow h.ne'
  rw [State.is, State.putB, State.get_put_same]
  cases b <;> simp [Nat.mod_eq_of_lt hw]

theorem clampInt_of_mem {lo hi v : Int} (hlo : lo ≤ v) (hhi : v ≤ hi) : clampInt lo hi v = v := by
  rw [clampInt, if_neg (by omega), if_neg (by omega)]

theorem unsigned_lt (w : Nat) (i : Int) : unsigned w i < 2 ^ w := by
  have hpos : (0 : Int) < (2 ^ w : Nat) := by exact_mod_cast Nat.two_pow_pos w
  have hlt := Int.emod_lt_of_pos i hpos
  have hnonneg := Int.emod_nonneg i hpos.ne'
  unfold unsigned
  omega

/-- A sixteen-bit field returns the signed number stored in it. -/
theorem signed_unsigned_16 {i : Int} (hlo : -32768 ≤ i) (hhi : i ≤ 32767) : signed 16 (unsigned 16 i) = i := by
  unfold signed unsigned
  split <;> omega

/-! ### What a sample records (R345, R347, R348, R360) -/

theorem hswMeasVin_key_ne_vout (n : Nat) : (HSW_MEAS_VIN n).key ≠ (HSW_MEAS_VOUT n).key := by
  simp only [Fld.key, HSW_MEAS_VIN, HSW_MEAS_VOUT]
  omega

theorem hswMeasVin_key_ne_current (n : Nat) : (HSW_MEAS_VIN n).key ≠ (HSW_IMEAS_I n).key := by
  simp only [Fld.key, HSW_MEAS_VIN, HSW_IMEAS_I]
  omega

theorem hswMeasVout_key_ne_current (n : Nat) : (HSW_MEAS_VOUT n).key ≠ (HSW_IMEAS_I n).key := by
  simp only [Fld.key, HSW_MEAS_VOUT, HSW_IMEAS_I]
  omega

section
variable (s : State) (n vin vout : Nat) (cur : Int)

theorem State.hswMeasure_vin (h : vin < 65536) : (s.hswMeasure n vin vout cur).get (HSW_MEAS_VIN n) = vin := by
  rw [State.hswMeasure, State.get_put_other _ _ _ _ (hswMeasVin_key_ne_current n),
    State.get_put_other _ _ _ _ (hswMeasVin_key_ne_vout n), State.get_put_same]
  change min vin 0xFFFF % 2 ^ 16 = vin
  omega

theorem State.hswMeasure_vout (h : vout < 65536) : (s.hswMeasure n vin vout cur).get (HSW_MEAS_VOUT n) = vout := by
  rw [State.hswMeasure, State.get_put_other _ _ _ _ (hswMeasVout_key_ne_current n), State.get_put_same]
  change min vout 0xFFFF % 2 ^ 16 = vout
  omega

theorem State.hswMeasure_current (hlo : -32768 ≤ cur) (hhi : cur ≤ 32767) :
    signed 16 ((s.hswMeasure n vin vout cur).get (HSW_IMEAS_I n)) = cur := by
  rw [State.hswMeasure, State.get_put_same, clampInt_of_mem hlo hhi]
  change signed 16 (unsigned 16 cur % 2 ^ 16) = cur
  rw [Nat.mod_eq_of_lt (unsigned_lt 16 cur), signed_unsigned_16 hlo hhi]

variable {s n}

/-- With no change of VSEL under way, a sample's VIN sets VIN_OK, and outside the window it restarts the insertion delay. -/
theorem State.hswWindow_of_settled (h : (s.ctl n).oldVsel = none) :
    s.hswWindow n vin =
      let u := s.putB (HSW_STAT_VIN_OK n) (s.vinInside n vin)
      if s.vinInside n vin then u else u.setCtl n { s.ctl n with elapsed := false } := by
  simp [State.hswWindow, h]

theorem State.hswWindow_vinOk (h : (s.ctl n).oldVsel = none) :
    (s.hswWindow n vin).is (HSW_STAT_VIN_OK n) = s.vinInside n vin := by
  have hput := s.is_putB_same (HSW_STAT_VIN_OK n) (s.vinInside n vin) (by decide : 0 < 1)
  rw [State.hswWindow_of_settled vin h]
  dsimp only
  split
  · exact hput
  · rw [State.setCtl_is, hput]

theorem State.hswWindow_ctl_inside (h : (s.ctl n).oldVsel = none) (hin : s.vinInside n vin = true) :
    (s.hswWindow n vin).ctl n = s.ctl n := by
  simp [State.hswWindow_of_settled vin h, hin]

theorem State.hswWindow_ctl_outside (h : (s.ctl n).oldVsel = none) (hout : s.vinInside n vin = false) :
    (s.hswWindow n vin).ctl n = { s.ctl n with elapsed := false } := by
  simp [State.hswWindow_of_settled vin h, hout]

/-- With no injection, the sense wires read as the sample says. -/
theorem State.hswSense_of_not_injected (h : s.is (HSW_INJ_SENSE_OPEN n) = false) (o : Bool) :
    s.hswSense n o = if o then s.senseOpen n else s.setCtl n { s.ctl n with senseBad := false } := by
  simp [State.hswSense, h]

/-- An enabled controller at a sample: its state machine, then its bleeder in the states with the FETs open. -/
theorem State.hswRun_of_enabled (h : s.is (HSW_CFG_EN n) = true) :
    s.hswRun n vin vout cur =
      let u := s.hswAdvance n vin vout cur
      let k := u.get (HSW_STAT_STATE n)
      if k = 0 ∨ k = 1 ∨ k = 5 ∨ k = 6 then u.put (HSW_STAT_BLEED n) (if 80 < vout then 1 else 0) else u := by
  simp [State.hswRun, h]

end

/-! ### The state machine at a sample, by its state (R346, R347, R349 to R353) -/

section
variable {s : State} {n : Nat} (vin vout : Nat) (cur : Int)

theorem State.hswAdvance_of_off (h : s.get (HSW_STAT_STATE n) = 0) :
    s.hswAdvance n vin vout cur = if s.is (HSW_STAT_REQ n) then s.put (HSW_STAT_STATE n) 1 else s := by
  simp only [State.hswAdvance, h]

theorem State.hswAdvance_of_qualify (h : s.get (HSW_STAT_STATE n) = 1) :
    s.hswAdvance n vin vout cur =
      if !s.is (HSW_STAT_REQ n) then s.put (HSW_STAT_STATE n) 0
      else if s.is (HSW_CFG_EN n) && (s.ctl n).elapsed && !(s.ctl n).retryRun && s.is (HSW_STAT_SENSE_OK n) &&
        !s.is HSW_BUS_STAT_REV then (s.put (HSW_STAT_STATE n) 2).gates n 0 1 0
      else s := by
  simp only [State.hswAdvance, h]

/-- An overvoltage trips the controller in every state with a FET on. -/
theorem State.hswAdvance_of_overVoltage
    (h : s.get (HSW_STAT_STATE n) = 2 ∨ s.get (HSW_STAT_STATE n) = 3 ∨ s.get (HSW_STAT_STATE n) = 4)
    (hov : s.overVoltage n vin vout = true) : s.hswAdvance n vin vout cur = s.hswTrip n 3 := by
  rcases h with h | h | h <;> simp only [State.hswAdvance, h, hov, if_true]

theorem State.hswAdvance_of_precharge (h : s.get (HSW_STAT_STATE n) = 2) (hov : s.overVoltage n vin vout = false) :
    s.hswAdvance n vin vout cur =
      if 90 * vin ≤ 100 * vout then (s.put (HSW_STAT_STATE n) 3).gates n 1 1 0 else s := by
  simp only [State.hswAdvance, h, hov, Bool.false_eq_true, if_false]

theorem State.hswAdvance_of_settle (h : s.get (HSW_STAT_STATE n) = 3) (hov : s.overVoltage n vin vout = false) :
    s.hswAdvance n vin vout cur =
      if s.is (HSW_STAT_FWARN n) then s
      else if s.overCurrent n cur then (s.put (HSW_STAT_FWARN n) 1).raise 0x0B02 n
      else if 95 * vin ≤ 100 * vout then ((s.put (HSW_STAT_STATE n) 4).gates n 1 0 0).powerGood n else s := by
  simp only [State.hswAdvance, State.startFaultTimer, h, hov, Bool.false_eq_true, if_false]

/-- A tripped or latched controller waits for its timer or for CLR_LATCH. -/
theorem State.hswAdvance_of_tripped (h : s.get (HSW_STAT_STATE n) = 5 ∨ s.get (HSW_STAT_STATE n) = 6) :
    s.hswAdvance n vin vout cur = s := by
  rcases h with h | h <;> simp only [State.hswAdvance, h]

end

/-! ### The rows of a controller that is present and powered -/

section
variable {s : State} {n : Nat} (hon : s.ctlOn n = true)
include hon

theorem exec_hswSample (vin vout : Nat) (cur : Int) (o : Bool) :
    exec (.hswSample n vin vout cur o) s =
      .next ((((s.hswMeasure n vin vout cur).hswWindow n vin).hswSense n o).hswRun n vin vout cur) := by
  change execHswSample n vin vout cur o s = _
  rw [execHswSample, if_pos hon]

theorem exec_insertionDelayElapsed :
    exec (.insertionDelayElapsed n) s = .next (if (s.ctl n).inserted && s.is (HSW_STAT_VIN_OK n) then
      s.setCtl n { s.ctl n with elapsed := true } else s) := by
  change execInsertionDelayElapsed n s = _
  rw [execInsertionDelayElapsed, hon, Bool.true_and]

theorem exec_prechargeTimeout :
    exec (.prechargeTimeout n) s = .next (if s.get (HSW_STAT_STATE n) == 2 then
      s.hswTrip n (if s.get (HSW_MEAS_VOUT n) * 10 < s.get (HSW_MEAS_VIN n) then 5 else 4) else s) := by
  change execPrechargeTimeout n s = _
  rw [execPrechargeTimeout, hon, Bool.true_and]

theorem exec_settleTimeout :
    exec (.settleTimeout n) s = .next (if s.get (HSW_STAT_STATE n) == 3 && !s.is (HSW_STAT_FWARN n) then s.hswTrip n 8 else s) := by
  change execSettleTimeout n s = _
  rw [execSettleTimeout, hon, Bool.true_and]

theorem exec_vselWindowTimeout : exec (.vselWindowTimeout n) s = .next (s.setCtl n { s.ctl n with oldVsel := none }) := by
  change execVselWindowTimeout n s = _
  rw [execVselWindowTimeout, if_pos hon]

theorem exec_overcurrentClear :
    exec (.overcurrentClear n) s = .next (if s.is (HSW_STAT_FWARN n) && !s.is (HSW_INJ_OC n) then
      (s.put (HSW_STAT_FWARN n) 0).evalWish n else s) := by
  change execOvercurrentClear n s = _
  rw [execOvercurrentClear, hon, Bool.true_and]

theorem exec_faultTimerExpiry :
    exec (.faultTimerExpiry n) s = .next (if s.is (HSW_STAT_FWARN n) then s.hswTrip n 1 else s) := by
  change execFaultTimerExpiry n s = _
  rw [execFaultTimerExpiry, hon, Bool.true_and]

theorem exec_shortCircuitTrip :
    exec (.shortCircuitTrip n) s =
      .next (if s.is (HSW_STAT_GATE n) || s.is (HSW_STAT_PRE n) then s.hswTrip n 2 else s) := by
  change execShortCircuitTrip n s = _
  rw [execShortCircuitTrip, State.shortTrip, hon, Bool.true_and]

/-- The retry timer that runs ends, and a controller in RETRY goes on as its sourcing request says (R357). -/
theorem exec_retryTimerExpiry (hrun : (s.ctl n).retryRun = true) :
    exec (.retryTimerExpiry n) s =
      .next (let u := s.setCtl n { s.ctl n with retryRun := false }
        if s.get (HSW_STAT_STATE n) = 5 then u.put (HSW_STAT_STATE n) (if s.is (HSW_STAT_REQ n) then 1 else 0) else u) := by
  change execRetryTimerExpiry n s = _
  rw [execRetryTimerExpiry, hon, hrun]
  rfl

theorem exec_powerGoodSecond :
    exec (.powerGoodSecond n) s = .next (if s.is (HSW_STAT_PG n) then s.put (HSW_STAT_TRIPS n) 0 else s) := by
  change execPowerGoodSecond n s = _
  rw [execPowerGoodSecond, hon, Bool.true_and]

theorem exec_ccOvpDetect : exec (.ccOvpDetect n) s = .next (s.ccOvp n) := by
  change execCcOvpDetect n s = _
  rw [execCcOvpDetect, if_pos hon]

theorem exec_senseOkRestore :
    exec (.senseOkRestore n) s = .next (if !(s.ctl n).senseBad && !s.is (HSW_INJ_SENSE_OPEN n) then
      s.put (HSW_STAT_SENSE_OK n) 1 else s) := by
  change execSenseOkRestore n s = _
  rw [execSenseOkRestore, hon, Bool.true_and]

end

/-! ### The rows of the cabinet bus (R360, R361) -/

section
variable {s : State} (hpow : s.spoutPower = true)
include hpow

theorem exec_cabinetReversed :
    exec .cabinetReversed s =
      .next (if !s.is HSW_BUS_STAT_REV then ((s.put HSW_BUS_STAT_REV 1).raise 0x0B08 0).detect 0x36 0 else s) := by
  change execCabinetReversed s = _
  rw [execCabinetReversed, State.cabinetReversed, hpow, Bool.true_and]

/-- The warning is recorded, and Alerts go out where a contract and power-good hold and the policy runs (R361, R362). -/
theorem exec_pfwAssert :
    exec .pfwAssert s = .next (if !s.is HSW_BUS_STAT_PFW then
      (let u := (((s.put HSW_BUS_STAT_PFW 1).put HSW_BUS_STAT_PFW_LATCH 1).raise 0x0B06 0).detect 0x35 0
      (List.range 16).foldl
        (fun u n => if u.policyOn n && u.is (SPT_CONTRACT_VALID n) && u.is (HSW_STAT_PG n) then u.pd n 13 1 else u) u)
      else s) := by
  change execPfwAssert s = _
  rw [execPfwAssert, State.pfwAssert, hpow, Bool.true_and]

theorem exec_pfwClear :
    exec .pfwClear s = .next (if s.is HSW_BUS_STAT_PFW then (s.put HSW_BUS_STAT_PFW 0).raise 0x0B07 0 else s) := by
  change execPfwClear s = _
  rw [execPfwClear, hpow, Bool.true_and]

end

/-- Settles O50: a sample and the state machine by its state, then the timers and comparators, then the cabinet bus. -/
theorem hotSwapRows : Obligations.HotSwapRows := by
  unfold Obligations.HotSwapRows
  intro s
  refine ⟨fun n hon => ⟨exec_hswSample hon, ?measure, ?window, ?sense, ?run, ?machine, ?insertion, ?precharge, ?prechargeOther,
    ?settle, ?warned, ?unwarned, exec_vselWindowTimeout hon, ?short, ?shortOff, ?retry, ?good, ?notGood, exec_ccOvpDetect hon,
    ?restore, ?restoreBad⟩, fun hpow => ⟨?reversed, ?pfw, ?pfwHeld, ?pfwClear⟩⟩
  case measure =>
    intro vin vout cur hvin hvout hlo hhi
    exact ⟨s.hswMeasure_vin n vin vout cur hvin, s.hswMeasure_vout n vin vout cur hvout, s.hswMeasure_current n vin vout cur hlo hhi⟩
  case window =>
    intro vin hsettled
    exact ⟨State.hswWindow_vinOk vin hsettled, State.hswWindow_ctl_inside vin hsettled, State.hswWindow_ctl_outside vin hsettled⟩
  case sense =>
    intro hinj
    exact ⟨State.hswSense_of_not_injected hinj false, State.hswSense_of_not_injected hinj true⟩
  case run =>
    intro vin vout cur hen
    rw [State.hswRun_of_enabled vin vout cur hen]
    exact ⟨fun hk => if_neg (by omega), fun hk => if_pos hk⟩
  case machine =>
    intro vin vout cur
    refine ⟨?offReq, ?off, ?qualifyOff, ?qualify, ?qualifyWaits, State.hswAdvance_of_overVoltage vin vout cur, ?precharged,
      ?precharging, ?settleWarned, ?settleOver, ?settled, ?settling, State.hswAdvance_of_tripped vin vout cur⟩
    case offReq => exact fun h hreq => by rw [State.hswAdvance_of_off vin vout cur h, if_pos hreq]
    case off => exact fun h hreq => by simp [State.hswAdvance_of_off vin vout cur h, hreq]
    case qualifyOff => exact fun h hreq => by simp [State.hswAdvance_of_qualify vin vout cur h, hreq]
    case qualify =>
      intro h hreq hen helapsed hretry hsense hrev
      simp [State.hswAdvance_of_qualify vin vout cur h, hreq, hen, helapsed, hretry, hsense, hrev]
    case qualifyWaits =>
      intro h hreq hwait
      rw [State.hswAdvance_of_qualify vin vout cur h]
      rcases hwait with hw | hw | hw | hw <;> simp [hreq, hw]
    case precharged => exact fun h hov hle => by rw [State.hswAdvance_of_precharge vin vout cur h hov, if_pos hle]
    case precharging => exact fun h hov hlt => by rw [State.hswAdvance_of_precharge vin vout cur h hov, if_neg (by omega)]
    case settleWarned => exact fun h hov hwarn => by rw [State.hswAdvance_of_settle vin vout cur h hov, if_pos hwarn]
    case settleOver =>
      exact fun h hov hwarn hoc => by rw [State.hswAdvance_of_settle vin vout cur h hov, if_neg (by simp [hwarn]), if_pos hoc]
    case settled =>
      intro h hov hwarn hoc hle
      rw [State.hswAdvance_of_settle vin vout cur h hov, if_neg (by simp [hwarn]), if_neg (by simp [hoc]), if_pos hle]
    case settling =>
      intro h hov hwarn hoc hlt
      rw [State.hswAdvance_of_settle vin vout cur h hov, if_neg (by simp [hwarn]), if_neg (by simp [hoc]), if_neg (by omega)]
  case insertion => exact fun hins hvin => by simp [exec_insertionDelayElapsed hon, hins, hvin]
  case precharge => exact fun h => by simp [exec_prechargeTimeout hon, h]
  case prechargeOther => exact fun h => by simp [exec_prechargeTimeout hon, h]
  case settle => exact fun h hwarn => by simp [exec_settleTimeout hon, h, hwarn]
  case warned =>
    intro hwarn
    refine ⟨?_, fun hinj => ?_, fun hinj => ?_, ?_⟩
    · simp [exec_settleTimeout hon, hwarn]
    · simp [exec_overcurrentClear hon, hwarn, hinj]
    · simp [exec_overcurrentClear hon, hwarn, hinj]
    · simp [exec_faultTimerExpiry hon, hwarn]
  case unwarned =>
    intro hwarn
    constructor
    · simp [exec_overcurrentClear hon, hwarn]
    · simp [exec_faultTimerExpiry hon, hwarn]
  case short =>
    intro hfet
    rw [exec_shortCircuitTrip hon, if_pos (by simpa using hfet)]
  case shortOff => exact fun hgate hpre => by simp [exec_shortCircuitTrip hon, hgate, hpre]
  case retry =>
    intro hrun
    rw [exec_retryTimerExpiry hon hrun]
    exact ⟨fun h => congrArg _ (if_pos h), fun h => congrArg _ (if_neg h)⟩
  case good => exact fun hpg => by rw [exec_powerGoodSecond hon, if_pos hpg]
  case notGood => exact fun hpg => by simp [exec_powerGoodSecond hon, hpg]
  case restore => exact fun hbad hinj => by simp [exec_senseOkRestore hon, hbad, hinj]
  case restoreBad =>
    intro hopen
    rw [exec_senseOkRestore hon]
    rcases hopen with h | h <;> simp [h]
  case reversed => exact fun hrev => by simp [exec_cabinetReversed hpow, hrev]
  case pfw =>
    intro hpfw
    rw [exec_pfwAssert hpow, hpfw]
    rfl
  case pfwHeld =>
    intro hpfw
    constructor
    · simp [exec_pfwAssert hpow, hpfw]
    · rw [exec_pfwClear hpow, if_pos hpfw]
  case pfwClear => exact fun hpfw => by simp [exec_pfwClear hpow, hpfw]

end Sys2Proof.Machine
end

section
/-! PROOFS. The rows of the cascade group: a port's start and its HELLO, its link's loss, a member heard and marked down, and the
group-wide swap at a member and at the coordinator (R430 to R432, R434, R441, R444, R446). -/
namespace Sys2Proof.Machine

/-! ### The HELLO that this hub sends, and what it refuses in the peer's (R430, R431) -/

theorem clkStrapCasId_key_ne_casPortState (i : Nat) : CLK_STRAP_CAS_ID.key ≠ (CAS_PORT_STAT_STATE i).key := by
  simp only [Fld.key, CLK_STRAP_CAS_ID, CAS_PORT_STAT_STATE]
  omega

theorem glbHubStatRole_key_ne_casPortState (i : Nat) : GLB_HUB_STAT_ROLE.key ≠ (CAS_PORT_STAT_STATE i).key := by
  simp only [Fld.key, GLB_HUB_STAT_ROLE, CAS_PORT_STAT_STATE]
  omega

section
variable (s : State) (p : Nat)

/-- Of the registers, sending HELLO moves the port's state only. -/
theorem State.sendHello_get_other (f : Fld) (h : f.key ≠ (CAS_PORT_STAT_STATE (p - 1)).key) : (s.sendHello p).get f = s.get f := by
  unfold State.sendHello
  split
  · rfl
  · rw [State.emit_get, State.get_put_other _ _ _ _ h]

/-- Whether a HELLO is refused does not turn on this hub's own HELLO having gone out. -/
theorem State.sendHello_helloRefused (id role : Nat) : (s.sendHello p).helloRefused p id role = s.helloRefused p id role := by
  have hid := s.sendHello_get_other p CLK_STRAP_CAS_ID (clkStrapCasId_key_ne_casPortState _)
  have hrole := s.sendHello_get_other p GLB_HUB_STAT_ROLE (glbHubStatRole_key_ne_casPortState _)
  have hself : (s.sendHello p).self = s.self := hid
  have hmember : (s.sendHello p).memberAt p = s.memberAt p := by rw [State.memberAt, hid, State.memberAt]
  have hdock : (s.sendHello p).dock = s.dock := by rw [State.dock, State.is, hrole, State.dock, State.is]
  rw [State.helloRefused, hself, hmember, hdock, State.helloRefused]

variable {s p}

theorem State.helloRefused_of_self {id : Nat} (role : Nat) (h : id = s.self) : s.helloRefused p id role = 3 :=
  if_pos h

theorem State.helloRefused_of_wrong_member {id : Nat} (role : Nat) (hself : id ≠ s.self) (hid : id ≠ s.memberAt p) :
    s.helloRefused p id role = 2 := by
  rw [State.helloRefused, if_neg hself, if_pos hid]

theorem State.helloRefused_of_wrong_role {id role : Nat} (hself : id ≠ s.self) (hid : id = s.memberAt p)
    (hrole : role ≠ if s.dock then 1 else 0) : s.helloRefused p id role = 4 := by
  rw [State.helloRefused, if_neg hself, if_neg (not_not_intro hid), if_pos hrole]

/-- A HELLO is accepted where none of the three causes stands. -/
theorem State.helloRefused_eq_zero_iff (id role : Nat) :
    s.helloRefused p id role = 0 ↔ id ≠ s.self ∧ id = s.memberAt p ∧ role = (if s.dock then 1 else 0) := by
  constructor
  · intro hzero
    have hself : id ≠ s.self := fun h => by simp [State.helloRefused_of_self role h] at hzero
    have hid : id = s.memberAt p := by_contra fun h => by simp [State.helloRefused_of_wrong_member role hself h] at hzero
    have hrole : role = if s.dock then 1 else 0 :=
      by_contra fun h => by simp [State.helloRefused_of_wrong_role hself hid h] at hzero
    exact ⟨hself, hid, hrole⟩
  · rintro ⟨hself, hid, hrole⟩
    rw [State.helloRefused, if_neg hself, if_neg (not_not_intro hid), if_neg (not_not_intro hrole)]

end

/-! ### The rows of a cascade port (R430 to R432, R434, R441) -/

section
variable {s : State} {p : Nat}

/-- Outside the states in which the port waits for a HELLO, one has no effect. -/
theorem exec_hello_of_not_awaited (id role links trunk : Nat) (recs : List SliceRec)
    (h1 : s.get (CAS_PORT_STAT_STATE (p - 1)) ≠ 1) (h2 : s.get (CAS_PORT_STAT_STATE (p - 1)) ≠ 2) :
    exec (.hello p id role links trunk recs) s = .next s := by
  change execHello p id role links trunk recs s = _
  simp [execHello, State.helloReceived, h1, h2]

variable (hon : s.casPortOn p = true)
include hon

theorem State.casStart_of_on : s.casStart p = (s.put (CAS_PORT_STAT_STATE (p - 1)) 1).sendMarkers p :=
  if_pos hon

theorem exec_casPortStart :
    exec (.casPortStart p) s = .next (if s.get (CAS_PORT_STAT_STATE (p - 1)) = 0 then
      (s.put (CAS_PORT_STAT_STATE (p - 1)) 1).sendMarkers p else s) := by
  change execCasPortStart p s = _
  rw [execCasPortStart, State.casStart_of_on hon]

theorem exec_casLockTimeout :
    exec (.casLockTimeout p) s =
      .next (if s.get (CAS_PORT_STAT_STATE (p - 1)) = 1 ∨ s.get (CAS_PORT_STAT_STATE (p - 1)) = 2 then
        (s.put (CAS_PORT_STAT_STATE (p - 1)) 4).put (CAS_PORT_STAT_CAUSE (p - 1)) 1 else s) := by
  change execCasLockTimeout p s = _
  simp [execCasLockTimeout, hon]

theorem exec_casRestartTimer :
    exec (.casRestartTimer p) s = .next (if s.get (CAS_PORT_STAT_STATE (p - 1)) = 4 then
      (s.put (CAS_PORT_STAT_STATE (p - 1)) 1).sendMarkers p else s) := by
  change execCasRestartTimer p s = _
  rw [execCasRestartTimer, State.casStart_of_on hon]

/-- An awaited HELLO: this hub's own goes out where it has not, and the peer's is refused with its cause or brings the link up. -/
theorem exec_hello_of_awaited (id role links trunk : Nat) (recs : List SliceRec)
    (hst : s.get (CAS_PORT_STAT_STATE (p - 1)) = 1 ∨ s.get (CAS_PORT_STAT_STATE (p - 1)) = 2) :
    let u := s.sendHello p
    let w := (((u.put (CAS_PORT_STAT_STATE (p - 1)) 3).put (CAS_PORT_STAT_PEER_ID (p - 1)) id).startLink p).raise 0x1001 (p - 1)
    exec (.hello p id role links trunk recs) s =
      .next (if s.helloRefused p id role = 0 then ((w.hearMember (w.memberAt p) links trunk).takeRecords recs).tellLinks
        else (((u.put (CAS_PORT_STAT_STATE (p - 1)) 4).put (CAS_PORT_STAT_CAUSE (p - 1)) (s.helloRefused p id role)).raise
          0x1005 (p - 1)).detect 0x25 (p - 1)) := by
  have hwait : (!s.casPortOn p || !(s.get (CAS_PORT_STAT_STATE (p - 1)) == 1 || s.get (CAS_PORT_STAT_STATE (p - 1)) == 2)) = false := by
    rcases hst with h | h <;> simp [hon, h]
  change execHello p id role links trunk recs s = _
  rw [execHello, State.helloReceived, hwait, if_neg Bool.false_ne_true]
  dsimp only
  rw [State.sendHello_helloRefused]
  split
  next hzero => rw [if_pos hzero]
  next hcause => rw [if_neg hcause]

theorem exec_casLinkFault : exec (.casLinkFault p) s = .next (s.casLinkDown p 1) := by
  change execCasLinkFault p s = _
  rw [execCasLinkFault, if_pos hon]

theorem exec_casSilenceTimeout : exec (.casSilenceTimeout p) s = .next (s.casLinkDown p 5) := by
  change execCasSilenceTimeout p s = _
  rw [execCasSilenceTimeout, if_pos hon]

/-- LINK_STATE of the member that stands at the port, over a link that is up (R441). -/
theorem exec_linkState (hup : s.linkUp p = true) (links trunk : Nat) :
    exec (.linkState p (s.memberAt p) (if s.dock then 1 else 0) links trunk) s = .next (s.hearMember (s.memberAt p) links trunk) := by
  change execLinkState p (s.memberAt p) (if s.dock then 1 else 0) links trunk s = _
  rw [execLinkState, if_pos ⟨rfl, rfl⟩, State.linkStateReceived, hon, hup, Bool.true_and, if_pos rfl]

end

/-- A link that is down already is not declared down again (R432). -/
theorem State.casLinkDown_of_down {s : State} {p : Nat} (h : s.linkUp p = false) (cause : Nat) : s.casLinkDown p cause = s := by
  simp [State.casLinkDown, h]

/-! ### The end of the wait for a member (R441) -/

/-- The wait ends; a member that nobody shows any more is marked down. -/
theorem exec_memberDownTimeout {s : State} {m : Nat} (hlive : s.linksLive = true) (hcas : s.cascading = true) (hm : m < 4)
    (hwait : (s.member m).awaited.isSome = true) (hdirect : s.direct m = false) :
    let u := s.setMember m { s.member m with awaited := none }
    exec (.memberDownTimeout m) s = .next (if u.seen m then u else u.markDown m) := by
  dsimp only
  change execMemberDownTimeout m s = _
  rw [execMemberDownTimeout, if_pos (by simp [hlive, hcas, hm, hwait, hdirect])]

/-! ### The group-wide swap at a member (R444, R446) -/

theorem State.refusesSwap_iff (s : State) (b : Nat) :
    s.refusesSwap b = true ↔ (s.get ALT_CAL_STAT_PROFILE ≠ 3 ∨ s.is ALT_CAL_STAT_SWAP_ARMED = true ∨
      (s.trunkUp = true ∧ s.tableValid b (s.tableFor b (max 1 (s.get ALT_CAL_STAT_LANES))) = false)) := by
  simp [State.refusesSwap, or_assoc]

section
variable {s : State} {p : Nat} (hon : s.casPortOn p = true) (hup : s.linkUp p = true)
include hon hup

theorem exec_gswapPrep (r b t : Nat) (hb : b ≤ 1) :
    exec (.gswapPrep p r b t) s = .next (if s.refusesSwap b then s.sendCtl p 0x13 (leBytes 1 r ++ [1#8])
      else (State.put { s with cas := { s.cas with prep := some ⟨r, b, t, 0, p, s.hubTime⟩ } } CAS_GRP_STAT_GSWAP 1).sendCtl p 0x13
        (leBytes 1 r ++ [0#8])) := by
  have hbank : decide (1 < b) = false := decide_eq_false (by omega)
  change execGswapPrep p r b t s = _
  rw [execGswapPrep, State.swapPrep, hon, hup, hbank, Bool.or_false]
  rfl

variable {g : GroupSwap} (hprep : s.cas.prep = some g)
include hprep

theorem exec_gswapCommit_prepared :
    exec (.gswapCommit p g.req) s = .next (State.armGroup { s with cas := { s.cas with prep := none } } g.bank g.time) := by
  change execGswapCommit p g.req s = _
  simp [execGswapCommit, State.swapCommit, hprep, hon, hup]

theorem exec_gswapAbort_prepared : exec (.gswapAbort p g.req) s = .next s.dropPrep := by
  change execGswapAbort p g.req s = _
  simp [execGswapAbort, State.swapAbort, hprep, hon, hup]

end

section
variable {s : State}

/-- A record that names another swap than the one prepared has no effect, and none has where nothing is prepared. -/
theorem exec_gswapCommit_of_other {p r : Nat} (h : ∀ g, s.cas.prep = some g → r ≠ g.req) : exec (.gswapCommit p r) s = .next s := by
  change execGswapCommit p r s = _
  rw [execGswapCommit, State.swapCommit]
  split
  next g hprep => rw [if_neg (by simp [(h g hprep).symm])]
  next => rfl

theorem exec_gswapAbort_of_other {p r : Nat} (h : ∀ g, s.cas.prep = some g → r ≠ g.req) : exec (.gswapAbort p r) s = .next s := by
  change execGswapAbort p r s = _
  rw [execGswapAbort, State.swapAbort]
  split
  next g hprep => rw [if_neg (by simp [(h g hprep).symm])]
  next => rfl

theorem exec_gswapPrepDiscard :
    exec .gswapPrepDiscard s = .next (if s.running && s.cas.prep.isSome then s.dropPrep else s) := rfl

/-! ### The group-wide swap at the coordinator (R444, R446) -/

theorem exec_gswapTimeout_of_idle (hswap : s.cas.swap = none) : exec .gswapTimeout s = .next s := by
  change execGswapTimeout s = _
  rw [execGswapTimeout, hswap]

/-- An answer to another swap than the one under way has no effect, and none has where no swap is under way. -/
theorem exec_gswapAck_of_other {p r : Nat} {refuse : Bool} (h : ∀ g, s.cas.swap = some g → r ≠ g.req) :
    exec (.gswapAck p r refuse) s = .next s := by
  change execGswapAck p r refuse s = _
  rw [execGswapAck, State.swapAck]
  split
  next => rfl
  next g hswap => rw [if_pos (by simp [(h g hswap).symm])]

variable {g : GroupSwap} (hswap : s.cas.swap = some g)
include hswap

theorem exec_gswapTimeout_of_running (hrun : s.running = true) : exec .gswapTimeout s = .next (s.abortSwap g 6) := by
  change execGswapTimeout s = _
  simp only [execGswapTimeout, hswap, hrun, if_true]

variable {p : Nat} (hon : s.casPortOn p = true) (hup : s.linkUp p = true)
include hon hup

theorem exec_gswapAck_refused : exec (.gswapAck p g.req true) s = .next (s.abortSwap g 5) := by
  change execGswapAck p g.req true s = _
  simp [execGswapAck, State.swapAck, hswap, hon, hup]

/-- The awaited answer of the member at the port: the last one commits the swap, and the others are still awaited else. -/
theorem exec_gswapAck_awaited (hwait : bit g.waiting (s.memberAt p) = true) :
    let left := setBit g.waiting (s.memberAt p) false
    exec (.gswapAck p g.req false) s =
      .next (if left = 0 then ((s.tellGroup 0x14 (leBytes 1 g.req)).armGroup g.bank g.time).endGroupSwap 0 (leBytes 8 g.time)
        else { s with cas := { s.cas with swap := some { g with waiting := left } } }) := by
  change execGswapAck p g.req false s = _
  simp [execGswapAck, State.swapAck, hswap, hon, hup, hwait]

end

/-- Settles O56: the rows of a port, the causes of a refused HELLO, the wait for a member, then the group-wide swap at a member and
at the coordinator. -/
theorem cascadeRows : Obligations.CascadeRows := by
  unfold Obligations.CascadeRows
  intro s
  refine ⟨fun p hon => ⟨?start, ?started, ?lock, ?locked, ?restart, ?running, ?hello, ?notAwaited, ?down, ?already, ?heard⟩, ?causes,
    ?member, ?prep, s.refusesSwap_iff, ?prepared, ?unprepared, ?coordinator, ?idle⟩
  case start => exact fun h => by rw [exec_casPortStart hon, if_pos h]
  case started => exact fun h => by rw [exec_casPortStart hon, if_neg h]
  case lock => exact fun h => by rw [exec_casLockTimeout hon, if_pos h]
  case locked => exact fun h1 h2 => by rw [exec_casLockTimeout hon, if_neg (not_or.mpr ⟨h1, h2⟩)]
  case restart => exact fun h => by rw [exec_casRestartTimer hon, if_pos h]
  case running => exact fun h => by rw [exec_casRestartTimer hon, if_neg h]
  case hello =>
    intro id role links trunk recs hst
    rw [exec_hello_of_awaited hon id role links trunk recs hst]
    exact ⟨fun hcause => congrArg _ (if_neg hcause), fun hzero => congrArg _ (if_pos hzero)⟩
  case notAwaited => exact fun id role links trunk recs h1 h2 => exec_hello_of_not_awaited id role links trunk recs h1 h2
  case down => exact fun _ => ⟨exec_casLinkFault hon, exec_casSilenceTimeout hon⟩
  case already =>
    intro hdown
    rw [exec_casLinkFault hon, exec_casSilenceTimeout hon, State.casLinkDown_of_down hdown, State.casLinkDown_of_down hdown]
    exact ⟨rfl, rfl⟩
  case heard => exact fun links trunk hup => exec_linkState hon hup links trunk
  case causes =>
    intro p id role
    exact ⟨State.helloRefused_eq_zero_iff id role, State.helloRefused_of_self role, State.helloRefused_of_wrong_member role,
      State.helloRefused_of_wrong_role⟩
  case member =>
    intro m hlive hcas hm hwait hdirect
    rw [exec_memberDownTimeout hlive hcas hm hwait hdirect]
    exact ⟨fun hseen => congrArg _ (if_pos hseen), fun hunseen => congrArg _ (if_neg (Bool.eq_false_iff.mp hunseen))⟩
  case prep =>
    intro p r b t hon hup hb
    rw [exec_gswapPrep hon hup r b t hb]
    exact ⟨fun hrefuse => congrArg _ (if_pos hrefuse), fun haccept => congrArg _ (if_neg (Bool.eq_false_iff.mp haccept))⟩
  case prepared =>
    intro g hprep
    refine ⟨fun p hon hup => ⟨exec_gswapCommit_prepared hon hup hprep, exec_gswapAbort_prepared hon hup hprep⟩, ?other, ?discard⟩
    case other =>
      intro p r hr
      have hother : ∀ g', s.cas.prep = some g' → r ≠ g'.req := fun g' h => Option.some.inj (hprep.symm.trans h) ▸ hr
      exact ⟨exec_gswapCommit_of_other hother, exec_gswapAbort_of_other hother⟩
    case discard =>
      intro hrun
      rw [exec_gswapPrepDiscard, hrun, hprep]
      rfl
  case unprepared =>
    intro hnone
    have hother (r : Nat) : ∀ g, s.cas.prep = some g → r ≠ g.req := by simp [hnone]
    exact ⟨by simp [exec_gswapPrepDiscard, hnone],
      fun p r => ⟨exec_gswapCommit_of_other (hother r), exec_gswapAbort_of_other (hother r)⟩⟩
  case coordinator =>
    intro g hswap
    refine ⟨exec_gswapTimeout_of_running hswap, fun p hon hup => ⟨exec_gswapAck_refused hswap hon hup, fun hwait => ?awaited⟩, ?other⟩
    case awaited =>
      rw [exec_gswapAck_awaited hswap hon hup hwait]
      exact ⟨fun hlast => congrArg _ (if_pos hlast), fun hleft => congrArg _ (if_neg hleft)⟩
    case other =>
      intro p r b hr
      exact exec_gswapAck_of_other fun g' h => Option.some.inj (hswap.symm.trans h) ▸ hr
  case idle =>
    intro hnone
    exact ⟨exec_gswapTimeout_of_idle hnone, fun p r b => exec_gswapAck_of_other (by simp [hnone])⟩

end Sys2Proof.Machine
end

section
/-! PROOFS. 64-bit accesses checked by halves, accesses of another width or alignment, and the count of refusals (R12, R305, R550). -/
namespace Sys2Proof.Machine

/-! ### An event writes no register but the counts of lost messages -/

theorem State.get_bump_other (s : State) {f g : Fld} (h : g.key ≠ f.key) : (s.bump f).get g = s.get g :=
  s.get_put_other _ _ _ h

section
variable {f : Fld} (hroute : f.key ≠ (MSG_CNT_COUNT 2).key) (hfull : f.key ≠ (MSG_CNT_COUNT 5).key)

include hroute in
theorem State.get_eventMsg (s : State) (code inst payload : Nat) : (s.eventMsg code inst payload).2.get f = s.get f := by
  simp only [State.eventMsg, apply_ite Prod.snd, apply_ite (State.get · f), s.get_bump_other hroute, ite_self]

include hroute hfull

theorem State.get_discardNote (s : State) : s.discardNote.get f = s.get f := by
  simp only [State.discardNote]
  split
  case isTrue =>
    have hkeep := State.get_eventMsg hroute
      { s.emit (.event 0x1301 0 0) with limited := assocSet 0 (0x1301 * 65536) (s.hubTime + 1) s.limited } 0x1301 0 0
    split
    next u hu => rw [hu] at hkeep; exact hkeep
    next m u hu =>
      rw [hu] at hkeep
      split
      · exact (u.get_bump_other hfull).trans hkeep
      · exact hkeep
  case isFalse => rfl

theorem State.get_queueMsg (s : State) (m : Msg) : (s.queueMsg m).get f = s.get f := by
  simp only [State.queueMsg]
  split
  · exact (State.get_discardNote hroute hfull _).trans (s.get_bump_other hfull)
  · rfl

theorem State.get_raiseP (s : State) (code inst payload : Nat) : (s.raiseP code inst payload).get f = s.get f := by
  have hkeep := State.get_eventMsg hroute (s.emit (.event code inst payload)) code inst payload
  simp only [State.raiseP, State.routeEvent]
  split
  next u hu => rw [hu] at hkeep; exact hkeep
  next m u hu => rw [hu] at hkeep; exact (State.get_queueMsg hroute hfull u m).trans hkeep

theorem State.get_raiseEvery (s : State) (period code inst payload : Nat) :
    (s.raiseEvery period code inst payload).get f = s.get f := by
  simp only [State.raiseEvery]
  split
  · exact State.get_raiseP hroute hfull s code inst payload
  · rfl

end

/-! ### The count of refusals (R305) -/

theorem State.get_bump_same_of_lt (s : State) (f : Fld) (h : s.get f + 1 < 2 ^ f.w) : (s.bump f).get f = s.get f + 1 := by
  have hmin : min (s.get f + 1) (2 ^ f.w - 1) = s.get f + 1 := by omega
  rw [State.bump, State.addSat, State.get_put_same, hmin, Nat.mod_eq_of_lt h]

theorem denyCount_key_ne_msgCount {sl : Nat} (hsl : sl < 64) (i : Nat) : (SLC_DENY_COUNT sl).key ≠ (MSG_CNT_COUNT i).key := by
  simp only [Fld.key, SLC_DENY_COUNT, MSG_CNT_COUNT]
  omega

/-- Below its widest value the count rises by one: the event of the refusal leaves it. -/
theorem State.deny_count (s : State) {sl : Nat} (hsl : sl < 64) (h : s.get (SLC_DENY_COUNT sl) < 0xFFFFFFFF) :
    (s.deny sl).get (SLC_DENY_COUNT sl) = s.get (SLC_DENY_COUNT sl) + 1 :=
  (State.get_raiseEvery (denyCount_key_ne_msgCount hsl 2) (denyCount_key_ne_msgCount hsl 5) _ _ _ _ _).trans
    (s.get_bump_same_of_lt _ (Nat.succ_lt_succ h))

/-! ### Reads (R12, R13, R550) -/

/-- What a read of address a brings up to the moment. -/
def State.senseAt (s : State) (a : Nat) : State :=
  match findReg a with
  | some (base, ix, _) => s.sense base (nth ix 0)
  | none => s

/-- Only a permitted low half senses its register, and the halves share one refusal. -/
theorem State.regRead_wide (s : State) (sl : Nat) {a : Nat} (h8 : a % 8 = 0) :
    s.regRead sl a 8 =
      let t := if s.refuses sl a false then s else s.senseAt a
      ((if s.refuses sl a false then 0 else t.word a) + 2 ^ 32 * (if s.refuses sl (a + 4) false then 0 else t.word (a + 4)),
        if s.refuses sl a false || s.refuses sl (a + 4) false then t.deny sl else t) := by
  simp only [State.regRead, State.senseAt, h8]
  cases findReg a <;> simp

theorem State.regRead_misplaced (s : State) (sl : Nat) {a len : Nat} (h4 : len = 4 → a % 4 ≠ 0) (h8 : len = 8 → a % 8 ≠ 0) :
    s.regRead sl a len = (0, s) := by
  rw [State.regRead, if_neg (not_and.mpr h4), if_neg (not_and.mpr h8)]

/-! ### Writes (R12, R550) -/

/-- The permitted halves are written, low first, and the halves share one refusal. -/
theorem State.regWrite_wide {s : State} (hfw : s.firmware = true) (sl : Nat) {a : Nat} (h8 : a % 8 = 0) (v : Nat) :
    s.regWrite sl a 8 v =
      let t := if s.refuses sl a true then s else s.write32 sl a (v % 2 ^ 32)
      let u := if s.refuses sl (a + 4) true then t else t.write32 sl (a + 4) (v / 2 ^ 32 % 2 ^ 32)
      if s.refuses sl a true || s.refuses sl (a + 4) true then u.deny sl else u := by
  simp [State.regWrite, hfw, h8]

theorem State.regWrite_misplaced (s : State) (sl v : Nat) {a len : Nat} (h4 : len = 4 → a % 4 ≠ 0) (h8 : len = 8 → a % 8 ≠ 0) :
    s.regWrite sl a len v = s := by
  rw [State.regWrite, if_neg (not_and.mpr h4), if_neg (not_and.mpr h8), ite_self]

theorem exec_registerWrite {sl : Nat} (hsl : sl < 64) (s : State) (a len : Nat) (v : W64) :
    exec (.registerWrite sl a len v) s = .next (s.regWrite sl a len v.toNat) :=
  congrArg Host.Outcome.next (if_pos hsl)

/-- The halves of a 64-bit word are its remainder and its quotient by 2 ^ 32. -/
theorem exec_registerWrite_wide {s : State} {sl a : Nat} (hsl : sl < 64) (hfw : s.firmware = true) (h8 : a % 8 = 0) (v : W64) :
    exec (.registerWrite sl a 8 v) s = .next (
      let t := if s.refuses sl a true then s else s.write32 sl a (v.toNat % 2 ^ 32)
      let u := if s.refuses sl (a + 4) true then t else t.write32 sl (a + 4) (v.toNat / 2 ^ 32)
      if s.refuses sl a true || s.refuses sl (a + 4) true then u.deny sl else u) := by
  have hhigh : v.toNat / 2 ^ 32 % 2 ^ 32 = v.toNat / 2 ^ 32 := Nat.mod_eq_of_lt (by omega)
  rw [exec_registerWrite hsl, State.regWrite_wide hfw sl h8, hhigh]

/-- Settles O14: a 64-bit read and write by which halves are refused, then the other widths and the count of refusals. -/
theorem wideAccesses : Obligations.WideAccesses := by
  unfold Obligations.WideAccesses
  intro s sl a hsl
  refine ⟨?read, ?write, ?misplaced, s.deny_count hsl⟩
  case read =>
    intro h8 u
    have hsense : s.senseAt a = u := rfl
    rw [s.regRead_wide sl h8, hsense]
    refine ⟨fun hlow hhigh => ?_, fun hlow hhigh => ?_, fun hlow hhigh => ?_, fun hlow hhigh => ?_⟩
    all_goals simp [hlow, hhigh]
  case write =>
    intro hfw h8 v
    rw [exec_registerWrite_wide hsl hfw h8]
    refine ⟨fun hlow hhigh => ?_, fun hlow hhigh => ?_, fun hlow hhigh => ?_, fun hlow hhigh => ?_⟩
    all_goals simp [hlow, hhigh]
  case misplaced =>
    intro len h4 h8
    refine ⟨s.regRead_misplaced sl h4 h8, fun v => ?_⟩
    rw [exec_registerWrite hsl, s.regWrite_misplaced sl v.toNat h4 h8]

end Sys2Proof.Machine
end

section
/-! PROOFS. The words of the Windlass rows and the rows of the words (R214, R216, R240). -/
namespace Sys2Proof.Machine

/-! ### The word of every row -/

/-- A word of the ALU group is issued as the group's functions say. -/
theorem decodeWindlass_fmtAlu (p t : Nat) (oper : BitVec 6) (gd ga gb : BitVec 4) (m : AluMod) (cond : BitVec 4) :
    decodeWindlass p t (fmtAlu oper gd ga gb m cond) =
      decodeAlu p t gd ga gb (aluFn m cond oper) (.wIll p t (fmtAlu oper gd ga gb m cond)) := by
  simp [decodeWindlass, fmtAlu]

/-- A word of the window group is issued as its subop says. -/
theorem decodeWindlass_fmtW (p t : Nat) (gd : BitVec 4) (off : BitVec 8) (size : BitVec 3) (gx : BitVec 4) (sub : BitVec 7) :
    decodeWindlass p t (fmtW gd off size gx sub) =
      decodeWin p t gd off (winFn size gx sub) (.wIll p t (fmtW gd off size gx sub)) := by
  simp [decodeWindlass]

/-- A word of the context atomics is issued as its selector says. -/
theorem decodeWindlass_fmtCat (p t : Nat) (sel : BitVec 6) (gd ga gb : BitVec 4) (self : Bool) (w : BitVec 3) :
    decodeWindlass p t (fmtCat sel gd ga gb self w) =
      decodeCat p t gd ga gb sel (catMod self w) (.wIll p t (fmtCat sel gd ga gb self w)) := by
  simp [decodeWindlass, fmtCat]

/-- A thread issues for the word of a well-formed row, ILL aside, that row. -/
theorem decodeWindlass_of_windlassWord (i : Instr) (w : W32) (hwf : i.wf = true) (hw : windlassWord i = some w)
    (hill : ∀ p t x, i ≠ .wIll p t x) : ∃ p t, decodeWindlass p t w = i := by
  cases i
  case wIll p t x => exact absurd rfl (hill p t x)
  -- the ALU group
  case wAdd p t gd ga gb m | wSub p t gd ga gb m | wAnd p t gd ga gb m | wOr p t gd ga gb m | wXor p t gd ga gb m |
      wAndn p t gd ga gb m | wSll p t gd ga gb m | wSrl p t gd ga gb m | wSra p t gd ga gb m | wRol p t gd ga gb m |
      wRor p t gd ga gb m | wMul p t gd ga gb m | wMulhu p t gd ga gb m | wMin p t gd ga gb m | wMax p t gd ga gb m |
      wMinu p t gd ga gb m | wMaxu p t gd ga gb m | wAddc p t gd ga gb m | wSubb p t gd ga gb m | wClz p t gd ga m |
      wCtz p t gd ga m | wPopc p t gd ga m | wBswap p t gd ga m =>
    cases hw
    exact ⟨p, t, by rw [decodeWindlass_fmtAlu]; simp [decodeAlu]⟩
  case wCsel p t gd ga gb cond m =>
    cases hw
    simp only [Instr.wf, Bool.and_eq_true, decide_eq_true_eq] at hwf
    exact ⟨p, t, by rw [decodeWindlass_fmtAlu]; simp [decodeAlu, hwf.2]⟩
  -- bit fields, immediates, branches, jumps and special registers
  case wBfx p t gd ga pos wm1 _ | wBfi p t gd ga pos wm1 =>
    cases hw
    exact ⟨p, t, by simp [decodeWindlass]⟩
  case wAddi p t gd ga imm | wAndi p t gd ga imm | wOri p t gd ga imm | wXori p t gd ga imm | wShor p t gd ga imm |
      wSlli p t gd ga imm | wSrli p t gd ga imm | wSrai p t gd ga imm | wCmpi p t ga imm | wBeq p t ga gb off |
      wBne p t ga gb off | wBlt p t ga gb off | wBge p t ga gb off | wBltu p t ga gb off | wBgeu p t ga gb off |
      wJl p t gd off | wJalr p t gd ga =>
    cases hw
    exact ⟨p, t, by simp [decodeWindlass]⟩
  case wBc p t cond off =>
    cases hw
    simp only [Instr.wf, Bool.and_eq_true, decide_eq_true_eq] at hwf
    exact ⟨p, t, by simp [decodeWindlass, hwf.2]⟩
  case wJ p t off =>
    cases hw
    exact ⟨p, t, by rw [decodeWindlass, jWord_opcode, jWord_off]; rfl⟩
  case wMfs p t _ sel | wMts p t _ sel =>
    cases hw
    simp only [Instr.wf, Bool.and_eq_true, decide_eq_true_eq] at hwf
    exact ⟨p, t, by simp [decodeWindlass, hwf.2]⟩
  -- local memory and the packet window
  case wLd8 p t gd ga imm | wLd16 p t gd ga imm | wLd32 p t gd ga imm | wLd64 p t gd ga imm | wLd8s p t gd ga imm |
      wLd16s p t gd ga imm | wLd32s p t gd ga imm | wSt8 p t gd ga imm | wSt16 p t gd ga imm | wSt32 p t gd ga imm |
      wSt64 p t gd ga imm =>
    cases hw
    exact ⟨p, t, by simp [decodeWindlass]⟩
  case wWld p t gd off size gx | wWlds p t gd off size gx | wWst p t gd off size gx | wWcmp p t gd off size gx =>
    cases hw
    exact ⟨p, t, by rw [decodeWindlass_fmtW]; simp [decodeWin]⟩
  -- the tunnel operations
  case wFetch p t gd ga gb _ | wPut p t gd ga gb _ | wTrim p t gd ga | wPrep p t gd ga | wApnd p t gd ga _ | wCut p t gd ga |
      wLen p t gd =>
    cases hw
    exact ⟨p, t, by simp [decodeWindlass, decodeChn]⟩
  case wLkpx p t gd ga gb k | wLkpd p t gd ga gb k =>
    cases hw
    exact ⟨p, t, by simp [decodeWindlass, decodeLkp]⟩
  case wHash p t gd ga gb | wCrc32c p t gd ga gb fin | wCrc16 p t gd ga gb fin =>
    cases hw
    exact ⟨p, t, by simp [decodeWindlass, decodeHsh]⟩
  case wSeal p t gd ga gb | wOpen p t gd ga gb | wMsg p t gd ga gb =>
    cases hw
    exact ⟨p, t, by simp [decodeWindlass]⟩
  case wEnq p t ga gb d l c =>
    cases hw
    simp only [Instr.wf, Bool.and_eq_true, Bool.or_eq_true, Bool.not_eq_true', decide_eq_true_eq] at hwf
    have hd : d = true → ga = 0#4 := fun h => by simpa [h] using hwf.2
    exact ⟨p, t, by simpa [decodeWindlass, decodeEnq] using hd⟩
  case wFwd p t ga gb c =>
    cases hw
    exact ⟨p, t, by simp [decodeWindlass, decodeFwd]⟩
  case wCld p t gd ga self _ | wCst p t gd ga gb self _ | wCadd p t gd ga gb self _ | wCand p t gd ga gb self _ |
      wCor p t gd ga gb self _ | wCxch p t gd ga gb self _ | wCcas p t gd ga gb self _ =>
    cases hw
    simp only [Instr.wf, Bool.and_eq_true, Bool.or_eq_true, Bool.not_eq_true', decide_eq_true_eq] at hwf
    have hself : self = true → ga = 0#4 := fun h => by simpa [h] using hwf.2
    exact ⟨p, t, by rw [decodeWindlass_fmtCat]; simpa [decodeCat] using hself⟩
  case wTset p t ga gb k | wTseta p t ga gb k | wTclr p t gd k =>
    cases hw
    exact ⟨p, t, by simp [decodeWindlass, decodeTmr]⟩
  case wYld p t ga cond =>
    cases hw
    simp only [Instr.wf, Bool.and_eq_true, decide_eq_true_eq] at hwf
    exact ⟨p, t, by simp [decodeWindlass, decodeThr, hwf.2]⟩
  case wEnd p t | wDrop p t | wTrap p t =>
    cases hw
    exact ⟨p, t, by simp [decodeWindlass, decodeThr]⟩
  -- every other row has no word
  all_goals cases hw

/-- Settles O57: each row by its group, whose fields the word holds in their places. -/
theorem wordsOfRows : Obligations.WordsOfRows := by
  unfold Obligations.WordsOfRows
  exact decodeWindlass_of_windlassWord

/-! ### The row of every word -/

/-- Row i, of thread t of pump p, has the word w, and is well-formed where the pump and the thread exist. -/
structure RowOf (p t : Nat) (w : W32) (i : Instr) : Prop where
  word : windlassWord i = some w
  wf : threadWf p t = true → i.wf = true

section
variable {p t : Nat} {w : W32}

theorem RowOf.ill : RowOf p t w (.wIll p t w) := ⟨rfl, id⟩

/-- A check that a word fails leaves it ILL. -/
theorem RowOf.ite_ill {c : Prop} [Decidable c] {i : Instr} (h : c → RowOf p t w i) : RowOf p t w (if c then i else .wIll p t w) := by
  split
  · exact h ‹_›
  · exact .ill

theorem RowOf.ill_ite {c : Prop} [Decidable c] {i : Instr} (h : ¬ c → RowOf p t w i) : RowOf p t w (if c then .wIll p t w else i) := by
  split
  · exact .ill
  · exact h ‹_›

end

section
variable {w : W32} {op : BitVec 6} (hop : (w.extractLsb' 26 6).toNat = op.toNat)
include hop

theorem fmtA_of_opcode : fmtA op (w.extractLsb' 22 4) (w.extractLsb' 18 4) (w.extractLsb' 14 4) (w.extractLsb' 0 14) = w := by
  rw [← BitVec.eq_of_toNat_eq hop]
  exact (fmtA_fields w).symm

theorem fmtI_of_opcode : fmtI op (w.extractLsb' 22 4) (w.extractLsb' 18 4) (w.extractLsb' 0 18) = w := by
  rw [← BitVec.eq_of_toNat_eq hop]
  exact (fmtI_fields w).symm

theorem fmtQ_of_opcode :
    fmtQ op (w.extractLsb' 22 4) (w.extractLsb' 18 4) (w.extractLsb' 14 4) (w.extractLsb' 8 6) (w.extractLsb' 0 8) = w := by
  rw [← BitVec.eq_of_toNat_eq hop]
  exact (fmtQ_fields w).symm

end

theorem fmtAlu_of_fn {gd ga gb cond : BitVec 4} {oper : BitVec 6} {fn : BitVec 14} (hz : fn.extractLsb' 10 2 = 0#2)
    (hcond : fn.extractLsb' 6 4 = cond) (hoper : (fn.extractLsb' 0 6).toNat = oper.toNat) :
    fmtAlu oper gd ga gb ⟨fn.getLsbD 13, fn.getLsbD 12⟩ cond = fmtA 0x01#6 gd ga gb fn := by
  rw [fmtAlu, ← hcond, ← BitVec.eq_of_toNat_eq hoper, aluFn_fields fn hz]

section
variable {p t : Nat} {w : W32} {gd ga gb : BitVec 4}

theorem rowOf_decodeAlu {fn : BitVec 14} (hw : fmtA 0x01#6 gd ga gb fn = w) :
    RowOf p t w (decodeAlu p t gd ga gb fn (.wIll p t w)) := by
  have word : ∀ {oper cond}, fn.extractLsb' 10 2 = 0#2 → fn.extractLsb' 6 4 = cond → (fn.extractLsb' 0 6).toNat = oper.toNat →
      some (fmtAlu oper gd ga gb ⟨fn.getLsbD 13, fn.getLsbD 12⟩ cond) = some w :=
    fun hz hcond hoper => congrArg some ((fmtAlu_of_fn hz hcond hoper).trans hw)
  refine .ill_ite fun hz => ?_
  have hz := not_not.mp hz
  split
  next hoper =>
    exact .ill_ite fun hcond => ⟨word hz rfl (congrArg BitVec.toNat hoper), fun h => by simp [Instr.wf, h, hcond]⟩
  next =>
    refine .ill_ite fun hcond => ?_
    have hcond := not_not.mp hcond
    split
    case h_18 hoper | h_19 hoper | h_20 hoper | h_21 hoper =>
      exact .ite_ill fun hgb => ⟨by subst hgb; exact word hz hcond hoper, id⟩
    case h_24 => exact .ill
    all_goals exact ⟨word hz hcond ‹_›, id⟩

theorem rowOf_decodeWin {off : BitVec 8} {fn : BitVec 14}
    (hw : fmtW gd off (fn.extractLsb' 11 3) (fn.extractLsb' 7 4) (fn.extractLsb' 0 7) = w) :
    RowOf p t w (decodeWin p t gd off fn (.wIll p t w)) := by
  have word : ∀ {sub : BitVec 7}, (fn.extractLsb' 0 7).toNat = sub.toNat →
      some (fmtW gd off (fn.extractLsb' 11 3) (fn.extractLsb' 7 4) sub) = some w :=
    fun hsub => by rw [← BitVec.eq_of_toNat_eq hsub, hw]
  unfold decodeWin
  dsimp only
  split
  case h_5 => exact .ill
  all_goals exact ⟨word ‹_›, id⟩

section
variable {op sel : BitVec 6} {mod : BitVec 8}

/-- The word of format Q whose selector is known. -/
theorem fmtQ_of_sel {x : BitVec 6} (hw : fmtQ op gd ga gb sel mod = w) (hsel : sel.toNat = x.toNat) :
    some (fmtQ op gd ga gb x mod) = some w := by
  rw [← BitVec.eq_of_toNat_eq hsel, hw]

theorem rowOf_decodeChn (hw : fmtQ 0x30#6 gd ga gb sel mod = w) : RowOf p t w (decodeChn p t gd ga gb sel mod (.wIll p t w)) := by
  unfold decodeChn
  split
  case h_1 h | h_2 h => exact ⟨fmtQ_of_sel hw h, id⟩
  case h_3 h | h_4 h | h_6 h =>
    refine .ite_ill ?_
    rintro ⟨rfl, rfl⟩
    exact ⟨fmtQ_of_sel hw h, id⟩
  case h_5 h =>
    refine .ite_ill ?_
    rintro rfl
    exact ⟨fmtQ_of_sel hw h, id⟩
  case h_7 h =>
    refine .ite_ill ?_
    rintro ⟨rfl, rfl, rfl⟩
    exact ⟨fmtQ_of_sel hw h, id⟩
  case h_8 => exact .ill

theorem rowOf_decodeLkp (hw : fmtQ 0x31#6 gd ga gb sel mod = w) : RowOf p t w (decodeLkp p t gd ga gb sel mod (.wIll p t w)) := by
  refine .ill_ite fun hz => ?_
  rw [← lkpMod_all mod (not_not.mp hz)] at hw
  split
  case h_3 => exact .ill
  all_goals exact ⟨fmtQ_of_sel hw ‹_›, id⟩

theorem rowOf_decodeHsh (hw : fmtQ 0x32#6 gd ga gb sel mod = w) : RowOf p t w (decodeHsh p t gd ga gb sel mod (.wIll p t w)) := by
  unfold decodeHsh
  split
  case h_1 h =>
    refine .ite_ill ?_
    rintro rfl
    exact ⟨fmtQ_of_sel hw h, id⟩
  case h_2 h | h_3 h =>
    refine .ite_ill fun hz => ?_
    rw [← crcMod_all mod hz] at hw
    exact ⟨fmtQ_of_sel hw h, id⟩
  case h_4 => exact .ill

theorem rowOf_decodeEnq (hw : fmtQ 0x35#6 gd ga gb sel mod = w) : RowOf p t w (decodeEnq p t gd ga gb sel mod (.wIll p t w)) := by
  refine .ite_ill ?_
  rintro ⟨rfl, rfl, hz, hd⟩
  rw [← enqMod_all mod hz] at hw
  refine ⟨congrArg some hw, fun h => ?_⟩
  cases hm : mod.getLsbD 0 <;> simp_all [Instr.wf]

theorem rowOf_decodeFwd (hw : fmtQ 0x36#6 gd ga gb sel mod = w) : RowOf p t w (decodeFwd p t gd ga gb sel mod (.wIll p t w)) := by
  refine .ite_ill ?_
  rintro ⟨rfl, rfl, hz, hlow⟩
  have hlow : mod.getLsbD 1 = false ∧ mod.getLsbD 0 = false :=
    ⟨by simpa using congrArg (·.getLsbD 1) hlow, by simpa using congrArg (·.getLsbD 0) hlow⟩
  rw [← enqMod_all mod hz, hlow.1, hlow.2] at hw
  exact ⟨congrArg some hw, id⟩

theorem rowOf_decodeCat (hw : fmtQ 0x38#6 gd ga gb sel mod = w) : RowOf p t w (decodeCat p t gd ga gb sel mod (.wIll p t w)) := by
  refine .ill_ite fun hc => ?_
  obtain ⟨hz, hself⟩ := not_or.mp hc
  rw [← catMod_all mod (not_not.mp hz)] at hw
  have wf : threadWf p t = true → (threadWf p t && (!mod.getLsbD 3 || decide (ga = 0#4))) = true := by
    intro h
    cases hm : mod.getLsbD 3 <;> simp_all
  split
  case h_1 h =>
    refine .ite_ill ?_
    rintro rfl
    exact ⟨fmtQ_of_sel hw h, wf⟩
  case h_8 => exact .ill
  all_goals exact ⟨fmtQ_of_sel hw ‹_›, wf⟩

theorem rowOf_decodeTmr (hw : fmtQ 0x39#6 gd ga gb sel mod = w) : RowOf p t w (decodeTmr p t gd ga gb sel mod (.wIll p t w)) := by
  refine .ill_ite fun hz => ?_
  rw [← tmrMod_all mod (not_not.mp hz)] at hw
  split
  case h_1 h | h_2 h =>
    refine .ite_ill ?_
    rintro rfl
    exact ⟨fmtQ_of_sel hw h, id⟩
  case h_3 h =>
    refine .ite_ill ?_
    rintro ⟨rfl, rfl⟩
    exact ⟨fmtQ_of_sel hw h, id⟩
  case h_4 => exact .ill

theorem rowOf_decodeThr (hw : fmtQ 0x3A#6 gd ga gb sel mod = w) : RowOf p t w (decodeThr p t gd ga gb sel mod (.wIll p t w)) := by
  refine .ill_ite fun hregs => ?_
  obtain ⟨rfl, rfl⟩ : gd = 0#4 ∧ gb = 0#4 := by simpa using hregs
  split
  next hsel =>
    subst hsel
    refine .ite_ill fun ⟨hz, hcond⟩ => ?_
    rw [← tmrMod_all mod hz] at hw
    exact ⟨congrArg some hw, fun h => by simp [Instr.wf, h, hcond]⟩
  next =>
    refine .ill_ite fun hrest => ?_
    obtain ⟨rfl, rfl⟩ : ga = 0#4 ∧ mod = 0#8 := by simpa using hrest
    split
    case h_4 => exact .ill
    all_goals exact ⟨fmtQ_of_sel hw ‹_›, id⟩

end
end

/-- The word w is that of the row issued for it. -/
theorem rowOf_decodeWindlass (p t : Nat) (w : W32) : RowOf p t w (decodeWindlass p t w) := by
  unfold decodeWindlass
  dsimp only
  split
  case h_1 hop => exact rowOf_decodeAlu (fmtA_of_opcode hop)
  -- bit fields
  case h_2 hop =>
    refine .ite_ill fun ⟨hgb, hz⟩ => ⟨congrArg some ?_, id⟩
    rw [bitFn_fields _ hz, ← hgb]
    exact fmtA_of_opcode hop
  case h_3 hop =>
    refine .ite_ill fun ⟨hgb, hz⟩ => ⟨congrArg some ?_, id⟩
    have hbit : ∀ i, i < 2 → (w.extractLsb' 0 14).getLsbD i = false := fun i hi => by
      simpa [hi, show i < 14 by omega] using congrArg (·.getLsbD i) hz
    rw [← hbit 1 (by decide), bitFn_fields _ (hbit 0 (by decide)), ← hgb]
    exact fmtA_of_opcode hop
  -- immediates, branches and jumps
  case h_12 hop =>
    refine .ite_ill fun hgd => ⟨congrArg some ?_, id⟩
    rw [← hgd]
    exact fmtI_of_opcode hop
  case h_19 hop =>
    refine .ite_ill fun ⟨hga, hcond⟩ => ⟨congrArg some ?_, fun h => by simp [Instr.wf, h, hcond]⟩
    rw [← hga]
    exact fmtI_of_opcode hop
  case h_20 hop => exact ⟨congrArg some (jWord_fields w (BitVec.eq_of_toNat_eq hop)).symm, id⟩
  case h_21 hop =>
    refine .ite_ill fun hga => ⟨congrArg some ?_, id⟩
    rw [← hga]
    exact fmtI_of_opcode hop
  case h_22 hop =>
    refine .ite_ill fun ⟨hgb, hfn⟩ => ⟨congrArg some ?_, id⟩
    rw [← hgb, ← hfn]
    exact fmtA_of_opcode hop
  -- special registers
  case h_23 hop =>
    refine .ite_ill fun ⟨hga, hgb, hsel⟩ => ⟨congrArg some ?_, fun h => by
      simpa only [Instr.wf, h, Bool.true_and, decide_eq_true_eq] using hsel⟩
    have hw := fmtA_of_opcode (op := 0x1A#6) hop
    rwa [hga, hgb] at hw
  case h_24 hop =>
    refine .ite_ill fun ⟨hgd, hgb, hsel⟩ => ⟨congrArg some ?_, fun h => by simp [Instr.wf, h, hsel]⟩
    have hw := fmtA_of_opcode (op := 0x1B#6) hop
    rwa [hgd, hgb] at hw
  -- the packet window and the tunnel operations
  case h_36 hop => exact rowOf_decodeWin (fmtW_fields w (BitVec.eq_of_toNat_eq hop)).symm
  case h_37 hop => exact rowOf_decodeChn (fmtQ_of_opcode hop)
  case h_38 hop => exact rowOf_decodeLkp (fmtQ_of_opcode hop)
  case h_39 hop => exact rowOf_decodeHsh (fmtQ_of_opcode hop)
  case h_40 hop | h_41 hop | h_44 hop =>
    refine .ite_ill fun ⟨hsel, hmod⟩ => ⟨congrArg some ?_, id⟩
    rw [← hsel, ← hmod]
    exact fmtQ_of_opcode hop
  case h_42 hop => exact rowOf_decodeEnq (fmtQ_of_opcode hop)
  case h_43 hop => exact rowOf_decodeFwd (fmtQ_of_opcode hop)
  case h_45 hop => exact rowOf_decodeCat (fmtQ_of_opcode hop)
  case h_46 hop => exact rowOf_decodeTmr (fmtQ_of_opcode hop)
  case h_47 hop => exact rowOf_decodeThr (fmtQ_of_opcode hop)
  case h_48 => exact .ill
  -- the rows of format I that check no field
  all_goals exact ⟨congrArg some (fmtI_of_opcode ‹_›), id⟩

/-- Settles O58: each opcode's group gives back the fields of the word, and what it refuses is ILL with the word itself. -/
theorem rowOfEveryWord : Obligations.RowOfEveryWord := by
  unfold Obligations.RowOfEveryWord
  intro p t w
  obtain ⟨word, wf⟩ := rowOf_decodeWindlass p t w
  exact ⟨word, fun hp ht => wf (by simp [threadWf, hp, ht])⟩

end Sys2Proof.Machine
end

section
/-! PROOFS. The bytes of the tanks, AES-GCM, and the scheduler's choice (R139, R140, R250 to R252, R483, R485). -/
namespace Sys2Proof.Machine

/-! ### The tanks' bytes (R483, R485) -/

section
variable (s : State) (k : Nat) (m : List Host.Cell)

theorem State.tank_setTank_same : (s.setTank k m).tank k = m := by
  match k with
  | 0 | 1 | 2 | 3 | n + 4 => rfl

/-- The numbers from 4 up name one tank, the secure one. -/
theorem State.tank_setTank_other (j : Nat) (h : min j 4 ≠ min k 4) : (s.setTank k m).tank j = s.tank j := by
  match k, j with
  | 0, 0 | 1, 1 | 2, 2 | 3, 3 => exact absurd rfl h
  | n + 4, i + 4 => omega
  | 0, 1 | 0, 2 | 0, 3 | 0, i + 4 | 1, 0 | 1, 2 | 1, 3 | 1, i + 4 | 2, 0 | 2, 1 | 2, 3 | 2, i + 4 | 3, 0 | 3, 1 | 3, 2 | 3, i + 4
  | n + 4, 0 | n + 4, 1 | n + 4, 2 | n + 4, 3 => rfl

theorem State.setTank_get (f : Fld) : (s.setTank k m).get f = s.get f := by
  unfold State.setTank
  split <;> rfl

end

/-- Dropping entries by their addresses: those dropped read as never written. -/
theorem memGet_filter (q : Nat → Bool) (m : List Host.Cell) (x : Nat) :
    memGet (m.filter (fun c => q c.1)) x = if q x then memGet m x else 0#8 := by
  induction m with
  | nil => simp [memGet, assocGet]
  | cons c m ih =>
    obtain ⟨a, b⟩ := c
    simp only [memGet] at ih ⊢
    by_cases hx : x = a
    · subst hx
      cases hq : q x <;> simp [hq, assocGet, ih]
    · cases hq : q a <;> simp [hq, assocGet, ih, hx]

theorem memGet_memZero (m : List Host.Cell) (a n x : Nat) :
    memGet (memZero m a n) x = if a ≤ x ∧ x < a + n then 0#8 else memGet m x := by
  rw [memZero, memGet_filter (fun y => decide (y < a ∨ a + n ≤ y))]
  by_cases h : a ≤ x ∧ x < a + n
  · rw [if_pos h, if_neg (by simpa using h)]
  · rw [if_neg h, if_pos (by simp; omega)]

/-- Settles O60: a write of a tank by the laws of memories, and a zeroed range as the entries dropped. -/
theorem tankBytes : Obligations.TankBytes := by
  unfold Obligations.TankBytes
  refine ⟨?write, memGet_memZero⟩
  case write =>
    intro s k a d t
    have htank : t.tank k = memWrite (s.tank k) a d := s.tank_setTank_same k _
    refine ⟨?read, ?outside, s.tank_setTank_other k _, tankWrite_tanksWf s k a d, s.setTank_get k _⟩
    case read => rw [State.tankRead, htank, memRead_memWrite]
    case outside =>
      intro x hx
      rw [htank, memGet_memWrite_other _ _ _ _ hx]

/-! ### The lengths of AES-256's keys and blocks -/

theorem xorBytes_length (a b : Bytes) : (xorBytes a b).length = min a.length b.length := List.length_zipWith

/-- XOR with the same bytes twice gives the string back. -/
theorem xorBytes_twice (a b : Bytes) (h : a.length ≤ b.length) : xorBytes (xorBytes a b) b = a := by
  induction a generalizing b with
  | nil => rfl
  | cons x a ih =>
    cases b with
    | nil => simp at h
    | cons y b =>
      have hxy : (x ^^^ y) ^^^ y = x := by rw [BitVec.xor_assoc, BitVec.xor_self, BitVec.xor_zero]
      simp only [xorBytes, List.zipWith_cons_cons, hxy] at ih ⊢
      rw [ih b (by simpa using h)]

theorem chunks_length (n k : Nat) (l : Bytes) : (chunks n k l).length = k := by
  induction k generalizing l with
  | zero => rfl
  | succ k ih => simp [chunks, ih]

/-- The chunks of a string long enough for them are whole. -/
theorem length_of_mem_chunks (n k : Nat) (l : Bytes) (h : n * k ≤ l.length) : ∀ c, c ∈ chunks n k l → c.length = n := by
  induction k generalizing l with
  | zero => simp [chunks]
  | succ k ih =>
    rw [Nat.mul_succ] at h
    intro c hc
    rw [chunks, List.mem_cons] at hc
    rcases hc with rfl | hc
    · rw [List.length_take]
      omega
    · exact ih (l.drop n) (by rw [List.length_drop]; omega) c hc

/-- Each step of the key schedule adds a word of four bytes. -/
theorem aesExpand_lengths (n i : Nat) (rc : Byte) (ws : List Bytes) (h8 : 8 ≤ ws.length) (h4 : ∀ w, w ∈ ws → w.length = 4) :
    (aesExpand n i rc ws).length = n + ws.length ∧ ∀ w, w ∈ aesExpand n i rc ws → w.length = 4 := by
  induction n generalizing i rc ws with
  | zero => exact ⟨by simp [aesExpand], h4⟩
  | succ n ih =>
    have hhead : (ws.headD []).length = 4 := by
      cases ws with
      | nil => simp at h8
      | cons w ws => exact h4 w (by simp)
    have hold : (ws.getD 7 []).length = 4 := by
      rw [List.getD_eq_getElem _ _ (by omega)]
      exact h4 _ (List.getElem_mem _)
    have add : ∀ (i : Nat) (rc : Byte) (w : Bytes), w.length = 4 →
        (aesExpand n i rc (w :: ws)).length = n + 1 + ws.length ∧ ∀ x, x ∈ aesExpand n i rc (w :: ws) → x.length = 4 := by
      intro i rc w hw
      have := ih i rc (w :: ws) (by simp; omega) (by simpa using ⟨hw, h4⟩)
      rw [List.length_cons] at this
      exact ⟨by omega, this.2⟩
    simp only [aesExpand]
    generalize ws.headD [] = t at *
    generalize ws.getD 7 [] = old at *
    split
    · exact add _ _ _ (by simp [xorBytes_length, hold, hhead])
    · split
      · exact add _ _ _ (by simp [xorBytes_length, hold, hhead])
      · exact add _ _ _ (by simp [xorBytes_length, hold, hhead])

theorem length_flatten_of_all (n : Nat) (ws : List Bytes) (h : ∀ w, w ∈ ws → w.length = n) : ws.flatten.length = n * ws.length := by
  rw [List.length_flatten, List.map_congr_left h, List.map_const', List.sum_replicate]
  simp [Nat.mul_comm]

/-- A 32-byte key has fifteen round keys of sixteen bytes. -/
theorem aesKeys_lengths (key : Bytes) (h : key.length = 32) : (aesKeys key).length = 15 ∧ ∀ k, k ∈ aesKeys key → k.length = 16 := by
  obtain ⟨hlen, hword⟩ := aesExpand_lengths 52 8 1#8 (chunks 4 8 key).reverse (by simp [chunks_length])
    (fun w hw => length_of_mem_chunks 4 8 key (by omega) w (List.mem_reverse.mp hw))
  refine ⟨chunks_length _ _ _, length_of_mem_chunks 16 15 _ ?_⟩
  rw [length_flatten_of_all 4 _ (fun w hw => hword w (List.mem_reverse.mp hw)), List.length_reverse, hlen]
  simp [chunks_length]

theorem aesRounds_length (ks : List Bytes) (l : Bytes) (hne : ks ≠ []) (h : ∀ k, k ∈ ks → k.length = 16) :
    (aesRounds ks l).length = 16 := by
  induction ks generalizing l with
  | nil => exact absurd rfl hne
  | cons k ks ih =>
    cases ks with
    | nil => simp [aesRounds, xorBytes_length, shiftRows, h k]
    | cons k' ks => exact ih _ (by simp) (fun x hx => h x (List.mem_cons_of_mem _ hx))

/-- A block of AES-256 has sixteen bytes, whatever it was made from. -/
theorem aesEnc_length (key blk : Bytes) (h : key.length = 32) : (aesEnc (aesKeys key) blk).length = 16 := by
  obtain ⟨hlen, hkey⟩ := aesKeys_lengths key h
  refine aesRounds_length _ _ ?_ (fun k hk => hkey k (List.mem_of_mem_drop hk))
  intro hnil
  have := congrArg List.length hnil
  simp [hlen] at this

/-! ### Counter mode (R250, R252) -/

section
variable {keys : List Bytes} {iv : Bytes} (hblock : ∀ blk, (aesEnc keys blk).length = 16)
include hblock

theorem gcmStream_chunks_length (c k : Nat) (l : Bytes) (h : l.length ≤ 16 * k) :
    (gcmStream keys iv c (chunks 16 k l)).length = l.length := by
  induction k generalizing c l with
  | zero => rw [List.length_eq_zero_iff.mp (Nat.le_zero.mp h)]; rfl
  | succ k ih =>
    have hrest := ih (c + 1) (l.drop 16) (by rw [List.length_drop]; omega)
    simp only [chunks, gcmStream, List.length_append, hrest, xorBytes_length, hblock, List.length_take, List.length_drop]
    omega

/-- Passing the stream twice gives the bytes back. -/
theorem gcmStream_twice (c k : Nat) (l : Bytes) (h : l.length ≤ 16 * k) :
    gcmStream keys iv c (chunks 16 k (gcmStream keys iv c (chunks 16 k l))) = l := by
  induction k generalizing c l with
  | zero => rw [List.length_eq_zero_iff.mp (Nat.le_zero.mp h)]; rfl
  | succ k ih =>
    have hdrop : (l.drop 16).length ≤ 16 * k := by rw [List.length_drop]; omega
    have hrest := gcmStream_chunks_length (iv := iv) hblock (c + 1) k (l.drop 16) hdrop
    have hx : (xorBytes (l.take 16) (aesEnc keys (iv ++ beBytes 4 c))).length = min 16 l.length := by
      rw [xorBytes_length, hblock, List.length_take]
      omega
    have hxor := xorBytes_twice (l.take 16) (aesEnc keys (iv ++ beBytes 4 c)) (by rw [hblock, List.length_take]; omega)
    simp only [chunks, gcmStream]
    generalize hx' : xorBytes (l.take 16) (aesEnc keys (iv ++ beBytes 4 c)) = x at *
    generalize hr : gcmStream keys iv (c + 1) (chunks 16 k (l.drop 16)) = r at *
    have hsplit : (x ++ r).take 16 = x ∧ (x ++ r).drop 16 = r := by
      rw [List.length_drop] at hrest
      by_cases h16 : 16 ≤ l.length
      · have : x.length = 16 := by omega
        exact ⟨List.take_left' this, List.drop_left' this⟩
      · have : r = [] := List.length_eq_zero_iff.mp (by omega)
        subst this
        rw [List.append_nil]
        exact ⟨List.take_of_length_le (by omega), List.drop_of_length_le (by omega)⟩
    rw [hsplit.1, hsplit.2, hxor, ← hr, ih (c + 1) (l.drop 16) hdrop, List.take_append_drop]

end

theorem gcmSeal_length (key iv aad pt : Bytes) (h : key.length = 32) : (gcmSeal key iv aad pt).1.length = pt.length :=
  gcmStream_chunks_length (fun blk => aesEnc_length key blk h) 2 _ pt (by omega)

/-- The stream over the ciphertext's blocks gives the payload back. -/
theorem gcmStream_gcmSeal (key iv aad pt : Bytes) (h : key.length = 32) :
    gcmStream (aesKeys key) iv 2 (blocks16 (gcmSeal key iv aad pt).1) = pt := by
  rw [blocks16, gcmSeal_length key iv aad pt h]
  exact gcmStream_twice (fun blk => aesEnc_length key blk h) 2 _ pt (by omega)

theorem gcmOpen_eq (key iv aad ct tag : Bytes) :
    gcmOpen key iv aad ct tag =
      if gcmTag (aesKeys key) iv aad ct = tag then some (gcmStream (aesKeys key) iv 2 (blocks16 ct)) else none := rfl

theorem gcmSeal_tag (key iv aad pt : Bytes) : (gcmSeal key iv aad pt).2 = gcmTag (aesKeys key) iv aad (gcmSeal key iv aad pt).1 := by
  simp only [gcmSeal]

/-- Settles O59: the stream passes twice over the same blocks, and the tag compares with the one made from the ciphertext. -/
theorem openUndoesSeal : Obligations.OpenUndoesSeal := by
  unfold Obligations.OpenUndoesSeal
  intro key iv aad pt hkey
  rw [gcmOpen_eq, gcmStream_gcmSeal key iv aad pt hkey, if_pos (gcmSeal_tag key iv aad pt).symm]
  refine ⟨gcmSeal_length key iv aad pt hkey, rfl, fun tag htag => ?_⟩
  rw [gcmOpen_eq, if_neg]
  rw [← gcmSeal_tag]
  exact Ne.symm htag

/-! ### The scheduler's choice (R139, R140) -/

theorem leastTag_mem (tag : Nat → Nat) (l : List Nat) (n : Nat) (h : leastTag tag l = some n) : n ∈ l := by
  induction l generalizing n with
  | nil => cases h
  | cons a l ih =>
    simp only [leastTag] at h
    split at h
    next => cases h; exact List.mem_cons_self
    next m hm =>
      split at h
      · cases h; exact List.mem_cons_self
      · cases h; exact List.mem_cons_of_mem _ (ih _ hm)

theorem leastTag_eq_none (tag : Nat → Nat) (l : List Nat) : leastTag tag l = none ↔ l = [] := by
  cases l with
  | nil => exact iff_of_true rfl rfl
  | cons a l =>
    refine iff_of_false ?_ (List.cons_ne_nil a l)
    simp only [leastTag]
    split
    · exact Option.some_ne_none a
    · split <;> exact Option.some_ne_none _

/-- R140. The wells among which the finish tag decides: the sendable ones whose start tag has come, else those of the least one. -/
def State.eligibleWells (s : State) (key : Nat) (ok : State → Nat → Bool) : List Nat :=
  let l := (s.groupWells key).filter (ok s)
  let e := l.filter (fun n => tagLe (s.startTag n) (assocGet 0 s.cis.vtime key))
  if e.isEmpty then
    match leastTag s.startTag l with
    | some m => l.filter (fun n => s.startTag n == s.startTag m)
    | none => []
  else e

theorem State.chooseWell_eq (s : State) (key : Nat) (ok : State → Nat → Bool) :
    s.chooseWell key ok = leastTag s.finishTag (s.eligibleWells key ok) := rfl

theorem State.mem_groupWells (s : State) (key n : Nat) (h : n ∈ s.groupWells key) : s.inGroup key n = true ∧ (s.well n).q ≠ [] := by
  have := (List.mem_filter.mp h).2
  simpa using this

section
variable {s : State} {key : Nat} {ok : State → Nat → Bool}

/-- A well whose start tag has come leaves only such wells eligible. -/
theorem State.eligibleWells_of_come {m : Nat} (hm : m ∈ s.groupWells key) (hok : ok s m = true)
    (hcome : tagLe (s.startTag m) (assocGet 0 s.cis.vtime key) = true) :
    s.eligibleWells key ok =
      ((s.groupWells key).filter (ok s)).filter (fun n => tagLe (s.startTag n) (assocGet 0 s.cis.vtime key)) := by
  refine if_neg fun hempty => ?_
  have hmem := List.mem_filter (p := fun n => tagLe (s.startTag n) (assocGet 0 s.cis.vtime key)).mpr
    ⟨List.mem_filter.mpr ⟨hm, hok⟩, hcome⟩
  rw [List.isEmpty_iff.mp hempty] at hmem
  cases hmem

theorem State.sendable_of_eligible {n : Nat} (h : n ∈ s.eligibleWells key ok) : n ∈ (s.groupWells key).filter (ok s) := by
  simp only [State.eligibleWells] at h
  split at h
  · split at h
    · exact (List.mem_filter.mp h).1
    · cases h
  · exact (List.mem_filter.mp h).1

theorem State.eligibleWells_eq_nil : s.eligibleWells key ok = [] ↔ (s.groupWells key).filter (ok s) = [] := by
  constructor
  · intro h
    simp only [State.eligibleWells] at h
    split at h
    · split at h
      next m hm =>
        have hmem := List.mem_filter (p := fun n => s.startTag n == s.startTag m).mpr ⟨leastTag_mem _ _ _ hm, beq_self_eq_true _⟩
        rw [h] at hmem
        cases hmem
      next hm => exact (leastTag_eq_none _ _).mp hm
    next hne => exact absurd (List.isEmpty_iff.mpr h) hne
  · intro h
    simp [State.eligibleWells, h, leastTag]

end

/-- Settles O28: the choice is one of the eligible wells, and there is none exactly when no well is sendable. -/
theorem schedulerChoice : Obligations.SchedulerChoice := by
  unfold Obligations.SchedulerChoice
  intro s key ok
  rw [State.chooseWell_eq]
  refine ⟨fun n hn => ?chosen, ?none⟩
  case chosen =>
    have hmem := leastTag_mem _ _ _ hn
    obtain ⟨hgroup, hok⟩ := List.mem_filter.mp (State.sendable_of_eligible hmem)
    obtain ⟨hin, hq⟩ := s.mem_groupWells key n hgroup
    refine ⟨hin, hq, hok, ?_⟩
    rintro ⟨m, hm, hmok, hcome⟩
    rw [State.eligibleWells_of_come hm hmok hcome] at hmem
    exact (List.mem_filter.mp hmem).2
  case none =>
    rw [leastTag_eq_none, State.eligibleWells_eq_nil, List.filter_eq_nil_iff]
    simp

end Sys2Proof.Machine
end

section
/-! PROOFS. The step, the state after reset, and the accesses of registers (R10, R12 to R17, R305, R482). -/
namespace Sys2Proof.Machine

/-! ### The step -/

theorem step_of_front (s : State) (c : Instr) (rest : List Instr) (h : s.pending = c :: rest) :
    step s = exec c { s with pending := rest } := by
  rw [step, h]

theorem step_of_idle (s : State) (h : s.pending = []) : step s = .next s.idle := by
  rw [step, h]

/-- Settles O5, by the front of the queue. -/
theorem stepRunsFrontCommand : Obligations.StepRunsFrontCommand := by
  unfold Obligations.StepRunsFrontCommand
  exact fun c rest s => step_of_front { s with pending := c :: rest } c rest rfl

/-- One nanosecond of hub time while it runs, away from its last value. -/
theorem State.idle_eq (s : State) (h : s.hubTime + 1 < 2 ^ 64) :
    s.idle = ({ s with hubTime := if s.timeRuns then s.hubTime + 1 else s.hubTime } : State).vaultTick := by
  unfold State.idle
  by_cases hruns : s.timeRuns = true
  · rw [if_pos hruns, if_pos hruns, Nat.mod_eq_of_lt h]
  · rw [if_neg hruns, if_neg hruns]

/-- Settles O6: hub time passes, then the vault's clock within a second and at its end. -/
theorem idleStepPassesTime : Obligations.IdleStepPassesTime := by
  unfold Obligations.IdleStepPassesTime
  intro s hidle htime now
  rw [step_of_idle s hidle, s.idle_eq htime]
  refine ⟨fun hwithin => congrArg _ (if_pos hwithin), fun hfull => congrArg _ (if_neg (Nat.not_lt.mpr hfull))⟩

/-- Every byte of every tank is 0 after reset. -/
theorem memGet_reset (k a : Nat) : memGet (State.reset.tank k) a = 0#8 := by
  match k with
  | 0 | 1 | 2 | 3 | k + 4 => rfl

/-- Settles O7: the stores of the state right after reset are empty. -/
theorem resetState : Obligations.ResetState := by
  unfold Obligations.ResetState
  exact ⟨fun f => rfl, rfl, rfl, rfl, rfl, rfl, rfl, rfl, rfl, rfl, rfl, reset_tanksWf, memGet_reset⟩

/-- Settles O8: the meaning of each row is a next state, whatever its operands. -/
theorem everyCommandCompletes : Obligations.EveryCommandCompletes := by
  unfold Obligations.EveryCommandCompletes
  intro c s
  cases c <;> exact ⟨_, rfl⟩

/-! ### Register writes (R12, R15, R305) -/

theorem State.regWrite_word {s : State} (hfw : s.firmware = true) (sl : Nat) {a : Nat} (h4 : a % 4 = 0) (v : Nat) :
    s.regWrite sl a 4 v = if s.refuses sl a true then s.deny sl else s.write32 sl a (v % 2 ^ 32) := by
  simp [State.regWrite, hfw, h4]

theorem State.write32_absent {s : State} {a : Nat} (h : s.regPresent a = false) (sl v : Nat) : s.write32 sl a v = s := by
  simp [State.write32, h]

/-- Below the root ports' blocks a write reaches the register that the map has at the address. -/
theorem State.write32_low {s : State} {a : Nat} (hp : s.regPresent a = true) (ha : a < 0x10C00000) (sl v : Nat) :
    s.write32 sl a v =
      match findReg a with
      | some (base, ix, fs) => s.writeReg sl base ix fs v
      | none => s := by
  have hmsix : ¬ (0x11130000 ≤ a ∧ a < 0x11138100) := by omega
  have hconfig : ¬ (0x10C00000 ≤ a ∧ a < 0x10C20000 ∧ 0x8000 ≤ a % 0x10000) := by omega
  simp only [State.write32, hp, if_neg hmsix, if_neg hconfig]
  rfl

theorem State.write32_found {s : State} {a base : Nat} {ix : List Nat} {fs : List (Fld × Acc)} (hp : s.regPresent a = true)
    (ha : a < 0x10C00000) (h : findReg a = some (base, ix, fs)) (sl v : Nat) : s.write32 sl a v = s.writeReg sl base ix fs v := by
  rw [State.write32_low hp ha, h]

theorem State.write32_unassigned {s : State} {a : Nat} (ha : a < 0x10C00000) (h : findReg a = none) (sl v : Nat) :
    s.write32 sl a v = s := by
  cases hp : s.regPresent a with
  | false => exact State.write32_absent hp sl v
  | true => rw [State.write32_low hp ha, h]

/-- Settles O13: a word by its refusal, its presence and its place in the map, two halves, and the accesses with no effect. -/
theorem registerWriteRow : Obligations.RegisterWriteRow := by
  unfold Obligations.RegisterWriteRow
  intro s sl a v hfw hsl
  simp only [exec_registerWrite hsl]
  refine ⟨?found, ?refused, ?wide, ?unaligned, ?width, ?absent, ?unassigned⟩
  case found =>
    intro base ix fs h4 hperm hp ha hfound
    rw [State.regWrite_word hfw sl h4, hperm, State.write32_found hp ha hfound]
    rfl
  case refused =>
    intro h4 href
    rw [State.regWrite_word hfw sl h4, href]
    rfl
  case wide =>
    intro h8 hlow hhigh
    rw [State.regWrite_wide hfw sl h8, hlow, hhigh]
    rfl
  case unaligned =>
    intro h4
    rw [State.regWrite_misplaced s sl v.toNat (fun _ => h4) (fun h => absurd h (by decide))]
  case width =>
    intro width hne4 hne8
    rw [State.regWrite_misplaced s sl v.toNat (fun h => absurd h hne4) (fun h => absurd h hne8)]
  case absent =>
    intro h4 hperm hp
    rw [State.regWrite_word hfw sl h4, hperm, State.write32_absent hp]
    rfl
  case unassigned =>
    intro h4 hperm ha hnone
    rw [State.regWrite_word hfw sl h4, hperm, State.write32_unassigned ha hnone]
    rfl

/-- A row that writes one register, with operands that name it. -/
theorem State.rowWrite_eq {s : State} (hfw : s.firmware = true) {sl : Nat} (hsl : sl < 64) {there : Bool} (hthere : there = true)
    {a : Nat} (h4 : a % 4 = 0) (v : W32) :
    s.rowWrite there sl a v = .next (if s.refuses sl a true then s.deny sl else s.write32 sl a v.toNat) := by
  have hv : v.toNat % 2 ^ 32 = v.toNat := Nat.mod_eq_of_lt v.isLt
  rw [State.rowWrite, hthere, State.regWrite_word hfw sl h4, hv]
  simp [hsl]

/-- Settles O22: each row is the write of the register that its operands name, at a word's address. -/
theorem registerRows : Obligations.RegisterRows := by
  unfold Obligations.RegisterRows
  intro s sl v hfw hsl wr
  have row : ∀ {there : Bool} {a : Nat}, there = true → a % 4 = 0 → s.rowWrite there sl a v = .next (wr a) :=
    fun hthere h4 => State.rowWrite_eq hfw hsl hthere h4 v
  refine ⟨row rfl rfl, row rfl rfl, row rfl rfl, row rfl rfl, fun n h => row (decide_eq_true h) (by omega),
    fun n h => row (decide_eq_true h) (by omega), row rfl rfl, row rfl rfl, row rfl rfl,
    fun bank lanes slot hb h1 h4 hs => row (decide_eq_true ⟨hb, h1, h4, hs⟩) (by omega), row rfl rfl,
    fun n off hn hlo hhi h4 => row (decide_eq_true ⟨hn, hlo, hhi⟩) (by omega), fun n h => row (decide_eq_true h) (by omega),
    fun n h => row (decide_eq_true h) (by omega), fun n low h => row (decide_eq_true h) (by cases low <;> simp <;> omega),
    row rfl rfl, fun c h => row (decide_eq_true h) (by omega),
    fun c off hc ho h4 => row (decide_eq_true ⟨hc, ho⟩) (by omega),
    fun win word hw hd => row (decide_eq_true ⟨hw, hd⟩) (by omega), row rfl rfl,
    fun n off hn ho h4 => row (decide_eq_true ⟨hn, ho⟩) (by omega), row rfl rfl,
    fun vec h => row (decide_eq_true h) (by omega), fun i h => row (decide_eq_true h) (by omega),
    fun n h => row (decide_eq_true h) (by omega), fun n i hn hi => row (decide_eq_true ⟨hn, hi⟩) (by omega),
    fun n h => row (decide_eq_true h) (by omega), fun n h => row (decide_eq_true h) (by omega),
    fun n h => row (decide_eq_true h) (by omega), fun n h => row (decide_eq_true h) (by omega),
    fun k h => row (decide_eq_true h) (by omega), fun n h => row (decide_eq_true h) (by omega),
    fun k h => row (decide_eq_true h) (by omega), row rfl rfl, fun n h => row (decide_eq_true h) (by omega), row rfl rfl,
    fun l h => row (decide_eq_true h) (by omega), fun n h => row (decide_eq_true h) (by omega),
    fun p h1 h3 => row (decide_eq_true ⟨h1, h3⟩) (by omega), row rfl rfl, row rfl rfl, fun a => rfl, ?found⟩
  case found => exact fun a base ix fs hp ha hfound => State.write32_found hp ha hfound sl v.toNat

/-! ### Access codes (R14) -/

theorem clampNat_lt {lo hi v b : Nat} (hle : lo ≤ hi) (hb : hi < b) : clampNat lo hi v < b := by
  unfold clampNat
  repeat' split
  all_goals omega

theorem State.writeField_get_other (s : State) (v : Nat) (f g : Fld) (acc : Acc) (h : g.key ≠ f.key) :
    (s.writeField v (f, acc)).get g = s.get g := by
  cases acc with
  | rw | rwc _ _ | w1c | clr => exact s.get_put_other _ _ _ h
  | ro | w1s | wo => rfl

/-- Clearing the bits written 1. -/
theorem testBit_clear_ones (x y i : Nat) : (x ^^^ (x &&& y)).testBit i = (x.testBit i && !y.testBit i) := by
  rw [Nat.testBit_xor, Nat.testBit_and]
  cases x.testBit i <;> cases y.testBit i <;> rfl

/-- Settles O15: each code as the write it makes of its field. -/
theorem accessCodes : Obligations.AccessCodes := by
  unfold Obligations.AccessCodes
  intro s f v x
  refine ⟨?rw, ?rwc, ?w1c, rfl, fun base ix => rfl, fun acc g h => s.writeField_get_other v f g acc h⟩
  case rw => exact (s.get_put_same f x).trans (Nat.mod_eq_of_lt (Nat.mod_lt _ (Nat.two_pow_pos _)))
  case rwc =>
    intro lo hi hle hhi
    exact (s.get_put_same f _).trans (Nat.mod_eq_of_lt (clampNat_lt hle hhi))
  case w1c =>
    intro i hi
    have hput : (s.writeField v (f, .w1c)).get f = (s.get f ^^^ (s.get f &&& x)) % 2 ^ f.w := s.get_put_same f _
    rw [hput, Nat.testBit_mod_two_pow, testBit_clear_ones]
    simp [hi]

/-! ### The latch of hub time's high word (R13) -/

theorem findReg_hubTimeLow : findReg 0x10000010 = some (0x10000010, [], [(GLB_TIME_LO_TIME, .ro)]) := by decide +kernel

theorem findReg_hubTimeHigh : findReg 0x10000014 = some (0x10000014, [], [(GLB_TIME_HI_TIME, .ro)]) := by decide +kernel

section
variable (s : State)

theorem State.word_hubTimeLow : s.word 0x10000010 = s.hubTime % 2 ^ 32 := by
  simp [State.word, State.regPresent, State.legacyWord, findReg_hubTimeLow, State.fieldNow, injField, State.liveField, GLB_TIME_LO_TIME]

theorem State.word_hubTimeHigh : s.word 0x10000014 = s.hubTime / 2 ^ 32 % 2 ^ 32 := by
  simp [State.word, State.regPresent, State.legacyWord, findReg_hubTimeHigh, State.fieldNow, injField, State.liveField, GLB_TIME_HI_TIME]

/-- A read of hub time's low word latches the high word. -/
theorem State.read32_hubTimeLow (h : assocFind s.latch 0x10000010 = none) :
    s.read32 0x10000010 =
      (s.word 0x10000010, { s with latch := assocPut 0x10000014 (s.word 0x10000014) s.latch }) := by
  simp [State.read32, findReg_hubTimeLow, State.sense, h, lowWord, State.regPresent_low]

/-- The next read of the high word takes the latch. -/
theorem State.read32_hubTimeHigh {v : Nat} (h : assocFind s.latch 0x10000014 = some v) :
    s.read32 0x10000014 = (v, { s with latch := assocDel 0x10000014 s.latch }) := by
  simp [State.read32, findReg_hubTimeHigh, State.sense, h, lowWord]

theorem State.regRead_zero {a : Nat} (h4 : a % 4 = 0) : s.regRead 0 a 4 = s.read32 a := by
  simp [State.regRead, State.refuses, h4]

theorem State.senseAt_hubTimeLow : s.senseAt 0x10000010 = s := by
  simp [State.senseAt, findReg_hubTimeLow, State.sense]

end

/-- Settles O16: the low word's read, the high word's from the latch, and both at one instant. -/
theorem lowWordLatchRow : Obligations.LowWordLatchRow := by
  unfold Obligations.LowWordLatchRow
  refine ⟨?low, fun s v h => (s.regRead_zero rfl).trans (s.read32_hubTimeHigh h), ?both⟩
  case low =>
    intro s hfw hfree
    have hrow : exec (.lowWordReadLatch 0 0x10000010) s = .next (s.regRead 0 0x10000010 4).2 :=
      congrArg Host.Outcome.next (if_pos (by simp [hfw]))
    rw [hrow, s.regRead_zero rfl, s.read32_hubTimeLow hfree, s.word_hubTimeHigh]
  case both =>
    intro s
    rw [s.regRead_wide 0 rfl, s.senseAt_hubTimeLow]
    change (s.word 0x10000010 + 2 ^ 32 * s.word 0x10000014, s) = _
    rw [s.word_hubTimeLow, s.word_hubTimeHigh]

/-! ### Events (R18, R287) -/

theorem State.eventMsg_of_disabled (s : State) {code : Nat} (h : s.is (MSG_EVT_MAP_EN (code / 256) (code % 256)) = false)
    (inst payload : Nat) : s.eventMsg code inst payload = (none, s) := by
  simp [State.eventMsg, h]

/-- What the message of an event carries; making it changes nothing. -/
theorem State.eventMsg_some {s u : State} {code inst payload : Nat} {m : Msg} (h : s.eventMsg code inst payload = (some m, u)) :
    u = s ∧ m.event = code ∧ m.payload = payload ∧ m.hops = 0 ∧ m.entry ≤ 4095 := by
  simp only [State.eventMsg] at h
  split at h
  · generalize s.get (MSG_EVT_MAP_BASE (code / 256) (code % 256)) +
      (if s.is (MSG_EVT_MAP_INST (code / 256) (code % 256)) then inst else 0) = id at h
    split at h
    · cases h
    next hid =>
      cases h
      exact ⟨rfl, rfl, rfl, rfl, Nat.not_lt.mp hid⟩
  · cases h

/-- Settles O17: the map entry that is not enabled, the message with its place, and what routing leaves. -/
theorem raiseRecordsAndRoutes : Obligations.RaiseRecordsAndRoutes := by
  unfold Obligations.RaiseRecordsAndRoutes
  intro s code inst payload
  have hframe := EventOnly.raiseP s code inst payload
  refine ⟨?disabled, ?placed, hframe.tanks, ?pending, hframe.links,
    fun f hroute hfull => State.get_raiseP hroute hfull s code inst payload⟩
  case disabled =>
    intro h
    have hmsg := State.eventMsg_of_disabled (s.emit (.event code inst payload)) h inst payload
    rw [State.raiseP, State.routeEvent, hmsg]
    rfl
  case placed =>
    intro m u hmsg hplace
    obtain ⟨rfl, hm⟩ := State.eventMsg_some hmsg
    refine ⟨?_, hm⟩
    rw [State.raiseP, State.routeEvent, hmsg]
    exact if_neg (by simp [hplace])
  case pending => rw [hframe]

end Sys2Proof.Machine
end

section
/-! PROOFS. A request's acceptance, the response of a command, and the end of the executing command (R32 to R38). -/
namespace Sys2Proof.Machine

/-! ### The request reaches the controller (R33, R36) -/

section
variable {s : State} {c : BktCmd}

theorem reqData_key_ne_stat (ch i : Nat) (hi : i < 16) :
    (GLB_BKT_REQ_DATA ch i).key ≠ (GLB_BKT_STAT_BUSY ch).key ∧ (GLB_BKT_REQ_DATA ch i).key ≠ (GLB_BKT_STAT_DONE ch).key ∧
      (GLB_BKT_REQ_DATA ch i).key ≠ (GLB_BKT_STAT_LAST_SEQ ch).key := by
  simp only [Fld.key, GLB_BKT_REQ_DATA, GLB_BKT_STAT_BUSY, GLB_BKT_STAT_DONE, GLB_BKT_STAT_LAST_SEQ]
  omega

theorem stat_keys_ne (ch : Nat) : (GLB_BKT_STAT_DONE ch).key ≠ (GLB_BKT_STAT_BUSY ch).key ∧
    (GLB_BKT_STAT_LAST_SEQ ch).key ≠ (GLB_BKT_STAT_BUSY ch).key ∧ (GLB_BKT_STAT_LAST_SEQ ch).key ≠ (GLB_BKT_STAT_DONE ch).key := by
  simp only [Fld.key, GLB_BKT_STAT_BUSY, GLB_BKT_STAT_DONE, GLB_BKT_STAT_LAST_SEQ]
  omega

/-- The registers that an acceptance writes. -/
theorem State.accept_get_eq (s : State) (c : BktCmd) (f : Fld) : (s.accept c).get f =
    (((s.put (GLB_BKT_STAT_LAST_SEQ c.ch) c.seq).put (GLB_BKT_STAT_DONE c.ch) 0).put (GLB_BKT_STAT_BUSY c.ch) 1).get f := rfl

theorem State.accept_busy : (s.accept c).get (GLB_BKT_STAT_BUSY c.ch) = 1 := by
  rw [State.accept_get_eq, State.get_put_same]
  rfl

theorem State.accept_done : (s.accept c).get (GLB_BKT_STAT_DONE c.ch) = 0 := by
  rw [State.accept_get_eq, State.get_put_other _ _ _ _ (stat_keys_ne c.ch).1, State.get_put_same]
  rfl

theorem State.accept_lastSeq : (s.accept c).get (GLB_BKT_STAT_LAST_SEQ c.ch) = c.seq % 65536 := by
  obtain ⟨-, hbusy, hdone⟩ := stat_keys_ne c.ch
  rw [State.accept_get_eq, State.get_put_other _ _ _ _ hbusy, State.get_put_other _ _ _ _ hdone, State.get_put_same]
  rfl

theorem State.accept_reqData {i : Nat} (hi : i < 16) :
    (s.accept c).get (GLB_BKT_REQ_DATA c.ch i) = s.get (GLB_BKT_REQ_DATA c.ch i) := by
  obtain ⟨hbusy, hdone, hseq⟩ := reqData_key_ne_stat c.ch i hi
  rw [State.accept_get_eq, State.get_put_other _ _ _ _ hbusy, State.get_put_other _ _ _ _ hdone, State.get_put_other _ _ _ _ hseq]

/-- The request registers of the channel hold the words of the request. -/
theorem State.fillRequest_reqData (hidle : s.is (GLB_BKT_STAT_BUSY c.ch) = false) (b : Bytes) {i : Nat} (hi : i < 16) :
    (s.fillRequest c.ch b).get (GLB_BKT_REQ_DATA c.ch i) = leAt b (4 * i) 4 := by
  rw [State.fillRequest_eq _ _ _ hidle]
  exact State.putReqs_get s _ _ _ List.nodup_range (fun k hk => List.mem_range.mp hk) i (List.mem_range.mpr hi)

end

/-- Settles O11: the acceptance's own writes, then the request registers, then the registers outside the bucket. -/
theorem requestReachesController : Obligations.RequestReachesController := by
  unfold Obligations.RequestReachesController
  intro s c htakes hop
  obtain ⟨-, hseq, hargs, -, -, hch, hidle, -, -, hqueue⟩ := s.bktTakes_ready c htakes
  refine ⟨?queue, State.accept_busy, State.accept_done, State.accept_lastSeq.trans (Nat.mod_eq_of_lt hseq), ?request,
    fun f hf => s.accepted_get c f hidle hf hch⟩
  case queue =>
    rw [s.accepted_frame c hidle, hqueue]
    rfl
  case request =>
    intro i hi
    have hfit : fit 60 c.args = c.args := hargs ▸ fit_same c.args
    rw [State.accepted, State.accept_reqData hi, State.fillRequest_reqData hidle _ hi, requestBytes, hfit]

/-! ### A GO that is not taken (R32, R36, R38) -/

/-- Settles O12, by the tests of a GO in their order. -/
theorem goRefused : Obligations.GoRefused := by
  unfold Obligations.GoRefused
  intro s ch hfw hch
  refine ⟨fun hdry hbusy => ?busy, fun hdry => ?dry⟩
  case busy =>
    have hheld : (s.is (GLB_BKT_STAT_BUSY ch) || s.stepsRun ch) = true := by simpa using hbusy
    simp [State.bktGo, hfw, hdry, hch, hheld]
  case dry => simp [State.bktGo, hdry]

/-! ### The response (R33, R36) -/

section
variable {s : State} {c : BktCmd} {st : Nat} {res : Bytes}

/-- The end of a command as far as the controller's queue and the channel's BUSY go. -/
def State.leaveQueue (s : State) (c : BktCmd) : State :=
  ({ s with bkt := { s.bkt with queue := s.bkt.queue.drop 1, stage := .atEnd, discard := s.bkt.discard.filter (· != c.ch) } } :
    State).put (GLB_BKT_STAT_BUSY c.ch) 0

theorem State.writeRsp_frame (s : State) (c : BktCmd) (st : Nat) (res : Bytes) :
    s.writeRsp c st res = { s with regs := (s.writeRsp c st res).regs } :=
  State.puts_frame s _ _ _

theorem State.writeRsp_get_other (s : State) (c : BktCmd) (st : Nat) (res : Bytes) (f : Fld)
    (h : ∀ i, i < 16 → f.key ≠ (GLB_BKT_RSP_DATA c.ch i).key) : (s.writeRsp c st res).get f = s.get f :=
  State.puts_get_other s _ _ _ f (fun i hi => h i (List.mem_range.mp hi))

theorem rspData_key_ne (ch : Nat) {i j : Nat} (h : i ≠ j) : (GLB_BKT_RSP_DATA ch i).key ≠ (GLB_BKT_RSP_DATA ch j).key := by
  simp only [Fld.key, GLB_BKT_RSP_DATA]
  omega

/-- The words of a string written to the response registers read back. -/
theorem State.putRsp_get (s : State) (ch : Nat) (b : Bytes) {i : Nat} (hi : i < 16) :
    ((List.range 16).foldl (fun s i => s.put (GLB_BKT_RSP_DATA ch i) (leAt b (4 * i) 4)) s).get (GLB_BKT_RSP_DATA ch i) =
      leAt b (4 * i) 4 := by
  rw [State.puts_get s (GLB_BKT_RSP_DATA ch) (fun i => leAt b (4 * i) 4) _ List.nodup_range
    (fun i j _ _ hne => rspData_key_ne ch hne) i (List.mem_range.mpr hi)]
  exact Nat.mod_eq_of_lt (leAt4_lt b (4 * i))

/-- Each response register holds its word of the response. -/
theorem State.writeRsp_rspData (s : State) (c : BktCmd) (st : Nat) (res : Bytes) {i : Nat} (hi : i < 16) :
    (s.writeRsp c st res).get (GLB_BKT_RSP_DATA c.ch i) =
      leAt (leBytes 2 c.op ++ leBytes 2 c.seq ++ leBytes 1 st ++ zeros 3 ++ fit 56 res) (4 * i) 4 := by
  rw [State.writeRsp]
  exact State.putRsp_get s c.ch _ hi

theorem rspData_key_ne_stat (ch i : Nat) (hi : i < 16) :
    (GLB_BKT_RSP_DATA ch i).key ≠ (GLB_BKT_STAT_BUSY ch).key ∧ (GLB_BKT_RSP_DATA ch i).key ≠ (GLB_BKT_STAT_DONE ch).key ∧
      (GLB_BKT_RSP_DATA ch i).key ≠ (GLB_BKT_CTRL_IRQ_EN ch).key := by
  simp only [Fld.key, GLB_BKT_RSP_DATA, GLB_BKT_STAT_BUSY, GLB_BKT_STAT_DONE, GLB_BKT_CTRL_IRQ_EN]
  omega

theorem irqEn_key_ne_stat (ch : Nat) : (GLB_BKT_CTRL_IRQ_EN ch).key ≠ (GLB_BKT_STAT_DONE ch).key ∧
    (GLB_BKT_CTRL_IRQ_EN ch).key ≠ (GLB_BKT_STAT_BUSY ch).key := by
  simp only [Fld.key, GLB_BKT_STAT_BUSY, GLB_BKT_STAT_DONE, GLB_BKT_CTRL_IRQ_EN]
  omega

/-- A command that raises no event at its end leaves its response and DONE. -/
theorem State.finishCmd_quiet (hkept : s.bkt.discard.contains c.ch = false) (hirq : s.is (GLB_BKT_CTRL_IRQ_EN c.ch) = false)
    (hst : st ≠ 6) : s.finishCmd c st res = ((s.leaveQueue c).writeRsp c st res).put (GLB_BKT_STAT_DONE c.ch) 1 := by
  have hirq' : (((s.leaveQueue c).writeRsp c st res).put (GLB_BKT_STAT_DONE c.ch) 1).is (GLB_BKT_CTRL_IRQ_EN c.ch) = false := by
    obtain ⟨hdone, hbusy⟩ := irqEn_key_ne_stat c.ch
    rw [← hirq, State.is, State.get_put_other _ _ _ _ hdone,
      State.writeRsp_get_other _ _ _ _ _ (fun i hi => (rspData_key_ne_stat c.ch i hi).2.2.symm), State.leaveQueue,
      State.get_put_other _ _ _ _ hbusy]
    rfl
  simp only [State.leaveQueue] at hirq' ⊢
  simp only [State.finishCmd, hkept, hirq', if_neg hst, Bool.false_eq_true, if_false]

/-- Settles O10: the registers of the response, then DONE and BUSY, then what stays. -/
theorem responseWritten : Obligations.ResponseWritten := by
  unfold Obligations.ResponseWritten
  intro s c st res hch hkept hirq hst t
  have ht : t = ((s.leaveQueue c).writeRsp c st res).put (GLB_BKT_STAT_DONE c.ch) 1 := State.finishCmd_quiet hkept hirq hst
  have hframe : t = { s.leaveQueue c with regs := t.regs } := by
    rw [ht, State.writeRsp_frame]
    rfl
  refine ⟨?response, ?done, ?busy, by rw [hframe]; rfl, ?others, by rw [hframe]; rfl, by rw [hframe]; rfl, by rw [hframe]; rfl,
    by rw [hframe]; rfl⟩
  case response =>
    intro i hi
    rw [ht, State.get_put_other _ _ _ _ (rspData_key_ne_stat c.ch i hi).2.1, State.writeRsp_rspData _ _ _ _ hi]
  case done =>
    rw [ht, State.get_put_same]
    rfl
  case busy =>
    rw [ht, State.get_put_other _ _ _ _ (stat_keys_ne c.ch).1.symm,
      State.writeRsp_get_other _ _ _ _ _ (fun i hi => (rspData_key_ne_stat c.ch i hi).1.symm), State.leaveQueue, State.get_put_same]
    rfl
  case others =>
    intro f hf
    have hbusy : f.key ≠ (GLB_BKT_STAT_BUSY c.ch).key := by simp only [Fld.key, GLB_BKT_STAT_BUSY] at *; omega
    have hdone : f.key ≠ (GLB_BKT_STAT_DONE c.ch).key := by simp only [Fld.key, GLB_BKT_STAT_DONE] at *; omega
    have hrsp : ∀ i, i < 16 → f.key ≠ (GLB_BKT_RSP_DATA c.ch i).key := by
      intro i hi
      simp only [Fld.key, GLB_BKT_RSP_DATA] at *
      omega
    rw [ht, State.get_put_other _ _ _ _ hdone, State.writeRsp_get_other _ _ _ _ _ hrsp, State.leaveQueue,
      State.get_put_other _ _ _ _ hbusy]
    rfl

end

/-! ### BUCKET_COMPLETE (R36, R183) -/

section
variable {s u : State} {c : BktCmd} {q : List BktCmd} {io : BktIo} {st : Nat} {res : Bytes} (hfw : s.firmware = true)
  (hdry : s.power.dryEntry = false) (hq : s.bkt.queue = c :: q)
include hfw hdry hq

/-- A response that stands ready is written. -/
theorem exec_bucketComplete_ready (hstage : s.bkt.stage = .ready st res) :
    exec (.bucketComplete io) s = .next ((s.finishCmd c st res).afterCmd c st).startCmd := by
  change execBucketComplete io s = _
  simp [execBucketComplete, hfw, hdry, hq, hstage]

/-- A command whose unit answers ends with that answer. -/
theorem exec_bucketComplete_atEnd (hstage : s.bkt.stage = .atEnd) (hend : s.endCmd c io = (.ready st res, u)) :
    exec (.bucketComplete io) s = .next ((u.finishCmd c st res).afterCmd c st).startCmd := by
  change execBucketComplete io s = _
  simp [execBucketComplete, hfw, hdry, hq, hstage, hend]

/-- A command whose wait has come to its end has its response written. -/
theorem exec_bucketComplete_waited (hstage : s.bkt.stage = .waiting) (hend : s.endWait c io = (.ready st res, u)) :
    exec (.bucketComplete io) s = .next ((u.finishCmd c st res).afterCmd c st).startCmd := by
  change execBucketComplete io s = _
  simp [execBucketComplete, hfw, hdry, hq, hstage, hend]

omit hfw hdry hq in
/-- A stage held again changes nothing. -/
theorem staged_same {g : BktStage} (h : s.bkt.stage = g) : staged (g, s) = s := by
  subst h
  rfl

/-- A command that waits on goes on waiting. -/
theorem exec_bucketComplete_waits (hstage : s.bkt.stage = .waiting) (hend : s.endWait c io = (.waiting, s)) :
    exec (.bucketComplete io) s = .next s := by
  change execBucketComplete io s = _
  simp [execBucketComplete, hfw, hdry, hq, hstage, hend, staged_same hstage]

end

/-- Only three commands have something follow their response. -/
theorem State.afterCmd_other (s : State) (c : BktCmd) (st : Nat) (h : c.op ≠ 0x0101 ∧ c.op ≠ 0x1105 ∧ c.op ≠ 0x1202) :
    s.afterCmd c st = s := by
  obtain ⟨hwarm, hchange, hbist⟩ := h
  simp [State.afterCmd, hwarm, hchange, hbist]

/-- Settles O9: each stage of the executing command, by what its end answers. -/
theorem bucketCompleteRow : Obligations.BucketCompleteRow := by
  unfold Obligations.BucketCompleteRow
  intro s c q io hfw hdry hq
  refine ⟨fun st res hstage => exec_bucketComplete_ready hfw hdry hq hstage, ?oeRead, ?oeWrite, ?derive, ?waits, ?sending, ?gone⟩
  case oeRead =>
    intro b hstage hop hio
    rw [exec_bucketComplete_atEnd hfw hdry hq hstage (by rw [State.endCmd, hop, hio]; rfl), State.afterCmd_other _ _ _ (by simp [hop])]
  case oeWrite =>
    intro hstage hop hio
    rw [exec_bucketComplete_atEnd hfw hdry hq hstage (by rw [State.endCmd, hop, hio]; rfl), State.afterCmd_other _ _ _ (by simp [hop])]
  case derive =>
    intro key hstage hop htamper hkey hfree hgen
    have hend : s.endCmd c io = (.ready 0 [], s.writeSlot (c.byte 5) (c.le 8 4) (hmacSha256 key (deriveMsg c))) := by
      simp [State.endCmd, hop, endKeyDerive, htamper, hkey, hfree, hgen, answerOk]
    rw [exec_bucketComplete_atEnd hfw hdry hq hstage hend, State.afterCmd_other _ _ _ (by simp [hop])]
  case waits =>
    intro hstage hflush hio
    exact exec_bucketComplete_waits hfw hdry hq hstage (by simp [State.endWait, hflush, hio])
  case sending =>
    intro n k hstage hflush hsend
    exact exec_bucketComplete_waits hfw hdry hq hstage (by simp [State.endWait, hflush, hsend])
  case gone =>
    intro n k hstage hflush hgone
    exact exec_bucketComplete_waited hfw hdry hq hstage (by simp [State.endWait, hflush, hgone])

end Sys2Proof.Machine
end

section
/-! PROOFS. Bit fields and immediates, local memory and the packet window (R222, R223, R228, R230 to R233). -/
namespace Sys2Proof.Machine

/-! ### Immediates (R223) -/

/-- The flags of a difference without borrow (R220, R221). -/
theorem flagsOf_subFlags (a b : W64) : flagsOf (subFlags a b false) =
    ⟨(a - b).msb, a == b, decide (b.toNat ≤ a.toNat), decide (a.toInt - b.toInt < -(2 ^ 63) ∨ 2 ^ 63 ≤ a.toInt - b.toInt)⟩ := by
  have hzero : (a - b == 0#64) = (a == b) := by
    rw [Bool.eq_iff_iff, beq_iff_eq, beq_iff_eq]
    exact sub_eq_zero
  rw [subFlags_no_borrow (by decide), flagsOf]
  exact congrArg (fun z => (⟨_, z, _, _⟩ : Flags)) hzero

/-! ### Bit fields (R222) -/

theorem fieldWidth_pos (pos wm1 : BitVec 6) : 0 < fieldWidth pos wm1 := by
  have := pos.isLt
  unfold fieldWidth
  omega

theorem pos_add_fieldWidth_le (pos wm1 : BitVec 6) : pos.toNat + fieldWidth pos wm1 ≤ 64 := by
  have := pos.isLt
  unfold fieldWidth
  omega

theorem fieldOf_eq (a : W64) (pos w : Nat) (hw : 0 < w) : fieldOf a pos w = a.toNat / 2 ^ pos % 2 ^ w := by
  rw [fieldOf, bits, show pos + w - 1 + 1 - pos = w by omega]

/-- Bit i of the number with w ones from bit pos. -/
theorem testBit_mask (pos w i : Nat) : ((2 ^ w - 1) * 2 ^ pos).testBit i = decide (pos ≤ i ∧ i < pos + w) := by
  rw [Nat.testBit_mul_two_pow, Nat.testBit_two_pow_sub_one, Bool.decide_and]
  by_cases h : pos ≤ i
  · have : i - pos < w ↔ i < pos + w := by omega
    simp [h, this]
  · simp [h]

/-- BFI's result, bit by bit: the field takes the low bits of the source, and every other bit stays. -/
theorem getLsbD_insertField (g a : W64) (pos w i : Nat) (hi : i < 64) :
    let mask : W64 := BitVec.ofNat 64 ((2 ^ w - 1) * 2 ^ pos)
    ((g &&& ~~~mask) ||| ((a <<< pos) &&& mask)).getLsbD i =
      if pos ≤ i ∧ i < pos + w then a.getLsbD (i - pos) else g.getLsbD i := by
  intro mask
  have hmask : mask.getLsbD i = decide (pos ≤ i ∧ i < pos + w) := by
    rw [BitVec.getLsbD_ofNat, testBit_mask]
    simp [hi]
  rw [BitVec.getLsbD_or, BitVec.getLsbD_and, BitVec.getLsbD_and, BitVec.getLsbD_not, BitVec.getLsbD_shiftLeft, hmask]
  by_cases h : pos ≤ i ∧ i < pos + w
  · simp [h, hi, Nat.not_lt.mpr h.1]
  · simp [h, hi]

/-- Settles O33: each row by the value it writes; BFI bit by bit through its mask. -/
theorem windlassImmediates : Obligations.WindlassImmediates := by
  unfold Obligations.WindlassImmediates
  intro s p t gd ga imm
  refine ⟨exec_of_issues rfl rfl, exec_of_issues rfl rfl, exec_of_issues rfl rfl, exec_of_issues rfl rfl, exec_of_issues rfl rfl,
    exec_of_issues rfl rfl, exec_of_issues rfl rfl, exec_of_issues rfl rfl, ?cmpi, ?fields⟩
  case cmpi =>
    refine exec_of_issues rfl (congrArg Act.upd ?_)
    rw [flagsOf_subFlags, Thread.next, pcAdd_one]
  case fields =>
    intro pos wm1
    have hv := fieldOf_eq ((s.thread p t).reg ga) pos.toNat _ (fieldWidth_pos pos wm1)
    refine ⟨exec_of_issues rfl ?_, exec_of_issues rfl ?_, _, exec_of_issues rfl rfl, fun i hi => ?_⟩
    · exact congrArg (fun v => Act.upd ((s.thread p t).setReg gd (BitVec.ofNat 64 v)).next) hv
    · exact congrArg (fun v => Act.upd ((s.thread p t).setReg gd (BitVec.ofInt 64 (signed (fieldWidth pos wm1) v))).next) hv
    · exact getLsbD_insertField _ _ pos.toNat (fieldWidth pos wm1) i hi

/-! ### Loads and stores (R228) -/

/-- The clamped address, for an access of at most 0x800 bytes. -/
theorem localClamp_eq (x : BitVec 64) (n : Nat) (hn : n ≤ 0x800) :
    localClamp x n = if x.toInt < 0 then 0 else min x.toInt.toNat (0x800 - n) := by
  unfold localClamp clampInt
  split
  · rfl
  · split <;> omega

section
variable {s : State} {p t : Nat} {i : Instr} {gd ga : BitVec 4} {imm : BitVec 18} {n : Nat}

/-- A load from an aligned address writes what it reads. -/
theorem exec_load_aligned {sx : Bool} (hexec : exec i s = .next (loadOp i p t gd ga imm n sx s))
    (ha : (localAddr ((s.thread p t).reg ga) imm).toNat % n = 0) :
    let v := leNat (memRead (s.thread p t).mem (localClamp (localAddr ((s.thread p t).reg ga) imm) n) n)
    s.issues p t i = true →
      exec i s = .next (s.acts p t (.upd ((s.thread p t).setReg gd (if sx then sext64 n v else BitVec.ofNat 64 v)).next)) :=
  exec_of_issues hexec (if_neg (not_not.mpr ha))

/-- A load from an address that is no multiple of its size raises ALIGN. -/
theorem exec_load_misaligned {sx : Bool} (hexec : exec i s = .next (loadOp i p t gd ga imm n sx s))
    (ha : (localAddr ((s.thread p t).reg ga) imm).toNat % n ≠ 0) :
    s.issues p t i = true → exec i s = .next (s.acts p t (.trap 5)) :=
  exec_of_issues hexec (if_pos ha)

theorem exec_store_aligned (hexec : exec i s = .next (storeOp i p t gd ga imm n s))
    (ha : (localAddr ((s.thread p t).reg ga) imm).toNat % n = 0) :
    s.issues p t i = true →
      exec i s = .next (s.acts p t (.upd { s.thread p t with
        mem := memWrite (s.thread p t).mem (localClamp (localAddr ((s.thread p t).reg ga) imm) n)
          (leBytes n ((s.thread p t).reg gd).toNat) }.next)) :=
  exec_of_issues hexec (if_neg (not_not.mpr ha))

theorem exec_store_misaligned (hexec : exec i s = .next (storeOp i p t gd ga imm n s))
    (ha : (localAddr ((s.thread p t).reg ga) imm).toNat % n ≠ 0) :
    s.issues p t i = true → exec i s = .next (s.acts p t (.trap 5)) :=
  exec_of_issues hexec (if_pos ha)

end

/-- The bytes of local memory after the n low bytes of v are stored at a. -/
theorem memGet_store (m : List Host.Cell) (a n v : Nat) :
    (∀ k, k < n → memGet (memWrite m a (leBytes n v)) (a + k) = BitVec.ofNat 8 (v / 256 ^ k)) ∧
    ∀ b, b < a ∨ a + n ≤ b → memGet (memWrite m a (leBytes n v)) b = memGet m b := by
  refine ⟨fun k hk => ?_, fun b hb => memGet_memWrite_other _ _ _ _ (by rwa [leBytes_length])⟩
  have hlen : k < (leBytes n v).length := by rwa [leBytes_length]
  rw [memGet_memWrite _ _ _ _ hlen, leBytes_get]

/-- Settles O35: a load by the bytes it reads, a store by the memory it leaves, both at the clamped address. -/
theorem windlassLocal : Obligations.WindlassLocal := by
  unfold Obligations.WindlassLocal
  intro s p t gd ga imm th x at_ v load store sx
  have hload : ∀ (i : Instr) (n : Nat) (b : Bool), n ≤ 0x800 → exec i s = .next (loadOp i p t gd ga imm n b s) →
      load i n (if b then sx n else BitVec.ofNat 64 (v n)) := by
    intro i n b hn hexec
    have hat : localClamp x n = at_ n := localClamp_eq x n hn
    refine ⟨fun ha => ?_, exec_load_misaligned hexec⟩
    have h := exec_load_aligned hexec ha
    rw [show localClamp (localAddr ((s.thread p t).reg ga) imm) n = at_ n from hat] at h
    exact h
  have hstore : ∀ (i : Instr) (n : Nat), n ≤ 0x800 → exec i s = .next (storeOp i p t gd ga imm n s) → store i n := by
    intro i n hn hexec
    have hat : localClamp x n = at_ n := localClamp_eq x n hn
    refine ⟨exec_store_misaligned hexec, fun ha => ⟨_, exec_store_aligned hexec ha, ?_⟩⟩
    rw [show localClamp (localAddr ((s.thread p t).reg ga) imm) n = at_ n from hat]
    exact memGet_store th.mem (at_ n) n (th.reg gd).toNat
  exact ⟨hload _ 1 false (by decide) rfl, hload _ 2 false (by decide) rfl, hload _ 4 false (by decide) rfl,
    hload _ 8 false (by decide) rfl, hload _ 1 true (by decide) rfl, hload _ 2 true (by decide) rfl,
    hload _ 4 true (by decide) rfl, hstore _ 1 (by decide) rfl, hstore _ 2 (by decide) rfl, hstore _ 4 (by decide) rfl,
    hstore _ 8 (by decide) rfl⟩

/-! ### The packet window (R230 to R233) -/

theorem windowBytes_eq (size : BitVec 3) :
    windowBytes size = if size.toNat < 4 then size.toNat + 1 else if size = 4#3 then 6 else 8 := by
  revert size
  decide

theorem windowBytes_le (size : BitVec 3) : windowBytes size ≤ 8 := by
  revert size
  decide

theorem windowOffset_add_le (off : BitVec 8) (gx : W64) (size : BitVec 3) :
    windowOffset off gx (windowBytes size) + windowBytes size ≤ 256 := by
  have := windowBytes_le size
  unfold windowOffset
  omega

/-- The bytes of a frame after a WST of d at offset o of its window. -/
def windowed (data : Bytes) (o : Nat) (d : Bytes) : Bytes :=
  (overlay data 0 (windowStore (data.take 256) o d)).take data.length

theorem State.writeFrame_window (s : State) (id o : Nat) (d : Bytes) :
    s.writeFrame id 0 (windowStore (s.frame id).window o d) =
      (s.setFrame id { s.frame id with data := windowed (s.frame id).data o d }).storeFrame id := rfl

theorem overlay_length_ge (l : Bytes) (i : Nat) (d : Bytes) : l.length ≤ (overlay l i d).length := by
  simp [overlay, zeros]
  omega

theorem windowStore_length (win : Bytes) (o : Nat) (d : Bytes) : (windowStore win o d).length = win.length := by
  rw [windowStore, List.length_take, Nat.min_eq_left (overlay_length_ge win o d)]

theorem windowed_length (data : Bytes) (o : Nat) (d : Bytes) : (windowed data o d).length = data.length := by
  rw [windowed, List.length_take, Nat.min_eq_left (overlay_length_ge data 0 _)]

/-- A byte of the window after a store in it. -/
theorem windowStore_get (win : Bytes) (o k : Nat) (d : Bytes) (hk : k < win.length) :
    (windowStore win o d)[k]? = if o ≤ k ∧ k < o + d.length then d[k - o]? else win[k]? := by
  rw [windowStore, List.getElem?_take, if_pos hk, overlay_get, if_pos hk]
  by_cases ho : k < o
  · rw [if_pos ho, if_neg (by omega)]
  · by_cases hd : k < o + d.length
    · rw [if_neg ho, if_pos hd, if_pos (by omega)]
    · rw [if_neg ho, if_neg hd, if_neg (by omega)]

/-- A byte of the frame after a WST that ends within the window. -/
theorem windowed_get (data : Bytes) (o k : Nat) (d : Bytes) (hk : k < data.length) (hd : o + d.length ≤ 256) :
    (windowed data o d)[k]? = if o ≤ k ∧ k < o + d.length then d[k - o]? else data[k]? := by
  rw [windowed, List.getElem?_take, if_pos hk, overlay_get, if_neg (Nat.not_lt_zero k), windowStore_length,
    List.length_take]
  by_cases hw : k < 256
  · rw [if_pos (by omega), Nat.sub_zero, windowStore_get _ _ _ _ (by rw [List.length_take]; omega), List.getElem?_take, if_pos hw]
  · rw [if_neg (by omega), if_neg (by omega)]

/-- A byte of the frame after a WST of a number's n low bytes, most significant first. -/
theorem windowed_beBytes_getD (data : Bytes) (o n v k : Nat) (hk : k < data.length) (hn : o + n ≤ 256) :
    (windowed data o (beBytes n v)).getD k 0#8 =
      if o ≤ k ∧ k < o + n then BitVec.ofNat 8 (v / 256 ^ (o + n - 1 - k)) else data.getD k 0#8 := by
  have hlen : (beBytes n v).length = n := by rw [beBytes, List.length_reverse, leBytes_length]
  rw [List.getD_eq_getElem?_getD, windowed_get data o k _ hk (by omega), hlen]
  by_cases h : o ≤ k ∧ k < o + n
  · rw [if_pos h, if_pos h, beBytes_get n v (k - o) (by omega), show n - 1 - (k - o) = o + n - 1 - k by omega]
    rfl
  · rw [if_neg h, if_neg h, List.getD_eq_getElem?_getD]

/-- Settles O36: each row by the field at the clamped offset; WST by the bytes of the frame that it leaves. -/
theorem windlassWindow : Obligations.WindlassWindow := by
  unfold Obligations.WindlassWindow
  intro s p t gd gx off size
  rw [← windowBytes_eq]
  refine ⟨exec_of_issues rfl rfl, exec_of_issues rfl rfl, exec_of_issues rfl rfl, fun hnone => ?none, fun id hid => ?some⟩
  case none =>
    refine exec_of_issues rfl ?_
    rw [hnone]
  case some =>
    refine ⟨windowed (s.frame id).data (windowOffset off ((s.thread p t).reg gx) (windowBytes size))
      (beBytes (windowBytes size) ((s.thread p t).reg gd).toNat), exec_of_issues rfl ?_, windowed_length _ _ _, fun k hk => ?_⟩
    · rw [hid]
      exact congrArg (Act.eff · (s.thread p t).next) (s.writeFrame_window id _ _)
    · rw [windowed_length] at hk
      exact windowed_beBytes_getD _ _ _ _ k hk (windowOffset_add_le off _ size)

end Sys2Proof.Machine
end

section
/-! PROOFS. The tunnel operations as they issue (R235, R242 to R266). -/
namespace Sys2Proof.Machine

/-! ### Clamps and references -/

theorem clampNat_eq {lo hi : Nat} (h : lo ≤ hi) (v : Nat) : clampNat lo hi v = max lo (min v hi) := by
  unfold clampNat
  split
  · omega
  · split <;> omega

theorem localAt_eq (v : W64) {n : Nat} (hn : n ≤ 0x800) :
    localAt v n = if v.toInt < 0 then 0 else min v.toInt.toNat (0x800 - n) := localClamp_eq v n hn

/-- References that each pass raise no trap. -/
theorem refTrap_of_passed {l : List Nat} (h : ∀ x ∈ l, x = 0) : refTrap l = none := by
  have hfree : ∀ k : Nat, k ≠ 0 → l.contains k = false := by
    intro k hk
    rw [List.contains_eq_mem, decide_eq_false_iff_not]
    exact fun hmem => hk (h k hmem)
  rw [refTrap, hfree 2 (by decide), hfree 4 (by decide)]
  rfl

/-- The context that a placement names passes where the rule for its port does. -/
theorem State.refNamed_passed {s : State} {c q r : Nat} (hremote : q ≤ 3 → s.refRemote c r = 0) (hctx : q = 32 → s.refCtx c r = 0) :
    ∀ x ∈ s.refNamed c q r, x = 0 := by
  unfold State.refNamed
  intro x hx
  split at hx
  case isTrue h => exact (List.mem_singleton.mp hx).trans (hctx h)
  case isFalse =>
    split at hx
    case isTrue h => exact (List.mem_singleton.mp hx).trans (hremote h)
    case isFalse => exact absurd hx List.not_mem_nil

section
variable {s : State} {p t : Nat} {i : Instr} {op : LOp} {gd ga gb : BitVec 4}

/-! ### The segment chain (R200, R245) -/

theorem Frame.cutsAt_eq_false {f : Frame} {o n : Nat} (ho : o ≤ 16383) (hn : f.data.length ≤ 16384 ∨ o + n ≤ 16384) :
    f.cutsAt o n = false := by
  simp only [Frame.cutsAt, Frame.overLong, Bool.or_eq_false_iff, Bool.and_eq_false_iff, decide_eq_false_iff_not]
  omega

theorem Frame.cutsAt_eq_true {f : Frame} {o n : Nat} (ho : 16383 < o) : f.cutsAt o n = true := by
  simp [Frame.cutsAt, ho]

/-- FETCH or PUT within the longest chain is a long operation. -/
theorem exec_chainCopy {nm1 : BitVec 8} (hexec : exec i s = .next (chainCopy i op p t gd ga gb nm1 s))
    (h : (s.chain (s.thread p t)).cutsAt ((s.thread p t).reg ga).toNat (nm1.toNat + 1) = false) :
    s.issues p t i = true → exec i s = .next (s.acts p t (.long ⟨op, gd.toNat, 0, ((s.thread p t).reg ga).toNat,
      localAt ((s.thread p t).reg gb) (nm1.toNat + 1), nm1.toNat + 1⟩)) :=
  exec_of_issues hexec (if_neg (by rw [h]; exact Bool.false_ne_true))

/-- FETCH or PUT past the longest chain ends the dispatch (R200). -/
theorem exec_chainCopy_cut {nm1 : BitVec 8} (hexec : exec i s = .next (chainCopy i op p t gd ga gb nm1 s))
    (h : (s.chain (s.thread p t)).cutsAt ((s.thread p t).reg ga).toNat (nm1.toNat + 1) = true) :
    s.issues p t i = true → exec i s = .next (s.acts p t .cut) :=
  exec_of_issues hexec (if_pos h)

/-! ### Lookups (R247) -/

section
variable {k : BitVec 4} (hexec : exec i s = .next (lookupOp i op p t gd ga gb k s))
include hexec

theorem exec_lookup (hin : ((s.thread p t).reg gb).toNat + 64 * 2 ^ min k.toNat 12 ≤ 0x100000)
    (hpages : s.tablePages (s.thread p t).ctx ((s.thread p t).reg gb).toNat (64 * 2 ^ min k.toNat 12) = true)
    (halign : ((s.thread p t).reg gb).toNat % 64 = 0) :
    s.issues p t i = true → exec i s = .next (s.acts p t (.long ⟨op, gd.toNat, 0, ((s.thread p t).reg ga).toNat,
      ((s.thread p t).reg gb).toNat, min k.toNat 12⟩)) := by
  refine exec_of_issues hexec ((if_neg ?_).trans (if_neg (not_not.mpr halign)))
  rw [hpages]
  simpa using hin

theorem exec_lookup_rights (h : 0x100000 < ((s.thread p t).reg gb).toNat + 64 * 2 ^ min k.toNat 12 ∨
      s.tablePages (s.thread p t).ctx ((s.thread p t).reg gb).toNat (64 * 2 ^ min k.toNat 12) = false) :
    s.issues p t i = true → exec i s = .next (s.acts p t (.trap 4)) :=
  exec_of_issues hexec (if_pos (h.imp_right fun hp => by rw [hp]; rfl))

theorem exec_lookup_align (hin : ((s.thread p t).reg gb).toNat + 64 * 2 ^ min k.toNat 12 ≤ 0x100000)
    (hpages : s.tablePages (s.thread p t).ctx ((s.thread p t).reg gb).toNat (64 * 2 ^ min k.toNat 12) = true)
    (halign : ((s.thread p t).reg gb).toNat % 64 ≠ 0) :
    s.issues p t i = true → exec i s = .next (s.acts p t (.trap 5)) := by
  refine exec_of_issues hexec ((if_neg ?_).trans (if_pos halign))
  rw [hpages]
  simpa using hin

end

/-! ### SEAL and OPEN (R238, R250, R253) -/

section
variable {use : Nat} (hexec : exec i s = .next (cryptoOp i op use p t gd ga gb s))
  (hken : s.is (CTX_KEY_KEN (s.thread p t).ctx) = true)
  (href : s.refSlot (s.thread p t).ctx (s.get (CTX_KEY_SLOT (s.thread p t).ctx)) = 0)
  (halign : ((s.thread p t).reg ga).toNat % 4 = 0)
include hexec hken href halign

/-- SEAL or OPEN with a usable slot of its use, on a chain not too long for it. -/
theorem exec_crypto (husable : s.slotUsable (s.get (CTX_KEY_SLOT (s.thread p t).ctx)) = true)
    (huse : s.slotUse (s.get (CTX_KEY_SLOT (s.thread p t).ctx)) = use)
    (hlen : op = .seal → (s.chain (s.thread p t)).data.length ≤ 16368) :
    let len := (s.chain (s.thread p t)).data.length
    let r := sealRange ((s.thread p t).reg gb).toNat len (if op == .seal then 16368 - len else len)
    s.issues p t i = true → exec i s = .next (s.acts p t (.long ⟨op, gd.toNat, 0, localAt ((s.thread p t).reg ga) 12,
      r.1 + 2 ^ 16 * r.2.1 + 2 ^ 32 * r.2.2, s.get (CTX_KEY_SLOT (s.thread p t).ctx)⟩)) := by
  have hfits : (op == LOp.seal && decide (16368 < (s.chain (s.thread p t)).data.length)) = false := by
    rw [Bool.and_eq_false_imp]
    intro hop
    exact decide_eq_false (Nat.not_lt.mpr (hlen (eq_of_beq hop)))
  exact exec_of_issues hexec (by simp [hken, refTrap_of_passed, href, halign, husable, huse, hfits])

/-- SEAL or OPEN with a slot of another use raises CRYPTO. -/
theorem exec_crypto_use (huse : s.slotUse (s.get (CTX_KEY_SLOT (s.thread p t).ctx)) ≠ use) :
    s.issues p t i = true → exec i s = .next (s.acts p t (.trap 6)) :=
  exec_of_issues hexec (by simp [hken, refTrap_of_passed, href, halign, huse])

end

/-! ### Placements, messages and context atomics (R255 to R261) -/

theorem exec_enq {d l c : Bool} :
    let th := s.thread p t
    let b := (th.reg gb).toNat
    let n := if d then s.get (CTX_WELL_WELL th.ctx) else (th.reg ga).toNat
    let len := (s.chain th).data.length
    s.refWell th.ctx n = 0 → (∀ x ∈ s.refNamed th.ctx (s.get (WEL_CFG_PORT n)) (bits b 41 32), x = 0) →
    s.issues p t (.wEnq p t ga gb d l c) = true → exec (.wEnq p t ga gb d l c) s = .next (s.acts p t
      (.tail (.enq n (if l then max 1 (min (b % 65536) (max 1 len)) else 0) (bits b 41 32) (bits b 55 48) c))) := by
  intro th b n len hwell hnamed
  have href : refTrap (s.refWell th.ctx n ::
      (if n ≤ 511 then s.refNamed th.ctx (s.get (WEL_CFG_PORT n)) (bits b 41 32) else [])) = none := by
    refine refTrap_of_passed fun x hx => ?_
    rcases List.mem_cons.mp hx with rfl | hx
    · exact hwell
    · split at hx
      · exact hnamed x hx
      · exact absurd hx List.not_mem_nil
  refine exec_of_issues rfl ?_
  dsimp only
  rw [href, clampNat_eq (Nat.le_max_left 1 _)]

theorem exec_fwd {c : Bool} :
    let th := s.thread p t
    let port := (th.reg ga).toNat
    s.refPort th.ctx port = 0 → (∀ x ∈ s.refNamed th.ctx port (bits (th.reg gb).toNat 41 32), x = 0) →
    s.issues p t (.wFwd p t ga gb c) = true →
      exec (.wFwd p t ga gb c) s = .next (s.acts p t (.tail (.fwd port (th.reg gb).toNat c))) := by
  intro th port hport hnamed
  have href := refTrap_of_passed (List.forall_mem_cons.mpr ⟨hport, hnamed⟩)
  refine exec_of_issues rfl ?_
  dsimp only
  rw [href]

section
variable (href : s.refEntry (s.thread p t).ctx ((s.thread p t).reg ga).toNat = 0)
include href

theorem exec_msg (h : s.pumpMessages p < 64) :
    s.issues p t (.wMsg p t gd ga gb) = true → exec (.wMsg p t gd ga gb) s = .next (s.acts p t
      (.eff (s.queueMsg ⟨s.hubTime, 0, 0, ((s.thread p t).reg ga).toNat, 0, s.origin, none, ((s.thread p t).reg gb).toNat,
        ((s.thread p t).reg ga).toNat, some p⟩) ((s.thread p t).setReg gd 0#64).next)) :=
  exec_of_issues rfl (by simp [refTrap_of_passed, href, h])

theorem exec_msg_full (h : 64 ≤ s.pumpMessages p) :
    s.issues p t (.wMsg p t gd ga gb) = true → exec (.wMsg p t gd ga gb) s = .next (s.acts p t
      (.eff s.discardNote ((s.thread p t).setReg gd 1#64).next)) :=
  exec_of_issues rfl (by simp [refTrap_of_passed, href, Nat.not_lt.mpr h])

end

theorem exec_atomic {self : Bool} {w : BitVec 3} (hexec : exec i s = .next (atomicOp i op p t gd ga gb self w s))
    (href : self = true ∨ s.refCtx (s.thread p t).ctx ((s.thread p t).reg ga).toNat = 0) :
    s.issues p t i = true → exec i s = .next (s.acts p t (.long ⟨op, w.toNat, ((s.thread p t).reg gd).toNat,
      if self then (s.thread p t).ctx else ((s.thread p t).reg ga).toNat, ((s.thread p t).reg gb).toNat, gd.toNat⟩)) := by
  refine exec_of_issues hexec ?_
  cases self with
  | true => rfl
  | false =>
    have href : s.refCtx (s.thread p t).ctx ((s.thread p t).reg ga).toNat = 0 := href.resolve_left Bool.false_ne_true
    simp [refTrap_of_passed, href]

end

/-- Settles O37: each row by the lemma of its group, the clamps by what they give. -/
theorem windlassTunnel : Obligations.WindlassTunnel := by
  unfold Obligations.WindlassTunnel
  intro s p t gd ga gb th a b len row at_
  refine ⟨?chain, exec_of_issues rfl rfl, exec_of_issues rfl rfl, exec_of_issues rfl rfl, ?len, ?lookups, exec_of_issues rfl rfl,
    fun fin => ⟨exec_of_issues rfl rfl, exec_of_issues rfl rfl⟩, ?crypto, ?enq, ?fwd, ?fwdLink, ?fwdContext,
    exec_of_issues rfl rfl, exec_of_issues rfl rfl, fun href => ⟨exec_msg href, exec_msg_full href⟩, ?atomics, ?timers,
    exec_of_issues rfl rfl, ?yieldTime, exec_of_issues rfl rfl⟩
  case chain =>
    intro m n
    have hat : ∀ v : W64, localAt v n = at_ v n := fun v => localAt_eq v (by have := m.isLt; omega)
    refine ⟨fun ha hn => ?_, fun ha => ?_, ?_⟩
    · have hcut : (s.chain th).cutsAt a n = false := Frame.cutsAt_eq_false ha hn
      rw [← hat]
      exact ⟨exec_chainCopy rfl hcut, exec_chainCopy rfl hcut⟩
    · have hcut : (s.chain th).cutsAt a n = true := Frame.cutsAt_eq_true ha
      exact ⟨exec_chainCopy_cut rfl hcut, exec_chainCopy_cut rfl hcut⟩
    · rw [← hat]
      exact exec_of_issues rfl rfl
  case len =>
    refine exec_of_issues rfl (congrArg Act.upd ?_)
    rw [Thread.next, Thread.setReg_flg, Thread.setReg_pc, pcAdd_one]
  case lookups =>
    exact fun k => ⟨fun hin hpages halign => ⟨exec_lookup rfl hin hpages halign, exec_lookup rfl hin hpages halign⟩,
      fun h => ⟨exec_lookup_rights rfl h, exec_lookup_rights rfl h⟩,
      fun hin hpages halign => ⟨exec_lookup_align rfl hin hpages halign, exec_lookup_align rfl hin hpages halign⟩⟩
  case crypto =>
    intro k x y z hken href halign husable
    have hat : localAt (th.reg ga) 12 = at_ (th.reg ga) 12 := localAt_eq _ (by decide)
    refine ⟨fun huse hlen => ?_, fun huse => ?_, exec_crypto_use rfl hken href halign, exec_crypto_use rfl hken href halign⟩
    · have hz : min z (16368 - len) = min (b / 2 ^ 32 % 2 ^ 14) (min (len - x - y) (16368 - len)) := Nat.min_assoc ..
      rw [hz, ← hat]
      exact exec_crypto rfl hken href halign husable huse (fun _ => hlen)
    · have hz : z = min (b / 2 ^ 32 % 2 ^ 14) (min (len - x - y) len) := by omega
      rw [hz, ← hat]
      exact exec_crypto rfl hken href halign husable huse (by intro h; cases h)
  case enq =>
    intro d l c n hwell hremote hctx
    exact exec_enq hwell (State.refNamed_passed hremote hctx)
  case fwd =>
    intro c hport h3 h32
    exact exec_fwd hport (State.refNamed_passed (fun h => absurd h3 (Nat.not_lt.mpr h)) (fun h => absurd h h32))
  case fwdLink =>
    intro c h3 hport hremote
    exact exec_fwd hport (State.refNamed_passed (fun _ => hremote) (fun h : a = 32 => by omega))
  case fwdContext =>
    intro c h32 hport hctx
    exact exec_fwd hport (State.refNamed_passed (fun h : a ≤ 3 => by omega) (fun _ => hctx))
  case atomics =>
    intro self w c d cat href
    exact ⟨exec_atomic (gb := 0#4) rfl href, exec_atomic rfl href, exec_atomic rfl href, exec_atomic rfl href,
      exec_atomic rfl href, exec_atomic rfl href, exec_atomic rfl href⟩
  case timers =>
    intro k
    rw [← clampNat_eq (by decide), ← clampNat_eq (Nat.le_add_right _ _)]
    exact ⟨exec_of_issues rfl rfl, exec_of_issues rfl rfl, exec_of_issues rfl rfl⟩
  case yieldTime =>
    rw [← clampNat_eq (Nat.le_add_right _ _)]
    exact exec_of_issues rfl rfl

end Sys2Proof.Machine
end

section
/-! PROOFS. What a long operation does when it completes, and the rows of a pump's threads (R188, R189, R201, R242 to R252, R261, R264). -/
namespace Sys2Proof.Machine

/-! ### The effect of a long operation by its kind -/

section
variable {s : State} {th : Thread} {o : LongOp}

/-- A range that clamps to the chain at both its ends. -/
theorem min_sub_min (k len a : Nat) : min k (len - min a len) = min k (len - a) := by omega

theorem State.longEffect_fetch (h : o.op = .fetch) :
    let d := (s.chain th).data
    s.longEffect th o =
      (s, some (min o.k (d.length - o.a)), { th with mem := memWrite th.mem o.b (slice d o.a o.k) }) := by
  intro d
  rw [State.longEffect, h]
  dsimp only
  rw [min_sub_min]

theorem State.longEffect_put_none (h : o.op = .put) (hc : th.chain = none) : s.longEffect th o = (s, some 0, th) := by
  rw [State.longEffect, h, hc]

theorem State.chain_of_some {id : Nat} (hc : th.chain = some id) : s.chain th = s.frame id := by rw [State.chain, hc]

/-- The bytes of a frame after a PUT of d at offset i of it. -/
def putBytes (data : Bytes) (i : Nat) (d : Bytes) : Bytes := (overlay data i d).take data.length

theorem putBytes_length (data : Bytes) (i : Nat) (d : Bytes) : (putBytes data i d).length = data.length := by
  rw [putBytes, List.length_take, Nat.min_eq_left (overlay_length_ge data i d)]

theorem State.longEffect_put {id : Nat} (h : o.op = .put) (hc : th.chain = some id) :
    let d := (s.chain th).data
    let n := min o.k (d.length - o.a)
    s.longEffect th o = ((s.setFrame id { s.frame id with data := putBytes d o.a (memRead th.mem o.b n) }).storeFrame id,
      some n, th) := by
  rw [State.longEffect, h, hc, State.chain_of_some hc, min_sub_min]
  rfl

/-- A byte of the chain after a PUT of k bytes of local memory, as many as the chain has from there on. -/
theorem putBytes_getD (m : List Host.Cell) (data : Bytes) (i a k j : Nat) (hj : j < data.length) :
    (putBytes data i (memRead m a (min k (data.length - i)))).getD j 0#8 =
      if i ≤ j ∧ j < i + k then memGet m (a + (j - i)) else data.getD j 0#8 := by
  have hlen : (memRead m a (min k (data.length - i))).length = min k (data.length - i) := by simp [memRead]
  rw [List.getD_eq_getElem?_getD, List.getD_eq_getElem?_getD, putBytes, List.getElem?_take, if_pos hj, overlay_get, if_pos hj, hlen]
  by_cases h : i ≤ j ∧ j < i + k
  · rw [if_pos h, if_neg (by omega), if_pos (by omega)]
    simp [memRead, List.getElem?_range (show j - i < min k (data.length - i) by omega)]
  · rw [if_neg h]
    by_cases hi : j < i
    · rw [if_pos hi]
    · rw [if_neg hi, if_neg (by omega)]

theorem State.longEffect_trim {id : Nat} (h : o.op = .trim) (hc : th.chain = some id) :
    s.longEffect th o = (s.trimFrame id o.a, some ((s.chain th).data.length - o.a), th) := by rw [State.longEffect, h, hc]

theorem State.longEffect_cut {id : Nat} (h : o.op = .cut) (hc : th.chain = some id) :
    let len := (s.chain th).data.length
    s.longEffect th o = (s.cutFrame id (min o.a len), some (min o.a len), th) := by rw [State.longEffect, h, hc]

theorem State.longEffect_lookup (h : o.op = .lkpx ∨ o.op = .lkpd) :
    s.longEffect th o = (s, some ((s.lookup o).getD 0), { th with flg := { th.flg with z := (s.lookup o).isNone } }) := by
  rcases h with h | h
  · rw [State.longEffect, h]
  · rw [State.longEffect, h]

theorem State.lookup_direct (h : o.op = .lkpd) : s.lookup o =
    if s.tank1Le (o.b + 8 * min o.a (8 * 2 ^ o.k - 1)) 8 / 2 ^ 63 % 2 = 1 then
      some (s.tank1Le (o.b + 8 * min o.a (8 * 2 ^ o.k - 1)) 8 % 2 ^ 63) else none := by
  rw [State.lookup, h, if_neg (by decide)]
  simp only [bit, Nat.testBit_eq_decide_div_mod_eq, decide_eq_true_eq]

/-- An OPEN with no room for a tag, or with no chain, fails (R252). -/
theorem State.longEffect_unseal_fails (h : o.op = .unseal) (hd : (s.chain th).data.length < 16 ∨ th.chain = none) :
    s.longEffect th o = (s.slotFail o.k, some 1, { th with flg := { th.flg with z := false } }) := by
  rw [State.longEffect, h]
  rcases hd with hshort | hnone
  · have hlt : (s.chain th).data.length < o.range.1 + o.range.2.1 + o.range.2.2 + 16 := by omega
    simp only [hlt, if_true]
  · rw [hnone]
    dsimp only
    split
    case h_1 hsome => exact absurd hsome (by simp)
    case h_2 => rfl

end

/-- Settles O38: by the kind of the operation. -/
theorem tunnelResults : Obligations.TunnelResults := by
  unfold Obligations.TunnelResults
  intro s th o
  refine ⟨State.longEffect_fetch, State.longEffect_put_none, ?put, fun id => State.longEffect_trim, fun id => State.longEffect_cut,
    ?hit, ?miss, State.lookup_direct, ?crc32c, ?crc16, State.longEffect_unseal_fails, ?atomics⟩
  case put =>
    exact fun id h hc => ⟨_, State.longEffect_put h hc, putBytes_length _ _ _, fun i hi => putBytes_getD _ _ _ _ _ i hi⟩
  case hit =>
    intro h v hv
    rw [State.longEffect_lookup h, hv]
    rfl
  case miss =>
    intro h hv
    rw [State.longEffect_lookup h, hv]
    rfl
  case crc32c =>
    intro h
    rw [State.longEffect, h]
  case crc16 =>
    intro h
    rw [State.longEffect, h]
  case atomics =>
    obtain ⟨op, gd, d, a, b, k⟩ := o
    refine ⟨?cld, ?cst, ?cadd, ?cand, ?cor, ?ccas⟩
    case cst => rintro (rfl | rfl) <;> rfl
    all_goals
      rintro rfl
      rfl

/-! ### The rows of a thread -/

section
variable {s : State} {p t : Nat}

theorem exec_chainDispatch {e : Pend} (hrun : s.running = true) (hdry : s.power.dryEntry = false) (hp : p < s.nPumps) (ht : t < 32)
    (hidle : (s.thread p t).st = .idle) (he : s.nextChain p t = some e) :
    exec (.chainDispatch p t) s = .next (s.dispatch p t e).settle := by
  change execChainDispatch p t s = _
  simp [execChainDispatch, hrun, hdry, hp, ht, hidle, he]

theorem exec_chainDispatch_none (he : s.nextChain p t = none) : exec (.chainDispatch p t) s = .next s := by
  change execChainDispatch p t s = _
  simp [execChainDispatch, he]

/-- The chain that a thread takes is pending and eligible, and of the urgent ones where there is one (R201). -/
theorem State.nextChain_spec {e : Pend} (he : s.nextChain p t = some e) :
    e ∈ s.pumps.pend ∧ s.eligible p t e = true ∧
      ((∃ d, d ∈ s.pumps.pend ∧ s.eligible p t d = true ∧ s.is (CTX_CFG_PRI d.ctx) = true) → s.is (CTX_CFG_PRI e.ctx) = true) := by
  unfold State.nextChain at he
  dsimp only at he
  split at he
  case h_1 f fs hpri =>
    cases he
    have hmem : e ∈ (s.pumps.pend.filter (s.eligible p t)).filter (fun e => s.is (CTX_CFG_PRI e.ctx)) := by
      rw [hpri]
      exact List.mem_cons_self
    obtain ⟨hl, hurgent⟩ := List.mem_filter.mp hmem
    obtain ⟨hpend, helig⟩ := List.mem_filter.mp hl
    exact ⟨hpend, helig, fun _ => hurgent⟩
  case h_2 hpri =>
    obtain ⟨hpend, helig⟩ := List.mem_filter.mp (List.mem_of_mem_head? he)
    refine ⟨hpend, helig, ?_⟩
    rintro ⟨d, hd, hde, hurgent⟩
    have hlist := List.mem_filter (p := s.eligible p t).mpr ⟨hd, hde⟩
    have hnone := (List.filter_eq_nil_iff.mp hpri) d hlist
    exact absurd hurgent hnone

/-- The hub after line l is filled for thread t of pump p (R189). -/
def State.lineFilled (s : State) (p t l : Nat) : State :=
  { s with pumps := { s.pumps with
      icache := assocSet [] p (((l :: (assocGet [] s.pumps.icache p).erase l)).take 256) s.pumps.icache } }.setThread p t
    { s.thread p t with st := .ready, waiting := none }

theorem exec_icacheFillDone {l : Nat} (hrun : s.running = true) (hst : (s.thread p t).st = .wait)
    (hw : (s.thread p t).waiting = some (.fill l)) : exec (.icacheFillDone p t) s = .next (s.lineFilled p t l) := by
  change execIcacheFillDone p t s = _
  simp only [execIcacheFillDone, hst, hw, hrun, if_true]
  rfl

section
variable {o : LongOp} (hst : (s.thread p t).st = .wait) (hw : (s.thread p t).waiting = some (.long o))
include hst hw

theorem exec_longOperationDone : exec (.longOperationDone p t) s = .next
    (if s.running && s.longReady (s.thread p t) o && s.engineHas p t o then
      (if s.longCut (s.thread p t) o then (s.sumpOverLong p t).stopThread p t 5 else s.longDone p t o).settle
    else s) := by
  change execLongOperationDone p t s = _
  simp only [execLongOperationDone, hst, hw]

theorem exec_longOperationDone_ready (hrun : s.running = true) (hready : s.longReady (s.thread p t) o = true)
    (heng : s.engineHas p t o = true) : exec (.longOperationDone p t) s = .next
      (if s.longCut (s.thread p t) o then (s.sumpOverLong p t).stopThread p t 5 else s.longDone p t o).settle := by
  rw [exec_longOperationDone hst hw, hrun, hready, heng]
  rfl

theorem exec_longOperationDone_waits (h : s.longReady (s.thread p t) o = false ∨ s.engineHas p t o = false) :
    exec (.longOperationDone p t) s = .next s := by
  rw [exec_longOperationDone hst hw]
  rcases h with h | h
  · simp [h]
  · simp [h]

end

theorem exec_parkTimeReached (hrun : s.running = true) (hst : (s.thread p t).st = .park) (hpark : (s.thread p t).park = 1)
    (htime : (s.thread p t).parkTime ≤ s.hubTime) :
    exec (.parkTimeReached p t) s = .next (s.setThread p t { s.thread p t with st := .ready }) := by
  change execParkTimeReached p t s = _
  simp [execParkTimeReached, hrun, hst, hpark, htime]

theorem exec_parkTimeReached_early (htime : s.hubTime < (s.thread p t).parkTime) : exec (.parkTimeReached p t) s = .next s := by
  change execParkTimeReached p t s = _
  simp [execParkTimeReached, Nat.not_le.mpr htime]

end

theorem exec_contextTimerExpiry {s : State} {c k : Nat} {tm : Timer} (hrun : s.running = true) (hk : k < 4)
    (hfind : assocFind s.pumps.timers (c * 4 + k) = some tm) (htime : tm.time ≤ s.hubTime) :
    exec (.contextTimerExpiry c k) s = .next (s.timerFires (c * 4 + k) tm.arg).settle := by
  change execContextTimerExpiry c k s = _
  simp [execContextTimerExpiry, hfind, hrun, hk, htime]

theorem exec_contextTimerExpiry_none {s : State} {c k : Nat} (hfind : assocFind s.pumps.timers (c * 4 + k) = none) :
    exec (.contextTimerExpiry c k) s = .next s := by
  change execContextTimerExpiry c k s = _
  simp [execContextTimerExpiry, hfind]

/-- Settles O30: each row by its lemma. -/
theorem threadRows : Obligations.ThreadRows := by
  unfold Obligations.ThreadRows
  refine ⟨fun s p t e => exec_chainDispatch, fun s p t _ => exec_chainDispatch_none, fun s p t e => State.nextChain_spec, ?fill, ?long,
    fun s p t o => exec_longOperationDone_waits, fun s p t => exec_parkTimeReached, fun s p t => exec_parkTimeReached_early,
    ?timer, fun s c k => exec_contextTimerExpiry_none⟩
  case fill =>
    exact fun s p t l hrun hst hw => ⟨s.lineFilled p t l, exec_icacheFillDone hrun hst hw, rfl, rfl, rfl, rfl, rfl, rfl⟩
  case long =>
    intro s p t o hrun hst hw hready heng
    rw [exec_longOperationDone_ready hst hw hrun hready heng]
    refine ⟨fun h => ?_, fun h => ?_⟩
    · rw [h, if_neg Bool.false_ne_true]
    · rw [h, if_pos rfl]
  case timer =>
    intro s c k tm hrun hk hfind htime u r
    rw [exec_contextTimerExpiry hrun hk hfind htime, State.timerFires, show (c * 4 + k) / 4 = c by omega]

end Sys2Proof.Machine
end

section
/-! PROOFS. Start-up, power failure, the watchdog, what outlasts a reset, Dry, the oscillator trim, gating and lost clocks (R499 to R519, R532 to R536). -/
namespace Sys2Proof.Machine

/-! ### The rows of start-up -/

theorem bitList_zero (n : Nat) : bitList 0 n = [] := by simp [bitList]

/-- The root PLL's lock goes on to step 4 where the start-up is not cold or the fuses name no sector for BIST. -/
theorem exec_rootPllLock {s : State} (hphase : s.power.phase = .pll) (h : s.power.cold = false ∨ s.fuses.bistSectors = 0) :
    exec .rootPllLock s =
      .next (((s.put CLK_PLL_STAT_ROOT_LOCK 1).put CLK_PLL_STAT_REFCLK_OK 1).put CLK_PLL_STAT_SERDES_LOCK 0x1F).beginLoad := by
  change execRootPllLock s = _
  rw [execRootPllLock, if_pos hphase]
  rcases h with h | h
  · simp [h]
  · simp [h, bitList_zero]

/-- Settles O1: each row under the guard of its clause. -/
theorem startUpRows : Obligations.StartUpRows := by
  unfold Obligations.StartUpRows
  refine ⟨?release, fun s => exec_rootPllLock, ?noImage, ?image, ?stepSix, fun s => rfl, ?fail, ?restore, ?watchdog⟩
  case release => exact fun s st h => congrArg Host.Outcome.next (if_pos h)
  case noImage =>
    intro s a b hphase hnone
    change execFirmwareAuthenticated a b s = _
    rw [execFirmwareAuthenticated, if_pos hphase, hnone]
  case image =>
    intro s a b k i hphase hsome
    change execFirmwareAuthenticated a b s = _
    rw [execFirmwareAuthenticated, if_pos hphase, hsome]
  case stepSix => exact fun s hphase hlive => congrArg Host.Outcome.next (if_pos ⟨hphase, hlive⟩)
  case fail =>
    intro s hup hdry
    change execPowerFail s = _
    rw [execPowerFail, if_pos (by rw [hup, hdry]; rfl)]
  case restore => exact fun s st h => congrArg Host.Outcome.next (if_pos h)
  case watchdog =>
    intro s hfw hdry
    change execWatchdogExpiry s = _
    rw [execWatchdogExpiry, if_pos (by rw [hfw, hdry]; rfl)]

/-! ### What outlasts a reset (R516, R517) -/

/-- Dropping entries by their keys: those dropped read as never written. -/
theorem assocGet_filter {α : Type} (d : α) (q : Nat → Bool) (l : List (Nat × α)) (k : Nat) :
    assocGet d (l.filter (fun e => q e.1)) k = if q k then assocGet d l k else d := by
  induction l with
  | nil => simp [assocGet]
  | cons e l ih =>
    obtain ⟨a, v⟩ := e
    by_cases hk : k = a
    · subst hk
      cases hq : q k <;> simp [hq, assocGet, ih]
    · cases hq : q a <;> simp [hq, assocGet, ih, hk]

/-- A register of a state that kept only the registers that q takes. -/
theorem State.get_of_regs_filter {s t : State} {q : Nat → Bool} (h : t.regs = s.regs.filter (fun e => q e.1)) (f : Fld) :
    t.get f = f.rst ∨ (q f.key = true ∧ t.get f = s.get f) := by
  rw [State.get, h, assocGet_filter]
  cases hq : q f.key with
  | true => exact .inr ⟨rfl, rfl⟩
  | false => exact .inl rfl

/-- The retired cells change the cistern and its count of free cells, and nothing else. -/
theorem State.keepRetired_frame (s : State) (l : List Nat) :
    s.keepRetired l = { s with cis := (s.keepRetired l).cis, regs := (s.keepRetired l).regs } := by
  unfold State.keepRetired
  split <;> rfl

theorem State.keepRetired_retired (s : State) (l : List Nat) (h : s.cis.retired = []) : (s.keepRetired l).cis.retired = l := by
  unfold State.keepRetired
  split
  case isTrue hl => rw [h, List.isEmpty_iff.mp hl]
  case isFalse => rfl

theorem State.keepRetired_get (s : State) (l : List Nat) (f : Fld) (h : f.key ≠ WEL_CIS_STAT_FREE_CELLS.key) :
    (s.keepRetired l).get f = s.get f := by
  unfold State.keepRetired
  split
  · rfl
  · exact State.get_put_other _ _ _ _ h

/-- The state that a warm reset starts from, before it writes its own registers and keeps the retired cells. -/
def State.warmBase (s : State) (cause : Nat) : State :=
  { State.reset with
    pending := s.pending, outs := s.outs, free := s.free, limited := s.limited, hubTime := s.hubTime,
    timeRuns := s.timeRuns, fuses := s.fuses, vault := { s.vault with change := none }, tanks := s.tanks,
    regs := s.regs.filter (fun e => keptWarm e.1 || (cause == 3 && keptBist e.1)),
    spouts := s.spouts.map (fun (e : Nat × Spout) => (e.1, { e.2 with samTx := 0, samOut := 0 })), hsw := s.hsw,
    trunk := { lastRate := s.trunk.lastRate },
    ladder := { seq := s.ladder.seq, haltTime := s.ladder.haltTime, haltSeq := s.ladder.haltSeq },
    power := { s.power with
      phase := .pll, cold := false, epLink := false, clockStopped := false,
      atStep6 := s.power.atStep6 ++ [(0x0104, cause)] } }

theorem State.warmReset_eq (s : State) (cause : Nat) : s.warmReset cause =
    ((((s.warmBase cause).bump CLK_RST_CAUSE_RESETS).put CLK_RST_CAUSE_LAST cause).put SEC_STAT_LC
      (s.warmBase cause).lifecycle).keepRetired s.cis.retired := rfl

/-- A register of the hub after a warm, watchdog or forced reset. -/
theorem State.warmReset_get (s : State) (cause : Nat) (f : Fld) (hresets : f.key ≠ CLK_RST_CAUSE_RESETS.key)
    (hlast : f.key ≠ CLK_RST_CAUSE_LAST.key) (hlc : f.key ≠ SEC_STAT_LC.key) (hfree : f.key ≠ WEL_CIS_STAT_FREE_CELLS.key) :
    (s.warmReset cause).get f = (s.warmBase cause).get f := by
  rw [State.warmReset_eq, State.keepRetired_get _ _ _ hfree, State.get_put_other _ _ _ _ hlc, State.get_put_other _ _ _ _ hlast,
    State.get_bump_other _ hresets]

/-- Settles O2: the fields of the state that each reset builds, and its registers through the filter that keeps them. -/
theorem resetSurvivals : Obligations.ResetSurvivals := by
  unfold Obligations.ResetSurvivals
  intro s
  refine ⟨⟨rfl, rfl, rfl, rfl, rfl, rfl, rfl, rfl, fun f => State.get_of_regs_filter rfl f⟩, fun cause => ?_⟩
  have hfield : ∀ {β : Type} (g : State → β), (∀ (t : State) c r, g { t with cis := c, regs := r } = g t) →
      g (s.warmReset cause) = g (s.warmBase cause) := by
    intro β g hg
    rw [State.warmReset_eq, State.keepRetired_frame, hg]
    exact hg (s.warmBase cause) (s.warmBase cause).cis _
  refine ⟨hfield State.tanks (fun _ _ _ => rfl), hfield State.hubTime (fun _ _ _ => rfl), hfield State.timeRuns (fun _ _ _ => rfl),
    hfield State.spouts (fun _ _ _ => rfl), hfield State.hsw (fun _ _ _ => rfl), hfield State.fuses (fun _ _ _ => rfl),
    hfield State.pending (fun _ _ _ => rfl), hfield (fun t => t.power.phase) (fun _ _ _ => rfl), hfield State.bkt (fun _ _ _ => rfl),
    hfield State.links (fun _ _ _ => rfl), hfield (fun t => t.power.atStep6) (fun _ _ _ => rfl),
    State.keepRetired_retired _ _ rfl, fun f hresets hlast hlc hfree => ?_⟩
  rw [State.warmReset_get s cause f hresets hlast hlc hfree]
  have h := State.get_of_regs_filter (s := s) (t := s.warmBase cause) (q := fun k => keptWarm k || (cause == 3 && keptBist k)) rfl f
  simpa using h

/-! ### Dry and the oscillator trim (R506 to R512) -/

theorem State.is_of_get {s : State} {f : Fld} (h : s.get f = 1) : s.is f = true := by
  rw [State.is, h]
  rfl

/-- Settles O3: each row under the guard of its clause. -/
theorem dryRows : Obligations.DryRows := by
  unfold Obligations.DryRows
  refine ⟨?discharge, ?wakeInDry, ?wakeAtEntry, ?wake, ?trim, ?noTrim⟩
  case discharge => exact fun s h => congrArg Host.Outcome.next (if_pos h)
  case wakeInDry =>
    intro s src hphase hentry hen hnone
    change execWakeSource src s = _
    simp [execWakeSource, hphase, hentry, hen, hnone]
  case wakeAtEntry =>
    intro s src hentry hen hnone hphase
    change execWakeSource src s = _
    simp [execWakeSource, hentry, hen, hnone, hphase]
  case wake => exact fun s st sec hphase hwake => congrArg Host.Outcome.next (if_pos ⟨hphase, hwake⟩)
  case trim =>
    intro s e hclk he
    change execLpoTrim e s = _
    simp only [execLpoTrim, State.is_of_get hclk, he, if_true]
    rfl
  case noTrim =>
    intro s e hclk he
    change execLpoTrim e s = _
    simp only [execLpoTrim, State.is_of_get hclk, Nat.not_le.mpr he, if_true, if_false]

/-! ### Gating, lost clocks, the flash copy and the dock endpoint (R502, R503, R513, R518, R532, R533, R536) -/

/-- Settles O4: each row under the guard of its clause. -/
theorem clockRows : Obligations.ClockRows := by
  unfold Obligations.ClockRows
  refine ⟨?gate, ?wake, ?pll, ?refclk, ?flash, ?leave, ?hold, ?link, ?linkDown⟩
  case gate =>
    intro s d hrun hdrowse hd hkeep hidle
    change execDomainIdleGate d s = _
    simp only [execDomainIdleGate, hrun, hdrowse, hd, hkeep, hidle, decide_true, Bool.not_false, Bool.and_self, if_true]
  case wake =>
    intro s d hd hgated
    change execDomainWakeDone d s = _
    simp only [execDomainWakeDone, hd, hgated, decide_true, Bool.and_self, if_true]
  case pll =>
    intro s i hlive hi hlock
    change execPllLockLost i s = _
    simp only [execPllLockLost, hlive, hi, hlock, decide_true, Bool.and_self, if_true, State.pllLost]
  case refclk =>
    intro s hup hlock hroot
    change execRefclkLost false s = _ ∧ execRefclkLost true s = _
    simp [execRefclkLost, State.clockLost, hup, hlock, hroot]
  case flash =>
    intro s b1 hhalted hcopy hcopied hfail
    change execFlashCopyDone true b1 s = _ ∧ execFlashCopyDone false false s = _
    simp [execFlashCopyDone, hhalted, hcopy, hcopied, hfail]
  case leave =>
    intro s hup hdock
    change execEndpointReset false s = _
    simp [execEndpointReset, hup, hdock]
  case hold =>
    intro s hup hdock hwait hup'
    change execEndpointReset true s = _
    simp [execEndpointReset, hup, hdock, hwait, hup']
  case link =>
    intro s r w hlive hdock
    change (_ → _ → execEndpointLinkChange (some (r, w)) s = _) ∧ (_ → execEndpointLinkChange (some (r, w)) s = _)
    refine ⟨fun hheld hspeed => ?_, fun h => ?_⟩
    · simp [execEndpointLinkChange, hlive, hdock, hheld, hspeed]
    · rcases h with h | h
      · simp [execEndpointLinkChange, h]
      · simp [execEndpointLinkChange, h]
  case linkDown =>
    intro s hlive hdock hlink
    change execEndpointLinkChange none s = _
    simp [execEndpointLinkChange, hlive, hdock, hlink, State.endpointDown]

end Sys2Proof.Machine
end

section
/-! PROOFS. The bucket commands whose checks pass: of the hub, the transport, pages and slices, and the vault (R34, R40, R80 to R544). -/
namespace Sys2Proof.Machine

/-! ### A command on a channel that can take it (R36, R37) -/

/-- No check fails (R37). -/
theorem State.bktCheck_passed {s : State} {c : BktCmd} (hbound : s.bound c.ch = true) :
    s.bktCheck c false false false false false = 0 := by
  simp [State.bktCheck, hbound]

theorem bktRun_zero (s : State) (f : State → BktStage × State) : bktRun 0 s f = f s := rfl

/-- A row on a channel that can take it leaves what its command makes of the accepted state. -/
theorem exec_bucket {s : State} {c : BktCmd} {i : Instr} {op : Nat} {x : BktStage × State} (f : BktCmd → State → BktStage × State)
    (htakes : s.bktTakes c = true) (hop : c.op = op) (hexec : exec i s = .next (s.bktSubmit c.ch op c.seq c.args))
    (hf : bktTable op = some f) (hlt : op < 65536 ∧ op ≠ 0x0100) (hcmd : f c (s.accepted c) = x) :
    exec i s = .next (staged x) := by
  subst hop
  rw [hexec, s.submit_runs c f htakes hlt.1 hf hlt.2, hcmd]

/-- CLK_DRY_ENTER answers as soon as its steps are done (R508). -/
theorem exec_dryEnter {s : State} {c : BktCmd} (htakes : s.bktTakes c = true) (hop : c.op = 0x0100) (hch : c.ch = 0)
    (hchange : (s.accepted c).vault.change = none) (hreset : (s.accepted c).anyReset = false) :
    exec (.clkDryEnter c.ch c.seq c.args) s = .next ((s.accepted c).enterDry.finishCmd c 0 []) := by
  have hsubmit := s.submit_starts c cmdDryEnter htakes (hop ▸ by decide) (hop ▸ rfl)
  have hrun : cmdDryEnter c (s.accepted c) = (.ready 0 [], (s.accepted c).enterDry) :=
    by simp [cmdDryEnter, hch, hchange, hreset, State.bktCheck_passed (s.accepted_bound c htakes), bktRun_zero, answerOk]
  have hexec : exec (.clkDryEnter c.ch c.seq c.args) s = .next (s.bktSubmit c.ch c.op c.seq c.args) := by
    rw [hop]
    rfl
  rw [hexec, hsubmit, hrun, State.started, if_pos ⟨hop, rfl⟩]

/-! ### The hub, its power and its faults (R34, R40, R82, R497 to R544) -/

/-- Settles O18: each row's command passes its checks on the accepted state. -/
theorem bucketHubRows : Obligations.BucketHubRows := by
  unfold Obligations.BucketHubRows
  intro s c htakes
  have hb := State.bktCheck_passed (s.accepted_bound c htakes)
  have hrow := fun {i op x} f => @exec_bucket s c i op x f htakes
  have hdry := exec_dryEnter htakes
  generalize s.accepted c = a at hb hrow hdry ⊢
  refine ⟨?echo, ?info, ?tnkInfo, hdry, ?warm, ?oeRead, ?oeWrite, ?recover, ?rearm, ?bist, ?thaw⟩
  case echo => exact fun hop => hrow cmdEcho hop rfl rfl (by decide) (by rw [cmdEcho, hb, bktRun_zero, answerOk])
  case info => exact fun hop => hrow cmdFwInfo hop rfl rfl (by decide) (by rw [cmdFwInfo, hb, bktRun_zero, answerOk])
  case tnkInfo =>
    intro hop hch hclear
    exact hrow cmdTnkInfo hop rfl rfl (by decide) (by simp [cmdTnkInfo, bktRun_zero, answerOk, hb, hch, hclear])
  case warm =>
    intro hop hch hchange
    exact hrow cmdWarmReset hop rfl rfl (by decide) (by simp [cmdWarmReset, bktRun_zero, answer, hb, hch, hchange])
  case oeRead =>
    intro hop hch hdev hmin hmax
    have hlen : ¬ c.byte 6 < 1 ∧ ¬ 32 < c.byte 6 ∧ ¬ 127 < c.byte 4 := by omega
    exact hrow cmdOeRead hop rfl rfl (by decide) (by simp [cmdOeRead, State.oeCheck, bktRun_zero, hb, hch, hlen])
  case oeWrite =>
    intro hop hch hdev hmin hmax
    have hlen : ¬ c.byte 6 < 1 ∧ ¬ 32 < c.byte 6 ∧ ¬ 127 < c.byte 4 := by omega
    exact hrow cmdOeWrite hop rfl rfl (by decide) (by simp [cmdOeWrite, State.oeCheck, bktRun_zero, hb, hch, hlen])
  case recover =>
    intro hop hch hdet hmem habsent hheld hports
    refine hrow cmdFltRecover hop rfl rfl (by decide) ?_
    simp [cmdFltRecover, bktRun_zero, answerOk, hb, hch, habsent, hmem, hdet, hheld, hports]
  case rearm =>
    intro hop hch hin hchat
    exact hrow cmdInputRearm hop rfl rfl (by decide)
      (by simp [cmdInputRearm, bktRun_zero, answerOk, hb, hch, Nat.not_lt.mpr hin, hchat])
  case bist =>
    intro hop hch heven hmax hsect hlc1 hlc2 hchange hreset
    refine hrow cmdBistRun hop rfl rfl (by decide) ?_
    simp [cmdBistRun, bktRun_zero, answer, hb, hch, heven, Nat.not_le.mpr hmax, hsect, beq_eq_false_iff_ne.mpr hlc1,
      beq_eq_false_iff_ne.mpr hlc2, hchange, hreset]
  case thaw =>
    intro hop hch hfrozen
    exact hrow cmdLogThaw hop rfl rfl (by decide) (by simp [cmdLogThaw, bktRun_zero, answerOk, hb, hch, hfrozen])

/-! ### The transport (R80, R131, R134, R149, R183, R294, R340, R444, R451) -/

/-- Settles O19: each row's command passes its checks on the accepted state. -/
theorem bucketTransportRows : Obligations.BucketTransportRows := by
  unfold Obligations.BucketTransportRows
  intro s c htakes
  have hb := State.bktCheck_passed (s.accepted_bound c htakes)
  have hrow := fun {i op x} f => @exec_bucket s c i op x f htakes
  generalize s.accepted c = a at hb hrow ⊢
  refine ⟨?readmit, ?commit, ?swap, ?profile, ?groupSwap, ?groupInfo, ?flush, ?rtSet, ?rtGet, ?mode, ?hardReset, ?discRead⟩
  case readmit =>
    intro hop hch hdir hlane hup hnone hrx htx
    have hserved : (if c.byte 4 = 0 then a.is (TRK_LANE_STAT_IN_SVC (c.byte 5))
        else bit (a.get TRK_PRIME_STAT_TX_LANES) (c.byte 5)) = false := by
      split
      case isTrue h => exact hrx h
      case isFalse h => exact htx (by omega)
    have hbad : ¬ (1 < c.byte 4 ∨ 3 < c.byte 5) := by omega
    exact hrow cmdLaneReadmit hop rfl rfl (by decide)
      (by simp only [cmdLaneReadmit, hserved, hbad, hch, hup, hnone]; exact congrArg (bktRun · a _) hb)
  case commit =>
    intro hop hch hmax hbank harmed hbits k hk
    rw [hk]
    refine hrow cmdCalCommit hop rfl rfl (by decide) ?_
    have hcheck : a.bktCheck c false (decide (1 < c.byte 4)) (c.ch != 0) (c.byte 4 == a.bankInUse || a.is ALT_CAL_STAT_SWAP_ARMED)
        false = 0 := by
      simp [hch, Nat.not_lt.mpr hmax, beq_eq_false_iff_ne.mpr hbank, harmed, hb]
    have hbit : bit 1 (1 - 1) = true ∧ bit 1 (2 - 1) = false ∧ bit 1 (3 - 1) = false ∧ bit 1 (4 - 1) = false := by decide
    obtain ⟨h1, h2, h3, h4⟩ := hbit
    simp only [cmdCalCommit, hcheck, bktRun_zero, answerOk, hbits, List.map_cons, List.map_nil, List.foldl_cons, List.foldl_nil,
      h1, h2, h3, h4, if_true, if_false, Bool.false_eq_true, List.getD_cons_zero, List.getD_cons_succ, Nat.sub_self]
  case swap =>
    intro hop hch hnow hup harmed hprofile hvalid hnone hfall
    refine hrow cmdSwap hop rfl rfl (by decide) ?_
    simp [cmdSwap, bktRun_zero, answerOk, hb, hch, hnow, hup, harmed, beq_eq_false_iff_ne.mpr hprofile, hvalid, hnone, hfall]
  case profile =>
    intro hop hch hmax hnone hcap harmed
    refine hrow cmdProfile hop rfl rfl (by decide) ?_
    have hthree : (c.byte 4 == 3) = false := beq_eq_false_iff_ne.mpr (by omega)
    have hbad : ¬ 3 < c.byte 4 := by omega
    simp [cmdProfile, bktRun_zero, answerOk, hb, hch, hthree, hbad, hnone, hcap, harmed]
  case groupSwap =>
    intro hop hch hcas hzero hmax hcoord hfree hnone hmask
    refine hrow cmdGrpSwap hop rfl rfl (by decide) ?_
    simp [cmdGrpSwap, bktRun_zero, answerOk, hb, hzero, hch, hcas, Nat.not_lt.mpr hmax, hcoord, hfree, hnone, hmask]
  case groupInfo =>
    intro hop hch hcas
    exact hrow cmdGrpInfo hop rfl rfl (by decide) (by simp [cmdGrpInfo, bktRun_zero, answerOk, hb, hch, hcas])
  case flush =>
    intro hop hch hmax
    refine hrow cmdWelFlush hop rfl rfl (by decide) ?_
    simp [cmdWelFlush, bktRun_zero, answerOk, hb, hch, Nat.not_lt.mpr hmax]
  case rtSet =>
    intro hop hch hmax hport
    refine hrow cmdRtSet hop rfl rfl (by decide) ?_
    simp [cmdRtSet, bktRun_zero, answerOk, State.foreignEntry, hb, hch, Nat.not_lt.mpr hmax, hport]
  case rtGet =>
    intro hop hch hmax
    refine hrow cmdRtGet hop rfl rfl (by decide) ?_
    simp [cmdRtGet, bktRun_zero, answerOk, State.foreignEntry, hb, hch, Nat.not_lt.mpr hmax]
  case mode =>
    intro hop hch hn hwide hmode hon hrole hpd hmux
    refine hrow cmdSptMode hop rfl rfl (by decide) ?_
    have hbad : ¬ 2 < c.byte 5 := by omega
    have hexit : (c.byte 5 == 2) = false := beq_eq_false_iff_ne.mpr (by omega)
    simp [cmdSptMode, bktRun_zero, hb, hch, Nat.not_le.mpr hn, Nat.not_le.mpr hwide, hbad, hexit, hmode, hon, hrole, hpd, hmux]
  case hardReset =>
    intro hop hch hn hatt
    refine hrow cmdSptHardReset hop rfl rfl (by decide) ?_
    simp [cmdSptHardReset, bktRun_zero, answerOk, hb, hch, Nat.not_le.mpr hn, hatt]
  case discRead =>
    intro hop hch hn hsop hvdos
    refine hrow cmdSptDiscRead hop rfl rfl (by decide) ?_
    simp [cmdSptDiscRead, bktRun_zero, answerOk, hb, hch, Nat.not_le.mpr hn, hsop, List.isEmpty_eq_false_iff.mpr hvdos]

/-! ### Pages and slices (R198, R299, R308 to R314) -/

section
variable {s : State} {c : BktCmd} {remove : Bool}

/-- SLC_RESET or SLC_REMOVE whose checks pass: the steps, the notices, and the end where no other hub is awaited. -/
theorem resetCommand_passed (hb : s.bktCheck c false false false false false = 0) (hdock : s.dock = true)
    (hmin : 1 ≤ c.byte 4) (hmax : c.byte 4 ≤ 63) (hbound : s.bound (c.byte 4) = true) (hidle : s.resetting (c.byte 4) = false)
    (hgen : s.genHeld (c.byte 4) (s.nextGen (c.byte 4)) = false) (hch : c.ch = 0 ∨ (remove = false ∧ c.ch = c.byte 4)) :
    let sl := c.byte 4
    let t := s.sliceSteps sl (s.nextGen sl) remove
    let r : SliceReset := ⟨sl, remove, c.ch, t.pathOut.isSome.toNat + memberBits t.reachable, (!t.pathOut.isSome).toNat + t.cutOff, none⟩
    let u := t.tellHubs (t.sliceFab (noticeKind remove) sl)
    s.resetCommand c remove = if r.waiting = 0 then (.ready 0 ((u.endReset r).resetResult r), u.endReset r)
      else (.waiting, { u with resets := u.resets ++ [r] }) := by
  have hzero : (c.byte 4 == 0) = false := beq_eq_false_iff_ne.mpr (by omega)
  have hcheck : s.bktCheck c false (decide (63 < c.byte 4))
      (!s.dock || c.byte 4 == 0 || (c.ch != 0 && (remove || c.ch != c.byte 4))) (!s.bound (c.byte 4))
      (s.resetting (c.byte 4) || s.genHeld (c.byte 4) (s.nextGen (c.byte 4))) = 0 := by
    rcases hch with h | ⟨h, h'⟩
    · simp [hdock, hzero, h, Nat.not_lt.mpr hmax, hbound, hidle, hgen, hb]
    · simp [hdock, hzero, h, h', Nat.not_lt.mpr hmax, hbound, hidle, hgen, hb]
  simp only [State.resetCommand, hcheck, bktRun_zero]

end

/-- Settles O20: each row's command passes its checks on the accepted state. -/
theorem bucketPageSliceRows : Obligations.BucketPageSliceRows := by
  unfold Obligations.BucketPageSliceRows
  intro s c htakes
  have hb := State.bktCheck_passed (s.accepted_bound c htakes)
  have hrow := fun {i op x} f => @exec_bucket s c i op x f htakes
  generalize s.accepted c = a at hb hrow ⊢
  refine ⟨?assign, ?opens, ?sealed, ?free, ?bind, ?reset⟩
  case assign =>
    intro hop hch hbad hsl hpages
    refine hrow cmdPageAssign hop rfl rfl (by decide) ?_
    simp [cmdPageAssign, bktRun_zero, answerOk, hb, hch, hbad, Nat.not_lt.mpr hsl, hpages]
  case opens =>
    intro hop hbad howns hpages
    refine hrow cmdPageOpen hop rfl rfl (by decide) ?_
    simp [cmdPageOpen, bktRun_zero, answerOk, hb, hbad, howns, hpages]
  case sealed =>
    intro hop hbad howns hpages crc hcrc
    subst hcrc
    refine hrow cmdPageSeal hop rfl rfl (by decide) ?_
    simp [cmdPageSeal, bktRun_zero, answerOk, hb, hbad, howns, hpages]
  case free =>
    intro hop hbad howns hpages
    refine hrow cmdPageFree hop rfl rfl (by decide) ?_
    simp [cmdPageFree, bktRun_zero, answerOk, hb, hbad, howns, hpages]
  case bind =>
    intro hop hch hdock hmin hmax hpasid hheld hfree
    have hzero : (c.byte 4 == 0) = false := beq_eq_false_iff_ne.mpr (by omega)
    refine hrow cmdSlcBind hop rfl rfl (by decide) ?_
    simp [cmdSlcBind, bktRun_zero, answerOk, hb, hch, hdock, Nat.not_lt.mpr hmax, Nat.not_lt.mpr hpasid, hheld, hfree, hzero]
  case reset =>
    intro sl hsl hdock hmin hmax hbound hidle hgen remove
    subst hsl
    refine ⟨fun hop hremove hch => ?_, fun hop hremove hch => ?_⟩
    · subst hremove
      exact hrow cmdSlcReset hop rfl rfl (by decide)
        (resetCommand_passed hb hdock hmin hmax hbound hidle hgen (hch.imp_right fun h => ⟨rfl, h⟩))
    · subst hremove
      exact hrow cmdSlcRemove hop rfl rfl (by decide) (resetCommand_passed hb hdock hmin hmax hbound hidle hgen (.inl hch))

/-! ### The vault (R454, R466 to R476) -/

/-- Settles O21: each row's command passes its checks on the accepted state. -/
theorem bucketVaultRows : Obligations.BucketVaultRows := by
  unfold Obligations.BucketVaultRows
  intro s c htakes hheld
  have hb := State.bktCheck_passed (s.accepted_bound c htakes)
  have hrow := fun {i op x} f => @exec_bucket s c i op x f htakes
  generalize s.accepted c = a at hb hrow hheld ⊢
  refine ⟨?info, ?ownerSet, ?rootGen, ?challenge, ?tokenPut, ?lcChange, ?debugClose, ?assign, ?load, ?derive, ?wrap, ?unwrap, ?zero,
    ?keyInfo⟩
  case info => exact fun hop => hrow cmdSecInfo hop rfl rfl (by decide) (by rw [cmdSecInfo, hb, bktRun_zero, answerOk])
  case ownerSet =>
    intro hop hch hlc hnone
    refine hrow cmdSecOwnerSet hop rfl rfl (by decide) ?_
    simp [cmdSecOwnerSet, bktRun_zero, answerOk, hb, hch, hlc, hnone]
  case rootGen =>
    intro hop hch hblank hnone htrng
    refine hrow cmdSecRootGen hop rfl rfl (by decide) ?_
    simp [cmdSecRootGen, bktRun_zero, answerOk, State.draw, hb, hch, hblank, hnone, htrng]
  case challenge =>
    intro hop hch htrng
    refine hrow cmdSecLcChallenge hop rfl rfl (by decide) ?_
    simp [cmdSecLcChallenge, bktRun_zero, answerOk, State.draw, hb, hch, htrng]
  case tokenPut =>
    intro hop hch hmax
    refine hrow cmdSecTokenPut hop rfl rfl (by decide) ?_
    simp [cmdSecTokenPut, bktRun_zero, answerOk, hb, hch, Nat.not_lt.mpr hmax]
  case lcChange =>
    intro hop hch hmax hchange hroot howner
    refine hrow cmdSecLcChange hop rfl rfl (by decide) ?_
    simp [cmdSecLcChange, bktRun_zero, hb, hch, Nat.not_lt.mpr hmax, hchange, hroot, howner]
  case debugClose =>
    intro hop hch hdebug hlc
    refine hrow cmdSecDebugClose hop rfl rfl (by decide) ?_
    simp [cmdSecDebugClose, bktRun_zero, hb, hch, hdebug, hlc]
  case assign =>
    intro hop hch hslot hsl hfree hbound
    refine hrow cmdKeyAssign hop rfl rfl (by decide) ?_
    simp [cmdKeyAssign, bktRun_zero, answerOk, hb, hheld, hch, Nat.not_lt.mpr hslot, Nat.not_lt.mpr hsl, hfree, hbound]
  case load =>
    intro hop hslot hown hlocked hfree
    refine hrow cmdKeyLoad hop rfl rfl (by decide) ?_
    simp [cmdKeyLoad, bktRun_zero, answerOk, hb, hheld, Nat.not_lt.mpr hslot, hown, hlocked, hfree]
  case derive =>
    intro hop hsrc hch hslot hlocked hfree hkey
    refine hrow cmdKeyDerive hop rfl rfl (by decide) ?_
    have hsome : (a.deriveKey 0xFF).isNone = false := Option.isNone_eq_false_iff.mpr (Option.isSome_iff_ne_none.mpr hkey)
    simp [cmdKeyDerive, bktRun_zero, State.ownSlot, hb, hheld, hsrc, hch, Nat.not_lt.mpr hslot, hlocked, hfree, hsome]
  case wrap =>
    intro hop hslot hwith hown hown' husable hexport hwrapper
    refine hrow cmdKeyWrap hop rfl rfl (by decide) ?_
    simp [cmdKeyWrap, bktRun_zero, hb, hheld, Nat.not_lt.mpr hslot, Nat.not_lt.mpr hwith, hown, hown', husable, hexport, hwrapper]
  case unwrap =>
    intro hop hslot hwith hown hlocked hown' hfree hwrapper
    refine hrow cmdKeyUnwrap hop rfl rfl (by decide) ?_
    simp [cmdKeyUnwrap, bktRun_zero, hb, hheld, Nat.not_lt.mpr hslot, Nat.not_lt.mpr hwith, hown, hlocked, hown', hfree, hwrapper]
  case zero =>
    intro hop hslot hch
    refine hrow cmdKeyZero hop rfl rfl (by decide) ?_
    simp [cmdKeyZero, bktRun_zero, answerOk, State.ownSlot, hb, hheld, hch, Nat.not_lt.mpr hslot]
  case keyInfo =>
    intro hop hslot hown
    refine hrow cmdKeyInfo hop rfl rfl (by decide) ?_
    simp [cmdKeyInfo, bktRun_zero, answerOk, hb, hheld, Nat.not_lt.mpr hslot, hown]

end Sys2Proof.Machine
end

section
/-! PROOFS. Priming and training, lane power, PRBS and lane faults (R54 to R85). -/
namespace Sys2Proof.Machine

/-! ### A row that writes one register below the root ports -/

/-- The register map has the row at base, with the indices ix, for address a. -/
def rowAt (a base : Nat) (ix : List Nat) : Bool :=
  match findReg a with
  | some (b, i, _) => b == base && i == ix
  | none => false

theorem findReg_of_rowAt {a base : Nat} {ix : List Nat} (h : rowAt a base ix = true) : ∃ fs, findReg a = some (base, ix, fs) := by
  unfold rowAt at h
  split at h
  case h_1 b i fs hfind =>
    simp only [Bool.and_eq_true, beq_iff_eq] at h
    obtain ⟨rfl, rfl⟩ := h
    exact ⟨fs, hfind⟩
  case h_2 => exact absurd h Bool.false_ne_true

/-- A write by slice 0 of a present register below the root ports performs that register's write. -/
theorem State.rowWrite_rowAt {s t : State} {a base : Nat} {ix : List Nat} {v : W32} (hfw : s.firmware = true) (h4 : a % 4 = 0)
    (hlow : a < 0x10C00000) (hp : s.regPresent a = true) (hrow : rowAt a base ix = true)
    (hw : ∀ fs, s.writeReg 0 base ix fs v.toNat = t) : s.rowWrite true 0 a v = .next t := by
  obtain ⟨fs, hfind⟩ := findReg_of_rowAt hrow
  rw [s.rowWrite_zero a base ix fs v hfw h4 hp (by omega) (by omega) hfind, hw]

/-- The same for entry n of an array of registers. -/
theorem State.rowWrite_entry {s t : State} {base stride count n : Nat} {v : W32} (hfw : s.firmware = true) (hn : n < count)
    (h4 : (base + stride * n) % 4 = 0) (hlow : base + stride * n < 0x10C00000) (hp : s.regPresent (base + stride * n) = true)
    (hrows : ((List.range count).all fun n => rowAt (base + stride * n) base [n]) = true)
    (hw : ∀ fs, s.writeReg 0 base [n] fs v.toNat = t) :
    s.rowWrite (decide (n < count)) 0 (base + stride * n) v = .next t := by
  rw [decide_eq_true hn]
  exact State.rowWrite_rowAt hfw h4 hlow hp (List.all_eq_true.mp hrows n (List.mem_range.mpr hn)) hw

/-! ### DETECT (R57, R58) -/

section
variable {s : State}

theorem mem_fourLanes {n : Nat} (h : n < 4) : n ∈ fourLanes := by
  have : n = 0 ∨ n = 1 ∨ n = 2 ∨ n = 3 := by omega
  simpa [fourLanes] using this

/-- DETECT ends with an enabled lane that has light and no LOS. -/
theorem State.detectCheck_ends {n : Nat} (hst : s.primeState = 1) (hen : s.is TRK_OE_EN = true) (hn : n < 4)
    (hlane : bit (s.get TRK_CTRL_LANE_EN) n = true) (hlight : bit s.trunk.light n = true) (hlos : s.is (TRK_LANE_STAT_LOS n) = false) :
    s.detectCheck = s.enterLock := by
  have hany : fourLanes.any (fun n => bit (s.get TRK_CTRL_LANE_EN) n && bit s.trunk.light n && !s.is (TRK_LANE_STAT_LOS n)) = true :=
    List.any_eq_true.mpr ⟨n, mem_fourLanes hn, by rw [hlane, hlight, hlos]; rfl⟩
  rw [State.detectCheck, hany, hst, hen]
  rfl

theorem bit_zero (n : Nat) : bit 0 n = false := Nat.zero_testBit n

theorem State.detectCheck_same (h : s.primeState ≠ 1 ∨ s.is TRK_OE_EN = false ∨ s.trunk.light = 0) : s.detectCheck = s := by
  rw [State.detectCheck]
  rcases h with h | h | h
  · simp [h]
  · simp [h]
  · simp [h, bit_zero]

/-! ### Timeouts (R54, R63) -/

/-- A timer that has run for k is due. -/
theorem any_timer_due {o : Option Nat} {now k : Nat} (h : ∃ t, o = some t ∧ t + k ≤ now) :
    o.any (fun t => decide (t + k ≤ now)) = true := by
  obtain ⟨t, rfl, hdue⟩ := h
  exact decide_eq_true hdue

theorem exec_primingTimeout (hlive : s.linksLive = true) (hnow : s.primingNow = true)
    (hdue : s.trunk.timer.any (fun t => decide (t + 50000000 ≤ s.hubTime)) = true) :
    exec .primingTimeout s = .next (s.failPriming (if s.trunk.returned then 4 else 1)) := by
  change execPrimingTimeout s = _
  simp only [execPrimingTimeout, hlive, hnow, hdue, Bool.and_self, if_true]

/-- The end of a state's own time. -/
theorem exec_primingStateTimeout (hlive : s.linksLive = true) :
    (s.primeState = 2 → s.get TRK_PRIME_STAT_RX_LANES = 0 → exec .primingStateTimeout s = .next s.backToDetect) ∧
    (s.primeState = 2 → s.get TRK_PRIME_STAT_RX_LANES ≠ 0 → exec .primingStateTimeout s = .next s.enterConfig) ∧
    ((s.primeState = 3 ∨ s.primeState = 7 ∨ s.primeState = 8) → exec .primingStateTimeout s = .next (s.failPriming 1)) ∧
    (s.primeState = 4 → s.get TRK_PRIME_STAT_RATE ≠ 0 → exec .primingStateTimeout s = .next s.enterFallback) ∧
    (s.primeState = 5 → exec .primingStateTimeout s = .next s.enterFallback) ∧
    (s.primeState = 6 → exec .primingStateTimeout s = .next s.enterCheck) := by
  have hrow : exec .primingStateTimeout s = .next s.stateTimeout := congrArg Host.Outcome.next (if_pos hlive)
  rw [hrow]
  refine ⟨fun hst hrx => ?_, fun hst hrx => ?_, fun hst => ?_, fun hst hrate => ?_, fun hst => ?_, fun hst => ?_⟩
  · rw [State.stateTimeout, hst, hrx]
    rfl
  · simp only [State.stateTimeout, hst, hrx, if_false]
  · rcases hst with hst | hst | hst <;> simp only [State.stateTimeout, hst]
  · simp only [State.stateTimeout, hst, hrate, if_false]
  · simp only [State.stateTimeout, hst]
  · simp only [State.stateTimeout, hst]

/-! ### Training records (R60 to R66) -/

theorem exec_laneLock {n : Nat} (b : Bool) (hlive : s.linksLive = true) (hn : n < 4) (hlane : bit (s.get TRK_CTRL_LANE_EN) n = true)
    (hlos : s.is (TRK_LANE_STAT_LOS n) = false) :
    exec (.laneLock n b) s = .next (if (s.setLol n false).primingNow = true ∧ (s.setLol n false).is (TRK_LANE_STAT_LOL n) = false
      then (s.setLol n false).lockLane n b else s.setLol n false) := by
  change execLaneLock n b s = _
  simp [execLaneLock, hlive, hn, hlane, hlos]

theorem exec_trainConfig {n : Nat} (r : TrainRec) (hlive : s.linksLive = true) (hn : n < 4) :
    (s.primeState = 3 → bit (s.get TRK_PRIME_STAT_RX_LANES) n = true → exec (.ts1 n r) s = .next (s.hearLane n r).configStep) ∧
    (s.primeState = 9 → s.is (TRK_LANE_STAT_IN_SVC n) = true → exec (.ts1 n r) s = .next s.peerRestart) ∧
    (s.primeState = 3 → bit (s.get TRK_PRIME_STAT_RX_LANES) n = true → exec (.ts2 n r) s = .next (s.confirm n r)) := by
  refine ⟨fun hst hrx => ?_, fun hst hsvc => ?_, fun hst hrx => ?_⟩
  · change execTs1 n r s = _
    simp [execTs1, hlive, hst, hrx, Nat.not_le.mpr hn]
  · change execTs1 n r s = _
    simp [execTs1, hlive, hst, hsvc, Nat.not_le.mpr hn]
  · change execTs2 n r s = _
    simp [execTs2, hlive, hst, hrx, hn]

theorem State.peerLanes_eq (r : TrainRec) (hmin : 4 ≤ s.primeState) (hmax : s.primeState ≤ 8) :
    s.peerLanes r = if s.get TRK_PRIME_STAT_TX_LANES &&& r.lmask = 0 then s.backToDetect
      else s.put TRK_PRIME_STAT_TX_LANES (s.get TRK_PRIME_STAT_TX_LANES &&& r.lmask) := if_pos ⟨hmin, hmax⟩

theorem exec_eqReq {n : Nat} {r : TrainRec} (hlive : s.linksLive = true) (hst : s.primeState = 6) (hn : n < 4) (hround : r.round ≤ 8)
    (hstays : (s.peerLanes r).primeState = 6) :
    exec (.eqReq n r) s = .next (((s.peerLanes r).primeEq n
      (if r.eqMode = 0 then presetEq (r.eqPre % 8) else clampEq r.eqPre r.eqMain r.eqPost)).sendEqAck r.round) := by
  change execEqReq n r s = _
  simp [execEqReq, hlive, hst, hn, hround, hstays]

/-- EQ_ACK of a round past the last: no further round is asked for, whatever is drawn. -/
theorem exec_eqAck {n : Nat} {r : TrainRec} (hlive : s.linksLive = true) (hst : s.primeState = 6) (hn : n < 4) (hround : 8 ≤ r.round)
    (hstays : (s.peerLanes r).primeState = 6) (hsame : r.round = (s.peerLanes r).trunk.round) :
    let a := setBit (s.peerLanes r).trunk.acked n true
    let e := assocPut n (⟨r.eqPre, r.eqMain, r.eqPost⟩ : Coef) (s.peerLanes r).trunk.peerEq
    let t : State := { s.peerLanes r with trunk := { (s.peerLanes r).trunk with acked := a, peerEq := e } }
    exec (.eqAck n r) s = .next (if t.coversRx a = true then { t with free := t.free + 1 } else t) := by
  have hlast : ∀ d : Nat, ¬ (r.round < 8 ∧ d % 2 = 1) := fun d h => by omega
  change execEqAck n r s = _
  simp only [execEqAck, hlive, hst, hn, hstays, ← hsame, hlast, State.draw, decide_true, Bool.and_self, beq_self_eq_true, and_self,
    if_true, if_false]

theorem exec_stepCheckComplete (m : Nat) (hlive : s.linksLive = true) (hnone : s.trunk.readmit = none)
    (h : s.primeState = 4 ∨ s.primeState = 7 ∧ s.coversRx s.trunk.relock = true) :
    let pass := m &&& s.get TRK_PRIME_STAT_RX_LANES == 0
    let t : State := { s with trunk := { s.trunk with own := some pass } }
    exec (.stepCheckComplete m) s = .next (t.sendTrain 6 { t.trainBase with res := if pass then 0 else 1 }).judge := by
  change execStepCheckComplete m s = _
  have hstate : (s.primeState == 4 || (s.primeState == 7 && s.coversRx s.trunk.relock)) = true := by simpa using h
  simp only [execStepCheckComplete, hlive, hnone, hstate, Bool.not_true, Bool.false_eq_true, if_true, if_false]

end

/-- Settles O23: each row in the state in which it acts. -/
theorem primingRows : Obligations.PrimingRows := by
  unfold Obligations.PrimingRows
  refine ⟨⟨?signal, fun s n => State.detectCheck_ends, fun s => State.detectCheck_same, fun s => exec_primingStateTimeout,
    ?timeout, ?restart, ?prime, fun s n b hlive hnow => exec_laneLock b hlive, fun s n r => exec_trainConfig r⟩,
    ?lanes, fun s n r => exec_eqReq, fun s n r => exec_eqAck, ?step, ?rate, ?result, ?readmitted, fun s => exec_stepCheckComplete,
    ?byPeer, ?uncovered, ?readmitCheck, ?ready, ?pass, ?fail, ?undecided⟩
  case signal =>
    intro s n hlive hn
    change execLaneSignalDetect n s = _
    simp [execLaneSignalDetect, hlive, hn]
  case timeout =>
    exact fun s hlive hmin hmax hdue => exec_primingTimeout hlive (decide_eq_true ⟨hmin, hmax⟩) (any_timer_due hdue)
  case restart =>
    intro s hlive hst hauto
    change execPrimingRestartTimer s = _
    simp [execPrimingRestartTimer, hlive, hst, hauto]
  case prime =>
    exact fun s v hfw => State.rowWrite_rowAt hfw (by decide) (by decide) (s.regPresent_low _ (by decide))
      (base := 0x10020000) (ix := []) (by decide +kernel) (fun fs => rfl)
  case lanes =>
    intro s r hmin hmax
    rw [State.peerLanes_eq r hmin hmax]
    exact ⟨fun h => if_neg h, fun h => if_pos h⟩
  case step =>
    intro s r t k hlive hst hstep hrate hmin hmax
    change execStepRec r s = _
    simp [execStepRec, hlive, hst, hstep, hrate, hmin, hmax]
  case rate =>
    intro s t k hlive hst hstep
    change execRateChange s = _
    simp [execRateChange, hlive, hst, hstep]
  case result =>
    intro s r hlive hup hst
    change execResult r s = _
    have hstate : (s.primeState == 4 || s.primeState == 7) = true := by simpa using hst
    simp only [execResult, hlive, State.takeResult, hup, hstate, Bool.false_eq_true, if_true, if_false]
  case readmitted =>
    intro s r n hlive hreadmit hup
    change execResult r s = _
    simp only [execResult, hlive, State.takeResult, hup, hreadmit, if_true]
  case byPeer =>
    intro s r hlive hnone hup
    change execResult r s = _
    simp only [execResult, hlive, State.takeResult, hup, hnone, if_true]
  case uncovered =>
    intro s m hlive hnone hst hcover
    change execStepCheckComplete m s = _
    simp [execStepCheckComplete, hlive, hnone, hst, hcover]
  case readmitCheck =>
    intro s m n hlive hreadmit hup
    change execStepCheckComplete m s = _
    simp [execStepCheckComplete, hlive, hreadmit, hup]
  case ready =>
    intro s l hlive hst
    change execReady l s = _
    simp [execReady, hlive, hst]
  case pass =>
    intro s hown hpeer
    simp [State.judge, hown, hpeer]
  case fail =>
    intro s a b hown hpeer hfail
    simp only [State.judge, hown, hpeer, hfail, Bool.false_eq_true, if_false]
  case undecided =>
    intro s hown
    simp [State.judge, hown]

/-! ### Lane power, optics, PRBS and lane faults (R69 to R85) -/

section
variable {s : State}

theorem exec_l0qIdleTimeout (hlive : s.linksLive = true) (hsettled : s.settledTrunk = true) (hen : s.is TRK_PWR_L0Q_EN = true)
    (hprofile : s.get ALT_CAL_STAT_PROFILE = 2) (htx : s.get TRK_PWR_TX_STATE = 0)
    (hidle : (s.link 0).lastBusy + s.get TRK_PWR_IDLE * 1000 ≤ s.hubTime) (hown : s.ownedWithin 1000 = false)
    (hquiet : s.trunkQuiet = true) : exec .l0qIdleTimeout s = .next (s.put TRK_PWR_TX_STATE 1) := by
  change execL0qIdleTimeout s = _
  simp [execL0qIdleTimeout, hlive, hsettled, hen, hprofile, htx, hidle, hown, hquiet]

theorem exec_l2dReq (hlive : s.linksLive = true) (hup : s.trunkUp = true) :
    (s.l2dReady = true → exec .l2dReq s =
      .next { s.sendCtl 0 6 [0#8] with trunk := { (s.sendCtl 0 6 [0#8]).trunk with l2dEnter := true } }) ∧
    (s.l2dReady = false → exec .l2dReq s =
      .next { s.sendCtl 0 6 [1#8] with trunk := { (s.sendCtl 0 6 [1#8]).trunk with l2dEnter := false } }) := by
  change (_ → Host.Outcome.next s.l2dAnswer = _) ∧ (_ → Host.Outcome.next s.l2dAnswer = _)
  refine ⟨fun h => ?_, fun h => ?_⟩
  · simp [State.l2dAnswer, hlive, hup, h]
  · simp [State.l2dAnswer, hlive, hup, h]

theorem exec_laneFault {n : Nat} (hlive : s.linksLive = true) (hn : n < 4) (kind : LaneFaultKind) :
    exec (.laneFault n kind) s = .next ((s.laneSignal n kind).laneFault n kind) := by
  change execLaneFault n kind s = _
  simp [execLaneFault, hlive, hn]

/-- The address of a lane's register is a word of a block that every part has. -/
theorem State.laneReg_present (s : State) {n : Nat} (hn : n < 4) :
    s.regPresent (0x10020100 + 0x40 * n) = true ∧ s.regPresent (0x10020118 + 0x40 * n) = true :=
  ⟨s.regPresent_low _ (by omega), s.regPresent_low _ (by omega)⟩

/-- The writes of a lane's TRK_LANE_CTRL and TRK_LANE_INJ. -/
theorem exec_laneRegs {n : Nat} (v : W32) (hfw : s.firmware = true) (hn : n < 4) :
    exec (.prbsClr 0 n v) s = .next (s.laneCtrl n v.toNat) ∧
      exec (.injPrbsErr 0 n v) s = .next (if s.injectable then s.laneInj n v.toNat else s) := by
  obtain ⟨hctrl, hinj⟩ := s.laneReg_present hn
  exact ⟨State.rowWrite_entry hfw hn (by omega) (by omega) hctrl (by decide +kernel) (fun fs => rfl),
    State.rowWrite_entry hfw hn (by omega) (by omega) hinj (by decide +kernel) (fun fs => rfl)⟩

end

/-- Settles O24: each row under the guard of its clause. -/
theorem laneRows : Obligations.LaneRows := by
  unfold Obligations.LaneRows
  refine ⟨?oeEn, ?oeFault, ?oeLos, ?oeLosFall, fun s => exec_l0qIdleTimeout, ?pwr, fun s => exec_l2dReq, ?ack, ?refused, ?check,
    fun s => rfl, ?noAsk, ?ask, ?wake, ?prbs, ?qualified, ?fault, ?marker, ?regs⟩
  case oeEn =>
    exact fun s v hfw => State.rowWrite_rowAt hfw (by decide) (by decide) (s.regPresent_low _ (by decide))
      (base := 0x10020010) (ix := []) (by decide +kernel) (fun fs => rfl)
  case pwr =>
    exact fun s v hfw => State.rowWrite_rowAt hfw (by decide) (by decide) (s.regPresent_low _ (by decide))
      (base := 0x1002000C) (ix := []) (by decide +kernel) (fun fs => rfl)
  case oeFault =>
    intro s hlive hmask
    change execOeFault s = _
    simp [execOeFault, hlive, hmask]
  case oeLos =>
    intro s hlive hmask
    change execOeLos s = _
    simp [execOeLos, hlive, hmask]
  case oeLosFall => exact fun s hlive => congrArg Host.Outcome.next (if_pos hlive)
  case ack =>
    intro s hlive hready hreq hasked
    change Host.Outcome.next (s.l2dAnswered false) = _
    simp [State.l2dAnswered, hlive, hready, hreq, hasked]
  case refused =>
    intro s
    change Host.Outcome.next (s.l2dAnswered true) = _
    simp [State.l2dAnswered]
  case check =>
    intro s henter hready hquiet
    simp [State.l2dCheck, henter, hready, hquiet]
  case noAsk =>
    intro s hreq
    simp [State.askL2d, hreq]
  case ask =>
    intro s hlive hreq hready hasked henter hquiet htx
    simp [State.askL2d, hlive, hreq, hready, hasked, henter, hquiet, htx]
  case wake => exact fun s hlive => congrArg Host.Outcome.next (if_pos hlive)
  case prbs =>
    intro s n hlive hn hcheck
    change execPrbsError n s = _
    simp only [execPrbsError, hlive, hn, hcheck, decide_true, Bool.and_self, if_true]
  case qualified =>
    intro s n hlive hn hsvc hqual hclean
    change execLaneQualified n s = _
    simp only [execLaneQualified, hlive, hn, hsvc, hqual, hclean, decide_true, Bool.not_false, Bool.and_self, if_true]
  case fault =>
    intro s n hlive hn
    refine ⟨exec_laneFault hlive hn .los, exec_laneFault hlive hn .lol, exec_laneFault hlive hn .burst, exec_laneFault hlive hn .exit,
      fun hst hsvc => ?_⟩
    simp [State.laneFault, hst, hsvc]
  case marker =>
    intro s l hlive hup
    change execAlignmentMarker l s = _
    simp [execAlignmentMarker, hlive, hup]
  case regs =>
    intro s n v hfw hn
    obtain ⟨hctrl, hinj⟩ := exec_laneRegs v hfw hn
    exact ⟨hctrl, fun h => by rw [hinj, if_pos h], fun h => by rw [hinj, if_neg (by rw [h]; exact Bool.false_ne_true)]⟩

end Sys2Proof.Machine
end

section
/-! PROOFS. Flits and link records as they arrive, the slots and timers of a link, CND_CTRL and CND_INJ (R91 to R130). -/
namespace Sys2Proof.Machine

/-! ### Flits and NAKs (R91, R103) -/

section
variable {s : State} {p : Nat}

theorem exec_flitReceive (h b : Bytes) (unc : Bool) (k : Nat) (hlive : s.linkLive p = true) (hrx : p ≠ 0 ∨ s.get TRK_PWR_RX_STATE ≠ 2) :
    exec (.flitReceive p h b unc k) s = .next ((s.flitIn p (h ++ b) unc k).takeArrived p) := by
  change execFlitReceive p h b unc k s = _
  have hguard : (s.linkLive p && (p != 0 || s.get TRK_PWR_RX_STATE != 2)) = true := by simpa [hlive] using hrx
  rw [execFlitReceive, if_pos hguard]

theorem exec_nak {raw : Bytes} (hlive : s.linkLive p = true) (hrx : p ≠ 0 ∨ s.get TRK_PWR_RX_STATE ≠ 2)
    (hnak : (parseHeader raw).ftype = 4) : exec (.nak p raw) s = .next ((s.flitIn p raw false 0).takeArrived p) := by
  change execNak p raw s = _
  have hguard : (s.linkLive p && (p != 0 || s.get TRK_PWR_RX_STATE != 2) && (parseHeader raw).ftype == 4) = true := by
    simpa [hlive, hnak] using hrx
  rw [execNak, if_pos hguard]

/-- A count changes no link. -/
theorem State.linkCnt_link (s : State) (p i q : Nat) : (s.linkCnt p i).link q = s.link q := by
  unfold State.linkCnt
  split
  · rfl
  · split <;> rfl

/-- A NAK starts a replay unless it names the one in progress. -/
theorem State.nakReceived_eq (s : State) (p a : Nat) : s.nakReceived p a =
    if ((s.ackUpTo p a).link p).replayFrom = some ((a + 1) % 4096) then (s.ackUpTo p a).linkCnt p 8
    else ((s.ackUpTo p a).linkCnt p 8).startReplay p := by
  simp only [State.nakReceived, State.linkCnt_link, beq_iff_eq]

/-! ### Records of the link (R110 to R115, R137) -/

theorem exec_laneDrop {e n m : Nat} (hlive : s.linkLive 0 = true) (he : e < 256) (hn : n < 4) (hm : m < 16) :
    let m' := setBit m n false
    let t := (s.setLink 0 { s.link 0 with laneTx := e }).put TRK_PRIME_STAT_TX_LANES m'
    (newer e (s.link 0).laneTx = true → countBits (m' % 16) 4 ≠ 0 →
      exec (.laneDrop e n m) s =
        .next ((((t.newDealing (m' % 16)).ptpHold).startReplay 0).laneCountChange (countBits (m' % 16) 4))) ∧
    (newer e (s.link 0).laneTx = false → exec (.laneDrop e n m) s = .next s) := by
  intro m' t
  have hrow : exec (.laneDrop e n m) s = .next (s.laneDropped e m') := by
    change Host.Outcome.next (s.laneDropped e (setBit (m % 16) (n % 4) false)) = _
    rw [Nat.mod_eq_of_lt hm, Nat.mod_eq_of_lt hn]
  rw [hrow]
  refine ⟨fun hnew hsome => ?_, fun hold => ?_⟩
  · simp only [State.laneDropped, hlive, Nat.mod_eq_of_lt he, hnew, hsome, Bool.and_self, if_true, if_false]
    rfl
  · simp only [State.laneDropped, hlive, Nat.mod_eq_of_lt he, hold, Bool.and_false, Bool.false_eq_true, if_false]

theorem exec_fallbackAnn {e n b c : Nat} (hlive : s.linkLive 0 = true) (he : e < 256) (hmin : 1 ≤ n) (hmax : n ≤ 4) :
    (newer e (s.link 0).annRx = true → exec (.fallbackAnn e n b c) s = .next ((s.setLink 0 { s.link 0 with
      annRx := e, laneRx := if newer e (s.link 0).laneRx then e else (s.link 0).laneRx,
      announced := (s.link 0).announced ++ [(c, b % 2 == 1)] }).noteBoundary n c)) ∧
    (newer e (s.link 0).annRx = false → exec (.fallbackAnn e n b c) s = .next s) := by
  have hrow : exec (.fallbackAnn e n b c) s = .next (s.fallbackAnnounced e n b c) :=
    congrArg Host.Outcome.next (if_pos ⟨hmin, hmax⟩)
  rw [hrow]
  refine ⟨fun hnew => ?_, fun hold => ?_⟩
  · simp only [State.fallbackAnnounced, hlive, Nat.mod_eq_of_lt he, hnew, Bool.and_self, if_true]
  · simp only [State.fallbackAnnounced, hlive, Nat.mod_eq_of_lt he, hold, Bool.and_false, Bool.false_eq_true, if_false]

theorem exec_swapRec {b n c : Nat} (hlive : s.linkLive 0 = true) (hmin : 1 ≤ n) (hmax : n ≤ 4) :
    ((s.link 0).announced.contains (c, b % 2 == 1) = false → exec (.swapRec b n c) s =
      .next (s.setLink 0 { s.link 0 with announced := (s.link 0).announced ++ [(c, b % 2 == 1)] })) ∧
    ((s.link 0).announced.contains (c, b % 2 == 1) = true → exec (.swapRec b n c) s = .next s) := by
  have hrow : exec (.swapRec b n c) s = .next (s.swapAnnounced b c) := congrArg Host.Outcome.next (if_pos ⟨hmin, hmax⟩)
  rw [hrow]
  refine ⟨fun hnew => ?_, fun hold => ?_⟩
  · simp only [State.swapAnnounced, hlive, hnew, Bool.not_false, Bool.and_self, if_true]
  · simp only [State.swapAnnounced, hold, Bool.not_true, Bool.and_false, Bool.false_eq_true, if_false]

theorem exec_creditSync {c d : Nat} (hlive : s.linkLive p = true) (hdock : s.dock = false) :
    exec (.creditSync p c d) s = .next (s.creditSynced p c d) := by
  have hdock' : (s.creditSynced p c d).dock = false := hdock
  change Host.Outcome.next (s.creditRecord p c d) = _
  simp only [State.creditRecord, hlive, hdock', Bool.and_false, Bool.false_and, Bool.false_eq_true, if_true, if_false]

theorem assocGet_mod_same {α : Type} [DecidableEq α] (d : α) (k : Nat) (f : α → α) (l : List (Nat × α)) :
    assocGet d (assocMod d k f l) k = f (assocGet d l k) := assocGet_set_same d k _ l

theorem assocGet_mod_other {α : Type} [DecidableEq α] (d : α) {k j : Nat} (f : α → α) (l : List (Nat × α)) (h : j ≠ k) :
    assocGet d (assocMod d k f l) j = assocGet d l j := assocGet_set_other d k j _ l h

/-- The estimate of the peer's credit that a record brings up to date (R113). -/
theorem State.creditSynced_est {c d : Nat} (hc : c < 2 ^ 32) (hnew : (c + 2 ^ 32 - assocGet 0 (s.link p).est 1) % 2 ^ 32 < 2 ^ 31) :
    ((s.creditSynced p c d).link p).synced = true ∧ assocGet 0 ((s.creditSynced p c d).link p).est 1 = c := by
  unfold State.creditSynced
  rw [State.link_setLink]
  refine ⟨rfl, ?_⟩
  rw [assocGet_mod_other 0 _ _ (by decide), assocGet_mod_same, Nat.mod_eq_of_lt hc]
  exact if_pos hnew

/-! ### The standby (R119) -/

theorem exec_stbyStateReceive {e k c d uc ud tc td : Nat} (hlive : s.linkLive 0 = true) (hrole : s.trunk.role = 2)
    (hfree : (s.link 0).frozen = false) (he : e < 4096) (hk : k < 4096) (huc : uc < 2 ^ 32) (hud : ud < 2 ^ 32) :
    let t := s.setLink 0 { s.link 0 with
      expect := e, got := true, txNext := k, held := [], stbyState := some k, grant := assocPut 1 c (assocPut 2 d []),
      used := assocPut 1 uc (assocPut 2 ud []), taken := assocPut 1 tc (assocPut 2 td []) }
    exec (.stbyStateReceive e k c d (uc, ud) (tc, td)) s =
      .next ((((t.oweCredits 1 (t.initialGrant 0).1).oweCredits 2 (t.initialGrant 0).2).sendCtl 0 7 (stbyTakeContent e k c d)).tryTake) := by
  change execStbyStateReceive e k c d (uc, ud) (tc, td) s = _
  have hguard : (s.linkLive 0 && s.trunk.role == 2 && !(s.link 0).frozen) = true := by rw [hlive, hrole, hfree]; rfl
  rw [execStbyStateReceive, if_pos hguard]
  simp only [Nat.mod_eq_of_lt he, Nat.mod_eq_of_lt hk, Nat.mod_eq_of_lt huc, Nat.mod_eq_of_lt hud]

theorem exec_stbyFlitForward {n : Nat} (k : Nat) (b : Bytes) (f g : Nat) (hlive : s.linkLive 0 = true) (hrole : s.trunk.role = 2)
    (hstate : (s.link 0).stbyState.isSome = true) (hn : n < 4096) :
    exec (.stbyFlitForward n k b f g) s = .next (s.setLink 0 { s.link 0 with
      held := (s.link 0).held.filter (fun h => !(s.link 0).ownFlit h) ++ [⟨n, f, k, g, fit 248 b, 1, s.hubTime⟩] ++
        (s.link 0).held.filter (s.link 0).ownFlit
      posted := (s.link 0).posted ++ (if f = 1 then postedIn n g b else []) }).tryTake := by
  change execStbyFlitForward n k b f g s = _
  have hguard : (s.linkLive 0 && s.trunk.role == 2 && (s.link 0).stbyState.isSome) = true := by rw [hlive, hrole, hstate]; rfl
  rw [execStbyFlitForward, if_pos hguard]
  simp only [Nat.mod_eq_of_lt hn]

theorem exec_stbyTake {k : Nat} (e c d : Nat) (hlive : s.linkLive 0 = true) (hk : k < 4096) :
    exec (.stbyTake e k c d) s = .next (s.stbyTaken e c d) := by
  change execStbyTake e k c d s = _
  rw [execStbyTake, if_pos (by rw [hlive, decide_eq_true hk]; rfl)]

end

/-- Settles O25: each row by its lemma. -/
theorem conduitReceiveRows : Obligations.ConduitReceiveRows := by
  unfold Obligations.ConduitReceiveRows
  refine ⟨?flits, ?naks, fun s e n m => exec_laneDrop, fun s e n b c => exec_fallbackAnn, fun s b n c => exec_swapRec,
    fun s p c d => exec_creditSync, fun s p c d _ => State.creditSynced_est, fun s e k c d uc ud tc td => exec_stbyStateReceive,
    fun s n k b f g => exec_stbyFlitForward k b f g, fun s e k c d => exec_stbyTake e c d⟩
  case flits => exact fun s p raw h b unc k hlive hrx => ⟨exec_flitReceive h b unc k hlive hrx, exec_nak hlive hrx⟩
  case naks =>
    intro s p a
    rw [State.nakReceived_eq]
    exact ⟨fun h => if_pos h, fun h => if_neg h⟩

/-! ### Slots (R96, R122, R130) -/

section
variable {s : State}

/-- A slot of a link that is at no replay limit. -/
theorem exec_flitSlot {p : Nat} (hlive : s.linkLive p = true) (hlimit : s.replayLimit p = false) :
    (p = 0 → exec (.flitSlot p) s = .next s.trunkSlot) ∧
    (p ≠ 0 → exec (.flitSlot p) s =
      .next (if (s.sendCascadeIso p).1 = true then (s.sendCascadeIso p).2 else (s.sendCascadeIso p).2.sendSporadic p)) := by
  change (_ → execFlitSlot p s = _) ∧ (_ → execFlitSlot p s = _)
  refine ⟨?_, fun hp => ?_⟩
  · rintro rfl
    simp only [execFlitSlot, hlive, hlimit, Bool.not_true, Bool.false_eq_true, if_true, if_false]
  · simp only [execFlitSlot, hlive, hlimit, hp, Bool.not_true, Bool.false_eq_true, if_false]

/-- At the replay limit the trunk goes down. -/
theorem exec_flitSlot_limit (hlive : s.linkLive 0 = true) (hlimit : s.replayLimit 0 = true) :
    exec (.flitSlot 0) s = .next (((s.raise 0x0303 0).detect 0x22 0).trunkDown).startPriming := by
  change execFlitSlot 0 s = _
  simp only [execFlitSlot, State.replayCheck, hlive, hlimit, Bool.not_true, Bool.false_eq_true, if_true, if_false]

theorem State.askL2d_of_no_request (h : s.is TRK_PWR_L2D_REQ = false) : s.askL2d = s := by
  rw [State.askL2d, h]
  simp

/-- A slot in the middle of a cycle, in a direction that is awake: of no allotment, or of its owner. -/
theorem State.trunkSlot_awake (hmin : 0 < (s.link 0).txSlot) (hmax : (s.link 0).txSlot < 1024) (htx : s.get TRK_PWR_TX_STATE = 0)
    (hreq : s.is TRK_PWR_L2D_REQ = false) :
    (s.slotOwner? (s.link 0).txSlot = none → s.trunkSlot = (s.sendSporadic 0).l2dCheck) ∧
    (∀ k, s.slotOwner? (s.link 0).txSlot = some k → s.trunkSlot = (s.sendOwned k).l2dCheck) := by
  have hslot : (decide ((s.link 0).txSlot ≥ 1024)) = false := decide_eq_false (Nat.not_le.mpr hmax)
  have hfirst : (s.link 0).txSlot ≠ 0 := Nat.ne_of_gt hmin
  refine ⟨fun hfree => ?_, fun k hown => ?_⟩
  · rw [State.trunkSlot]
    simp [htx, hslot, hfirst, State.askL2d_of_no_request hreq, hfree]
  · rw [State.trunkSlot]
    simp [htx, hslot, hfirst, State.askL2d_of_no_request hreq, hown]

theorem State.trunkSlot_quiet (hmin : 0 < (s.link 0).txSlot) (hmax : (s.link 0).txSlot < 1024) (htx : s.get TRK_PWR_TX_STATE = 1)
    (hreq : s.is TRK_PWR_L2D_REQ = false) (hown : s.ownedWithin 100 = false) (hwants : s.trunkWants = false) :
    s.trunkSlot = s.quietSlot.l2dCheck := by
  have hslot : (decide ((s.link 0).txSlot ≥ 1024)) = false := decide_eq_false (Nat.not_le.mpr hmax)
  have hfirst : (s.link 0).txSlot ≠ 0 := Nat.ne_of_gt hmin
  rw [State.trunkSlot]
  simp [htx, hslot, hfirst, State.askL2d_of_no_request hreq, hown, hwants]

/-! ### Timers (R102, R104, R107) -/

theorem exec_replayTimeout {h : Held} {l : List Held} (hheld : (s.link 0).held = h :: l) (hrole : s.trunk.role ≠ 2)
    (hlive : s.linkLive 0 = true) (htime : h.time + s.get CND_RETRY_TIMEOUT * 1000 ≤ s.hubTime) :
    let t := ((s.linkCnt 0 10).detect 0x21 0).startReplay 0
    exec (.replayTimeout 0) s =
      .next ((t.setLink 0 { t.link 0 with replay := (h :: l).map (·.lseq), replayFrom := some h.lseq }).replayCheck 0) := by
  have hreplay : s.replayable 0 = h :: l := by
    rw [State.replayable, if_neg (fun e => hrole e.2), hheld]
  change execReplayTimeout 0 s = _
  simp only [execReplayTimeout, hreplay, hlive, htime, decide_true, Bool.and_self, if_true]

theorem exec_packWindowExpiry {p : Nat} {k : Pack} (hlive : s.linkLive p = true) (hpack : (s.link p).pack = some k)
    (htime : k.since + 10 * s.get CND_CTRL_PACK_WIN ≤ s.hubTime) :
    exec (.packWindowExpiry p) s = .next (s.setPack p (some { k with full := true })) := by
  change execPackWindowExpiry p s = _
  simp only [execPackWindowExpiry, hpack, hlive, htime, decide_true, Bool.and_self, if_true]

theorem exec_aseqIdleTimeout (hlive : s.linkLive 0 = true) (htx : s.get TRK_PWR_TX_STATE = 1) (hsent : s.aseqOut 0 ≠ (s.link 0).aseqSent)
    (hmax : (s.link 0).txSlot < 1024) :
    exec .aseqIdleTimeout s =
      .next ((s.put TRK_PWR_TX_STATE 0).sendIdle 0 (if (s.slotOwner? (s.link 0).txSlot).isSome = true then 0 else 2)) := by
  have hguard : (s.linkLive 0 && s.get TRK_PWR_TX_STATE == 1 && s.aseqOut 0 != (s.link 0).aseqSent &&
      decide ((s.link 0).txSlot < 1024)) = true := by
    rw [hlive, htx, decide_eq_true hmax, bne_iff_ne.mpr hsent]
    rfl
  change execAseqIdleTimeout s = _
  rw [execAseqIdleTimeout, if_pos hguard]

/-! ### CND_CTRL and CND_INJ -/

theorem exec_cntClr (v : W32) (hfw : s.firmware = true) : exec (.cntClr 0 v) s = .next (s.cndCtrl v.toNat) :=
  State.rowWrite_rowAt hfw (by decide) (by decide) (s.regPresent_low _ (by decide)) (base := 0x10030000) (ix := []) (by decide +kernel)
    (fun _ => rfl)

theorem cndCount_key_ne (n : Nat) : (CND_CNT_COUNT n).key ≠ CND_CTRL_PACK_WIN.key := by
  simp only [Fld.key, CND_CNT_COUNT, CND_CTRL_PACK_WIN]
  omega

theorem cndCount_key_inj {i j : Nat} (h : i ≠ j) : (CND_CNT_COUNT i).key ≠ (CND_CNT_COUNT j).key := by
  simp only [Fld.key, CND_CNT_COUNT]
  omega

/-- The counters after a write that clears them. -/
def State.cndCleared (s : State) : State := (List.range 16).foldl (fun s i => s.put (CND_CNT_COUNT i) 0) s

theorem State.cndCtrl_eq (s : State) (v : Nat) : s.cndCtrl v =
    if bit v 31 then (s.put CND_CTRL_PACK_WIN (bits v 7 0)).cndCleared else s.put CND_CTRL_PACK_WIN (bits v 7 0) := rfl

theorem State.cndCleared_count {n : Nat} (hn : n < 16) : s.cndCleared.get (CND_CNT_COUNT n) = 0 :=
  s.puts_get CND_CNT_COUNT (fun _ => 0) (List.range 16) List.nodup_range (fun _ _ _ _ => cndCount_key_inj) n (List.mem_range.mpr hn)

/-- CND_CTRL changes registers only. -/
theorem State.cndCtrl_frame (s : State) (v : Nat) : s.cndCtrl v = { s with regs := (s.cndCtrl v).regs } := by
  rw [State.cndCtrl_eq]
  split
  · exact State.puts_frame (s.put CND_CTRL_PACK_WIN (bits v 7 0)) CND_CNT_COUNT (fun _ => 0) (List.range 16)
  · rfl

theorem State.cndCtrl_packWin (s : State) (v : Nat) : (s.cndCtrl v).get CND_CTRL_PACK_WIN = bits v 7 0 := by
  have hput : (s.put CND_CTRL_PACK_WIN (bits v 7 0)).get CND_CTRL_PACK_WIN = bits v 7 0 :=
    (s.get_put_same _ _).trans (Nat.mod_eq_of_lt (Nat.mod_lt _ (by decide)))
  rw [State.cndCtrl_eq]
  split
  · exact (State.puts_get_other _ CND_CNT_COUNT (fun _ => 0) _ _ (fun i _ => (cndCount_key_ne i).symm)).trans hput
  · exact hput

/-- The injections that a write of CND_INJ arms. -/
theorem State.cndInj_link (s : State) (v : Nat) : ((s.cndInj v).link 0).injHcrc = ((s.link 0).injHcrc || bit v 0) ∧
    ((s.cndInj v).link 0).injUncorr = ((s.link 0).injUncorr || bit v 1) := by
  let x : Link := { s.link 0 with
    aseqFrozen := if bit v 3 then some ((s.link 0).aseqFrozen.getD (s.aseqOut 0)) else none
    injHcrc := (s.link 0).injHcrc || bit v 0, injUncorr := (s.link 0).injUncorr || bit v 1 }
  have hlink : (s.cndInj v).link 0 = x := s.link_setLink 0 x
  rw [hlink]
  exact ⟨rfl, rfl⟩

theorem exec_cndInj (v : W32) (hfw : s.firmware = true) :
    exec (.injHcrc 0 v) s = .next (if s.injectable then s.cndInj v.toNat else s) ∧
      exec (.injUncorr 0 v) s = .next (if s.injectable then s.cndInj v.toNat else s) := by
  have hrow : s.rowWrite true 0 0x10030020 v = .next (if s.injectable then s.cndInj v.toNat else s) :=
    State.rowWrite_rowAt hfw (by decide) (by decide) (s.regPresent_low _ (by decide)) (base := 0x10030020) (ix := [])
      (by decide +kernel) (fun _ => rfl)
  exact ⟨hrow, hrow⟩

end

/-- Settles O26: each row by its lemma. -/
theorem conduitTimerRows : Obligations.ConduitTimerRows := by
  unfold Obligations.ConduitTimerRows
  refine ⟨fun s p => exec_flitSlot, fun s => exec_flitSlot_limit, fun s => State.trunkSlot_awake, ?dark, fun s => State.trunkSlot_quiet,
    fun s h l => exec_replayTimeout, ?hold, fun s p k => exec_packWindowExpiry, fun s => exec_aseqIdleTimeout, ?cntClr, ?inj, ?noInj,
    ?armed⟩
  case dark =>
    intro s htx
    simp [State.trunkSlot, htx]
  case hold => exact fun s p hlive => congrArg Host.Outcome.next (if_pos hlive)
  case cntClr =>
    intro s v hfw
    have hframe := s.cndCtrl_frame v.toNat
    refine ⟨s.cndCtrl v.toNat, exec_cntClr v hfw, s.cndCtrl_packWin v.toNat, fun hclear n hn => ?_, fun hkeep n _ => ?_,
      by rw [hframe], by rw [hframe], by rw [hframe], by rw [hframe]⟩
    · rw [State.cndCtrl_eq, if_pos hclear, State.cndCleared_count hn]
    · rw [State.cndCtrl_eq, hkeep, if_neg Bool.false_ne_true, State.get_put_other _ _ _ _ (cndCount_key_ne n)]
  case inj =>
    intro s v hfw hinj
    have h := exec_cndInj v hfw
    rwa [if_pos hinj] at h
  case noInj =>
    intro s v hfw hinj
    have h := exec_cndInj v hfw
    rwa [if_neg (by rw [hinj]; exact Bool.false_ne_true)] at h
  case armed =>
    intro s v
    obtain ⟨hhcrc, huncorr⟩ := s.cndInj_link v
    exact ⟨fun h => by rw [hhcrc, h, Bool.or_true], fun h => by rw [huncorr, h, Bool.or_true]⟩

end Sys2Proof.Machine
end

section
/-! PROOFS. The calendar, the ticks, the gates and the ports (R123 to R155, R258). -/
namespace Sys2Proof.Machine

/-! ### The rows of the calendar and the ticks -/

section
variable {s : State}

theorem exec_cycleBoundary_end (hlive : s.linksLive = true) (hup : s.trunkUp = true) (hslot : (s.link 0).txSlot = 1024) :
    exec .cycleBoundary s = .next (s.put ALT_CYCLE_CYCLE (cycleAdd (s.get ALT_CYCLE_CYCLE) 1)).startCycle := by
  have hguard : (s.linksLive && s.trunkUp && (s.link 0).txSlot == 1024) = true := by simp [hlive, hup, hslot]
  exact congrArg Host.Outcome.next (if_pos hguard)

/-- With no swap armed and no fallback set, only a profile can change at the start of a cycle. -/
theorem State.cycleChanges_quiet (harm : s.is ALT_CAL_STAT_SWAP_ARMED = false) (hfall : s.allot.fallback = none) :
    (∀ p, s.allot.profile = some (p, s.get ALT_CYCLE_CYCLE) → s.cycleChanges = s.applyProfile p) ∧
    (∀ p c, s.allot.profile = some (p, c) → c ≠ s.get ALT_CYCLE_CYCLE → s.cycleChanges = s) ∧
    (s.allot.profile = none → s.cycleChanges = s) := by
  refine ⟨fun p hp => ?_, fun p c hp hc => ?_, fun hp => ?_⟩ <;> simp [State.cycleChanges, harm, hfall, hp]
  exact fun h => absurd h hc

theorem exec_refillTick_running (hrun : s.running = true) :
    let t := (List.range 512).foldl State.tickWell s
    exec .refillTick s = .next ({ t with allot := { t.allot with tick := t.hubTime } } : State).tickPolicers :=
  congrArg Host.Outcome.next (if_pos hrun)

/-! ### The rows of a port -/

theorem exec_portSchedule {t : State} {p : Nat} (hrun : s.running = true) (hopen : s.portOpen p = true)
    (hfree : assocFind s.cis.tx p = none) :
    (∀ w id, s.takeNext p = (some (w, id), t) → exec (.portSchedule p) s = .next (t.startFrame p w id).settle) ∧
    (s.takeNext p = (none, t) → exec (.portSchedule p) s = .next t.settle) := by
  have hguard : (s.running && s.portOpen p && (assocFind s.cis.tx p).isNone) = true := by simp [hrun, hopen, hfree]
  refine ⟨fun w id h => ?_, fun h => ?_⟩ <;>
    (change execPortSchedule p s = _
     rw [execPortSchedule, if_pos hguard, h])

/-- The state in which a frame has left port `p` and its transmission is over. -/
def State.afterTx (s : State) (p : Nat) (x : Tx) : State :=
  let t := (x.well.elim (s.sendFrame p x.frame x.time) (s.sendFrame p x.frame x.time).accrue).accruePort p
  { t with cis := { t.cis with tx := assocDel p t.cis.tx } }

theorem exec_frameTransmitDone {p : Nat} {x : Tx} (hrun : s.running = true) (htx : assocFind s.cis.tx p = some x) :
    exec (.frameTransmitDone p) s = .next
      ((if 12 ≤ p ∧ p ≤ 27 then
          ((if 4 ≤ p ∧ p ≤ 11 then (s.afterTx p x).startHolds (p - 4) else s.afterTx p x).sentFrame x.well x.frame).samGrant (p - 12)
        else (if 4 ≤ p ∧ p ≤ 11 then (s.afterTx p x).startHolds (p - 4) else s.afterTx p x).sentFrame x.well x.frame).settle) := by
  change execFrameTransmitDone p s = _
  simp only [execFrameTransmitDone, htx]
  rw [if_pos hrun]
  rfl

/-- An Ethernet port starts its holds, a spout grants credit, and any other port does neither. -/
theorem exec_frameTransmitDone_of_port {p : Nat} {x : Tx} (hrun : s.running = true) (htx : assocFind s.cis.tx p = some x) :
    (4 ≤ p → p ≤ 11 →
      exec (.frameTransmitDone p) s = .next (((s.afterTx p x).startHolds (p - 4)).sentFrame x.well x.frame).settle) ∧
    (12 ≤ p → p ≤ 27 →
      exec (.frameTransmitDone p) s = .next (((s.afterTx p x).sentFrame x.well x.frame).samGrant (p - 12)).settle) ∧
    (p < 4 ∨ 27 < p → exec (.frameTransmitDone p) s = .next ((s.afterTx p x).sentFrame x.well x.frame).settle) := by
  rw [exec_frameTransmitDone hrun htx]
  refine ⟨fun h4 h11 => ?_, fun h12 h27 => ?_, fun h => ?_⟩
  · rw [if_neg (by omega : ¬(12 ≤ p ∧ p ≤ 27)), if_pos ⟨h4, h11⟩]
  · rw [if_pos ⟨h12, h27⟩, if_neg (by omega : ¬(4 ≤ p ∧ p ≤ 11))]
  · rw [if_neg (by omega : ¬(12 ≤ p ∧ p ≤ 27)), if_neg (by omega : ¬(4 ≤ p ∧ p ≤ 11))]

/-! ### The gates of an Ethernet port -/

theorem exec_gateTransition_running {n : Nat} (hrun : s.running = true) (hn : n < 8) :
    exec (.gateTransition n) s = .next ((s.accruePort (n + 4)).gateStep n) := by
  have hguard : (s.running && decide (n < 8)) = true := by simp [hrun, hn]
  exact congrArg Host.Outcome.next (if_pos hguard)

theorem exec_gclChangeTime_running {n : Nat} (hrun : s.running = true) (hn : n < 8) :
    exec (.gclChangeTime n) s = .next ((s.accruePort (n + 4)).gateChange n) := by
  have hguard : (s.running && decide (n < 8)) = true := by simp [hrun, hn]
  exact congrArg Host.Outcome.next (if_pos hguard)

/-- A pending gate list comes into force when its time has come, not before. -/
theorem State.gateChange_pending {n t : Nat} {c : GclCfg} (hpend : (s.gcl n).pend = some (c, t)) :
    s.gateChange n =
      if t ≤ s.hubTime then
        ((((s.setGcl n { oper := some c, start := t, pend := none }).put (ALT_GCL_STAT_OPER_LEN n) c.list.length).put
          (ALT_GCL_STAT_CUR n) 0).put (ALT_GCL_CTRL_PENDING n) 0).raise 0x0408 n
      else s := by
  simp only [State.gateChange, hpend]
end

theorem State.accrue_kept (s : State) (n : Nat) : (s.accrue n).allot = s.allot ∧ (s.accrue n).hubTime = s.hubTime := by
  unfold State.accrue
  split <;> exact ⟨rfl, rfl⟩

/-- Accruing a port's credit leaves the gates and hub time. -/
theorem State.accruePort_kept (s : State) (p : Nat) :
    (s.accruePort p).allot = s.allot ∧ (s.accruePort p).hubTime = s.hubTime := by
  unfold State.accruePort
  generalize s.wellNos.filter _ = ns
  induction ns generalizing s with
  | nil => exact ⟨rfl, rfl⟩
  | cons n ns ih =>
    obtain ⟨hallot, htime⟩ := State.accrue_kept s n
    exact ⟨(ih (s.accrue n)).1.trans hallot, (ih (s.accrue n)).2.trans htime⟩

theorem State.gcl_accruePort (s : State) (p n : Nat) : (s.accruePort p).gcl n = s.gcl n :=
  congrArg (fun a : Allot => assocGet ({} : Gcl) a.gates n) (s.accruePort_kept p).1

theorem exec_gclChangeTime_pending {s : State} {n t : Nat} {c : GclCfg} (hrun : s.running = true) (hn : n < 8)
    (hpend : (s.gcl n).pend = some (c, t)) :
    (t ≤ s.hubTime → exec (.gclChangeTime n) s =
      .next ((((((s.accruePort (n + 4)).setGcl n { oper := some c, start := t, pend := none }).put (ALT_GCL_STAT_OPER_LEN n)
        c.list.length).put (ALT_GCL_STAT_CUR n) 0).put (ALT_GCL_CTRL_PENDING n) 0).raise 0x0408 n)) ∧
    (s.hubTime < t → exec (.gclChangeTime n) s = .next (s.accruePort (n + 4))) := by
  have hpend' : ((s.accruePort (n + 4)).gcl n).pend = some (c, t) := by rw [s.gcl_accruePort, hpend]
  have htime := (s.accruePort_kept (n + 4)).2
  rw [exec_gclChangeTime_running hrun hn, State.gateChange_pending hpend', htime]
  exact ⟨fun h => by rw [if_pos h], fun h => by rw [if_neg (Nat.not_le.mpr h)]⟩

theorem State.gcl_setGcl (s : State) (n : Nat) (g : Gcl) : (s.setGcl n g).gcl n = g := assocGet_set_same ({} : Gcl) n g s.allot.gates

theorem State.latchGates_spec (s : State) (n : Nat) :
    ((s.latchGates n).gcl n).pend = some (s.adminGcl n, changeTime s.hubTime (s.adminGcl n)) ∧
    (s.latchGates n).get (ALT_GCL_CTRL_PENDING n) = 1 :=
  ⟨congrArg Gcl.pend (s.gcl_setGcl n _), State.get_put_same _ (ALT_GCL_CTRL_PENDING n) 1⟩

/-- The change time is the first multiple of the cycle after the base that lies ahead (R147). -/
theorem changeTime_spec (now : Nat) (c : GclCfg) (hcycle : 0 < c.cycle) :
    now < changeTime now c ∧ c.base ≤ changeTime now c ∧ (changeTime now c - c.base) % c.cycle = 0 := by
  unfold changeTime
  split
  next h => exact ⟨h, Nat.le_refl _, by simp⟩
  next h =>
    rw [Nat.max_eq_right hcycle]
    have hdiv := Nat.div_add_mod (now - c.base) c.cycle
    have hlt := Nat.mod_lt (now - c.base) hcycle
    refine ⟨?_, Nat.le_add_right _ _, by rw [Nat.add_sub_cancel_left, Nat.mul_mod_left]⟩
    rw [Nat.add_mul, Nat.one_mul, Nat.mul_comm]
    omega

/-! ### Writes of the calendar, the shapers and the policers -/

theorem bit_setBit_false (v i : Nat) : bit (setBit v i false) i = false := by
  by_cases h : v.testBit i = true
  · have hodd : v / 2 ^ i % 2 = 1 := by simpa [Nat.testBit_eq_decide_div_mod_eq] using h
    have hdiv : (v - 2 ^ i) / 2 ^ i = v / 2 ^ i - 1 := by simpa using Nat.sub_mul_div v (2 ^ i) 1
    simp only [bit, setBit, h, if_true, Bool.false_eq_true, if_false, Nat.testBit_eq_decide_div_mod_eq, hdiv, decide_eq_false_iff_not]
    omega
  · simp only [bit, setBit, h, Bool.false_eq_true, if_false]

/-- A table marked not valid reads as not valid. -/
theorem State.tableValid_setValid_false (s : State) (bank n : Nat) : (s.setValid bank n false).tableValid bank n = false := by
  have hkept (f : Fld) : bit ((s.put f (setBit (s.get f) (n - 1) false)).get f) (n - 1) = false := by
    have hclear : (setBit (s.get f) (n - 1) false).testBit (n - 1) = false := bit_setBit_false _ _
    rw [State.get_put_same, bit, Nat.testBit_mod_two_pow, hclear, Bool.and_false]
  exact hkept _

theorem State.calEntWrite_spec (s : State) (bank n slot v : Nat) :
    (bank = s.bankInUse ∨ s.is ALT_CAL_STAT_SWAP_ARMED = true → s.calEntWrite bank n slot v = s) ∧
    (bank ≠ s.bankInUse → s.is ALT_CAL_STAT_SWAP_ARMED = false → (s.calEntWrite bank n slot v).tableValid bank n = false) := by
  refine ⟨fun h => if_pos h, fun hbank harm => ?_⟩
  rw [State.calEntWrite, if_neg (by simp [hbank, harm])]
  exact State.tableValid_setValid_false _ bank n

theorem State.phaseWrite_spec (s : State) (v : Nat) :
    (s.phaseWrite v).get ALT_CAL_STAT_ALIGNED = 0 ∧ (s.phaseWrite v).allot.slewing = true ∧
    (s.phaseWrite v).get ALT_CAL_PHASE_PHASE =
      min v (pCal (max 1 (s.get ALT_CAL_STAT_LANES)) s.calRate - 1) % 2 ^ ALT_CAL_PHASE_PHASE.w := by
  refine ⟨State.get_put_same _ ALT_CAL_STAT_ALIGNED 0, rfl, ?_⟩
  exact (State.get_put_other (s := s.put ALT_CAL_PHASE_PHASE _) (f := ALT_CAL_STAT_ALIGNED) (g := ALT_CAL_PHASE_PHASE) 0 (by decide)).trans
    (State.get_put_same s ALT_CAL_PHASE_PHASE _)

theorem State.shadowShaper_spec (s : State) (n off v : Nat) (f : Fld) :
    (s.shadowShaper n off v).get f = s.get f ∧ assocFind ((s.shadowShaper n off v).well n).shadow off = some v := by
  refine ⟨rfl, ?_⟩
  rw [State.shadowShaper, State.well_setWell]
  exact assocFind_put off v _

theorem State.shadowPolicer_spec (s : State) (c r v : Nat) (f : Fld) :
    (s.shadowPolicer c r v).get f = s.get f ∧ assocFind (s.shadowPolicer c r v).allot.polShadow (c * 4 + r) = some v :=
  ⟨rfl, assocFind_put (c * 4 + r) v s.allot.polShadow⟩

theorem State.writeReg_shaper (s : State) (sl n v : Nat) (fs : List (Fld × Acc)) (off : Nat)
    (hoff : off = 0x24 ∨ off = 0x28 ∨ off = 0x2C ∨ off = 0x30 ∨ off = 0x34) :
    s.writeReg sl (0x10090000 + off) [n] fs v = s.shadowShaper n off v := by
  obtain rfl | rfl | rfl | rfl | rfl := hoff <;> rfl

theorem State.writeReg_policer (s : State) (sl n v : Nat) (fs : List (Fld × Acc)) (r : Nat) (hr : r = 0 ∨ r = 1 ∨ r = 3) :
    s.writeReg sl (0x10070000 + 4 * r) [n] fs v = s.shadowPolicer n r v := by
  obtain rfl | rfl | rfl := hr <;> rfl

/-- Settles O27. -/
theorem allotmentRows : Obligations.AllotmentRows := by
  refine ⟨⟨fun s => exec_cycleBoundary_end, fun s => State.cycleChanges_quiet, fun s => exec_refillTick_running, ?scheduled, ?idle,
    fun s p x => exec_frameTransmitDone_of_port, fun s n => exec_gateTransition_running, ?change, ?early⟩,
    ?entry, ?phase, ?shadow, State.latchGates_spec, changeTime_spec⟩
  case scheduled => exact fun s t p w id hrun hopen hfree h => (exec_portSchedule hrun hopen hfree).1 w id h
  case idle => exact fun s t p hrun hopen hfree h => (exec_portSchedule hrun hopen hfree).2 h
  case change => exact fun s n c t hrun hn hpend h => (exec_gclChangeTime_pending hrun hn hpend).1 h
  case early => exact fun s n c t hrun hn hpend h => (exec_gclChangeTime_pending hrun hn hpend).2 h
  case entry =>
    intro s sl bank n slot fs v
    obtain ⟨hkept, hvalid⟩ := s.calEntWrite_spec bank (n + 1) slot v
    exact ⟨hkept, fun hbank harm _ _ => hvalid hbank harm⟩
  case phase => exact fun s sl fs v => s.phaseWrite_spec v
  case shadow =>
    intro s sl n v fs f
    exact ⟨fun off hoff => ⟨s.writeReg_shaper sl n v fs off hoff, s.shadowShaper_spec n off v f⟩,
      fun r hr => ⟨s.writeReg_policer sl n v fs r hr, s.shadowPolicer_spec n r v f⟩⟩

end Sys2Proof.Machine
end

section
/-! PROOFS. Frames that land, the marks of a well, the sweep and the dipper (R20, R163 to R200). -/
namespace Sys2Proof.Machine

/-! ### Fields of one register -/

/-- Two fields of one register have different keys when they begin at different bits. -/
theorem Fld.key_ne {f g : Fld} (haddr : f.addr = g.addr) (hlo : (f.lo == g.lo) = false) : f.key ≠ g.key := by
  have hne : f.lo ≠ g.lo := by simpa using hlo
  simp only [Fld.key, haddr, ne_eq, Nat.add_left_cancel_iff]
  exact hne

/-- Bits taken for a field fit in it. -/
theorem bits_fit {v hi lo w : Nat} (hw : hi + 1 - lo = w) : bits v hi lo % 2 ^ w = bits v hi lo := by
  subst hw
  exact Nat.mod_mod_of_dvd _ (Nat.dvd_refl _)

/-- The registers of the dipper and of the wells are always present. -/
theorem State.regPresent_wells (s : State) {a : Nat} (hlo : 0x10080218 ≤ a) (hhi : a < 0x10100000) : s.regPresent a = true := by
  unfold State.regPresent
  iterate 3 rw [if_neg (by omega)]
  iterate 12 rw [if_neg (by omega)]

/-! ### Ingress (R20, R199, R200) -/

section
variable {s : State} {p : Nat}

theorem exec_frameIngress {d : Bytes} (hrun : s.running = true) (hpres : s.portPresent p = true) (hd : d ≠ [])
    (hheld : s.heldPort p = false)
    (hport : (4 ≤ p ∧ p ≤ 11 ∧ s.is (ETH_STAT_LINK (p - 4)) = true) ∨ (12 ≤ p ∧ p ≤ 27 ∧ p - 12 < s.nWide) ∨ p = 28 ∨
      (p = 29 ∧ s.dock = false) ∨ p = 31 ∨ 32 < p) :
    exec (.frameIngress p d) s =
      .next (s.ingress p (s.hubTime - (if p ≤ 11 then s.get (ETH_TS_LAT_RX (p - 4)) else 0)) d (s.classify p d)) := by
  change execFrameIngress p d s = _
  have hkind : 4 ≤ p ∧ p ≠ 30 ∧ p ≠ 32 := by omega
  have hdock : (p == 29 && s.dock) = false := by
    rcases hport with h | h | h | ⟨-, h⟩ | h | h
    case inr.inr.inr.inl => rw [h, Bool.and_false]
    all_goals exact Bool.and_eq_false_iff.mpr (.inl (beq_eq_false_iff_ne.mpr (by omega)))
  have hlink : (decide (p ≤ 11) && !s.is (ETH_STAT_LINK (p - 4))) = false := by
    rcases hport with ⟨-, -, h⟩ | h | h | h | h | h
    case inl => rw [h, Bool.not_true, Bool.and_false]
    all_goals exact Bool.and_eq_false_iff.mpr (.inl (decide_eq_false (by omega)))
  have hwide : decide (12 ≤ p ∧ p ≤ 27 ∧ s.nWide ≤ p - 12) = false := decide_eq_false (by omega)
  have hempty : d.isEmpty = false := List.isEmpty_eq_false_iff.mpr hd
  have hguard : (s.running && s.portPresent p && decide (4 ≤ p ∧ p ≠ 30 ∧ p ≠ 32) && !d.isEmpty && !(p == 29 && s.dock) &&
      !(decide (p ≤ 11) && !s.is (ETH_STAT_LINK (p - 4))) && !decide (12 ≤ p ∧ p ≤ 27 ∧ s.nWide ≤ p - 12) && !s.heldPort p) = true := by
    simp only [hrun, hpres, decide_eq_true hkind, hempty, hdock, hlink, hwide, hheld, Bool.not_false, Bool.and_true]
  rw [execFrameIngress, if_pos hguard]

theorem State.ingress_spec (s : State) (p t : Nat) (d : Bytes) (c : Option (Nat × Nat)) :
    (4 ≤ p → p ≤ 11 → s.get (WEL_PORT_Q_QUOTA p) ≤ s.get (WEL_PORT_USE_USE p) ∨ s.noRoom d.length = true →
      s.ingress p t d c = s.bump (ETH_CNT_COUNT (p - 4) 3)) ∧
    (4 ≤ p → p ≤ 11 → s.get (WEL_PORT_USE_USE p) < s.get (WEL_PORT_Q_QUOTA p) → s.noRoom d.length = false →
      s.ingress p t d c = (s.bump (ETH_CNT_COUNT (p - 4) 0)).landFrame p t d c) ∧
    (28 ≤ p → s.backPressured p = true → s.ingress p t d c = s) ∧
    (28 ≤ p → s.backPressured p = false → s.ingress p t d c = s.landFrame p t d c) ∧
    (12 ≤ p → p ≤ 27 → s.ingress p t d c = s.landFrame p t d c) := by
  unfold State.ingress
  refine ⟨fun h4 h11 hfull => ?_, fun h4 h11 huse hroom => ?_, fun h28 hbp => ?_, fun h28 hbp => ?_, fun h12 h27 => ?_⟩
  · rw [if_pos ⟨h4, h11⟩, if_pos hfull]
  · rw [if_pos ⟨h4, h11⟩, if_neg (by simp [hroom]; omega)]
  · rw [if_neg (by omega), if_pos ⟨h28, hbp⟩]
  · rw [if_neg (by omega), if_neg (by simp [hbp])]
  · rw [if_neg (by omega), if_neg (by omega)]

theorem State.landFrame_spec (s : State) (p t : Nat) (d : Bytes) (c : Option (Nat × Nat)) :
    (s.freeCells < cellsFor d.length ∨ s.freeFds = 0 → s.landFrame p t d c = s) ∧
    (cellsFor d.length ≤ s.freeCells → 0 < s.freeFds →
      let r := s.landStream { data := d, stamp := t, src := p, port := p }
      s.landFrame p t d c = (r.2.placeFrame p r.1 c).settle) :=
  ⟨fun h => if_pos h, fun hcells hfds => if_neg (by omega)⟩

theorem State.placeFrame_some (s : State) (p id c i : Nat) :
    let t := s.setFrame id { s.frame id with
        ctx := c, cls := i, gen := s.sliceGen (s.ctxSlice c), early := s.is (CTX_CFG_EARLY c) && decide (256 < (s.frame id).data.length) }
    (t.nCtx ≤ c ∨ t.idleContext c = true → s.placeFrame p id (some (c, i)) = t.sump id 9) ∧
    (c < t.nCtx → t.idleContext c = false → 16384 < (s.frame id).data.length →
      s.placeFrame p id (some (c, i)) = (t.sump id 5).raise 0x0704 c) := by
  intro t
  refine ⟨fun h => if_pos h, fun hctx hidle hlong => ?_⟩
  have hused : ¬(t.nCtx ≤ c ∨ t.idleContext c = true) := by simp [hidle, hctx]
  exact (if_neg hused).trans (if_pos hlong)

/-- A port without classification rules sends its frames to its default context. -/
theorem State.classify_default (d : Bytes) (hp : p < 4 ∨ 11 < p) :
    s.classify p d = if s.is (CTX_PORT_DEF_EN p) = true then some (s.get (CTX_PORT_DEF_CTX p), 0xFF) else none := by
  simp only [State.classify]
  rw [if_neg (by omega : ¬(4 ≤ p ∧ p ≤ 11))]

/-- The first rule that matches decides. -/
theorem State.classify_rule {i : Nat} {d : Bytes} (h4 : 4 ≤ p) (h11 : p ≤ 11) (hi : i < 16)
    (hmatch : s.clsMatches (p - 4) i (ethHead d) = true) (hfirst : ∀ j, j < i → s.clsMatches (p - 4) j (ethHead d) = false) :
    s.classify p d = some (s.get (CTX_ETH_CLS0_CTX (p - 4) i), i) := by
  have hfind : (List.range 16).find? (fun i => s.clsMatches (p - 4) i (ethHead d)) = some i :=
    List.find?_range_eq_some.mpr ⟨hmatch, List.mem_range.mpr hi, fun j hj => by rw [hfirst j hj]; rfl⟩
  simp only [State.classify]
  rw [if_pos ⟨h4, h11⟩, hfind]

/-! ### Marks and the sweep (R164, R170) -/

theorem State.markCheck_spec {n : Nat} (hshed : s.sheds n = false) :
    (s.is (WEL_DEPTH_CONG n) = false → s.get (WEL_HIMARK_HIGH n) ≤ s.get (WEL_DEPTH_CELLS n) → s.markCheck n = s.congest n) ∧
    (s.is (WEL_DEPTH_CONG n) = false → s.get (WEL_DEPTH_CELLS n) < s.get (WEL_HIMARK_HIGH n) → s.markCheck n = s) ∧
    (s.is (WEL_DEPTH_CONG n) = true → s.get (WEL_DEPTH_CELLS n) < min (s.get (WEL_LOMARK_LOW n)) (s.get (WEL_HIMARK_HIGH n)) →
      s.markCheck n = s.uncongest n) ∧
    (s.is (WEL_DEPTH_CONG n) = true → min (s.get (WEL_LOMARK_LOW n)) (s.get (WEL_HIMARK_HIGH n)) ≤ s.get (WEL_DEPTH_CELLS n) →
      s.markCheck n = s) := by
  unfold State.markCheck State.lowMark
  refine ⟨fun hc h => ?_, fun hc h => ?_, fun hc h => ?_, fun hc h => ?_⟩
  · rw [if_neg (by rw [hc]; exact Bool.false_ne_true), if_pos (by rw [hshed, decide_eq_true h]; rfl)]
  · rw [if_neg (by rw [hc]; exact Bool.false_ne_true), if_neg (by rw [decide_eq_false (Nat.not_le.mpr h)]; exact Bool.false_ne_true)]
  · rw [if_pos hc, if_pos (by rw [decide_eq_true h]; rfl)]
  · rw [if_pos hc, if_neg (by rw [hshed, decide_eq_false (Nat.not_lt.mpr h)]; exact Bool.false_ne_true)]

/-! ### The dipper (R180, R181) -/

/-- The dipper writes its oldest record at the write pointer, which advances. -/
theorem exec_dipperRecordWritten {r : Bytes} {l : List Bytes} (hrun : s.running = true) (hbuf : s.cis.dipBuf = r :: l)
    (hfull : s.is WEL_DIP_CTRL_FULL = false) (hroom : s.get WEL_DIP_WPTR_INDEX + 1 < s.get WEL_DIP_RING_SIZE)
    (hsize : s.get WEL_DIP_RING_SIZE ≤ 8192) :
    ∃ t, exec .dipperRecordWritten s = .next t ∧ t.get WEL_DIP_WPTR_INDEX = s.get WEL_DIP_WPTR_INDEX + 1 ∧ t.cis.dipBuf = l ∧
      t.tanks = (s.tankWrite 3 (s.get WEL_DIP_RING_BASE * 4096 + 64 * s.get WEL_DIP_WPTR_INDEX) r).tanks ∧ t.links = s.links ∧
      (∀ f : Fld, f.key ≠ WEL_DIP_WPTR_INDEX.key → t.get f = s.get f) := by
  refine ⟨({ s with cis := { s.cis with dipBuf := l } }.tankWrite 3
      (s.get WEL_DIP_RING_BASE * 4096 + 64 * s.get WEL_DIP_WPTR_INDEX) r).put WEL_DIP_WPTR_INDEX (s.get WEL_DIP_WPTR_INDEX + 1),
    ?_, ?_, rfl, rfl, rfl, fun f hf => State.get_put_other _ _ _ _ hf⟩
  · have hcont : (State.put (State.tankWrite { s with cis := { s.cis with dipBuf := l } } 3
        (s.get WEL_DIP_RING_BASE * 4096 + 64 * s.get WEL_DIP_WPTR_INDEX) r) WEL_DIP_WPTR_INDEX (s.get WEL_DIP_WPTR_INDEX + 1)) =
        s.dipperWrite := by
      simp only [State.dipperWrite, hbuf, hfull, Bool.false_eq_true, if_false]
      exact (if_pos hroom).symm
    rw [hcont]
    exact congrArg Host.Outcome.next (if_pos hrun)
  · rw [State.get_put_same]
    exact Nat.mod_eq_of_lt (show s.get WEL_DIP_WPTR_INDEX + 1 < 8192 by omega)

theorem exec_dipperRecordWritten_full (hrun : s.running = true) (hbuf : s.cis.dipBuf ≠ []) (hfull : s.is WEL_DIP_CTRL_FULL = true) :
    exec .dipperRecordWritten s = .next { s with cis := { s.cis with dipBuf := [] } } := by
  obtain ⟨r, l, hcons⟩ := List.exists_cons_of_ne_nil hbuf
  have hwrite : s.dipperWrite = { s with cis := { s.cis with dipBuf := [] } } := by
    simp only [State.dipperWrite, hcons, hfull, if_true]
  exact (congrArg Host.Outcome.next (if_pos hrun)).trans (congrArg Host.Outcome.next hwrite)

/-- A write of the dipper's control register up to the fields that the write itself carries. -/
def State.dipFields (s : State) (v : Nat) : State :=
  (((s.put WEL_DIP_CTRL_POINTS (bits v 19 16)).put WEL_DIP_CTRL_CAUSES (bits v 15 0)).put WEL_DIP_CTRL_EN (bits v 31 31)).put
    WEL_DIP_CTRL_STOP (bits v 30 30)

theorem State.dipFields_get (s : State) (v : Nat) :
    (s.dipFields v).get WEL_DIP_CTRL_EN = bits v 31 31 ∧ (s.dipFields v).get WEL_DIP_WPTR_INDEX = s.get WEL_DIP_WPTR_INDEX := by
  have hen : bits v 31 31 % 2 ^ WEL_DIP_CTRL_EN.w = bits v 31 31 := bits_fit rfl
  constructor <;> simp (disch := decide) only [State.dipFields, State.get_put_other, State.get_put_same, hen]

/-- Enabling the dipper empties its ring. -/
theorem State.dipCtrl_enable {v : Nat} (h : bit v 31 = true) :
    (∀ f, (s.dipCtrl v).get f = ((((s.dipFields v).put WEL_DIP_WPTR_INDEX 0).put WEL_DIP_WPTR_WRAPS 0).put WEL_DIP_CTRL_FULL 0).get f) ∧
    (s.dipCtrl v).cis.dipMatch = 0 := by
  have hv : s.dipCtrl v = _ := if_pos h
  rw [hv]
  exact ⟨fun f => rfl, rfl⟩

theorem State.dipCtrl_keep {v : Nat} (h : bit v 31 = false) : s.dipCtrl v = s.dipFields v :=
  if_neg (by rw [h]; exact Bool.false_ne_true)

theorem State.dipCtrl_spec (s : State) (v : Nat) :
    (s.dipCtrl v).get WEL_DIP_CTRL_EN = bits v 31 31 ∧
    (bit v 31 = true → (s.dipCtrl v).get WEL_DIP_WPTR_INDEX = 0 ∧ (s.dipCtrl v).get WEL_DIP_WPTR_WRAPS = 0 ∧
      (s.dipCtrl v).get WEL_DIP_CTRL_FULL = 0 ∧ (s.dipCtrl v).cis.dipMatch = 0) ∧
    (bit v 31 = false → (s.dipCtrl v).get WEL_DIP_WPTR_INDEX = s.get WEL_DIP_WPTR_INDEX) := by
  obtain ⟨hen, hptr⟩ := s.dipFields_get v
  refine ⟨?_, fun h => ?_, fun h => by rw [State.dipCtrl_keep h, hptr]⟩
  · cases h : bit v 31 with
    | true =>
      obtain ⟨hget, -⟩ := State.dipCtrl_enable (s := s) h
      simp (disch := decide) only [hget, State.get_put_other, hen]
    | false => rw [State.dipCtrl_keep h, hen]
  · obtain ⟨hget, hmatch⟩ := State.dipCtrl_enable (s := s) h
    simp (disch := decide) only [hget, hmatch, State.get_put_other, State.get_put_same, Nat.zero_mod, and_self]

/-! ### WEL_CFG (R163) -/

theorem exec_welCfgWrite_zero {n : Nat} (v : W32) (hfw : s.firmware = true) (hn : n < 512) :
    exec (.welCfgWrite 0 n v) s = .next (s.welCfg 0 n v.toNat).settle := by
  have h := s.rowWrite_placed 0x10090000 0x40 512 _ n v placed_welCfg hfw hn (by omega)
    (s.regPresent_wells (by omega) (by omega)) (by omega) (by omega)
  exact h

/-- What welFields makes of the port and the slice before the rest of the register. -/
def State.welMoved (s : State) (n v : Nat) (free may : Bool) : State :=
  let s := if free && may then s.put (WEL_CFG_PORT n) (bits v 5 0) else s
  if free then s.put (WEL_CFG_SLICE n) (bits v 21 16) else s

theorem State.welFields_zero (s : State) (n v : Nat) :
    s.welFields 0 n v = (((s.welMoved n v (!s.is (WEL_CFG_EN n) && s.get (WEL_DEPTH_CELLS n) == 0 && s.portPresent (bits v 5 0))
      (bits v 5 0 == 32 || s.slicePort 0 (bits v 5 0) || s.get (WEL_CFG_SLICE n) != 0)).put (WEL_CFG_EN n) (bits v 31 31)).put
        (WEL_CFG_BP_PRI n) (bits v 29 27)).put (WEL_CFG_ISL_MODE n) (bits v 30 30) := by
  simp only [State.welFields, State.welMoved, beq_self_eq_true, Bool.true_and, Bool.and_true]

theorem State.welMoved_port (s : State) (n v : Nat) (free may : Bool) :
    (s.welMoved n v free may).get (WEL_CFG_PORT n) = if free && may then bits v 5 0 else s.get (WEL_CFG_PORT n) := by
  have hport : bits v 5 0 % 2 ^ (WEL_CFG_PORT n).w = bits v 5 0 := bits_fit rfl
  have hne : (WEL_CFG_PORT n).key ≠ (WEL_CFG_SLICE n).key := Fld.key_ne rfl rfl
  cases free <;> cases may <;> simp [State.welMoved, State.get_put_other _ _ _ _ hne, State.get_put_same, hport]

theorem State.welMoved_slice (s : State) (n v : Nat) (free may : Bool) :
    (s.welMoved n v free may).get (WEL_CFG_SLICE n) = if free then bits v 21 16 else s.get (WEL_CFG_SLICE n) := by
  have hslice : bits v 21 16 % 2 ^ (WEL_CFG_SLICE n).w = bits v 21 16 := bits_fit rfl
  cases free <;> cases may <;> simp [State.welMoved, State.get_put_same, hslice]

/-- The fields of WEL_CFG after a write by slice 0. -/
theorem State.welFields_get (s : State) (n v : Nat) :
    let free := !s.is (WEL_CFG_EN n) && s.get (WEL_DEPTH_CELLS n) == 0 && s.portPresent (bits v 5 0)
    let may := bits v 5 0 == 32 || s.slicePort 0 (bits v 5 0) || s.get (WEL_CFG_SLICE n) != 0
    let t := s.welFields 0 n v
    t.get (WEL_CFG_EN n) = bits v 31 31 ∧ t.get (WEL_CFG_ISL_MODE n) = bits v 30 30 ∧ t.get (WEL_CFG_BP_PRI n) = bits v 29 27 ∧
    t.get (WEL_CFG_PORT n) = (if free && may then bits v 5 0 else s.get (WEL_CFG_PORT n)) ∧
    t.get (WEL_CFG_SLICE n) = if free then bits v 21 16 else s.get (WEL_CFG_SLICE n) := by
  intro free may t
  have ht : t = _ := s.welFields_zero n v
  rw [ht, ← s.welMoved_port n v free may, ← s.welMoved_slice n v free may]
  generalize s.welMoved n v free may = u
  have hen : bits v 31 31 % 2 ^ (WEL_CFG_EN n).w = bits v 31 31 := bits_fit rfl
  have hmode : bits v 30 30 % 2 ^ (WEL_CFG_ISL_MODE n).w = bits v 30 30 := bits_fit rfl
  have hpri : bits v 29 27 % 2 ^ (WEL_CFG_BP_PRI n).w = bits v 29 27 := bits_fit rfl
  simp (disch := exact Fld.key_ne rfl rfl) only [State.get_put_other, State.get_put_same, hen, hmode, hpri, and_self]

theorem State.welCfg_spec (s : State) (n v : Nat) :
    (bits v 30 30 = s.get (WEL_CFG_ISL_MODE n) → s.welCfg 0 n v = (s.accrue n).welFields 0 n v) ∧
    (bits v 30 30 ≠ s.get (WEL_CFG_ISL_MODE n) → s.welCfg 0 n v = ((s.accrue n).welFields 0 n v).markCheck n) := by
  obtain ⟨-, hmode, -⟩ := (s.accrue n).welFields_get n v
  unfold State.welCfg
  exact ⟨fun h => if_pos (hmode.trans h), fun h => if_neg (hmode ▸ h)⟩
end

/-- Settles O29. -/
theorem cisternRows : Obligations.CisternRows := by
  refine ⟨fun s p d hrun hpres hd hheld => exec_frameIngress hrun hpres hd hheld, State.ingress_spec, State.landFrame_spec,
    fun s p id => ⟨rfl, s.placeFrame_some p id⟩, fun s p d => State.classify_default d, fun s p i d => State.classify_rule,
    fun s n => State.markCheck_spec, ?sweep, fun s r l => exec_dipperRecordWritten, fun s => exec_dipperRecordWritten_full,
    fun s n v => exec_welCfgWrite_zero v, ?fields, State.welCfg_spec, ?enable, State.dipCtrl_spec, fun s v h => if_pos h⟩
  case sweep => exact fun s hrun => congrArg Host.Outcome.next (if_pos hrun)
  case enable =>
    exact fun s v hfw => State.rowWrite_rowAt hfw (by decide) (by decide) (s.regPresent_wells (by decide) (by decide))
      (base := 0x10080800) (ix := []) (by decide +kernel) (fun fs => rfl)
  case fields =>
    intro s n v
    obtain ⟨hen, hmode, hpri, hport, hslice⟩ := s.welFields_get n v
    refine ⟨hen, hmode, hpri, fun h => ?_, fun hen hcells hpres => ⟨?_, fun h => ?_, fun h32 hsl hzero => ?_⟩⟩
    · have hfree : (!s.is (WEL_CFG_EN n) && s.get (WEL_DEPTH_CELLS n) == 0 && s.portPresent (bits v 5 0)) = false := by
        rcases h with h | h | h
        · rw [h]; rfl
        · rw [beq_eq_false_iff_ne.mpr h, Bool.and_false, Bool.false_and]
        · rw [h, Bool.and_false]
      rw [hport, hslice, hfree]
      exact ⟨rfl, rfl⟩
    · rw [hslice, hen, hcells, hpres]
      rfl
    · rw [hport, hen, hcells, hpres, if_pos]
      simpa [or_assoc] using h
    · rw [hport, if_neg]
      simp [h32, hsl, hzero]

end Sys2Proof.Machine
end

section
/-! PROOFS. Host accesses through BAR0 and the windows (R269 to R276, R286). -/
namespace Sys2Proof.Machine

section
variable {s : State}

theorem State.endpointAborts_eq (s : State) : s.endpointAborts = !s.firmware := rfl

/-! ### Reads -/

section
variable (hep : s.endpoint = true)
include hep

/-- A read of one byte or more passes the endpoint's guard. -/
theorem readGuard_passed {len : Nat} (hlen : 0 < len) : (!s.endpoint || decide (len = 0)) = false := by
  simp [hep, Nat.ne_of_gt hlen]

theorem exec_hostRead_halted {w : Option Nat} {off len : Nat} (hfw : s.firmware = false) (hlen : 0 < len) :
    exec (.hostRead w off len) s = .next (s.emit (.hostCpl 0 2 [])) := by
  change execHostRead w off len s = _
  simp only [execHostRead, readGuard_passed hep hlen, s.endpointAborts_eq, hfw, Bool.not_false, Bool.false_eq_true, if_false, if_true]

section
variable (hfw : s.firmware = true)
include hfw

theorem exec_hostRead_bar0 {off len : Nat} (hlen : 0 < len) (hend : off + len ≤ 2 ^ 24) :
    exec (.hostRead none off len) s =
      .next (s.issueDn ⟨none, 0, 0, s.sliceGen 0, false, 0, 0, 0x10000000 + off, len, []⟩).runBridge := by
  change execHostRead none off len s = _
  simp only [execHostRead, readGuard_passed hep hlen, s.endpointAborts_eq, hfw, Bool.not_true, Bool.false_eq_true, if_false]
  rw [if_pos hend]

theorem exec_hostRead_config {off len : Nat} (hlen : 0 < len) :
    exec (.hostRead (some 64) off len) s = .next (s.emit (.hostCpl 0 0 (leBytes 4 (s.brg.ep.word off)))) := by
  change execHostRead (some 64) off len s = _
  simp only [execHostRead, readGuard_passed hep hlen, s.endpointAborts_eq, hfw, Bool.not_true, Bool.false_eq_true, if_false, if_true]

theorem exec_hostRead_window {n off len : Nat} (hlen : 0 < len) (hn : n < 64) (hoff : off < 2 ^ s.slotSize) :
    (s.winTarget n off = none → exec (.hostRead (some n) off len) s = .next ((s.bump (BRG_CNT_COUNT 4)).emit (.hostCpl 0 1 []))) ∧
    (∀ w a, s.winTarget n off = some (w, a) → exec (.hostRead (some n) off len) s =
      .next (s.issueDn ⟨some n, 0, w.slice, s.sliceGen w.slice, false, w.hub, w.space, a, len, []⟩).runBridge) := by
  have hslot : ¬(64 < n ∨ 2 ^ s.slotSize ≤ off) := by omega
  change (_ → execHostRead (some n) off len s = _) ∧ (∀ w a, _ → execHostRead (some n) off len s = _)
  simp only [execHostRead, readGuard_passed hep hlen, s.endpointAborts_eq, hfw, Bool.not_true, Bool.false_eq_true, if_false,
    if_neg (Nat.ne_of_lt hn), if_neg hslot]
  exact ⟨fun h => by simp only [h], fun w a h => by simp only [h]⟩
end
end

/-! ### Writes -/

/-- A write of one byte or more passes the endpoint's guard while firmware runs. -/
theorem writeGuard_passed {d : Bytes} (hep : s.endpoint = true) (hfw : s.firmware = true) (hd : d ≠ []) :
    (!s.endpoint || s.endpointAborts || d.isEmpty) = false := by
  simp [hep, s.endpointAborts_eq, hfw, hd]

theorem exec_hostWrite_halted {w : Option Nat} {off : Nat} {d : WriteData} (hfw : s.firmware = false) :
    exec (.hostWrite w off d) s = .next s := by
  have hguard : (!s.endpoint || s.endpointAborts || d.bytes.isEmpty) = true := by simp [s.endpointAborts_eq, hfw]
  exact congrArg Host.Outcome.next (if_pos hguard)

section
variable {u : State} {poison : Bool} (hu : u = if poison then s.endpointError 12 else s)
  (hep : s.endpoint = true) (hfw : s.firmware = true) {off : Nat} {d : Bytes} (hd : d ≠ [])
include hu hep hfw hd

theorem exec_hostWrite_bar0 (hend : off + d.length ≤ 2 ^ 24) :
    exec (.hostWrite none off ⟨d, poison⟩) s = .next (u.postWrite 64 bar0 (0x10000000 + off) d poison).runBridge := by
  change execHostWrite none off ⟨d, poison⟩ s = _
  simp only [execHostWrite, writeGuard_passed hep hfw hd, Bool.false_eq_true, if_false, ← hu]
  exact congrArg Host.Outcome.next (if_pos hend)

theorem exec_hostWrite_window {n : Nat} (hn : n < 64) (hoff : off < 2 ^ u.slotSize) :
    (u.winTarget n off = none → exec (.hostWrite (some n) off ⟨d, poison⟩) s = .next (u.bump (BRG_CNT_COUNT 4))) ∧
    (∀ w a, u.winTarget n off = some (w, a) →
      exec (.hostWrite (some n) off ⟨d, poison⟩) s = .next (u.windowWrite n w a d poison).runBridge) := by
  have hslot : ¬(64 < n ∨ 2 ^ u.slotSize ≤ off) := by omega
  change (_ → execHostWrite (some n) off ⟨d, poison⟩ s = _) ∧ (∀ w a, _ → execHostWrite (some n) off ⟨d, poison⟩ s = _)
  simp only [execHostWrite, writeGuard_passed hep hfw hd, Bool.false_eq_true, if_false, ← hu, if_neg (Nat.ne_of_lt hn), if_neg hslot]
  exact ⟨fun h => by simp only [h], fun w a h => by simp only [h]⟩
end

theorem exec_hostWrite_config {off : Nat} {d : Bytes} (hep : s.endpoint = true) (hfw : s.firmware = true) (hd : d ≠ []) :
    exec (.hostWrite (some 64) off ⟨d, false⟩) s = .next (s.endpointWrite off (leAt d 0 4)) := by
  change execHostWrite (some 64) off ⟨d, false⟩ s = _
  simp only [execHostWrite, writeGuard_passed hep hfw hd, Bool.false_eq_true, if_false, if_true]

/-- How a write through a window leaves: posted, as a request, or lost at its window. -/
theorem State.windowWrite_spec (s : State) (n : Nat) (w : Win) (a : Nat) (d : Bytes) (poison : Bool) :
    (w.posted = true → s.windowWrite n w a d poison = s.postWrite n w a d poison) ∧
    (w.posted = false → s.windowWrite n w a d true = s.put (BRG_WIN_STAT_WERR n) 1) ∧
    (w.posted = false → s.windowWrite n w a d false =
      s.issueDn ⟨some n, 0, w.slice, s.sliceGen w.slice, true, w.hub, w.space, a, d.length, d⟩) := by
  unfold State.windowWrite
  exact ⟨fun h => if_pos h, fun h => by rw [h]; rfl, fun h => by rw [h]; rfl⟩

theorem State.postWrite_far (s : State) (n : Nat) (w : Win) (a : Nat) (d : Bytes) (hhub : w.hub ≠ 0) :
    let k := (s.writeTag n).1
    let u := (s.writeTag n).2
    let x : Fab := { kind := .postedWrite, dest := u.hubName w.hub, src := u.origin, slice := w.slice, gen := u.sliceGen w.slice,
                     space := w.space, win := n % 64, tag := k, len := d.length, addr := a, data := d }
    (∀ q, u.wayTo x.dest = some q → s.postWrite n w a d false = u.sendOn q x) ∧
    (u.wayTo x.dest = none → s.postWrite n w a d false = u.lostWrite 5 ⟨0, n % 64, w.slice, x.gen, k, a, u.origin⟩) := by
  intro k u x
  refine ⟨fun q h => ?_, fun h => ?_⟩ <;>
    simp only [State.postWrite, Bool.false_eq_true, if_false, if_neg hhub] <;> simp only [x, u] at h <;> simp only [h] <;> rfl

/-! ### Tags -/

theorem State.issueDn_starts {r : BrReq} {t : Nat} (hmay : s.mayStart s.brg.dnWait r = true) (hfree : freshKey s.brg.dn 0 1024 = some t) :
    s.issueDn r = s.takeDn t r := by
  simp only [State.issueDn, hmay, hfree]

theorem State.issueDn_waits {r : BrReq} (h : s.mayStart s.brg.dnWait r = false ∨ freshKey s.brg.dn 0 1024 = none) :
    s.issueDn r = { s with brg := { s.brg with dnWait := s.brg.dnWait ++ [r] } } := by
  unfold State.issueDn
  rcases h with h | h
  · rw [h]
  · rw [h]
    cases s.mayStart s.brg.dnWait r <;> rfl

theorem State.carryOut_local {t : Nat} {r : BrReq} (hspace : r.space = 0) (hcfg : configSpace r.addr = false) :
    (r.write = false → s.carryOut t r =
      let x := (s.markGone t).localRead r.slice r.addr r.len; x.2.completeDn t r.gen x.1.1 x.1.2) ∧
    (r.write = true → s.carryOut t r =
      let x := (s.markGone t).localWrite r.slice r.addr r.data;
      x.2.completeDn t r.gen (if x.1 = 0 then .ok else .unsupported) []) := by
  have hplain (b : Bool) : ¬(configSpace r.addr && b) = true := by rw [hcfg]; exact Bool.false_ne_true
  have hguard : ¬(configSpace r.addr && r.slice == 0 && !(s.markGone t).dock && r.len == 4 && r.addr % 4 == 0) = true := by
    simp [hcfg]
  simp only [State.carryOut]
  rw [if_neg (not_not.mpr hspace), if_neg hguard]
  exact ⟨fun h => by rw [if_neg (by rw [h]; exact Bool.false_ne_true)], fun h => by rw [if_pos h]⟩

theorem State.markGone_get (s : State) (t : Nat) (f : Fld) : (s.markGone t).get f = s.get f := by
  unfold State.markGone
  split <;> rfl

theorem State.sendDn_far_read {t : Nat} {r : BrReq} (hhub : r.hub ≠ 0) (hread : r.write = false) (hmode : s.delayed = false) :
    s.sendDn t r =
      (s.markGone t).sendFab { kind := .read, dest := (s.markGone t).hubName r.hub, src := (s.markGone t).origin, slice := r.slice,
                               gen := r.gen, space := r.space, win := r.win.getD 0, tag := t, len := r.len, addr := r.addr,
                               data := r.data } := by
  have hmode' : (s.markGone t).delayed = false := by
    rw [State.delayed, State.is, State.markGone_get]
    exact hmode
  simp only [State.sendDn, if_neg hhub, hread, Bool.false_eq_true, false_and, if_false, hmode', Bool.and_false]

/-! ### The windows -/

theorem State.winTarget_zero (s : State) :
    s.winTarget 0 0 = some (⟨0, 0, 0, 0x11000000, 2 ^ 21, s.is BRG_CTRL_COMPAT⟩, 0x11000000) := by
  simp [State.winTarget, State.window]

theorem State.winTarget_spec {n : Nat} (x : Nat) (hn : 1 ≤ n) (hcompat : s.is BRG_CTRL_COMPAT = false) :
    (s.is (BRG_WIN_CFG_EN n) = true → x < 2 ^ s.get (BRG_WIN_CFG_SIZE n) →
      let z := 2 ^ s.get (BRG_WIN_CFG_SIZE n);
      let base := (s.get (BRG_WIN_TGT_LO_BASE n) + 2 ^ 32 * s.get (BRG_WIN_TGT_HI_BASE n)) / z * z;
      s.winTarget n x = some (⟨s.get (BRG_WIN_CFG_SLICE n), s.get (BRG_WIN_CFG_HUB n), s.get (BRG_WIN_CFG_SPACE n), base, z,
        !s.is (BRG_WIN_CFG_WMODE n)⟩, base + x)) ∧
    (s.is (BRG_WIN_CFG_EN n) = false ∨ 2 ^ s.get (BRG_WIN_CFG_SIZE n) ≤ x → s.winTarget n x = none) := by
  have hzero : n ≠ 0 := by omega
  refine ⟨fun hen hx => ?_, fun h => ?_⟩
  · simp only [State.winTarget, State.window, if_neg hzero, hcompat, Bool.false_eq_true, if_false, hen, if_true, if_pos hx]
  · simp only [State.winTarget, State.window, if_neg hzero, hcompat, Bool.false_eq_true, if_false]
    rcases h with h | h
    · rw [if_neg (by rw [h]; exact Bool.false_ne_true)]
    · cases s.is (BRG_WIN_CFG_EN n) with
      | false => rfl
      | true => exact if_neg (Nat.not_lt.mpr h)
end

/-- Settles O39. -/
theorem hostAccessRows : Obligations.HostAccessRows := by
  intro s hep
  refine ⟨fun hfw off len => exec_hostRead_bar0 hep hfw, fun hfw off d hd => exec_hostWrite_bar0 rfl hep hfw hd,
    fun hfw n off len hlen hn hoff => (exec_hostRead_window hep hfw hlen hn hoff).1,
    fun hfw n off d hd hn hoff => (exec_hostWrite_window (u := s) (poison := false) rfl hep hfw hd hn hoff).1,
    fun hfw n off len w a hlen hn hoff => (exec_hostRead_window hep hfw hlen hn hoff).2 w a, ?written,
    fun r t => State.issueDn_starts, fun r => State.issueDn_waits, fun t r hspace hcfg => (State.carryOut_local hspace hcfg).1,
    fun t r hspace hcfg => (State.carryOut_local hspace hcfg).2, fun t r => State.sendDn_far_read, fun n w a d => s.postWrite_far n w a d,
    s.winTarget_zero, fun n x hn hcompat => (State.winTarget_spec x hn hcompat).1,
    fun n x hn hcompat => (State.winTarget_spec x hn hcompat).2, fun hfw off len => exec_hostRead_config hep hfw,
    fun hfw off d => exec_hostWrite_config hep hfw, ?poisoned, fun n w a d => rfl, fun hfw w off len => exec_hostRead_halted hep hfw,
    fun hfw w off d => exec_hostWrite_halted hfw⟩
  case written =>
    intro hfw n off d w a hd hn hoff htarget
    obtain ⟨hposted, -, hissued⟩ := s.windowWrite_spec n w a d false
    rw [(exec_hostWrite_window (u := s) (poison := false) rfl hep hfw hd hn hoff).2 w a htarget]
    exact ⟨fun h => by rw [hposted h], fun h => by rw [hissued h]⟩
  case poisoned =>
    intro hfw off d hd u
    refine ⟨exec_hostWrite_bar0 rfl hep hfw hd, fun n hn hoff => (exec_hostWrite_window (u := u) (poison := true) rfl hep hfw hd hn hoff).1,
      fun n w a hn hoff htarget => ?_⟩
    obtain ⟨hposted, hfailed, -⟩ := u.windowWrite_spec n w a d true
    rw [(exec_hostWrite_window (u := u) (poison := true) rfl hep hfw hd hn hoff).2 w a htarget]
    exact ⟨fun h => by rw [hposted h], fun h => by rw [hfailed h]⟩

end Sys2Proof.Machine
end

section
/-! PROOFS. Delayed requests, the change of the ordering mode and late faults (R281 to R286, R307). -/
namespace Sys2Proof.Machine

section
variable {s : State}

/-! ### A delayed request arrives (R283, R284, R307) -/

theorem exec_delayedRequestReceive {r : DelayedReq} (hrun : s.running = true) (hsl : r.slice < 64) :
    exec (.delayedRequestReceive r) s = .next (s.takeDelayed r) := by
  have hguard : (s.running && decide (r.slice < 64)) = true := by simp [hrun, hsl]
  exact congrArg Host.Outcome.next (if_pos hguard)

theorem State.takeDelayed_stale {r : DelayedReq} (hgen : r.gen ≠ s.ageGone.sliceGen r.slice) :
    s.takeDelayed r = (s.ageGone.bump (SLC_GEN_DROP_COUNT r.slice)).drdAnswer r .abort [] := if_pos hgen

/-- A request whose slot stands is answered RETRY until its completion is there. -/
theorem State.takeDelayed_again {r : DelayedReq} {i : Nat} {g : DrdSlot} (hgen : r.gen = s.ageGone.sliceGen r.slice)
    (hslot : s.brg.slots.find? (fun e => e.2.requester == r.requester && e.2.tag == r.tag) = some (i, g)) :
    (g.ans = none → s.takeDelayed r = s.ageGone.drdRetry r) ∧
    (∀ st x, g.ans = some (st, x) → s.takeDelayed r = (s.ageGone.freeSlot i).drdAnswer r st x) := by
  have hslot' : s.ageGone.brg.slots.find? (fun e => e.2.requester == r.requester && e.2.tag == r.tag) = some (i, g) := hslot
  simp only [State.takeDelayed, if_neg (not_not.mpr hgen), hslot']
  exact ⟨fun h => by simp only [h], fun st x h => by simp only [h]⟩

/-- A request with no slot starts, unless it repeats one that was discarded. -/
theorem State.takeDelayed_new {r : DelayedReq} (hgen : r.gen = s.ageGone.sliceGen r.slice)
    (hslot : s.brg.slots.find? (fun e => e.2.requester == r.requester && e.2.tag == r.tag) = none) :
    (assocFind s.ageGone.brg.gone (r.requester * 65536 + r.tag) = none → s.takeDelayed r = s.ageGone.drdStart r) ∧
    (assocFind s.ageGone.brg.gone (r.requester * 65536 + r.tag) ≠ none → r.again = true →
      s.takeDelayed r = s.ageGone.drdAnswer r .abort []) ∧
    (assocFind s.ageGone.brg.gone (r.requester * 65536 + r.tag) ≠ none → r.again = false →
      s.takeDelayed r = ({ s.ageGone with brg := { s.ageGone.brg with
        gone := assocDel (r.requester * 65536 + r.tag) s.ageGone.brg.gone } } : State).drdStart r) := by
  have hslot' : s.ageGone.brg.slots.find? (fun e => e.2.requester == r.requester && e.2.tag == r.tag) = none := hslot
  rw [show r.requester * 65536 + r.tag = drdKey r from rfl]
  simp only [State.takeDelayed, if_neg (not_not.mpr hgen), hslot']
  refine ⟨fun h => if_pos (Option.isNone_iff_eq_none.mpr h), fun h hagain => ?_, fun h hagain => ?_⟩ <;>
    rw [if_neg (fun hn => h (Option.isNone_iff_eq_none.mp hn)), hagain]
  · rfl
  · rfl

theorem State.drdStart_full (r : DelayedReq) (hfull : freshKey s.brg.slots 0 64 = none) :
    s.drdStart r = (s.bump (BRG_CNT_COUNT 3)).drdRetry r := by
  simp only [State.drdStart, hfull]

theorem State.drdStart_slot (r : DelayedReq) {i : Nat} (hfree : freshKey s.brg.slots 0 64 = some i) :
    let x : DrdSlot := ⟨r.requester, r.tag, r.slice, r.gen, r.write, r.addr, r.len, r.data, none, s.hubTime⟩
    let u : State := { s with brg := { s.brg with slots := assocPut i x s.brg.slots } }
    s.drdStart r = (((u.put BRG_ORD_SLOTS u.brg.slots.length).drdRetry r).drdRun i r).runBridge := by
  simp only [State.drdStart, hfree, State.showSlots]

/-! ### The requester's side -/

theorem exec_retryAnswer {tag : Nat} {x : DrdReq} (hrun : s.running = true) (hreq : assocFind s.brg.reqs tag = some x)
    (hstop : x.stopped = false) :
    exec (.retryAnswer tag) s = .next { s with brg := { s.brg with
      reqs := assocPut tag { x with port := (s.wayTo (s.memberHub (s.nextMember x.req.hub))).getD x.port } s.brg.reqs } } := by
  change execRetryAnswer tag s = _
  simp only [execRetryAnswer, if_pos hrun, State.retried, hreq, hstop, Bool.false_eq_true, if_false]

theorem exec_delayedResend {tag : Nat} {x : DrdReq} (hrun : s.running = true) (hreq : assocFind s.brg.reqs tag = some x)
    (hstop : x.stopped = false) : exec (.delayedResend tag) s = .next (s.sendFab (s.delayedFab tag x.req true)) := by
  change execDelayedResend tag s = _
  simp only [execDelayedResend, hreq, hrun, hstop, Bool.not_false, Bool.and_self, if_true]

/-! ### The discard timer and the change of mode (R281, R284) -/

theorem exec_drdTimeout {i : Nat} {x : DrdSlot} {a : CplStatus × Bytes} (hrun : s.running = true)
    (hslot : assocFind s.brg.slots i = some x) (hans : x.ans = some a) (hdue : x.since + s.get BRG_ORD_DRD_TO * 1000 ≤ s.hubTime) :
    exec (.drdTimeout i) s = .next (((State.bump { (s.freeSlot i) with brg := { (s.freeSlot i).brg with
      gone := assocPut (x.requester * 65536 + x.tag) s.hubTime s.brg.gone } } (BRG_CNT_COUNT 2))).raise 0x0803 0) := by
  have hguard : (s.running && x.ans.isSome && decide (x.since + s.get BRG_ORD_DRD_TO * 1000 ≤ s.hubTime)) = true := by
    simp only [hrun, hans, Option.isSome_some, decide_eq_true hdue, Bool.and_self]
  change execDrdTimeout i s = _
  simp only [execDrdTimeout, hslot]
  rw [if_pos hguard]
  rfl

theorem exec_drdTimeout_none {i : Nat} (hslot : assocFind s.brg.slots i = none) : exec (.drdTimeout i) s = .next s := by
  change execDrdTimeout i s = _
  simp only [execDrdTimeout, hslot]

theorem exec_orderingModeChange (hrun : s.running = true) (hdrain : s.is BRG_ORD_DRAIN = true) :
    (s.crossing = false → exec .orderingModeChange s =
      .next (let u := ((s.put BRG_ORD_MODE 1).put BRG_ORD_DRAIN 0).raise 0x0805 0;
        let v := u.drainDn u.brg.dnWait.length; (v.drainUp u.brg.upWait.length).runBridge)) ∧
    (s.crossing = true → exec .orderingModeChange s = .next s) := by
  refine ⟨fun h => congrArg Host.Outcome.next (if_pos ?_), fun h => congrArg Host.Outcome.next (if_neg ?_)⟩ <;>
    simp [hrun, hdrain, h]

/-! ### Late faults (R285, R286) -/

theorem State.lateFault_queued {f : LateFault} (hroom : s.brg.late.length < 16) :
    s.lateFault f = State.raise { s with brg := { s.brg with late := s.brg.late ++ [f] } } 0x0801
      (if f.gen = s.sliceGen f.slice then f.slice else 0) := if_neg (Nat.not_le.mpr hroom)

theorem State.lateFault_counted {f : LateFault} (hfull : 16 ≤ s.brg.late.length) (hlost : s.brg.lateOvf = true) :
    s.lateFault f = s.bump (BRG_CNT_COUNT 5) := (if_pos hfull).trans (if_pos hlost)

theorem exec_lateFaultReport (hrun : s.running = true) (cause win sl gen tag addr : Nat) :
    exec (.lateFaultReport cause win sl gen tag addr) s =
      .next (s.lateFault ⟨addr, gen, sl % 64, tag % 1024, cause % 16, win % 64, s.hubTime⟩) := congrArg Host.Outcome.next (if_pos hrun)

theorem exec_lateFaultReport_queued {cause win sl gen tag addr : Nat} (hrun : s.running = true) (hcause : cause < 16) (hwin : win < 64)
    (hsl : sl < 64) (htag : tag < 1024) (hroom : s.brg.late.length < 16) :
    exec (.lateFaultReport cause win sl gen tag addr) s = .next (State.raise { s with brg := { s.brg with
      late := s.brg.late ++ [⟨addr, gen, sl, tag, cause, win, s.hubTime⟩] } } 0x0801 (if gen = s.sliceGen sl then sl else 0)) := by
  rw [exec_lateFaultReport hrun, State.lateFault_queued hroom, Nat.mod_eq_of_lt hcause, Nat.mod_eq_of_lt hwin, Nat.mod_eq_of_lt hsl,
    Nat.mod_eq_of_lt htag]
end

/-- Settles O41. -/
theorem delayedRows : Obligations.DelayedRows := by
  intro s hrun
  refine ⟨fun r => exec_delayedRequestReceive hrun, fun r => State.takeDelayed_stale, fun r i g => State.takeDelayed_again,
    fun r => State.takeDelayed_new, fun r => State.drdStart_full r, fun r i => State.drdStart_slot r,
    fun tag x hreq hstop => ⟨exec_retryAnswer hrun hreq hstop, exec_delayedResend hrun hreq hstop⟩,
    fun i x a => exec_drdTimeout hrun, fun i => exec_drdTimeout_none, fun hdrain => (exec_orderingModeChange hrun hdrain).1,
    fun hdrain => (exec_orderingModeChange hrun hdrain).2,
    fun cause win sl gen tag addr => exec_lateFaultReport_queued hrun, ?counted⟩
  case counted =>
    exact fun cause win sl gen tag addr hfull hlost =>
      (exec_lateFaultReport hrun cause win sl gen tag addr).trans (congrArg Host.Outcome.next (State.lateFault_counted hfull hlost))

end Sys2Proof.Machine
end

section
/-! PROOFS. Messages and slice resets in propagation (R287 to R292, R308 to R312). -/
namespace Sys2Proof.Machine

section
variable {s : State}

/-! ### Delivery (R287 to R291) -/

theorem exec_messageDelivery_head {m : Msg} {l : List Msg} (hrun : s.running = true) (hmsgs : s.msgs = m :: l)
    (hgoes : s.deliverable m = true) : exec .messageDelivery s = .next (State.deliver { s with msgs := l } m) := by
  have hfind : s.msgs.find? s.deliverable = some m := by rw [hmsgs, List.find?_cons_of_pos hgoes]
  have hrest : s.msgs.erase m = l := by rw [hmsgs, List.erase_cons_head]
  change execMessageDelivery s = _
  simp only [execMessageDelivery, hrun, Bool.not_true, Bool.false_eq_true, if_false, hfind, hrest]

theorem exec_messageDelivery_none (hmsgs : s.msgs = []) : exec .messageDelivery s = .next s := by
  change execMessageDelivery s = _
  simp only [execMessageDelivery, hmsgs, List.find?_nil, ite_self]

theorem State.deliver_disabled {m : Msg} (hen : s.is (MSG_RT_EN m.entry) = false) :
    s.deliver m = (s.bump (MSG_CNT_COUNT 1)).discardNote := by
  rw [State.deliver, if_pos (by rw [hen]; rfl)]
  rfl

/-- An MSI-X vector is written unless it, or the endpoint, is masked; then it stays pending. -/
theorem State.raiseVec_spec (s : State) (v : Nat) :
    ((s.vec v).masked = false → s.brg.ep.mask = false → s.brg.ep.msix = true →
      s.raiseVec v = s.emit (.msix v (s.vec v).addr (s.vec v).data)) ∧
    ((s.vec v).masked = true ∨ s.brg.ep.mask = true ∨ s.brg.ep.msix = false →
      s.raiseVec v = s.setVec v { s.vec v with pend := true }) := by
  simp only [State.raiseVec]
  refine ⟨fun hvec hep hon => if_neg ?_, fun h => if_pos ?_⟩
  · rw [hvec, hep, hon]
    exact Bool.false_ne_true
  · simpa [or_assoc] using h

section
variable {m : Msg} (hen : s.is (MSG_RT_EN m.entry) = true)
include hen

theorem State.deliver_vector {v : Nat} (hport : s.get (MSG_RT_PORT m.entry) = 28) (hdock : s.dock = true)
    (htarget : s.get (MSG_RT_TARGET m.entry) = v) (hv : v < 2048) :
    (s.vecOwner v = some (s.get (MSG_RT_SLICE m.entry)) → s.deliver m = (s.raiseVec v).bump (MSG_CNT_COUNT 0)) ∧
    (s.vecOwner v ≠ some (s.get (MSG_RT_SLICE m.entry)) → s.deliver m = (s.bump (MSG_CNT_COUNT 3)).discardNote) := by
  simp only [State.deliver, hen, hport, htarget, hdock, Bool.not_true, Bool.false_eq_true, if_false, if_true, Nat.mod_eq_of_lt hv]
  exact ⟨fun h => if_pos (beq_iff_eq.mpr h), fun h => if_neg (fun hb => h (beq_iff_eq.mp hb))⟩

theorem State.deliver_chain {c : Nat} (hport : s.get (MSG_RT_PORT m.entry) = 32) (htarget : s.get (MSG_RT_TARGET m.entry) = c)
    (hc : c < 1024) (hsys : isSystem c = false) (hslice : s.ctxSlice c = s.get (MSG_RT_SLICE m.entry)) :
    s.deliver m = (s.pendMessage m (s.ctxSlice c) c).bump (MSG_CNT_COUNT 0) := by
  simp only [State.deliver, hen, hport, htarget, Nat.mod_eq_of_lt hc, hsys, hslice, Bool.not_true, Bool.not_false, Bool.false_eq_true,
    if_false, beq_self_eq_true, Bool.and_self, if_true]

theorem State.deliver_hub {p : Nat} (hport : s.get (MSG_RT_PORT m.entry) = p) (hp : p ≤ 3) :
    s.deliver m = if 4 ≤ m.hops then (s.bump (MSG_CNT_COUNT 4)).discardNote else
      (s.sendMessage p (s.get (MSG_RT_SLICE m.entry)) (s.get (MSG_RT_TARGET m.entry)) m).bump (MSG_CNT_COUNT 0) := by
  obtain rfl | rfl | rfl | rfl : p = 0 ∨ p = 1 ∨ p = 2 ∨ p = 3 := by omega
  all_goals
    simp only [State.deliver, hen, hport, Bool.not_true, Bool.false_eq_true, if_false, Nat.reduceLT, State.discardMsg]
end

/-! ### Arrival (R288, R289) -/

theorem exec_remoteMessageReceive (hrun : s.running = true) (src : Nat) (body : Bytes) :
    exec (.remoteMessageReceive src body) s = .next (s.takeMessage src body) := congrArg Host.Outcome.next (if_pos hrun)

theorem State.takeMessage_disabled {src : Nat} (body : Bytes) (hsrc : src < 4096) (hen : s.is (MSG_RT_EN src) = false) :
    s.takeMessage src body = (s.bump (MSG_CNT_COUNT 1)).discardNote := by
  simp only [State.takeMessage, Nat.mod_eq_of_lt hsrc, hen, Bool.not_false, if_true, State.discardMsg]

theorem State.takeMessage_enabled {src sl : Nat} {body : Bytes} (hsrc : src < 4096) (hen : s.is (MSG_RT_EN src) = true)
    (hslice : leAt body 15 1 = sl) (hsl : sl < 64) :
    (s.get (MSG_RT_SLICE src) = sl ∨ s.get (MSG_RT_SLICE src) = 0 → s.takeMessage src body =
      s.queueMsg ⟨leAt body 0 8, leAt body 8 2, leAt body 10 2, leAt body 12 2 % 4096, leAt body 12 2 / 4096, leAt body 14 1,
        some sl, leAt body 16 8, src, none⟩) ∧
    (s.get (MSG_RT_SLICE src) ≠ sl → s.get (MSG_RT_SLICE src) ≠ 0 →
      s.takeMessage src body = (s.bump (MSG_CNT_COUNT 3)).discardNote) := by
  simp only [State.takeMessage, Nat.mod_eq_of_lt hsrc, hen, Bool.not_true, Bool.false_eq_true, if_false, hslice, Nat.mod_eq_of_lt hsl]
  exact ⟨fun h => if_pos h, fun h h0 => if_neg (not_or.mpr ⟨h, h0⟩)⟩

theorem Msg.body_length (m : Msg) (sl hops : Nat) : (m.body sl hops).length = 24 := by
  simp [Msg.body]

/-! ### Slice resets (R308 to R312) -/

theorem exec_sliceResetNotice {rm : Bool} {sl : Nat} (hrun : s.running = true) (hlo : 1 ≤ sl) (hhi : sl < 64) :
    exec (.sliceResetNotice rm sl) s = .next (s.takeNotice rm sl ((s.get (SLC_STAT_GEN sl) + 1) % 256) s.farHub true) := by
  have hguard : (s.running && decide (1 ≤ sl ∧ sl < 64)) = true := by simp [hrun, hlo, hhi]
  exact congrArg Host.Outcome.next (if_pos hguard)

/-- A reset that awaits nobody reports to the hub that gave notice of it. -/
theorem State.stepReset_reports {r : SliceReset} {h : Nat} (hdone : r.waiting = 0) (hreport : r.report = some h) :
    s.stepReset r = ({ s with resets := s.resets.filter (fun x => x.slice != r.slice) } : State).sendFab
      { s.sliceFab .report r.slice with dest := h, code := r.unreached } := by
  simp only [State.stepReset, if_pos hdone, hreport]

/-- A reset that awaits nobody ends at the dock hub, with its result bytes. -/
theorem State.stepReset_ends {r : SliceReset} (hdone : r.waiting = 0) (hreport : r.report = none) :
    s.stepReset r =
      let u := s.endReset r
      { u with bkt := { u.bkt with stage := .ready 0 (leBytes 1 (u.sliceGen r.slice) ++ leBytes 1 r.unreached) } } := by
  simp only [State.stepReset, if_pos hdone, hreport]
  rfl

theorem State.stepReset_awaits {r : SliceReset} (hwait : r.waiting ≠ 0) :
    s.stepReset r = { s with resets := s.resets.map (fun x => if x.slice = r.slice then r else x) } := if_neg hwait

theorem State.takeNotice_spec (rm : Bool) {sl : Nat} (gen src : Nat) (onward : Bool) (hsl : 1 ≤ sl) :
    let t := if s.get (SLC_STAT_GEN sl) = gen then s else s.farReset rm sl gen
    let r : SliceReset := ⟨sl, rm, 0, if onward then memberBits t.reachable else 0, if onward then t.cutOff else 0, some src⟩
    (r.waiting = 0 → s.takeNotice rm sl gen src onward =
      ({ t with resets := t.resets.filter (fun x => x.slice != sl) } : State).sendFab
        { t.sliceFab .report sl with dest := src, code := r.unreached }) ∧
    (r.waiting ≠ 0 → s.takeNotice rm sl gen src onward =
      ({ t with resets := t.resets ++ [r] } : State).tellMembers
        (State.sliceFab { t with resets := t.resets ++ [r] } (if rm then .remove else .reset) sl)) := by
  intro t r
  have hnotice : s.takeNotice rm sl gen src onward =
      if r.waiting = 0 then t.stepReset r else ({ t with resets := t.resets ++ [r] } : State).tellMembers (t.sliceFab (noticeKind rm) sl) :=
    if_neg (by omega)
  rw [hnotice]
  exact ⟨fun h => (if_pos h).trans (State.stepReset_reports h rfl), fun h => if_neg h⟩

theorem State.farReset_spec (s : State) (sl gen : Nat) :
    s.farReset false sl gen = (s.sliceSteps sl gen false).put (SLC_STAT_RESETTING sl) 0 ∧
    s.farReset true sl gen = ((s.sliceSteps sl gen true).sliceRemove sl).put (SLC_STAT_REMOVING sl) 0 := ⟨rfl, rfl⟩

theorem exec_sliceResetReport {r : SliceReset} {l : List SliceReset} {hub : Nat} (hrun : s.running = true) (hresets : s.resets = r :: l) :
    (bit r.waiting hub = true → exec (.sliceResetReport hub) s = .next (s.stepReset { r with waiting := setBit r.waiting hub false })) ∧
    (bit r.waiting hub = false → exec (.sliceResetReport hub) s = .next s) := by
  have hheard : r.heard hub 0 = { r with waiting := setBit r.waiting hub false } := by
    simp only [SliceReset.heard, Nat.or_zero]
  change (_ → execSliceResetReport hub s = _) ∧ (_ → execSliceResetReport hub s = _)
  simp only [execSliceResetReport, hresets, hrun, Bool.true_and, hheard]
  exact ⟨fun h => by rw [if_pos h], fun h => by rw [if_neg (by rw [h]; exact Bool.false_ne_true)]⟩

theorem exec_sliceResetBound {r : SliceReset} {l : List SliceReset} (hrun : s.running = true) (hresets : s.resets = r :: l) :
    exec .sliceResetBound s = .next (s.stepReset { r with waiting := 0, unreached := r.unreached ||| r.waiting }) := by
  change execSliceResetBound s = _
  simp only [execSliceResetBound, hresets, if_pos hrun]

theorem exec_sliceReset_none (hresets : s.resets = []) :
    exec .sliceResetBound s = .next s ∧ ∀ hub, exec (.sliceResetReport hub) s = .next s := by
  change execSliceResetBound s = _ ∧ ∀ hub, execSliceResetReport hub s = _
  simp only [execSliceResetBound, execSliceResetReport, hresets, implies_true, and_self]

theorem State.endReset_kept {r : SliceReset} (hkeep : r.remove = false) : s.endReset r =
    (State.put { s with resets := s.resets.filter (fun x => x.slice != r.slice) } (SLC_STAT_RESETTING r.slice) 0).raise
      0x0902 r.slice := if_neg (by rw [hkeep]; exact Bool.false_ne_true)
end

/-- Settles O42. -/
theorem messageRows : Obligations.MessageRows := by
  intro s hrun
  refine ⟨fun m l => exec_messageDelivery_head hrun, exec_messageDelivery_none, fun m => State.deliver_disabled, ?vector, ?foreign,
    fun m c hen => State.deliver_chain hen, ?hub, ?disabled, ?arrives, ?queued, fun m sl hops _ => m.body_length sl hops⟩
  case vector =>
    intro m v hen hport hdock htarget hv howner
    obtain ⟨hwritten, hpending⟩ := s.raiseVec_spec v
    rw [(State.deliver_vector hen hport hdock htarget hv).1 howner]
    exact ⟨fun hvec hep hon => by rw [hwritten hvec hep hon], fun h => by rw [hpending h]⟩
  case foreign => exact fun m v hen hport hdock htarget hv => (State.deliver_vector hen hport hdock htarget hv).2
  case hub =>
    intro m p hen hport hp
    rw [State.deliver_hub hen hport hp]
    exact ⟨fun h => if_neg (Nat.not_le.mpr h), fun h => if_pos h⟩
  case disabled =>
    exact fun src body hsrc hen =>
      (exec_remoteMessageReceive hrun src body).trans (congrArg Host.Outcome.next (State.takeMessage_disabled body hsrc hen))
  case arrives =>
    intro src body sl hsrc hen hslice hsl
    rw [exec_remoteMessageReceive hrun]
    obtain ⟨htaken, hwrong⟩ := State.takeMessage_enabled hsrc hen hslice hsl
    exact ⟨fun h => by rw [htaken h], fun h h0 => by rw [hwrong h h0]⟩
  case queued => exact fun m hroom => if_neg (by rw [hroom]; exact Bool.false_ne_true)

/-- Settles O43. -/
theorem sliceResetRows : Obligations.SliceResetRows := by
  intro s hrun
  refine ⟨fun rm sl => exec_sliceResetNotice hrun, fun rm sl gen src onward => State.takeNotice_spec rm gen src onward,
    s.farReset_spec, ?reported, fun r l hub hresets => (exec_sliceResetReport hrun hresets).2, ?ends, ?passedOn,
    fun r => State.endReset_kept, exec_sliceReset_none⟩
  case reported =>
    intro r l hub hresets hbit
    rw [(exec_sliceResetReport hrun hresets).1 hbit]
    refine ⟨fun hwait => by rw [State.stepReset_awaits hwait], fun hdone hreport => ?_, fun h hdone hreport => ?_⟩
    · rw [hdone]
      exact congrArg Host.Outcome.next (State.stepReset_ends rfl hreport)
    · exact congrArg Host.Outcome.next (State.stepReset_reports hdone hreport)
  case ends =>
    intro r l hresets hreport
    rw [exec_sliceResetBound hrun hresets]
    exact congrArg Host.Outcome.next (State.stepReset_ends rfl hreport)
  case passedOn =>
    intro r l h hresets hreport
    rw [exec_sliceResetBound hrun hresets]
    exact congrArg Host.Outcome.next (State.stepReset_reports rfl hreport)

end Sys2Proof.Machine
end

section
/-! PROOFS. Events of the vault and the bailer port (R455 to R466, R489 to R497). -/
namespace Sys2Proof.Machine

/-! ### Key slots cleared (R466) -/

section
variable {s : State}

/-- The key of a slot's attributes differs from that of a field below the slots. -/
theorem slotKey_ne {f : Fld} (hlow : f.key < 0x10F01000 * 32) (k : Nat) : f.key ≠ (SEC_SLOT_ATTR_ATTR k).key := by
  simp only [Fld.key, SEC_SLOT_ATTR_ATTR] at *
  omega

theorem slotKey_inj {j k : Nat} (h : j ≠ k) : (SEC_SLOT_ATTR_ATTR j).key ≠ (SEC_SLOT_ATTR_ATTR k).key := by
  simp only [Fld.key, SEC_SLOT_ATTR_ATTR]
  omega

/-- Attributes that keep the owner alone are not valid and fit the register. -/
theorem ownerOnly (v : Nat) : bits v 21 16 * 2 ^ 16 < 2 ^ 31 := by
  have : bits v 21 16 < 2 ^ 6 := Nat.mod_lt _ (by decide)
  omega

theorem State.attr_clearSlot_same (s : State) (k : Nat) : (s.clearSlot k).attr k = s.slotOwner k * 2 ^ 16 := by
  have hput : (s.clearSlot k).attr k = s.slotOwner k * 2 ^ 16 % 2 ^ 32 := State.get_put_same s (SEC_SLOT_ATTR_ATTR k) _
  rw [hput]
  exact Nat.mod_eq_of_lt (Nat.lt_trans (ownerOnly (s.attr k)) (by decide))

theorem State.get_clearSlot_other (s : State) {f : Fld} {k : Nat} (h : f.key ≠ (SEC_SLOT_ATTR_ATTR k).key) :
    (s.clearSlot k).get f = s.get f := State.get_put_other s (SEC_SLOT_ATTR_ATTR k) f _ h

theorem State.attr_clearSlot_other (s : State) {j k : Nat} (h : j ≠ k) : (s.clearSlot k).attr j = s.attr j :=
  s.get_clearSlot_other (slotKey_inj h)

/-- Clearing a list of slots leaves each of them its owner alone, and every other slot as it was. -/
theorem State.attr_clearSlots {l : List Nat} (hdistinct : l.Nodup) (s : State) (k : Nat) :
    (l.foldl State.clearSlot s).attr k = if k ∈ l then s.slotOwner k * 2 ^ 16 else s.attr k := by
  induction l generalizing s with
  | nil => simp
  | cons a l ih =>
    obtain ⟨hfresh, hrest⟩ := List.nodup_cons.mp hdistinct
    rw [List.foldl_cons, ih hrest]
    by_cases hka : k = a
    · subst hka
      rw [if_neg hfresh, if_pos List.mem_cons_self, s.attr_clearSlot_same]
    · have howner : (s.clearSlot a).slotOwner k = s.slotOwner k := by
        rw [State.slotOwner, s.attr_clearSlot_other hka, State.slotOwner]
      rw [howner, s.attr_clearSlot_other hka]
      simp [hka]

/-- Clearing slots changes registers and keys only. -/
theorem State.clearSlots_frame (l : List Nat) (s : State) :
    ∃ r k, l.foldl State.clearSlot s = { s with regs := r, vault := { s.vault with keys := k } } := by
  induction l generalizing s with
  | nil => exact ⟨s.regs, s.vault.keys, rfl⟩
  | cons a l ih =>
    obtain ⟨r, k, h⟩ := ih (s.clearSlot a)
    exact ⟨r, k, h⟩

theorem State.get_clearSlots {f : Fld} (hlow : f.key < 0x10F01000 * 32) (l : List Nat) (s : State) :
    (l.foldl State.clearSlot s).get f = s.get f := by
  induction l generalizing s with
  | nil => rfl
  | cons a l ih => rw [List.foldl_cons, ih, s.get_clearSlot_other (slotKey_ne hlow a)]

theorem State.keyLost_no_threads (pick : Nat → Bool) (hnone : s.pumps.threads = []) : s.keyLost pick = s := by
  rw [State.keyLost, hnone]
  rfl

/-- The valid slots, which a tamper clears. -/
def State.validSlots (s : State) : List Nat := (List.range 128).filter (fun k => s.slotValid k && true)

/-- With no thread, zeroing every slot clears the valid ones. -/
theorem State.zeroSlots_all (hnone : s.pumps.threads = []) :
    s.zeroSlots (fun _ _ => true) = s.validSlots.foldl State.clearSlot s := by
  have hthreads : (s.validSlots.foldl State.clearSlot s).pumps.threads = [] := by
    obtain ⟨r, k, hframe⟩ := State.clearSlots_frame s.validSlots s
    rw [hframe]
    exact hnone
  exact State.keyLost_no_threads _ hthreads

theorem State.attr_zeroSlots (hnone : s.pumps.threads = []) {k : Nat} (hk : k < 128) :
    (s.zeroSlots (fun _ _ => true)).attr k = if s.slotValid k = true then s.slotOwner k * 2 ^ 16 else s.attr k := by
  have hdistinct : s.validSlots.Nodup := List.nodup_range.filter _
  rw [State.zeroSlots_all hnone, State.attr_clearSlots hdistinct]
  have hmem : k ∈ s.validSlots ↔ s.slotValid k = true := by
    simp [State.validSlots, hk]
  exact ite_congr (propext hmem) (fun _ => rfl) (fun _ => rfl)

theorem State.slotValid_zeroSlots (hnone : s.pumps.threads = []) {k : Nat} (hk : k < 128) :
    (s.zeroSlots (fun _ _ => true)).slotValid k = false := by
  rw [State.slotValid, State.attr_zeroSlots hnone hk]
  split
  · exact Nat.testBit_lt_two_pow (ownerOnly (s.attr k))
  · next h => exact Bool.eq_false_iff.mpr h

/-! ### Tamper (R457, R458) -/

theorem State.tamperShow_eventOnly (s : State) (src : TamperSrc) : EventOnly s (s.tamperShow src) := by
  cases src <;> exact EventOnly.put s _ _

/-- Showing a tamper leaves every field outside SEC_TMP_STAT. -/
theorem State.get_tamperShow {f : Fld} (hother : f.key / 32 ≠ 0x10F0000C) (s : State) (src : TamperSrc) :
    (s.tamperShow src).get f = s.get f := by
  have hkey {g : Fld} (hg : g.key / 32 = 0x10F0000C) : f.key ≠ g.key := fun h => hother (h ▸ hg)
  cases src <;> exact State.get_put_other s _ f _ (hkey (by decide))

/-- What a tamper has destroyed and recorded before it tells anyone. -/
def State.tampered (s : State) (src : TamperSrc) : State :=
  let u := s.zeroRoot.zeroSlots (fun _ _ => true)
  ((u.tamperShow src).bump SEC_TMP_STAT_COUNT).put SEC_TMP_TIME_SECONDS (u.get SEC_VTIME_SECONDS)

theorem State.get_tampered {f : Fld} (hstat : f.key / 32 ≠ 0x10F0000C) (htime : f.key ≠ SEC_TMP_TIME_SECONDS.key) (src : TamperSrc) :
    (s.tampered src).get f = (s.zeroRoot.zeroSlots (fun _ _ => true)).get f := by
  have hcount : f.key ≠ SEC_TMP_STAT_COUNT.key := fun h => hstat (by rw [h]; decide)
  rw [State.tampered, State.get_put_other _ _ _ _ htime, State.get_bump_other _ hcount, State.get_tamperShow hstat]

theorem State.tampered_eventOnly (s : State) (src : TamperSrc) :
    EventOnly (s.zeroRoot.zeroSlots (fun _ _ => true)) (s.tampered src) :=
  ((State.tamperShow_eventOnly _ src).trans (EventOnly.bump _ _)).trans (EventOnly.put _ _ _)

/-- A tamper leaves the power state, the tanks and the self-test, and the vault has no root. -/
theorem State.tampered_kept (hnone : s.pumps.threads = []) (src : TamperSrc) :
    (s.tampered src).power = s.power ∧ (s.tampered src).tanks = s.tanks ∧ (s.tampered src).bist = s.bist ∧
    (s.tampered src).vault.root = 0 := by
  have hevent := s.tampered_eventOnly src
  obtain ⟨r, k, hframe⟩ := State.clearSlots_frame s.zeroRoot.validSlots s.zeroRoot
  have hzero : s.zeroRoot.zeroSlots (fun _ _ => true) = _ := (State.zeroSlots_all (s := s.zeroRoot) hnone).trans hframe
  rw [hevent.power, hevent.tanks, hevent.bist, hevent.vault, hzero]
  exact ⟨rfl, rfl, rfl, rfl⟩

theorem State.zeroRoot_attr (s : State) (k : Nat) : s.zeroRoot.attr k = s.attr k :=
  State.get_put_other _ SEC_STAT_ROOT_VALID (SEC_SLOT_ATTR_ATTR k) 0 (slotKey_ne (f := SEC_STAT_ROOT_VALID) (by decide) k).symm

theorem State.attr_tampered (hnone : s.pumps.threads = []) (src : TamperSrc) {k : Nat} (hk : k < 128) :
    (s.tampered src).attr k = (s.zeroRoot.zeroSlots (fun _ _ => true)).attr k ∧
    (s.slotValid k = true → (s.tampered src).attr k = s.slotOwner k * 2 ^ 16) := by
  have hattr : (s.tampered src).attr k = (s.zeroRoot.zeroSlots (fun _ _ => true)).attr k :=
    State.get_tampered (by simp only [Fld.key, SEC_SLOT_ATTR_ATTR]; omega)
      (slotKey_ne (f := SEC_TMP_TIME_SECONDS) (by decide) k).symm src
  refine ⟨hattr, fun hvalid => ?_⟩
  rw [hattr, State.attr_zeroSlots (s := s.zeroRoot) hnone hk, State.slotValid, State.slotOwner, s.zeroRoot_attr]
  exact if_pos hvalid

theorem State.tampered_fields (hnone : s.pumps.threads = []) (src : TamperSrc) :
    (s.tampered src).get SEC_STAT_ROOT_VALID = 0 ∧
    (s.tampered src).get SEC_TMP_TIME_SECONDS = s.get SEC_VTIME_SECONDS % 2 ^ 32 := by
  have hzero : s.zeroRoot.zeroSlots (fun _ _ => true) = _ := State.zeroSlots_all (s := s.zeroRoot) hnone
  constructor
  · rw [State.get_tampered (by decide) (by decide), hzero, State.get_clearSlots (by decide)]
    exact State.get_put_same _ SEC_STAT_ROOT_VALID 0
  · rw [State.tampered, State.get_put_same, hzero, State.get_clearSlots (by decide)]
    exact congrArg (· % 2 ^ 32) (State.get_put_other _ SEC_STAT_ROOT_VALID SEC_VTIME_SECONDS 0 (by decide))

theorem exec_tamper_down {src : TamperSrc} (harmed : s.tamperArmed src = true) (hdown : s.coreUp = false)
    (hnone : s.pumps.threads = []) :
    exec (.tamper src) s = .next { s.tampered src with power := { (s.tampered src).power with
      atStep6 := (s.tampered src).power.atStep6 ++ [(0x1101, 0)] } } := by
  have hcore : (s.tampered src).coreUp = false := by rw [State.coreUp, (State.tampered_kept hnone src).1]; exact hdown
  have hguard : (!(s.tampered src).coreUp) = true := by rw [hcore]; rfl
  exact congrArg Host.Outcome.next ((if_pos harmed).trans (if_pos hguard))

theorem exec_tamper_up {src : TamperSrc} (harmed : s.tamperArmed src = true) (hup : s.coreUp = true)
    (hbist : s.bist.running = false) (hnone : s.pumps.threads = []) :
    exec (.tamper src) s = .next (
      let u := s.tampered src
      let u := if u.tamperMeets then { u with bkt := { u.bkt with tampered := true } } else u
      (State.raise { u with tanks := { u.tanks with sec := [] }, vault := { u.vault with wiping := true } } 0x1101 0).detect
        (tamperDetector src).1 (tamperDetector src).2) := by
  obtain ⟨hpower, -, htest, -⟩ := State.tampered_kept hnone src
  have hcore : (s.tampered src).coreUp = true := by rw [State.coreUp, hpower]; exact hup
  have hguard : ¬(!(s.tampered src).coreUp) = true := by rw [hcore]; exact Bool.false_ne_true
  refine congrArg Host.Outcome.next ((if_pos harmed).trans ((if_neg hguard).trans (congrArg (fun t : State => t.detect _ _) (if_neg ?_))))
  rw [(EventOnly.raise _ _ _).bist]
  have hquiet : ¬(s.tampered src).bist.running = true := by rw [htest, hbist]; exact Bool.false_ne_true
  split <;> exact hquiet

/-! ### Re-mask, TRNG and wipe (R455, R456, R495) -/

theorem exec_remaskPass (htrng : s.vault.trngBad = false) :
    exec .remaskPass s = .next (s.remask.addWrap SEC_STAT_PASSES 1) :=
  congrArg Host.Outcome.next (if_neg (by rw [htrng]; exact Bool.false_ne_true))

theorem exec_trngHealthFail_up (htrng : s.vault.trngBad = false) (hup : s.coreUp = true) :
    exec .trngHealthFail s = .next (((State.put { s with vault := { s.vault with trngBad := true } } SEC_STAT_TRNG_FAIL 1).raise
      0x1105 0).detect 0x43 0) := by
  have hfail : s.trngFail = _ := if_pos (show (State.put { s with vault := { s.vault with trngBad := true } } SEC_STAT_TRNG_FAIL
    1).coreUp = true from hup)
  exact congrArg Host.Outcome.next ((if_neg (by rw [htrng]; exact Bool.false_ne_true)).trans hfail)

theorem exec_secureWipeDone (hwiping : s.vault.wiping = true) (hroom : s.tanks.wipes < 0xFFFFFFFF) :
    exec .secureWipeDone s = .next (State.raise
      { s with vault := { s.vault with wiping := false }, tanks := { s.tanks with wipes := s.tanks.wipes + 1 } } 0x1404 0) := by
  change execSecureWipeDone s = _
  rw [execSecureWipeDone, if_pos hwiping, Nat.min_eq_left hroom]
end

/-- Settles O44. -/
theorem vaultEventRows : Obligations.VaultEventRows := by
  intro s
  refine ⟨fun src h => congrArg Host.Outcome.next (if_neg (by rw [h]; exact Bool.false_ne_true)), ?down,
    fun src => exec_tamper_up, ?remask, ?failed, exec_trngHealthFail_up, rfl, rfl, exec_secureWipeDone, ?idle⟩
  case down =>
    intro src harmed hdown hnone
    obtain ⟨hpower, htanks, -, hroot⟩ := State.tampered_kept hnone src
    obtain ⟨hvalid, htime⟩ := State.tampered_fields hnone src
    refine ⟨_, exec_tamper_down harmed hdown hnone, hroot, hvalid, fun k hk => ?_, fun k hk => (State.attr_tampered hnone src hk).2, htime,
      congrArg (fun p : Power => p.atStep6 ++ [(0x1101, 0)]) hpower, htanks⟩
    have hslot := State.slotValid_zeroSlots (s := s.zeroRoot) hnone hk
    rw [State.slotValid, ← (State.attr_tampered hnone src hk).1] at hslot
    exact hslot
  case remask =>
    intro htrng
    exact ⟨_, exec_remaskPass htrng, State.get_put_same _ SEC_STAT_PASSES _, rfl, rfl,
      fun k _ => State.get_put_other _ SEC_STAT_PASSES _ _ (slotKey_ne (f := SEC_STAT_PASSES) (by decide) k).symm, rfl⟩
  case failed => exact fun h => ⟨congrArg Host.Outcome.next (if_pos h), congrArg Host.Outcome.next (if_pos h)⟩
  case idle => exact fun h => congrArg Host.Outcome.next (if_neg (by rw [h]; exact Bool.false_ne_true))

/-! ### The bailer port (R489 to R494, R497) -/

section
variable {s : State}

theorem exec_bailReadStatus_on (hheld : s.power.phase ≠ .held) (hdry : s.power.phase ≠ .dry) :
    exec .bailReadStatus s = .next (s.emit (.bail (leBytes 1 ((if s.coreClock then 1 else 0) + (if s.halted then 2 else 0) +
      (if s.is GLB_HUB_STAT_ISLAND then 4 else 0) + (if s.is FLT_STAT_FROZEN then 8 else 0)) ++
      leBytes 1 (s.get CLK_PWR_STAT_STATE) ++ leBytes 1 (s.get SEC_STAT_LC) ++ leBytes 1 (s.get FLT_STAT_LEVEL) ++
      leBytes 2 (s.get FLT_LOG_IDX_NEXT) ++ leBytes 1 s.tanks.collisions ++ [0#8]) false)) := by
  have hstatus : s.bailStatus = _ := if_neg hdry
  change execBailReadStatus s = _
  rw [execBailReadStatus, if_neg hheld, hstatus]
  rfl

/-- In Dry the port answers READ_STATUS alone. -/
theorem exec_bail_dry (hdry : s.power.phase = .dry) :
    exec .bailReadStatus s = .next (s.emit (.bail [0#8, 2#8, 0#8, 0#8, 0#8, 0#8, 0#8, 0#8] false)) ∧
    exec .bailReadId s = .next s ∧ (∀ a n c, exec (.bailRead a n c) s = .next s) ∧ (∀ a d, exec (.bailWrite a d) s = .next s) ∧
    (∀ d, exec (.bailDoorbell d) s = .next s) := by
  have hoff : s.bailOn = false := by simp [State.bailOn, hdry]
  have hstatus : s.bailStatus = [0#8, 2#8] ++ zeros 6 := if_pos hdry
  refine ⟨?_, congrArg Host.Outcome.next (if_neg (by rw [hoff]; exact Bool.false_ne_true)), fun a n c => ?_, fun a d => ?_, fun d => ?_⟩
  · change execBailReadStatus s = _
    rw [execBailReadStatus, if_neg (by rw [hdry]; decide), hstatus]
    rfl
  all_goals exact congrArg Host.Outcome.next (if_pos (by rw [hoff]; rfl))

/-- The bytes that a READ from addr serves: tank 3 and three register ranges, up to the 4,096th. -/
def bailServes (addr a : Nat) : Bool := decide (a < addr + 4096) && (decide (0x02300000 ≤ a ∧ a < 0x02400000) || bailReg a)

/-- A READ without collisions that covers no register. -/
theorem exec_bailRead_plain {a n : Nat} (hon : s.bailOn = true) (hclock : s.coreClock = true) (hn : 0 < n) (hlen : n ≤ 4096)
    (hreg : ∀ i, i < n → bailReg (a + i) = false) :
    let all := (List.range n).all (fun i => bailServes a (a + i))
    exec (.bailRead a n []) s = .next ((if all then s else s.bailRefuse).emit
      (.bail ((List.range n).map (fun i => s.bailByte [] a n (a + i))) (!all))) := by
  have hguard : ¬(!s.bailOn || decide (n = 0)) = true := by simp [hon, Nat.ne_of_gt hn]
  have hunits : ((List.range n).map (fun i => a + i)).filter
      (fun x => x % 4 == 0 && bailReg x && decide (x + 4 ≤ a + n)) = [] := by
    refine List.filter_eq_nil_iff.mpr fun x hx => ?_
    obtain ⟨i, hi, rfl⟩ := List.mem_map.mp hx
    simp [hreg i (List.mem_range.mp hi)]
  intro all
  change execBailRead a n [] s = _
  rw [execBailRead, if_neg hguard, if_neg (by rw [hclock]; exact Bool.false_ne_true)]
  simp only [Nat.min_eq_left hlen, hunits, List.filter_nil, State.bailWords, State.bailCollisions, List.isEmpty_nil, Bool.not_true,
    Bool.or_false]
  rfl

theorem exec_bailRead_tank {a n : Nat} (hon : s.bailOn = true) (hclock : s.coreClock = true) (hn : 0 < n) (hlen : n ≤ 4096)
    (hlo : 0x02300000 ≤ a) (hhi : a + n ≤ 0x02400000) : ∃ d : Bytes,
      exec (.bailRead a n []) s = .next (s.emit (.bail d false)) ∧ d.length = n ∧
      ∀ i, i < n → d.getD i 0#8 = memGet s.tanks.t3 (a + i - 0x02300000) := by
  have hreg (i : Nat) (hi : i < n) : bailReg (a + i) = false := by
    simp only [bailReg, Bool.or_eq_false_iff, decide_eq_false_iff_not]
    omega
  have hall : ((List.range n).all fun i => bailServes a (a + i)) = true := by
    refine List.all_eq_true.mpr fun i hi => ?_
    have hi := List.mem_range.mp hi
    simp only [bailServes, Bool.and_eq_true, Bool.or_eq_true, decide_eq_true_eq]
    omega
  have hread := exec_bailRead_plain hon hclock hn hlen hreg
  simp only [hall, if_true, Bool.not_true] at hread
  refine ⟨_, hread, by simp, fun i hi => ?_⟩
  have hget : ((List.range n).map (fun i => s.bailByte [] a n (a + i))).getD i 0#8 = s.bailByte [] a n (a + i) := by simp [hi]
  rw [hget, State.bailByte, if_neg (by omega), if_pos (by omega)]

theorem exec_bailRead_outside {a n : Nat} (hon : s.bailOn = true) (hclock : s.coreClock = true) (hn : 0 < n) (hlen : n ≤ 4096)
    (hlo : 0x20000000 ≤ a) : ∃ d : Bytes,
      exec (.bailRead a n []) s = .next (s.bailRefuse.emit (.bail d true)) ∧ d.length = n ∧ ∀ i, d.getD i 0#8 = 0#8 := by
  have hreg (i : Nat) : bailReg (a + i) = false := by
    simp only [bailReg, Bool.or_eq_false_iff, decide_eq_false_iff_not]
    omega
  have hall : ((List.range n).all fun i => bailServes a (a + i)) = false := by
    refine List.all_eq_false.mpr ⟨0, List.mem_range.mpr hn, ?_⟩
    rw [bailServes, hreg 0, decide_eq_false (by omega : ¬(0x02300000 ≤ a + 0 ∧ a + 0 < 0x02400000)), Bool.or_false, Bool.and_false]
    exact Bool.false_ne_true
  have hbyte (i : Nat) : s.bailByte [] a n (a + i) = 0#8 := by
    have htank : ¬(0x02300000 ≤ a + i ∧ a + i < 0x02400000) := by omega
    simp only [State.bailByte, if_neg htank, hreg i, Bool.false_eq_true, false_and, if_false, ite_self]
  have hread := exec_bailRead_plain hon hclock hn hlen (fun i _ => hreg i)
  simp only [hall, Bool.false_eq_true, if_false, Bool.not_false, hbyte] at hread
  refine ⟨_, hread, by simp, fun i => ?_⟩
  simp [List.getD_eq_getElem?_getD]

/-- While the core clock is stopped a READ gives a free value. -/
theorem exec_bailRead_stopped {a n : Nat} {c : List Nat} (hon : s.bailOn = true) (hclock : s.coreClock = false) (hn : 0 < n) :
    ∃ d : Bytes, exec (.bailRead a n c) s = .next (State.emit { s with free := s.free + 1 } (.bail d true)) := by
  have hguard : ¬(!s.bailOn || decide (n = 0)) = true := by simp [hon, Nat.ne_of_gt hn]
  exact ⟨_, congrArg Host.Outcome.next ((if_neg hguard).trans (if_pos (by rw [hclock]; rfl)))⟩

theorem exec_bailWrite_on {a : Nat} {d : Bytes} (hon : s.bailOn = true) (hclock : s.coreClock = true) (hd : 0 < d.length) :
    exec (.bailWrite a d) s = .next (
      if 0x023D0000 ≤ a ∧ a + d.length ≤ 0x023E0000 ∧ d.length ≤ 256 then s.tankWrite 3 (a - 0x02300000) d else s.bailRefuse) := by
  have hempty : d.isEmpty = false := List.isEmpty_eq_false_iff.mpr (List.ne_nil_of_length_pos hd)
  exact congrArg Host.Outcome.next (if_neg (by rw [hon, hclock, hempty]; exact Bool.false_ne_true))

theorem leAt_whole {d : Bytes} (hlen : d.length = 4) : leAt d 0 4 = leNat d := by
  obtain ⟨a, b, c, e, rfl⟩ : ∃ a b c e, d = [a, b, c, e] := by
    match d, hlen with
    | [a, b, c, e], _ => exact ⟨a, b, c, e, rfl⟩
  rfl

theorem exec_bailDoorbell_rings {d : Bytes} (hon : s.bailOn = true) (hclock : s.coreClock = true) (hfw : s.firmware = true)
    (hroom : s.tanks.doorbells < 0xFFFFFFFF) (hlen : d.length = 4) :
    exec (.bailDoorbell d) s = .next (State.raiseP { s with tanks := { s.tanks with doorbells := s.tanks.doorbells + 1 } }
      0x1401 0 (leNat d)) := by
  change execBailDoorbell d s = _
  rw [execBailDoorbell, if_neg (by rw [hon, hclock]; exact Bool.false_ne_true), Nat.min_eq_left hroom, leAt_whole hlen]
  exact congrArg Host.Outcome.next (if_pos hfw)
end

/-- Settles O45. -/
theorem bailerRows : Obligations.BailerRows := by
  intro s
  refine ⟨exec_bailReadStatus_on, exec_bail_dry, fun hon => congrArg Host.Outcome.next (if_pos hon),
    fun hon hclock a n => exec_bailRead_tank hon hclock, fun hon hclock a n => exec_bailRead_outside hon hclock,
    fun hon hclock a n c => exec_bailRead_stopped hon hclock, ?written, ?refused,
    fun hon hclock hfw hroom d => exec_bailDoorbell_rings hon hclock hfw hroom, ?stopped⟩
  case written =>
    intro hon hclock a d hd hlen hlo hhi
    rw [exec_bailWrite_on hon hclock hd, if_pos ⟨hlo, hhi, hlen⟩]
    rfl
  case refused =>
    intro hon hclock a d hd hout
    rw [exec_bailWrite_on hon hclock hd, if_neg (by omega)]
  case stopped =>
    intro hclock
    exact ⟨fun a d => congrArg Host.Outcome.next (if_pos (by rw [hclock, Bool.not_false, Bool.or_true, Bool.true_or])),
      fun d => congrArg Host.Outcome.next (if_pos (by rw [hclock, Bool.not_false, Bool.or_true]))⟩

end Sys2Proof.Machine
end

section
/-! PROOFS. The fault ladder, the temperature, BIST and the monitored inputs (R527 to R542). -/
namespace Sys2Proof.Machine

section
variable {s : State}

/-! ### The end of a fault's handling (R528, R529) -/

theorem exec_faultHandlingDone_none (hcur : s.ladder.cur = none) : exec .faultHandlingDone s = .next s := by
  change execFaultHandlingDone s = _
  simp only [execFaultHandlingDone, hcur]

theorem exec_faultHandlingDone_lower {f : FaultEnt} (hcur : s.ladder.cur = some f) (hlvl : f.lvl ≠ 5) :
    exec .faultHandlingDone s = .next (
      let u := if f.lvl = 4 then s.holdUnits f.det f.inst else s
      (State.showQueue { u with ladder := { u.ladder with cur := none } }).nextFault.settle) := by
  change execFaultHandlingDone s = _
  simp only [execFaultHandlingDone, hcur, if_neg hlvl]

theorem exec_faultHandlingDone_halt {f : FaultEnt} (hcur : s.ladder.cur = some f) (hlvl : f.lvl = 5)
    (hcopy : s.is FLT_CTRL_FLASH_COPY = true → s.is FLT_STAT_COPIED = true ∨ s.is FLT_STAT_COPY_FAIL = true) :
    exec .faultHandlingDone s = .next (State.showQueue { s with ladder := { s.ladder with cur := none, haltDone := true } }) := by
  have hguard : ¬(s.is FLT_CTRL_FLASH_COPY && !s.is FLT_STAT_COPIED && !s.is FLT_STAT_COPY_FAIL) = true := by
    intro h
    simp only [Bool.and_eq_true, Bool.not_eq_true'] at h
    obtain ⟨⟨hasked, hcopied⟩, hfailed⟩ := h
    simpa [hcopied, hfailed] using hcopy hasked
  change execFaultHandlingDone s = _
  simp only [execFaultHandlingDone, hcur, if_pos hlvl]
  rw [if_neg hguard]

theorem State.nextFault_cons {f : FaultEnt} {l : List FaultEnt} (hqueue : s.ladder.queue = f :: l) :
    s.nextFault = State.startFault { s with ladder := { s.ladder with queue := l } } f := by
  simp only [State.nextFault, hqueue]

/-! ### A transaction timed out, and the temperature (R527, R533) -/

theorem exec_fabricTimeout {b : Nat} (hrun : s.running = true) (hb : b ≤ 19) :
    exec (.fabricTimeout b) s = .next (s.fabricTimeout b).runBridge := by
  have hguard : (s.running && decide (b ≤ 19)) = true := by simp [hrun, hb]
  exact congrArg Host.Outcome.next (if_pos hguard)

/-- A timeout of a block other than the bridge ends no request. -/
theorem State.fabricTimeout_detects {b : Nat} (hb : b ≠ 14) : s.fabricTimeout b = s.detect 0x17 b := by
  have hnone : (s.detect 0x17 b).brg.dn.find? (fun e => e.2.st == .issued && e.2.req.hub == 0 && b == 14) = none :=
    List.find?_eq_none.mpr fun e _ => by simp [hb]
  simp only [State.fabricTimeout, hnone]

theorem exec_junctionTempCrossing {x : Int} (hup : s.coreUp = true) (hlo : -128 ≤ x) (hhi : x ≤ 127) :
    let old := signed 8 (s.get FLT_TEMP_NOW)
    let u := s.put FLT_TEMP_NOW (unsigned 8 x)
    exec (.junctionTempCrossing x) s = .next (
      let w := if old ≤ s.get FLT_TEMP_WARN ∧ (s.get FLT_TEMP_WARN : Int) < x then u.detect 6 0 else u
      if old ≤ w.get FLT_TEMP_CRIT ∧ (w.get FLT_TEMP_CRIT : Int) < x then w.detect 7 0 else w) := by
  intro old u
  have hwarn : u.get FLT_TEMP_WARN = s.get FLT_TEMP_WARN := State.get_put_other s FLT_TEMP_NOW FLT_TEMP_WARN _ (by decide)
  change execJunctionTempCrossing x s = _
  rw [execJunctionTempCrossing, if_pos hup, clampInt_of_mem hlo hhi, ← hwarn]
  simp only [decide_eq_true_eq]
  rfl

theorem exec_junctionTempCrossing_spec {x : Int} (hup : s.coreUp = true) (hlo : -128 ≤ x) (hhi : x ≤ 127) :
    let old := signed 8 (s.get FLT_TEMP_NOW)
    let u := s.put FLT_TEMP_NOW (unsigned 8 x)
    (x ≤ s.get FLT_TEMP_WARN → x ≤ s.get FLT_TEMP_CRIT → exec (.junctionTempCrossing x) s = .next u) ∧
    (old ≤ s.get FLT_TEMP_WARN → (s.get FLT_TEMP_WARN : Int) < x →
      exec (.junctionTempCrossing x) s = .next (let w := u.detect 6 0;
        if old ≤ w.get FLT_TEMP_CRIT ∧ (w.get FLT_TEMP_CRIT : Int) < x then w.detect 7 0 else w)) := by
  intro old u
  have hcrit : u.get FLT_TEMP_CRIT = s.get FLT_TEMP_CRIT := State.get_put_other s FLT_TEMP_NOW FLT_TEMP_CRIT _ (by decide)
  rw [exec_junctionTempCrossing hup hlo hhi]
  refine ⟨fun hw hc => ?_, fun hold hw => ?_⟩
  · have hcool : ¬(old ≤ s.get FLT_TEMP_WARN ∧ (s.get FLT_TEMP_WARN : Int) < x) := fun h => absurd h.2 (Int.not_lt.mpr hw)
    have hsafe : ¬(old ≤ u.get FLT_TEMP_CRIT ∧ (u.get FLT_TEMP_CRIT : Int) < x) := fun h => absurd h.2 (by rw [hcrit]; exact Int.not_lt.mpr hc)
    simp only [old, u] at hcool hsafe
    simp only [if_neg hcool, if_neg hsafe, u]
  · simp only [if_pos (And.intro hold hw), old, u]

/-! ### BIST (R538) -/

/-- The state in which the signature of sector k has been recorded. -/
def State.bistRan (s : State) (k : Nat) (g : W32) : State :=
  (s.put (FLT_BIST_MISR_SIG k) g.toNat).put FLT_BIST_RES_RAN (setBit (s.get FLT_BIST_RES_RAN) k true)

section
variable {k : Nat} {l : List Nat} (hrun : s.bist.running = true) (htodo : s.bist.todo = k :: l)
include hrun htodo

theorem exec_bistSectorDone (g g' : W32) :
    exec (.bistSectorDone g g') s = .next (
      if g ≠ g' then (s.bistRan k g).bistFailed 0x0A k 2
      else if l.isEmpty then (s.bistRan k g).bistPassed
      else { s.bistRan k g with bist := { (s.bistRan k g).bist with todo := l } }) := by
  change execBistSectorDone g g' s = _
  simp only [execBistSectorDone, hrun, htodo]
  rfl

theorem exec_bistSectorTimeout :
    exec .bistSectorTimeout s = .next (
      let u := s.put FLT_BIST_RES_RAN (setBit (s.get FLT_BIST_RES_RAN) k true)
      ((State.put { u with bist := {} } FLT_BIST_RES_SECTOR k).detect 0x0B k).holdSafe 3) := by
  change execBistSectorTimeout s = _
  simp only [execBistSectorTimeout, hrun, htodo]
  rfl
end

theorem exec_bistIdle (hrun : s.bist.running = false) :
    exec .bistSectorTimeout s = .next s ∧ ∀ g g', exec (.bistSectorDone g g') s = .next s := by
  change execBistSectorTimeout s = _ ∧ ∀ g g', execBistSectorDone g g' s = _
  simp only [execBistSectorTimeout, execBistSectorDone, hrun, implies_true, and_self]

theorem State.bistPassed_powerOn (hon : s.bist.powerOn = true) :
    s.bistPassed = (State.put { s with bist := {} } FLT_BIST_RES_RESULT 1).beginLoad := if_pos hon

/-! ### Monitored inputs (R542) -/

section
variable {i : Nat} (hmon : s.monitors = true) (hi : i ≤ 11)
include hmon hi

theorem exec_inputStuck (hfree : bit (s.get FLT_IN_STAT_STUCK) i = false) : exec (.inputStuck i) s = .next (
    ((s.put FLT_IN_STAT_STUCK (setBit (s.get FLT_IN_STAT_STUCK) i true)).detect 0x44 i).raise 0x1203 i) := by
  have hguard : (s.monitors && decide (i ≤ 11) && !bit (s.get FLT_IN_STAT_STUCK) i) = true := by simp [hmon, hi, hfree]
  exact congrArg Host.Outcome.next (if_pos hguard)

theorem exec_inputUnstuck :
    exec (.inputUnstuck i) s = .next (s.put FLT_IN_STAT_STUCK (setBit (s.get FLT_IN_STAT_STUCK) i false)) := by
  have hguard : (s.monitors && decide (i ≤ 11)) = true := by simp [hmon, hi]
  exact congrArg Host.Outcome.next (if_pos hguard)

/-- An edge that follows no other within 100 us only marks its time. -/
theorem exec_inputActiveEdge_far (hfar : ∀ n, (assocGet {} s.inputs i).last = some n → n + 100000 < s.hubTime) :
    exec (.inputActiveEdge i) s = .next { s with inputs := assocSet {} i ⟨some s.hubTime⟩ s.inputs } := by
  have hguard : (s.monitors && decide (i ≤ 11)) = true := by simp [hmon, hi]
  change execInputActiveEdge i s = _
  rw [execInputActiveEdge, if_pos hguard]
  cases hlast : (assocGet {} s.inputs i).last with
  | none => rfl
  | some n =>
    have hnear : decide (s.hubTime ≤ n + 100000) = false := decide_eq_false (Nat.not_le.mpr (hfar n hlast))
    simp only [hnear, Bool.false_eq_true, if_false]

/-- An edge that follows another within 100 us counts, and the input is masked at the threshold. -/
theorem exec_inputActiveEdge_near {n : Nat} (hlast : (assocGet {} s.inputs i).last = some n) (hnear : s.hubTime ≤ n + 100000) :
    let c := ({ s with inputs := assocSet {} i ⟨some s.hubTime⟩ s.inputs } : State).bump (FLT_IN_CNT_COUNT i)
    exec (.inputActiveEdge i) s = .next (
      if (decide (c.get FLT_IN_CFG_CHAT_THR ≤ c.get (FLT_IN_CNT_COUNT i)) && !bit (c.get FLT_IN_STAT_CHAT) i) = true
      then c.maskInput i 0x45 else c) := by
  have hguard : (s.monitors && decide (i ≤ 11)) = true := by simp [hmon, hi]
  change execInputActiveEdge i s = _
  rw [execInputActiveEdge, if_pos hguard]
  simp only [hlast, decide_eq_true hnear, if_true]
end
end

/-- Settles O46. -/
theorem faultRows : Obligations.FaultRows := by
  intro s
  refine ⟨exec_faultHandlingDone_none, ?lower, ?holds, fun f => exec_faultHandlingDone_halt, fun f l => State.nextFault_cons,
    fun hrun b => exec_fabricTimeout hrun, fun _ b _ => State.fabricTimeout_detects, fun hup x => exec_junctionTempCrossing_spec hup,
    ?sector, ?failed, ?passed, fun k l hrun htodo => exec_bistSectorTimeout hrun htodo, exec_bistIdle, ?inputs⟩
  case lower =>
    intro f hcur hlvl
    rw [exec_faultHandlingDone_lower hcur (by omega), if_neg (by omega)]
  case holds =>
    intro f hcur hlvl
    rw [exec_faultHandlingDone_lower hcur (by omega), if_pos hlvl]
  case sector =>
    intro k k' l g hrun htodo
    rw [exec_bistSectorDone hrun htodo, if_neg (not_not.mpr rfl)]
    rfl
  case failed =>
    intro k l g g' hne hrun htodo
    rw [exec_bistSectorDone hrun htodo, if_pos hne]
    rfl
  case passed =>
    intro k g hrun hon htodo
    rw [exec_bistSectorDone hrun htodo, if_neg (not_not.mpr rfl), List.isEmpty_nil, if_pos rfl]
    exact congrArg Host.Outcome.next (State.bistPassed_powerOn (s := s.bistRan k g) hon)
  case inputs =>
    intro hmon i hi
    refine ⟨exec_inputStuck hmon hi, exec_inputUnstuck hmon hi, fun hlast => ?_, fun n hlast => ⟨fun hfar => ?_, fun hnear hlow => ?_,
      fun hnear hhigh hfree => ?_⟩⟩
    · exact exec_inputActiveEdge_far hmon hi (fun n h => by rw [hlast] at h; cases h)
    · exact exec_inputActiveEdge_far hmon hi (fun m h => by rw [hlast] at h; cases h; exact hfar)
    · rw [exec_inputActiveEdge_near hmon hi hlast hnear, if_neg]
      rw [decide_eq_false (Nat.not_le.mpr hlow)]
      exact Bool.false_ne_true
    · rw [exec_inputActiveEdge_near hmon hi hlast hnear, if_pos]
      · rfl
      · rw [decide_eq_true hhigh, hfree]
        rfl

end Sys2Proof.Machine
end

section
/-! PROOFS. The Ethernet ports (R391 to R404, R542). -/
namespace Sys2Proof.Machine

section
variable {s : State} {n : Nat}

theorem State.ethOn_iff (s : State) (n : Nat) : s.ethOn n = true ↔ s.running = true ∧ n < 8 ∧ s.heldPort (n + 4) = false := by
  simp [State.ethOn, and_assoc]

/-- A field below the counters of a port keeps its value when a counter of the port counts. -/
theorem State.get_ethCount (s : State) (i : Nat) :
    (s.bump (ETH_CNT_COUNT n i)).get (ETH_FC_CFG_HONOUR n) = s.get (ETH_FC_CFG_HONOUR n) :=
  State.get_bump_other _ (by simp only [Fld.key, ETH_CNT_COUNT, ETH_FC_CFG_HONOUR]; omega)

/-! ### Reception (R392) -/

section
variable (hon : s.ethOn n = true) (hup : s.is (ETH_STAT_LINK n) = true)
include hon hup

theorem ethGuard_passed : (s.ethOn n && s.is (ETH_STAT_LINK n)) = true := by rw [hon, hup]; rfl

theorem exec_ethFrameReceive_badFcs (d : Bytes) : exec (.ethFrameReceive n d false) s = .next (s.bump (ETH_CNT_COUNT n 1)) :=
  congrArg Host.Outcome.next ((if_pos (ethGuard_passed hon hup)).trans (if_pos rfl))

theorem exec_ethFrameReceive_badLength (d : Bytes) (hlen : d.length + 4 < 64 ∨ s.get (ETH_CFG_MAXLEN n) < d.length + 4) :
    exec (.ethFrameReceive n d true) s = .next (s.bump (ETH_CNT_COUNT n 2)) :=
  congrArg Host.Outcome.next ((if_pos (ethGuard_passed hon hup)).trans ((if_neg Bool.false_ne_true).trans (if_pos hlen)))

theorem exec_pauseFrameReceive_up (p : Bool) (v : Nat) (q : List Nat) :
    exec (.pauseFrameReceive n p v q) s = .next (s.pauseReceived n p v q) :=
  congrArg Host.Outcome.next (if_pos (ethGuard_passed hon hup))

/-- A frame of a right length: MAC control acts at once, any other frame enters the hub. -/
theorem exec_ethFrameReceive_good {d : Bytes} (hmin : 64 ≤ d.length + 4) (hmax : d.length + 4 ≤ s.get (ETH_CFG_MAXLEN n)) :
    (macControl d = some 1 → exec (.ethFrameReceive n d true) s = .next (s.pauseReceived n false 0 [beAt d 16 2])) ∧
    (macControl d = some 0x101 → exec (.ethFrameReceive n d true) s = .next
      (s.pauseReceived n true (beAt d 16 2 % 256) ((List.range 8).map (fun t => beAt d (18 + 2 * t) 2)))) ∧
    (macControl d = none → exec (.ethFrameReceive n d true) s = .next
      (s.ingress (n + 4) (s.hubTime - s.get (ETH_TS_LAT_RX n)) d (s.classify (n + 4) d))) := by
  have hlen : ¬(d.length + 4 < 64 ∨ s.get (ETH_CFG_MAXLEN n) < d.length + 4) := by omega
  change (_ → execEthFrameReceive n d true s = _) ∧ (_ → execEthFrameReceive n d true s = _) ∧ (_ → execEthFrameReceive n d true s = _)
  simp only [execEthFrameReceive, if_pos (ethGuard_passed hon hup), Bool.not_true, Bool.false_eq_true, if_false, if_neg hlen]
  exact ⟨fun h => by simp only [h], fun h => by simp only [h], fun h => by simp only [h]⟩

/-! ### PAUSE and PFC (R403, R404) -/

theorem exec_flowControlRepeat_up :
    exec (.flowControlRepeat n) s = .next (
      let q := s.get (ETH_FC_CFG_QUANTA n)
      let t := if s.get (ETH_STAT_TX_XOFF n) ≠ 0 then s.sendPause n (s.get (ETH_STAT_TX_XOFF n)) q else s
      if (t.ethPort n).paused then t.sendPause n 0x100 q else t) :=
  congrArg Host.Outcome.next (if_pos (ethGuard_passed hon hup))

theorem exec_flowControlRepeat_spec :
    (s.get (ETH_STAT_TX_XOFF n) ≠ 0 → (s.ethPort n).paused = false →
      exec (.flowControlRepeat n) s = .next (s.sendPause n (s.get (ETH_STAT_TX_XOFF n)) (s.get (ETH_FC_CFG_QUANTA n)))) ∧
    (s.get (ETH_STAT_TX_XOFF n) = 0 → (s.ethPort n).paused = true →
      exec (.flowControlRepeat n) s = .next (s.sendPause n 0x100 (s.get (ETH_FC_CFG_QUANTA n)))) := by
  rw [exec_flowControlRepeat_up hon hup]
  refine ⟨fun hx hp => ?_, fun hx hp => ?_⟩
  · simp only [if_pos hx]
    exact congrArg Host.Outcome.next (if_neg (fun h => Bool.false_ne_true (hp.symm.trans h)))
  · simp only [if_neg (not_not.mpr hx), if_pos hp]
end

theorem State.pauseReceived_ignored (p : Bool) (v : Nat) (q : List Nat) (hhonour : s.is (ETH_FC_CFG_HONOUR n) = false) :
    s.pauseReceived n p v q = s.bump (ETH_CNT_COUNT n 5) := by
  have hhonour' : (s.bump (ETH_CNT_COUNT n 5)).is (ETH_FC_CFG_HONOUR n) = false := by
    rw [State.is, s.get_ethCount]
    exact hhonour
  exact if_pos (by rw [hhonour']; rfl)

theorem State.pauseReceived_honoured (p : Bool) (v : Nat) (q : List Nat) (hhonour : s.is (ETH_FC_CFG_HONOUR n) = true) :
    let t := (s.bump (ETH_CNT_COUNT n 5)).accruePort (n + 4)
    let u := t.setEth n { s.ethPort n with waits := (s.ethPort n).waits ++ [(p, v, q)] }
    s.pauseReceived n p v q = if (assocFind u.cis.tx (n + 4)).isSome then u else u.startHolds n := by
  have hhonour' : (s.bump (ETH_CNT_COUNT n 5)).is (ETH_FC_CFG_HONOUR n) = true := by
    rw [State.is, s.get_ethCount]
    exact hhonour
  exact if_neg (by rw [hhonour']; exact Bool.false_ne_true)

theorem State.startHolds_none (hwaits : (s.ethPort n).waits = []) :
    s.startHolds n = (s.setEth n { s.ethPort n with waits := [] }).showHolds n := by
  simp only [State.startHolds, hwaits, List.foldl_nil]

/-- A PAUSE hold runs for its quanta and leaves the PFC holds and the other ports. -/
theorem State.startHold_pause (v : Nat) {q : Nat} (l : List Nat) (hq : q < 65536) :
    let t := s.startHold n (false, v, q :: l)
    (t.ethPort n).pauseTo = s.hubTime + s.quantaTime n q ∧ (t.ethPort n).pfcTo = (s.ethPort n).pfcTo ∧
      ∀ m, m ≠ n → t.ethPort m = s.ethPort m := by
  have hhold : s.startHold n (false, v, q :: l) =
      s.setEth n { s.ethPort n with pauseTo := s.hubTime + s.quantaTime n (q % 65536) } := rfl
  rw [Nat.mod_eq_of_lt hq] at hhold
  intro t
  have ht : t = _ := hhold
  rw [ht, State.ethPort_setEth]
  exact ⟨rfl, rfl, fun m hm => State.ethPort_setEth_other s n m _ hm⟩

/-- PAUSED shows whether the PAUSE hold still runs. -/
theorem State.showHolds_paused (s : State) (n : Nat) :
    (s.showHolds n).is (ETH_STAT_PAUSED n) = decide (s.hubTime < (s.ethPort n).pauseTo) := by
  have hne : (ETH_STAT_PAUSED n).key ≠ (ETH_STAT_RX_HELD n).key := Fld.key_ne rfl rfl
  simp only [State.showHolds, State.is, State.get_put_other _ _ _ _ hne, State.putB, State.get_put_same]
  cases decide (s.hubTime < (s.ethPort n).pauseTo) <;> rfl

/-! ### Links and PHY interrupts (R391, R542) -/

section
variable (hon : s.ethOn n = true)
include hon

theorem exec_ethLinkChange_up {v w : Nat} (hen : s.is (ETH_CFG_EN n) = true) (hspeed : s.linkSpeed n v = some w) :
    let u := (s.put (ETH_STAT_LINK n) 1).put (ETH_STAT_SPEED n) w
    exec (.ethLinkChange n true v) s = .next (if s.is (ETH_STAT_LINK n) then u else (u.raise 0x0D01 n).settle) := by
  change execEthLinkChange n true v s = _
  simp only [execEthLinkChange, if_pos hon, hen, Bool.and_self, if_true, hspeed]

theorem exec_ethLinkChange_down (v : Nat) : exec (.ethLinkChange n false v) s = .next (s.ethDown n) := by
  change execEthLinkChange n false v s = _
  simp only [execEthLinkChange, if_pos hon, Bool.false_and, Bool.false_eq_true, if_false]

theorem exec_ethLinkChange_noSpeed {v : Nat} (hspeed : s.linkSpeed n v = none) :
    exec (.ethLinkChange n true v) s = .next (s.ethDown n) := by
  change execEthLinkChange n true v s = _
  simp only [execEthLinkChange, if_pos hon, hspeed, ite_self]

theorem exec_ethPhyInterrupt :
    (s.inputMasked n = false → exec (.ethPhyInterrupt n) s = .next (s.raise 0x0D06 n)) ∧
    (s.inputMasked n = true → exec (.ethPhyInterrupt n) s = .next s) := by
  refine ⟨fun h => congrArg Host.Outcome.next (if_pos ?_), fun h => congrArg Host.Outcome.next (if_neg ?_)⟩ <;> simp [hon, h]

end

/-- A port without a link takes no frame and repeats no PAUSE. -/
theorem exec_eth_noLink (hlink : s.is (ETH_STAT_LINK n) = false) :
    (∀ d ok, exec (.ethFrameReceive n d ok) s = .next s) ∧ (∀ p v q, exec (.pauseFrameReceive n p v q) s = .next s) ∧
    exec (.flowControlRepeat n) s = .next s := by
  have hguard : ¬(s.ethOn n && s.is (ETH_STAT_LINK n)) = true := by rw [hlink, Bool.and_false]; exact Bool.false_ne_true
  exact ⟨fun d ok => congrArg Host.Outcome.next (if_neg hguard), fun p v q => congrArg Host.Outcome.next (if_neg hguard),
    congrArg Host.Outcome.next (if_neg hguard)⟩
/-! ### MDIO and steps of hub time (R393, R402) -/

theorem exec_mdioDone_busy (d : Nat) (hrun : s.running = true) (hbusy : s.is ETH_MDIO_CMD_BUSY = true) :
    ∃ t, exec (.mdioDone d) s = .next t ∧ t.is ETH_MDIO_CMD_BUSY = false ∧
      t.get ETH_MDIO_DATA_DATA = if bit ((assocFind s.latch ETH_MDIO_CMD_GO.addr).getD 0) 28 then d % 65536
        else s.get ETH_MDIO_DATA_DATA := by
  have hguard : (s.running && s.is ETH_MDIO_CMD_BUSY) = true := by rw [hrun, hbusy]; rfl
  refine ⟨_, congrArg Host.Outcome.next (if_pos hguard), ?_, ?_⟩
  · rw [State.is, State.get_put_same]
    rfl
  · rw [State.get_put_other _ _ _ _ (by decide)]
    split
    · exact State.get_put_same _ ETH_MDIO_DATA_DATA d
    · rfl

theorem exec_mdioDone_idle (d : Nat) (hbusy : s.is ETH_MDIO_CMD_BUSY = false) : exec (.mdioDone d) s = .next s :=
  congrArg Host.Outcome.next (if_neg (by rw [hbusy, Bool.and_false]; exact Bool.false_ne_true))

theorem exec_hubTimeStep_steps (x : Nat) (o : Int) (hrun : s.running = true) (hen : s.is ETH_PTP_CFG_EN = true)
    (hisl : s.islanded = false) (hhold : s.ptp.hold = 0) : exec (.hubTimeStep x o) s = .next (
      let a := s.wellNos.foldl State.accrue s;
      let u := State.bump { a with hubTime := x, trunk := { a.trunk with calWait := false } } ETH_PTP_STAT_STEPS;
      let u := ((u.shiftParts a.hubTime).shiftHolds a.hubTime).put ETH_PTP_STAT_OFFSET (unsigned 16 (clampInt (-32767) 32767 o));
      let u := (List.range 8).foldl State.gateStep (u.raise 0x0D03 0);
      (if u.trunkUp then u.startSlew else u).expireTimers) := by
  have hguard : (s.running && s.is ETH_PTP_CFG_EN && !s.islanded && s.ptp.hold == 0) = true := by simp [hrun, hen, hisl, hhold]
  exact congrArg Host.Outcome.next (if_pos hguard)

theorem exec_hubTimeStep_free (x : Nat) (o : Int) (h : s.is ETH_PTP_CFG_EN = false ∨ s.islanded = true ∨ s.ptp.hold ≠ 0) :
    exec (.hubTimeStep x o) s = .next s := by
  refine congrArg Host.Outcome.next (if_neg ?_)
  rcases h with h | h | h <;> simp [h]
end

/-- Settles O47. -/
theorem ethernetRows : Obligations.EthernetRows := by
  intro s n hon up
  obtain ⟨hrun, hn, -⟩ := (s.ethOn_iff n).mp hon
  refine ⟨fun d hup => exec_ethFrameReceive_badFcs hon hup d, fun d hup => exec_ethFrameReceive_badLength hon hup d, ?good,
    exec_eth_noLink, ?ignored, ?honoured, State.startHolds_none, fun v q l hq => State.startHold_pause v l hq,
    congrArg Host.Outcome.next (if_pos hon), ?paused, ?ended, fun hup => (exec_flowControlRepeat_spec hon hup).1,
    fun hup => (exec_flowControlRepeat_spec hon hup).2, ?linkUp, exec_ethLinkChange_down hon, fun v => exec_ethLinkChange_noSpeed hon,
    fun hup => if_pos hup, fun hdown => if_neg (by rw [hdown]; exact Bool.false_ne_true), (exec_ethPhyInterrupt hon).1,
    (exec_ethPhyInterrupt hon).2, fun d => exec_mdioDone_busy d hrun, fun d => exec_mdioDone_idle d,
    fun x o => exec_hubTimeStep_steps x o hrun, fun x o => exec_hubTimeStep_free x o⟩
  case good =>
    intro d hup hmin hmax
    obtain ⟨hpause, hpfc, hdata⟩ := exec_ethFrameReceive_good hon hup hmin hmax
    obtain ⟨hfull, hlands, -⟩ := s.ingress_spec (n + 4) (s.hubTime - s.get (ETH_TS_LAT_RX n)) d (s.classify (n + 4) d)
    rw [Nat.add_sub_cancel] at hfull hlands
    refine ⟨fun h => ?_, fun h => ?_, fun h hroom => ?_, fun h huse hroom => ?_⟩
    · rw [hpause h, exec_pauseFrameReceive_up hon hup]
    · rw [hpfc h, exec_pauseFrameReceive_up hon hup]
    · rw [hdata h, hfull (by omega) (by omega) hroom]
    · rw [hdata h, hlands (by omega) (by omega) huse hroom]
  case ignored =>
    intro p v q hup hhonour
    rw [exec_pauseFrameReceive_up hon hup, State.pauseReceived_ignored p v q hhonour]
  case honoured =>
    intro p v q hup hhonour t u
    rw [exec_pauseFrameReceive_up hon hup, State.pauseReceived_honoured p v q hhonour]
    exact ⟨fun h => congrArg Host.Outcome.next (if_neg (by rw [h]; exact Bool.false_ne_true)),
      fun x h => congrArg Host.Outcome.next (if_pos (by rw [h]; rfl))⟩
  case paused => exact fun h => by rw [State.showHolds_paused, decide_eq_true h]
  case ended => exact fun h => by rw [State.showHolds_paused, decide_eq_false (Nat.not_lt.mpr h)]
  case linkUp =>
    intro v w hen hspeed
    rw [exec_ethLinkChange_up hon hen hspeed]
    exact ⟨fun hup => congrArg Host.Outcome.next (if_pos hup),
      fun hdown => congrArg Host.Outcome.next (if_neg (by rw [hdown]; exact Bool.false_ne_true))⟩

end Sys2Proof.Machine
end

section
/-! PROOFS. The root ports (R405 to R410). -/
namespace Sys2Proof.Machine

section
variable {s : State} {m : Nat}

/-! ### Requests of a device (R408 to R410) -/

/-- A device's write that acts, and its read, as one equation per direction. -/
theorem exec_deviceRequest_off {w : Bool} {a n : Nat} {d : WriteData}
    (h : s.is (PCI_RP_STAT_LINK m) = false ∨ (w = true ∧ s.backPressured (28 + m) = true)) :
    exec (.deviceRequest m w a n d) s = .next s := by
  refine congrArg Host.Outcome.next (if_neg ?_)
  rcases h with h | ⟨rfl, h⟩ <;> simp [h]

section
variable (hport : s.rootPort m = true) (hup : s.is (PCI_RP_STAT_LINK m) = true)
include hport hup

/-- The base of the MSI region, in 4 KiB pages. -/
def State.msiRegion (s : State) (m : Nat) : Nat :=
  (s.get (PCI_RP_MSI_LO_BASE m) + 2 ^ 32 * s.get (PCI_RP_MSI_HI_BASE m)) / 4096

section
variable {a n : Nat} {d : Bytes} (poison : Bool) (hopen : s.backPressured (28 + m) = false)
include hopen

theorem deviceWrite_passed : (s.rootPort m && s.is (PCI_RP_STAT_LINK m) && !(true && s.backPressured (28 + m))) = true := by
  rw [hport, hup, hopen]
  rfl

theorem exec_deviceRequest_msi (hmsi : a / 4096 = s.msiRegion m) :
    exec (.deviceRequest m true a n ⟨d, poison⟩) s = .next (
      if poison then s.poisonedDevice m 0 a else s.raise 0x0E03 (m * 2048 + leAt d 0 2 % 2048)) := by
  have hregion : (true && a / 4096 == s.msiRegion m) = true := by simp [hmsi]
  exact congrArg Host.Outcome.next ((if_pos (deviceWrite_passed hport hup hopen)).trans (if_pos hregion))

theorem exec_deviceRequest_write (hmsi : a / 4096 ≠ s.msiRegion m) :
    (s.iwin m a d.length = none →
      exec (.deviceRequest m true a n ⟨d, poison⟩) s = .next (s.raiseEvery 1000000 0x0E05 m 0)) ∧
    (∀ w, s.iwin m a d.length = some w → exec (.deviceRequest m true a n ⟨d, poison⟩) s = .next (
      if s.is (PCI_RP_IWIN_CFG_TARGET m w) then
        if poison then s.poisonedDevice m (s.get (PCI_RP_IWIN_CFG_SLICE m w)) a
        else s.landFrame (28 + m) s.hubTime (beBytes 8 a ++ d) (some (s.get (PCI_RP_IWIN_CFG_CTX m w), 0xFF))
      else if s.islanded then s.bump (PCI_RP_STAT_ISL_DROP m)
      else s.writeUp (16 + m) (s.get (PCI_RP_IWIN_CFG_SLICE m w)) a d poison)) := by
  have hregion : (a / 4096 == (s.get (PCI_RP_MSI_LO_BASE m) + 2 ^ 32 * s.get (PCI_RP_MSI_HI_BASE m)) / 4096) = false :=
    beq_eq_false_iff_ne.mpr hmsi
  change (_ → execDeviceRequest m true a n ⟨d, poison⟩ s = _) ∧ (∀ w, _ → execDeviceRequest m true a n ⟨d, poison⟩ s = _)
  simp only [execDeviceRequest, hport, hup, hopen, hregion, Bool.true_and, Bool.not_false, if_true, Bool.false_eq_true, if_false]
  exact ⟨fun h => by simp only [h]; rfl, fun w h => by simp only [h]⟩
end

theorem exec_deviceRequest_read {a n : Nat} (d : Bytes) :
    (s.iwin m a n = none → exec (.deviceRequest m false a n ⟨d, false⟩) s =
      .next ((s.emit (.cpl (16 + m) 0 1 [])).raiseEvery 1000000 0x0E05 m 0)) ∧
    (∀ w, s.iwin m a n = some w → exec (.deviceRequest m false a n ⟨d, false⟩) s = .next (
      if s.is (PCI_RP_IWIN_CFG_TARGET m w) then s.emit (.cpl (16 + m) 0 1 [])
      else if s.islanded then (s.emit (.cpl (16 + m) 0 1 [])).bump (PCI_RP_STAT_ISL_DROP m)
      else s.issueUp ⟨none, 16 + m, s.get (PCI_RP_IWIN_CFG_SLICE m w), s.sliceGen (s.get (PCI_RP_IWIN_CFG_SLICE m w)), false, 0, 1, a, n, []⟩)) := by
  change (_ → execDeviceRequest m false a n ⟨d, false⟩ s = _) ∧ (∀ w, _ → execDeviceRequest m false a n ⟨d, false⟩ s = _)
  simp only [execDeviceRequest, hport, hup, Bool.false_and, Bool.true_and, Bool.not_false, if_true, Bool.false_eq_true, if_false]
  exact ⟨fun h => by simp only [h]; rfl, fun w h => by simp only [h]⟩
end

/-! ### Errors and links (R405, R409, R410) -/

theorem exec_rootPortLinkChange_up {g w : Nat} (hport : s.rootPort m = true) (hen : s.is (PCI_RP_CTRL_EN m) = true)
    (hperst : s.is (PCI_RP_CTRL_PERST m) = false) (hlo : 1 ≤ g) (hhi : g ≤ s.get (PCI_RP_CTRL_MAX_GEN m)) (hw : w = 1 ∨ w = 2 ∨ w = 4) :
    let u := ((s.put (PCI_RP_STAT_LINK m) 1).put (PCI_RP_STAT_GEN m) g).put (PCI_RP_STAT_WIDTH m) w
    exec (.rootPortLinkChange m true g w) s = .next (if s.is (PCI_RP_STAT_LINK m) then u else (u.raise 0x0E01 m).settle) := by
  have hwidth : [1, 2, 4].contains w = true := by simpa using hw
  have hguard : (s.is (PCI_RP_CTRL_EN m) && !s.is (PCI_RP_CTRL_PERST m) && decide (1 ≤ g ∧ g ≤ s.get (PCI_RP_CTRL_MAX_GEN m)) &&
      [1, 2, 4].contains w) = true := by
    rw [hen, hperst, decide_eq_true ⟨hlo, hhi⟩, hwidth]
    rfl
  exact congrArg Host.Outcome.next ((if_pos hport).trans ((if_pos rfl).trans (if_pos hguard)))

theorem exec_rootPortLinkChange_held {g w : Nat} (h : s.is (PCI_RP_CTRL_EN m) = false ∨ s.is (PCI_RP_CTRL_PERST m) = true) :
    exec (.rootPortLinkChange m true g w) s = .next s := by
  have hguard : ¬(s.is (PCI_RP_CTRL_EN m) && !s.is (PCI_RP_CTRL_PERST m) && decide (1 ≤ g ∧ g ≤ s.get (PCI_RP_CTRL_MAX_GEN m)) &&
      [1, 2, 4].contains w) = true := by
    rcases h with h | h <;> simp [h]
  change execRootPortLinkChange m true g w s = _
  rw [execRootPortLinkChange, if_pos rfl, if_neg hguard, ite_self]

/-! ### Configuration accesses (R406) -/

theorem assocFind_append_new {α : Type} {l : List (Nat × α)} {k : Nat} (v : α) (h : assocFind l k = none) :
    assocFind (l ++ [(k, v)]) k = some v := by
  induction l with
  | nil => simp [assocFind]
  | cons e l ih =>
    obtain ⟨j, x⟩ := e
    by_cases hj : k = j
    · simp [assocFind, hj] at h
    · simp only [List.cons_append, assocFind, if_neg hj] at h ⊢
      exact ih h

theorem exec_configAccess_one {fn off : Nat} (hport : s.rootPort m = true) (hfn : fn < 8) (hoff : off < 4096) (w : Bool) (v : W32) :
    exec (.configAccess m fn off w v) s = .next (s.configStart m ⟨fn, off, w, v.toNat, none⟩) := by
  have hguard : (s.rootPort m && decide (fn < 8 ∧ off < 4096)) = true := by simp [hport, hfn, hoff]
  exact congrArg Host.Outcome.next (if_pos hguard)

theorem State.configStart_up (a : CfgAcc) (hport : s.rootPort m = true) (hup : s.is (PCI_RP_STAT_LINK m) = true) :
    s.configStart m a = if (assocFind s.cfgs m).isNone then ({ s with cfgs := s.cfgs ++ [(m, a)] } : State).putConfig m
      else { s with cfgs := s.cfgs ++ [(m, a)] } := if_pos (by rw [hport, hup]; rfl)

theorem State.putConfig_none (h : assocFind s.cfgs m = none) : s.putConfig m = s := by
  simp only [State.putConfig, h]

theorem State.putConfig_some {a : CfgAcc} (h : assocFind s.cfgs m = some a) :
    s.putConfig m = s.emit (.config m a.fn a.off a.write a.v) := by
  simp only [State.putConfig, h]

theorem State.answerConfig_host {a : CfgAcc} (v : Nat) (htag : a.tag = none) :
    s.answerConfig m a v = s.emit (.cpl (16 + m) 0 0 (if a.write then [] else leBytes 4 v)) := by
  simp only [State.answerConfig, htag]

theorem State.configStart_down {fn off : Nat} {w : Bool} {v : Nat} (hdown : s.is (PCI_RP_STAT_LINK m) = false) :
    s.configStart m ⟨fn, off, w, v, none⟩ = s.emit (.cpl (16 + m) 0 0 (if w then [] else leBytes 4 0xFFFFFFFF)) :=
  (if_neg (by rw [hdown, Bool.and_false]; exact Bool.false_ne_true)).trans (State.answerConfig_host _ rfl)

theorem exec_configCompletion_one {a : CfgAcc} (st : CplStatus) (v : W32) (hrun : s.running = true) (hcfg : assocFind s.cfgs m = some a) :
    exec (.configCompletion m st v) s = .next (s.endConfig m a (if st = CplStatus.ok then v.toNat else 0xFFFFFFFF)).runBridge := by
  change execConfigCompletion m st v s = _
  simp only [execConfigCompletion, hcfg, if_pos hrun]

theorem State.endConfig_host {a : CfgAcc} (v : Nat) (htag : a.tag = none) (hlast : assocFind (s.cfgs.erase (m, a)) m = none) :
    s.endConfig m a v =
      State.emit { s with cfgs := s.cfgs.erase (m, a) } (.cpl (16 + m) 0 0 (if a.write then [] else leBytes 4 v)) := by
  rw [State.endConfig, State.answerConfig_host v htag]
  exact State.putConfig_none hlast
end

/-- Settles O48. -/
theorem rootPortRows : Obligations.RootPortRows := by
  intro s m hport up isOpen region
  have hrun : s.running = true := by
    simp only [State.rootPort, Bool.and_eq_true] at hport
    exact hport.1.1.1
  refine ⟨fun a n d hup hopen => exec_deviceRequest_msi hport hup false hopen,
    fun a n d hup hopen hmsi => (exec_deviceRequest_write hport hup false hopen hmsi).1,
    fun a n d hup => (exec_deviceRequest_read hport hup d).1, ?written, fun a n d h => exec_deviceRequest_off (.inr ⟨rfl, h⟩),
    fun a n d hup hopen => exec_deviceRequest_msi hport hup true hopen, ?poisoned, ?read,
    fun hdown w a n d => exec_deviceRequest_off (.inl hdown), congrArg Host.Outcome.next (if_pos hport), ?link,
    fun g w => exec_rootPortLinkChange_held, fun g w => congrArg Host.Outcome.next (if_pos hport), fun hup => if_pos hup, ?access,
    fun a st v => exec_configCompletion_one st v hrun, fun a v => State.endConfig_host v⟩
  case written =>
    intro a n d w hup hopen hmsi hwin
    rw [(exec_deviceRequest_write hport hup false hopen hmsi).2 w hwin]
    refine ⟨fun ht => by rw [if_pos ht]; rfl, fun ht hisl => ?_, fun ht hisl => ?_⟩ <;> rw [if_neg (by rw [ht]; exact Bool.false_ne_true), hisl] <;> rfl
  case poisoned =>
    intro a n d w hup hopen hmsi hwin ht
    rw [(exec_deviceRequest_write hport hup true hopen hmsi).2 w hwin, if_pos ht]
    rfl
  case read =>
    intro a n d w hup hwin
    rw [(exec_deviceRequest_read hport hup d).2 w hwin]
    refine ⟨fun ht => by rw [if_pos ht], fun ht hisl => ?_, fun ht hisl => ?_⟩ <;> rw [if_neg (by rw [ht]; exact Bool.false_ne_true), hisl] <;> rfl
  case link =>
    intro g w hen hperst hlo hhi hw u
    rw [exec_rootPortLinkChange_up hport hen hperst hlo hhi hw]
    exact ⟨fun hup => congrArg Host.Outcome.next (if_pos hup),
      fun hdown => congrArg Host.Outcome.next (if_neg (by rw [hdown]; exact Bool.false_ne_true))⟩
  case access =>
    intro fn off w v hfn hoff
    rw [exec_configAccess_one hport hfn hoff]
    refine ⟨fun hup hnone => ?_, fun c hup hsome => ?_, fun hdown => congrArg Host.Outcome.next (State.configStart_down hdown)⟩
    · have hfirst : (assocFind s.cfgs m).isNone = true := by rw [hnone]; rfl
      rw [State.configStart_up _ hport hup, if_pos hfirst]
      exact congrArg Host.Outcome.next (State.putConfig_some (s := { s with cfgs := s.cfgs ++ [(m, ⟨fn, off, w, v.toNat, none⟩)] })
        (assocFind_append_new (l := s.cfgs) _ hnone))
    · rw [State.configStart_up _ hport hup, hsome]
      rfl

end Sys2Proof.Machine
end

section
/-! PROOFS. The display engine (R417 to R424). -/
namespace Sys2Proof.Machine

section
variable {s : State}

/-! ### Line records (R417) -/

theorem exec_lineRecordReceive (hrun : s.running = true) (hdisp : s.hasDisplay = true) (sl : Nat) (r : Bytes) :
    exec (.lineRecordReceive sl r) s = .next (s.intake sl r) :=
  congrArg Host.Outcome.next (if_pos (by rw [hrun, hdisp]; rfl))

/-- What a layer refuses before it looks at its slots: a line or bytes outside it, a layer not enabled, a foreign slice. -/
def State.refusesLine (s : State) (sl l y off n : Nat) : Prop :=
  s.get (DSP_LYR_SIZE_H l) ≤ y ∨ s.lineBytes l < off + n ∨ s.is (DSP_LYR_CFG_EN l) = false ∨ (sl ≠ s.get (DSP_LYR_CFG_SLICE l) ∧ sl ≠ 0)

section
variable {sl : Nat} {r : Bytes} (hlen : 9 ≤ r.length) (hl : beAt r 0 1 ≤ 5)
include hlen hl

theorem State.intake_refused (href : s.refusesLine sl (beAt r 0 1) (beAt r 2 2) (beAt r 4 4) (r.drop 8).length) :
    s.intake sl r = (s.sumpRecord sl r).bump (DSP_LYR_STAT_DROPS (beAt r 0 1)) := by
  have hshort : ¬(r.length < 9 ∨ 5 < beAt r 0 1) := by omega
  simp only [State.intake, if_neg hshort, Nat.mod_eq_of_lt (by omega : beAt r 0 1 < 8)]
  exact if_pos href

/-- A record that the layer does not refuse ends as the slots decide: stored, dropped or overrun. -/
theorem State.intake_decided {t : State} (href : ¬s.refusesLine sl (beAt r 0 1) (beAt r 2 2) (beAt r 4 4) (r.drop 8).length) :
    (s.acceptLine (beAt r 0 1) (beAt r 2 2) (beAt r 4 4) (r.drop 8) = (0, t) → s.intake sl r = t) ∧
    (s.acceptLine (beAt r 0 1) (beAt r 2 2) (beAt r 4 4) (r.drop 8) = (1, t) →
      s.intake sl r = (t.sumpRecord sl r).bump (DSP_LYR_STAT_DROPS (beAt r 0 1))) ∧
    (s.acceptLine (beAt r 0 1) (beAt r 2 2) (beAt r 4 4) (r.drop 8) = (2, t) →
      s.intake sl r = (t.sumpRecord sl r).bump (DSP_LYR_CNT_OVERRUN (beAt r 0 1))) := by
  have hshort : ¬(r.length < 9 ∨ 5 < beAt r 0 1) := by omega
  rw [State.refusesLine] at href
  simp only [State.intake, if_neg hshort, Nat.mod_eq_of_lt (by omega : beAt r 0 1 < 8), if_neg href]
  exact ⟨fun h => by simp only [h], fun h => by simp only [h], fun h => by simp only [h]⟩
end

section
variable {l y off : Nat} {d : Bytes}

/-- The state in which the bytes d stand in the ring and slot i holds x. -/
def State.linePlaced (s : State) (l y off : Nat) (d : Bytes) (x : LineSlot) : State :=
  (s.tankWrite 2 (s.get (DSP_LYR_RING_BASE l) * 64 + s.slotOf l y * s.get (DSP_LYR_STRIDE_STRIDE l) + off) d).setLineSlot l
    (s.slotOf l y) (some x)

/-- A layer that is not static takes a line from its start, in order, once. -/
theorem State.acceptLine_moving (hstatic : s.is (DSP_LYR_CFG_STATIC l) = false) :
    (assocFind (s.layer l).slots (s.slotOf l y) = none →
      (off ≠ 0 → s.acceptLine l y off d = (1, s)) ∧
      (off = 0 → s.acceptLine l y off d = (0, s.linePlaced l y off d ⟨y, d.length, decide (d.length = s.lineBytes l), none⟩))) ∧
    (∀ x, assocFind (s.layer l).slots (s.slotOf l y) = some x →
      (x.line ≠ y ∨ x.whole = true → s.acceptLine l y off d = (2, s)) ∧
      (x.line = y → x.whole = false → off ≠ x.landed → s.acceptLine l y off d = (1, s)) ∧
      (x.line = y → x.whole = false → off = x.landed → s.acceptLine l y off d =
        (0, s.linePlaced l y off d ⟨y, x.landed + d.length, decide (x.landed + d.length = s.lineBytes l), none⟩))) := by
  simp only [State.acceptLine, hstatic, Bool.false_eq_true, if_false]
  refine ⟨fun hslot => ?_, fun x hslot => ?_⟩
  · simp only [hslot]
    exact ⟨fun h => if_pos h, fun h => if_neg (not_not.mpr h)⟩
  · simp only [hslot]
    refine ⟨fun h => if_pos h, fun hline hwhole hoff => ?_, fun hline hwhole hoff => ?_⟩
    · rw [if_neg (by simp [hline, hwhole]), if_pos hoff]
    · rw [if_neg (by simp [hline, hwhole]), if_neg (not_not.mpr hoff)]
      rfl

/-- A static layer takes a line into an empty slot, and a whole line again. -/
theorem State.acceptLine_static (hstatic : s.is (DSP_LYR_CFG_STATIC l) = true) :
    (assocFind (s.layer l).slots (s.slotOf l y) = none → off = 0 →
      s.acceptLine l y off d = (0, s.linePlaced l y off d ⟨y, d.length, decide (d.length = s.lineBytes l), none⟩)) ∧
    (∀ x, assocFind (s.layer l).slots (s.slotOf l y) = some x → x.line = y → x.whole = true → x.redo = none → off = 0 →
      s.acceptLine l y off d =
        (0, s.linePlaced l y off d { x with redo := if d.length = s.lineBytes l then none else some d.length })) := by
  simp only [State.acceptLine, hstatic, if_true]
  refine ⟨fun hslot hoff => ?_, fun x hslot hline hwhole hredo hoff => ?_⟩
  · simp only [hslot, Bool.not_false, if_true, Nat.zero_add]
    exact if_neg (not_not.mpr hoff)
  · simp only [hslot, if_pos hline, hwhole, Bool.not_true, Bool.false_eq_true, if_false, hredo]
    exact if_neg (not_not.mpr hoff)
end

/-! ### Lines, blanking and training (R420, R422, R424) -/

theorem EventOnly.dsp {s t : State} (h : EventOnly s t) : t.dsp = s.dsp := by rw [h]

theorem State.blankStart_same (hpend : s.dsp.pend = none) : s.blankStart = { ((s.put DSP_STAT_VBLANK 1).addWrap
    DSP_STAT_FRAMES 1).raise 0x0F01 0 with dsp := { s.dsp with quiet := false } } := by
  have hdsp : (((s.put DSP_STAT_VBLANK 1).addWrap DSP_STAT_FRAMES 1).raise 0x0F01 0).dsp = s.dsp := (EventOnly.raise _ _ _).dsp
  simp only [State.blankStart, hdsp, hpend]

theorem exec_lineStart_next {t : Timing} (hrun : s.running = true) (hdisp : s.hasDisplay = true) (hen : s.is DSP_CTRL_EN = true)
    (huse : s.dsp.use = some t) : exec .lineStart s = .next (
      let o := if t.vtotal ≤ s.get DSP_STAT_LINE + 1 then 0 else s.get DSP_STAT_LINE + 1;
      let u := s.put DSP_STAT_LINE o;
      let u := if o = 0 then u.put DSP_STAT_VBLANK 0 else u;
      let u := if o = t.vact then u.blankStart else u;
      let u := if u.is DSP_LCMP0_EN && u.get DSP_LCMP0_LINE == o then u.raise 0x0F02 0 else u;
      let u := if u.is DSP_LCMP1_EN && u.get DSP_LCMP1_LINE == o then u.raise 0x0F02 1 else u;
      let f := (o + u.get DSP_CTRL_LEAD) % max 1 t.vtotal;
      let u := if f = 0 then [0, 1, 2, 3, 4, 5].foldl State.frameStart u else u;
      if f < t.vact then u.fetchLine t f else u) := by
  have hguard : (s.running && s.hasDisplay && s.is DSP_CTRL_EN) = true := by rw [hrun, hdisp, hen]; rfl
  change execLineStart s = _
  rw [execLineStart, huse]
  exact congrArg Host.Outcome.next (if_pos hguard)

theorem exec_lineStart_unused (huse : s.dsp.use = none) : exec .lineStart s = .next s := by
  change execLineStart s = _
  rw [execLineStart, huse]

theorem exec_outputTrainDone {n : Nat} (hrun : s.running = true) (hn : n < 4) (hst : s.get (DSP_OUT_STAT_STATE n) = 2) :
    let blank := fun r => ((s.put (DSP_OUT_STAT_STATE n) 4).put (DSP_OUT_STAT_REASON n) r).detect 0x3D n
    exec (.outputTrainDone n .active) s = .next (s.put (DSP_OUT_STAT_STATE n) 3) ∧
    exec (.outputTrainDone n .linkFail) s = .next (blank 1) ∧ exec (.outputTrainDone n .noEdid) s = .next (blank 2) ∧
    exec (.outputTrainDone n .sink) s = .next (blank 3) := by
  have hguard : (s.running && decide (n < 4) && s.get (DSP_OUT_STAT_STATE n) == 2) = true := by simp [hrun, hn, hst]
  exact ⟨congrArg Host.Outcome.next (if_pos hguard), congrArg Host.Outcome.next (if_pos hguard),
    congrArg Host.Outcome.next (if_pos hguard), congrArg Host.Outcome.next (if_pos hguard)⟩

theorem exec_outputTrainDone_idle {n : Nat} (e : TrainEnd) (hst : s.get (DSP_OUT_STAT_STATE n) ≠ 2) :
    exec (.outputTrainDone n e) s = .next s :=
  congrArg Host.Outcome.next (if_neg (by simp [hst]))
end

/-! ### Composition -/

/-- The blend is the nearest 8-bit value to the weighted mean. -/
theorem blend_nearest {k src c : Nat} (hk : k ≤ 65025) (hsrc : src ≤ 255) (hc : c ≤ 255) :
    blend k src c ≤ 255 ∧ 2 * 65025 * blend k src c ≤ 2 * (k * src + (65025 - k) * c) + 65025 ∧
    2 * (k * src + (65025 - k) * c) < 2 * 65025 * blend k src c + 65025 := by
  have hmean : k * src + (65025 - k) * c ≤ 65025 * 255 :=
    calc k * src + (65025 - k) * c ≤ k * 255 + (65025 - k) * 255 := Nat.add_le_add (Nat.mul_le_mul_left k hsrc) (Nat.mul_le_mul_left _ hc)
      _ = 65025 * 255 := by rw [← Nat.add_mul, Nat.add_sub_cancel' hk]
  unfold blend
  generalize k * src + (65025 - k) * c = m at hmean ⊢
  omega

theorem blend_ends (src c : Nat) : blend 65025 src c = src ∧ blend 0 src c = c := by
  unfold blend
  omega

/-- Settles O49. -/
theorem displayRows : Obligations.DisplayRows := by
  refine ⟨?records, fun s hdisp sl r => congrArg Host.Outcome.next (if_neg (by rw [hdisp, Bool.and_false]; exact Bool.false_ne_true)),
    fun s t => exec_lineStart_next, fun s => exec_lineStart_unused, fun s => State.blankStart_same, fun s n => exec_outputTrainDone,
    fun s n e => exec_outputTrainDone_idle e, fun k src c => blend_nearest, fun src c _ _ => blend_ends src c⟩
  case records =>
    intro s hrun hdisp sl r l y off d refused drop store slot hlen hl
    have hexec := exec_lineRecordReceive hrun hdisp sl r
    have hdrop (href : ¬refused) (h : s.acceptLine l y off d = (1, s)) : drop :=
      hexec.trans (congrArg Host.Outcome.next ((State.intake_decided hlen hl href).2.1 h))
    have hstore (href : ¬refused) (x : LineSlot) (h : s.acceptLine l y off d = (0, s.linePlaced l y off d x)) : store x :=
      hexec.trans (congrArg Host.Outcome.next ((State.intake_decided hlen hl href).1 h))
    refine ⟨fun href => hexec.trans (congrArg Host.Outcome.next (State.intake_refused hlen hl href)), fun href hstatic => ?_,
      fun href hstatic => ?_⟩
    · obtain ⟨hnone, hsome⟩ := State.acceptLine_moving (y := y) (off := off) (d := d) hstatic
      exact ⟨fun hslot hoff => hdrop href ((hnone hslot).1 hoff), fun hslot hoff => hstore href _ ((hnone hslot).2 hoff),
        fun x hslot h => hexec.trans (congrArg Host.Outcome.next ((State.intake_decided hlen hl href).2.2 ((hsome x hslot).1 h))),
        fun x hslot hline hwhole hoff => hdrop href ((hsome x hslot).2.1 hline hwhole hoff),
        fun x hslot hline hwhole hoff => hstore href _ ((hsome x hslot).2.2 hline hwhole hoff)⟩
    · obtain ⟨hnone, hsome⟩ := State.acceptLine_static (y := y) (off := off) (d := d) hstatic
      exact ⟨fun hslot hoff => hstore href _ (hnone hslot hoff),
        fun x hslot hline hwhole hredo hoff => hstore href _ (hsome x hslot hline hwhole hredo hoff)⟩

end Sys2Proof.Machine
end

section
/-! PROOFS. Attach and moisture of a spout (R321 to R325, R335 to R338, R369). -/
namespace Sys2Proof.Machine

section
variable {s : State} {n : Nat}

/-- A row of the policy acts while the policy is on. -/
theorem State.onSpout_on (f : State → State) (hon : s.policyOn n = true) : s.onSpout n f = .next (f s) :=
  congrArg Host.Outcome.next (if_pos hon)

theorem State.attached_iff (s : State) (n : Nat) : s.attached n = true ↔ s.sptSt n = 6 ∨ s.sptSt n = 7 := by
  simp [State.attached]

/-! ### Terminations (R321, R322) -/

theorem exec_ccTerminationChange_on (cc : CcState) (hon : s.policyOn n = true) (hctl : s.ctlOn n = true) :
    exec (.ccTerminationChange n cc) s = .next ((s.setSpout n { s.spout n with cc := cc }).ccChange n cc) :=
  congrArg Host.Outcome.next ((if_pos hctl).trans (if_pos (show (s.setSpout n { s.spout n with cc := cc }).policyOn n = true from hon)))

/-- What a change of terminations does in each attach state. -/
theorem State.ccChange_spec (s : State) (n : Nat) (cc : CcState) :
    (s.sptSt n = 1 → cc.rd = true → s.ccChange n cc = s.seePartner n cc 3) ∧
    (s.sptSt n = 2 → 0 < cc.rp → s.ccChange n cc = s.seePartner n cc 4) ∧
    (s.sptSt n = 3 → cc.rd = false → s.ccChange n cc = (s.removal n).unattach n) ∧
    (s.sptSt n = 4 → cc.rp = 0 → s.ccChange n cc = (s.removal n).unattach n) ∧
    (s.sptSt n = 6 → s.ccChange n cc = s.setSpout n { s.spout n with absent := !cc.rd && cc.rp == 0 }) ∧
    (s.sptSt n = 7 → s.ccChange n cc = s.put (SPT_STAT_PARTNER_RP n) cc.rp) ∧
    (s.sptSt n = 0 ∨ s.sptSt n = 12 ∨ s.sptSt n = 13 → s.ccChange n cc = s) := by
  refine ⟨fun hst h => ?_, fun hst h => ?_, fun hst h => ?_, fun hst h => ?_, fun hst => ?_, fun hst => ?_, fun hst => ?_⟩
  · simp only [State.ccChange, hst, h, if_true]
  · simp only [State.ccChange, hst, if_pos h]
  · simp only [State.ccChange, hst, h, Bool.false_eq_true, if_false]
  · simp only [State.ccChange, hst, h, Nat.lt_irrefl, if_false]
  · simp only [State.ccChange, hst]
  · simp only [State.ccChange, hst]
  · rcases hst with hst | hst | hst <;> simp only [State.ccChange, hst]

/-! ### Toggling, debounces and timeouts (R321, R322) -/

section
variable (hon : s.policyOn n = true)
include hon

theorem exec_drpToggle_toggles (hst : s.sptSt n = 1 ∨ s.sptSt n = 2) (hidle : (s.spout n).checking = false)
    (hmode : s.get (SPT_CFG_MODE n) = 3) :
    exec (.drpToggle n) s = .next (State.put
      (if (s.spout n).checkDue then s.setSpout n { s.spout n with checkDue := false, checking := true } else s)
      (SPT_STAT_STATE n) (3 - s.sptSt n)) := by
  have hguard : (s.sptSt n = 1 ∨ s.sptSt n = 2) ∧ (!(s.spout n).checking) = true ∧ s.get (SPT_CFG_MODE n) = 3 :=
    ⟨hst, by rw [hidle]; rfl, hmode⟩
  exact (State.onSpout_on _ hon).trans (congrArg Host.Outcome.next (if_pos hguard))

theorem exec_drpToggle_rests (h : s.get (SPT_CFG_MODE n) ≠ 3 ∨ (s.sptSt n ≠ 1 ∧ s.sptSt n ≠ 2) ∨ (s.spout n).checking = true) :
    exec (.drpToggle n) s = .next s := by
  refine (State.onSpout_on _ hon).trans (congrArg Host.Outcome.next (if_neg ?_))
  rintro ⟨hst, hidle, hmode⟩
  rcases h with h | ⟨h1, h2⟩ | h
  · exact h hmode
  · exact hst.elim h1 h2
  · rw [h] at hidle
    exact Bool.false_ne_true hidle

theorem exec_attachDebounceExpiry_source (hst : s.sptSt n = 3) (hrd : (s.spout n).cc.rd = true) :
    exec (.attachDebounceExpiry n) s = .next (
      if (s.get (SPT_CFG_MODE n) == 3 && s.get (SPT_CFG_TRY n) == 2) = true then s.put (SPT_STAT_STATE n) 10 else s.toCheck n) := by
  change execAttachDebounceExpiry n s = _
  rw [execAttachDebounceExpiry, State.onSpout_on _ hon]
  simp only [hst, hrd, Bool.not_true, Bool.false_eq_true, if_false]

theorem exec_attachDebounceExpiry_sink (hst : s.sptSt n = 4) (hrp : 0 < (s.spout n).cc.rp) :
    exec (.attachDebounceExpiry n) s = .next (
      if (s.get (SPT_CFG_MODE n) == 3 && s.get (SPT_CFG_TRY n) == 1) = true then s.put (SPT_STAT_STATE n) 8 else s.attachSnk n) := by
  change execAttachDebounceExpiry n s = _
  rw [execAttachDebounceExpiry, State.onSpout_on _ hon]
  simp only [hst, if_neg (Nat.ne_of_gt hrp)]

theorem exec_detachDebounceExpiry_absent (habsent : (s.spout n).absent = true) :
    (s.sptSt n = 6 ∨ s.sptSt n = 7 → exec (.detachDebounceExpiry n) s = .next ((s.detach n).unattach n)) ∧
    (s.sptSt n = 5 → exec (.detachDebounceExpiry n) s = .next (((s.withdraw n).removal n).unattach n)) := by
  refine ⟨fun hst => ?_, fun hst => ?_⟩
  · have hatt := (s.attached_iff n).mpr hst
    have hguard : (s.engaged n && (s.spout n).absent) = true := by rw [State.engaged, hatt, habsent]; rfl
    refine (State.onSpout_on _ hon).trans ?_
    rw [if_pos hguard, if_pos hatt]
  · have hatt : s.attached n = false := by simp [State.attached, hst]
    have hguard : (s.engaged n && (s.spout n).absent) = true := by rw [State.engaged, hatt, habsent, hst]; rfl
    refine (State.onSpout_on _ hon).trans ?_
    rw [if_pos hguard, if_neg (by rw [hatt]; exact Bool.false_ne_true)]

theorem exec_detachDebounceExpiry_present (hpresent : (s.spout n).absent = false) : exec (.detachDebounceExpiry n) s = .next s :=
  (State.onSpout_on _ hon).trans (congrArg Host.Outcome.next (if_neg (by rw [hpresent, Bool.and_false]; exact Bool.false_ne_true)))

theorem exec_tryTimeout_spec :
    (s.sptSt n = 8 → exec (.tryTimeout n) s = .next (s.put (SPT_STAT_STATE n) 9)) ∧
    (s.sptSt n = 10 → exec (.tryTimeout n) s = .next (s.put (SPT_STAT_STATE n) 11)) ∧
    (s.sptSt n = 9 ∨ s.sptSt n = 11 → exec (.tryTimeout n) s = .next ((s.removal n).unattach n)) := by
  change (_ → execTryTimeout n s = _) ∧ (_ → execTryTimeout n s = _) ∧ (_ → execTryTimeout n s = _)
  rw [execTryTimeout, State.onSpout_on _ hon]
  refine ⟨fun hst => by simp only [hst], fun hst => by simp only [hst], fun hst => ?_⟩
  rcases hst with hst | hst <;> simp only [hst]

theorem exec_errorRecoveryTimeout_spec :
    (s.sptSt n = 13 → s.is (HSW_INJ_CC_OVP n) = false → exec (.errorRecoveryTimeout n) s = .next (s.unattach n)) ∧
    (s.sptSt n = 13 → s.is (HSW_INJ_CC_OVP n) = true → exec (.errorRecoveryTimeout n) s = .next s) ∧
    (s.sptSt n ≠ 13 → exec (.errorRecoveryTimeout n) s = .next s) := by
  have hrow : exec (.errorRecoveryTimeout n) s = _ := State.onSpout_on _ hon
  rw [hrow]
  exact ⟨fun hst hinj => congrArg Host.Outcome.next (if_pos ⟨hst, by rw [hinj]; rfl⟩),
    fun _ hinj => congrArg Host.Outcome.next (if_neg (fun h => by rw [hinj] at h; exact Bool.false_ne_true h.2)),
    fun hst => congrArg Host.Outcome.next (if_neg (fun h => hst h.1))⟩

/-! ### Moisture (R335 to R338) -/

theorem exec_moistureCheckDue_toggling (hst : s.sptSt n = 1 ∨ s.sptSt n = 2) :
    (s.get (SPT_CFG_MODE n) = 3 → exec (.moistureCheckDue n) s = .next (s.setSpout n { s.spout n with checkDue := true })) ∧
    (s.get (SPT_CFG_MODE n) ≠ 3 → exec (.moistureCheckDue n) s = .next (s.setSpout n { s.spout n with checking := true })) := by
  change (_ → execMoistureCheckDue n s = _) ∧ (_ → execMoistureCheckDue n s = _)
  rw [execMoistureCheckDue, State.onSpout_on _ hon]
  simp only [if_pos hst]
  exact ⟨fun h => by rw [if_pos h], fun h => by rw [if_neg h]⟩

theorem exec_moistureCheckDue_held (hst : s.sptSt n = 6 ∨ s.sptSt n = 7 ∨ s.sptSt n = 12) :
    exec (.moistureCheckDue n) s = .next (s.setSpout n { s.spout n with checking := true }) := by
  have htoggle : ¬(s.sptSt n = 1 ∨ s.sptSt n = 2) := by omega
  change execMoistureCheckDue n s = _
  rw [execMoistureCheckDue, State.onSpout_on _ hon]
  exact congrArg Host.Outcome.next ((if_neg htoggle).trans (if_pos hst))

theorem exec_moistureCheckDone_none (y g : List Nat) (hidle : (s.spout n).checking = false) :
    exec (.moistureCheckDone n y g) s = .next s := by
  have hguard : (!(s.spout n).checking) = true := by rw [hidle]; rfl
  change execMoistureCheckDone n y g s = _
  rw [execMoistureCheckDone, State.onSpout_on _ hon]
  exact congrArg Host.Outcome.next (if_pos hguard)
end

/-- The lines that a check measures. -/
def State.checkedLines (s : State) (n : Nat) : List Nat := [0, 1, 2, 3].filter (fun i => !s.skipped n i)

/-- The state in which a check's measurement has been recorded. -/
def State.measured (s : State) (n : Nat) (y g : List Nat) : State :=
  let lines := s.checkedLines n
  let day := if lines.isEmpty then (s.spout n).dayG.getD 0 else max ((s.spout n).dayG.getD 0) (largest (lines.map (fun i => g.getD i 0)))
  let v := s.setSpout n { s.spout n with checking := false, dayG := some day }
  (v.put (SPT_WET_STAT_LAST_YX n) (min (largest (lines.map (fun i => y.getD i 0))) 255)).putB (SPT_WET_STAT_MEAS_SKIP n) lines.isEmpty

/-- Recording a measurement leaves the attach state. -/
theorem State.sptSt_put_wetStat (s : State) (n v : Nat) (b : Bool) :
    (s.put (SPT_WET_STAT_LAST_YX n) v).sptSt n = s.sptSt n ∧ (s.putB (SPT_WET_STAT_MEAS_SKIP n) b).sptSt n = s.sptSt n := by
  have hkey {f : Fld} (hf : f.addr = 0x10800044 + n * 0x1000) : (SPT_STAT_STATE n).key ≠ f.key := by
    simp only [Fld.key, hf, SPT_STAT_STATE]
    omega
  exact ⟨State.get_put_other _ _ _ _ (hkey rfl), State.get_put_other _ _ _ _ (hkey rfl)⟩

theorem State.sptSt_setSpout (s : State) (n m : Nat) (x : Spout) : (s.setSpout m x).sptSt n = s.sptSt n := rfl

/-- A check that has run ends as its measurements say: one in the attach debounce, one on a wet spout, any other. -/
theorem exec_moistureCheckDone_measured (hon : s.policyOn n = true) (hcheck : (s.spout n).checking = true)
    (hinj : s.is (SPT_INJ_WET n) = false) (y g : List Nat) :
    let ys := (s.checkedLines n).map (fun i => y.getD i 0)
    let u := s.measured n y g
    let wet := ys.any (fun v => decide (s.get (SPT_WET_CFG_WET_THR n) < v))
    let dry := ys.all (fun v => decide (v < s.get (SPT_WET_CFG_DRY_THR n)))
    (s.sptSt n = 5 → exec (.moistureCheckDone n y g) s = .next (
      if wet then u.enterWet n else if dry then u.attachSrc n else u.setSpout n { u.spout n with checking := true })) ∧
    (s.sptSt n = 12 → exec (.moistureCheckDone n y g) s = .next (if dry then u.dryCheck n else u.put (SPT_WET_STAT_DRY_CNT n) 0)) ∧
    (s.sptSt n ≠ 5 → s.sptSt n ≠ 12 → exec (.moistureCheckDone n y g) s = .next (if wet then u.enterWet n else u)) := by
  have hguard : ¬(!(s.spout n).checking) = true := by rw [hcheck]; exact Bool.false_ne_true
  intro ys u wet dry
  change (_ → execMoistureCheckDone n y g s = _) ∧ (_ → execMoistureCheckDone n y g s = _) ∧ (_ → _ → execMoistureCheckDone n y g s = _)
  rw [execMoistureCheckDone, State.onSpout_on _ hon]
  simp only [hinj, Bool.false_eq_true, if_false, if_neg hguard, fun t b => (State.sptSt_put_wetStat t n 0 b).2,
    fun t v => (State.sptSt_put_wetStat t n v false).1, State.sptSt_setSpout]
  refine ⟨fun hst => ?_, fun hst => ?_, fun h5 h12 => ?_⟩
  · simp only [hst]
    rfl
  · simp only [hst]
    rfl
  · split
    case h_1 h => exact absurd h h5
    case h_2 h => exact absurd h h12
    case h_3 => rfl

/-! ### The leak log (R338) -/

theorem exec_leakLogDay_unmeasured (hon : s.policyOn n = true) (hday : (s.spout n).dayG = none) :
    let i := (s.get (SPT_LEAK_IDX_NEWEST n) + 1) % 32
    exec (.leakLogDay n) s = .next ((((s.put (SPT_LEAK_IDX_NEWEST n) i).put (SPT_LEAK_LOG_VALID n i) 0).put
      (SPT_LEAK_LOG_G n i) 0).setSpout n { s.spout n with rises := 0 }) := by
  change execLeakLogDay n s = _
  rw [execLeakLogDay, State.onSpout_on _ hon]
  simp only [hday]
end

/-- Settles O51. -/
theorem spoutAttachRows : Obligations.SpoutAttachRows := by
  intro s n
  refine ⟨fun hon => ?on, fun hoff y g => ?off, fun hctl b => congrArg Host.Outcome.next (if_pos hctl)⟩
  case off =>
    have hguard : ¬s.policyOn n = true := by rw [hoff]; exact Bool.false_ne_true
    exact ⟨congrArg Host.Outcome.next (if_neg hguard), congrArg Host.Outcome.next (if_neg hguard),
      congrArg Host.Outcome.next (if_neg hguard), congrArg Host.Outcome.next (if_neg hguard)⟩
  case on =>
    intro st x mv
    refine ⟨?toggle, exec_drpToggle_rests hon, fun hctl cc => exec_ccTerminationChange_on cc hon hctl, s.ccChange_spec n, ?source, ?sink,
      ?absent, exec_detachDebounceExpiry_present hon, (exec_tryTimeout_spec hon).1, (exec_tryTimeout_spec hon).2.1,
      (exec_tryTimeout_spec hon).2.2, (exec_errorRecoveryTimeout_spec hon).1, (exec_errorRecoveryTimeout_spec hon).2.1,
      (exec_errorRecoveryTimeout_spec hon).2.2, rfl, exec_moistureCheckDue_toggling hon, exec_moistureCheckDue_held hon,
      fun hidle y g => exec_moistureCheckDone_none hon y g hidle, ?moisture, exec_leakLogDay_unmeasured hon⟩
    case toggle =>
      intro hst hidle hmode
      rw [exec_drpToggle_toggles hon hst hidle hmode]
      exact ⟨fun h => by rw [if_neg (by rw [h]; exact Bool.false_ne_true)]; rfl, fun h => by rw [if_pos h]; rfl⟩
    case source =>
      intro hst hrd
      rw [exec_attachDebounceExpiry_source hon hst hrd]
      refine ⟨fun h => ?_, fun hmode htry => ?_⟩
      · rw [if_neg]
        rcases h with h | h <;> simp [h]
      · rw [if_pos (by rw [hmode, htry]; rfl)]
    case sink =>
      intro hst hrp
      rw [exec_attachDebounceExpiry_sink hon hst hrp]
      refine ⟨fun h => ?_, fun hmode htry => ?_⟩
      · rw [if_neg]
        rcases h with h | h <;> simp [h]
      · rw [if_pos (by rw [hmode, htry]; rfl)]
    case absent => exact fun habsent _ => exec_detachDebounceExpiry_absent hon habsent
    case moisture =>
      intro hcheck hinj y g lines ys day v u wet dry
      obtain ⟨hdebounce, hwetSpout, hother⟩ := exec_moistureCheckDone_measured hon hcheck hinj y g
      have hany : ys.any (fun a => decide (s.get (SPT_WET_CFG_WET_THR n) < a)) = true ↔ wet := by
        simp only [List.any_eq_true, decide_eq_true_eq, wet]
      have hall : ys.all (fun a => decide (a < s.get (SPT_WET_CFG_DRY_THR n))) = true ↔ dry := by
        simp only [List.all_eq_true, decide_eq_true_eq, dry]
      refine ⟨fun hw hd => ?_, fun hw hd => ⟨fun h5 => ?_, fun h12 => ?_, fun h5 h12 => ?_⟩⟩
      · by_cases h12 : st = 12
        · rw [if_pos h12]
          exact (hwetSpout h12).trans (congrArg Host.Outcome.next (if_neg (mt hall.mp hd)))
        · rw [if_neg h12]
          by_cases h5 : st = 5
          · exact (hdebounce h5).trans (congrArg Host.Outcome.next (if_pos (hany.mpr hw)))
          · exact (hother h5 h12).trans (congrArg Host.Outcome.next (if_pos (hany.mpr hw)))
      · exact (hdebounce h5).trans (congrArg Host.Outcome.next ((if_neg (mt hany.mp hw)).trans (if_pos (hall.mpr hd))))
      · exact (hwetSpout h12).trans (congrArg Host.Outcome.next (if_pos (hall.mpr hd)))
      · exact (hother h5 h12).trans (congrArg Host.Outcome.next (if_neg (mt hany.mp hw)))

end Sys2Proof.Machine
end

section
/-! PROOFS. Power Delivery on an attached spout (R319, R320, R326 to R330, R359, R362). -/
namespace Sys2Proof.Machine

section
variable {s : State} {n : Nat} (hon : s.policyOn n = true) (hatt : s.attached n = true)

/-! ### Contracts (R319, R320, R327) -/

section
include hon hatt

theorem exec_request_source {o i : Nat} (hsrc : s.isSource n = true) :
    (∀ v c, o ≠ 0 → (s.spout n).offered[o - 1]? = some (v, c) → exec (.request n o i) s = .next (
      if i ≤ c then ((s.setSpout n { s.spout n with asked := some (o, i, v), askedCur := c }).pd n 3 0).setVsel n v else s.pd n 4 0)) ∧
    (o = 0 ∨ (s.spout n).offered[o - 1]? = none → exec (.request n o i) s = .next (s.pd n 4 0)) := by
  change (∀ v c, _ → _ → execRequest n o i s = _) ∧ (_ → execRequest n o i s = _)
  rw [execRequest, State.onSpout_on _ hon]
  simp only [hatt, hsrc, Bool.and_self, if_true]
  refine ⟨fun v c ho hobj => ?_, fun h => ?_⟩
  · simp only [if_neg ho, hobj]
  · rcases h with rfl | h
    · rfl
    · simp only [h, ite_self]

theorem exec_sourceCapabilities_sink (hsnk : s.isSource n = false) :
    exec (.sourceCapabilities n) s = .next ((s.setSpout n { s.spout n with sinkReq := 1 }).pd n 2 1034) :=
  congrArg Host.Outcome.next ((if_pos hon).trans (if_pos (by rw [hatt, hsnk]; rfl)))

theorem exec_softReset_attached :
    let t := (s.setSpout n { s.spout n with asked := none, sinkReq := 0, mine := 0, again := 0 }).pd n 3 0
    (s.isSource n = false → exec (.softReset n) s = .next t) ∧ (s.isSource n = true → exec (.softReset n) s = .next (t.sendCaps n)) :=
  ⟨fun h => congrArg Host.Outcome.next ((if_pos hon).trans ((if_pos hatt).trans (if_neg (fun h' => Bool.false_ne_true (h.symm.trans h'))))),
    fun h => congrArg Host.Outcome.next ((if_pos hon).trans ((if_pos hatt).trans (if_pos h)))⟩
end

section
include hon

theorem exec_request_sink {o i : Nat} (hsnk : s.isSource n = false) : exec (.request n o i) s = .next s :=
  congrArg Host.Outcome.next ((if_pos hon).trans (if_neg (by rw [hsnk, Bool.and_false]; exact Bool.false_ne_true)))

theorem exec_voutSettled_asked {o i v : Nat} (hasked : (s.spout n).asked = some (o, i, v)) :
    exec (.voutSettled n) s = .next (if s.is (HSW_STAT_PG n) = true then
      ((s.setSpout n { s.spout n with asked := none, pdoCur := (s.spout n).askedCur }).pd n 6 0).showContract n o i v else s) := by
  change execVoutSettled n s = _
  rw [execVoutSettled, State.onSpout_on _ hon]
  simp only [hasked]

theorem exec_contractSettleTimeout_asked {a : Nat × Nat × Nat} (hasked : (s.spout n).asked = some a) :
    exec (.contractSettleTimeout n) s = .next (((s.raise 0x0A04 n).detect 0x2F n).sendHardReset n) :=
  congrArg Host.Outcome.next ((if_pos hon).trans (if_pos (by rw [hasked]; rfl)))

theorem exec_notAsked (hasked : (s.spout n).asked = none) :
    exec (.voutSettled n) s = .next s ∧ exec (.contractSettleTimeout n) s = .next s := by
  constructor
  · change execVoutSettled n s = _
    rw [execVoutSettled, State.onSpout_on _ hon]
    simp only [hasked]
  · exact congrArg Host.Outcome.next ((if_pos hon).trans (if_neg (by rw [hasked]; exact Bool.false_ne_true)))
end

/-! ### Swaps that the partner asks for (R329, R330, R359) -/

/-- The guard of a row that acts on an attached spout. -/
theorem attachedGuard (hatt : s.attached n = true) : ¬(!s.attached n) = true := by rw [hatt]; exact Bool.false_ne_true

section
include hon hatt

theorem exec_prSwap_crossed (hmine : (s.spout n).mine = 1) : exec (.prSwap n) s = .next (s.crossed n 1 (s.isSource n)) :=
  congrArg Host.Outcome.next ((if_pos hon).trans ((if_neg (attachedGuard hatt)).trans (if_pos hmine)))

theorem exec_prSwap_refused (hmine : (s.spout n).mine ≠ 1)
    (h : s.is (SPT_POLICY_PRS_ACC n) = false ∨ s.isSource n ≠ s.is (SPT_POLICY_PR_WANT n) ∨ (s.spout n).swapping ≠ 0) :
    exec (.prSwap n) s = .next (s.answerReject n 1) := by
  have hguard : (!s.is (SPT_POLICY_PRS_ACC n) || s.isSource n != s.is (SPT_POLICY_PR_WANT n) || (s.spout n).swapping != 0) = true := by
    simpa [or_assoc] using h
  exact congrArg Host.Outcome.next ((if_pos hon).trans ((if_neg (attachedGuard hatt)).trans ((if_neg hmine).trans (if_pos hguard))))

/-- A PR_Swap that the policy takes: as Source, and as Sink by the state of the hot-insertion controller. -/
theorem exec_prSwap_taken (hmine : (s.spout n).mine ≠ 1) (hacc : s.is (SPT_POLICY_PRS_ACC n) = true)
    (hwant : s.isSource n = s.is (SPT_POLICY_PR_WANT n)) (hswap : (s.spout n).swapping = 0) :
    exec (.prSwap n) s = .next (
      if s.isSource n then (if s.is (HSW_STAT_FWARN n) then s.answerWait n 1 else (s.pd n 3 0).startPr n)
      else if s.get (HSW_STAT_STATE n) = 6 ∨ (!s.is (HSW_STAT_SENSE_OK n)) = true ∨ s.is HSW_BUS_STAT_REV = true then s.answerReject n 1
      else if s.get (HSW_STAT_STATE n) = 5 then s.answerWait n 1
      else (s.pd n 3 0).startPr n) := by
  have hguard : ¬(!s.is (SPT_POLICY_PRS_ACC n) || s.isSource n != s.is (SPT_POLICY_PR_WANT n) || (s.spout n).swapping != 0) = true := by
    simp [hacc, hwant, hswap]
  exact congrArg Host.Outcome.next ((if_pos hon).trans ((if_neg (attachedGuard hatt)).trans ((if_neg hmine).trans (if_neg hguard))))

theorem exec_drSwap_taken (hmine : (s.spout n).mine ≠ 2) (hacc : s.is (SPT_POLICY_DRS_ACC n) = true)
    (hwant : s.is (SPT_STAT_DATA_ROLE n) = s.is (SPT_POLICY_DR_WANT n)) (hswap : (s.spout n).swapping = 0) :
    exec (.drSwap n) s = .next ((s.pd n 3 0).flipData n) := by
  have hguard : (s.is (SPT_POLICY_DRS_ACC n) && s.is (SPT_STAT_DATA_ROLE n) == s.is (SPT_POLICY_DR_WANT n) &&
      (s.spout n).swapping == 0) = true := by
    simp [hacc, hwant, hswap]
  exact congrArg Host.Outcome.next ((if_pos hon).trans ((if_neg (attachedGuard hatt)).trans ((if_neg hmine).trans (if_pos hguard))))

theorem exec_drSwap_refused (hmine : (s.spout n).mine ≠ 2)
    (h : s.is (SPT_POLICY_DRS_ACC n) = false ∨ s.is (SPT_STAT_DATA_ROLE n) ≠ s.is (SPT_POLICY_DR_WANT n)) :
    exec (.drSwap n) s = .next (s.answerReject n 2) := by
  have hguard : ¬(s.is (SPT_POLICY_DRS_ACC n) && s.is (SPT_STAT_DATA_ROLE n) == s.is (SPT_POLICY_DR_WANT n) &&
      (s.spout n).swapping == 0) = true := by
    rcases h with h | h <;> simp [h]
  exact congrArg Host.Outcome.next ((if_pos hon).trans ((if_neg (attachedGuard hatt)).trans ((if_neg hmine).trans (if_neg hguard))))

theorem exec_vconnSwap_refused (hacc : s.is (SPT_POLICY_VCS_ACC n) = false) :
    exec (.vconnSwap n) s = .next (s.answerReject n 3) := by
  have hguard : ¬(s.is (SPT_POLICY_VCS_ACC n) && (s.spout n).swapping == 0) = true := by simp [hacc]
  exact congrArg Host.Outcome.next ((if_pos hon).trans ((if_neg (attachedGuard hatt)).trans (if_neg hguard)))

theorem exec_vconnSwap_given (hacc : s.is (SPT_POLICY_VCS_ACC n) = true) (hswap : (s.spout n).swapping = 0)
    (hvconn : s.is (SPT_STAT_VCONN n) = true) :
    exec (.vconnSwap n) s = .next ((s.pd n 3 0).setSpout n { s.spout n with swapping := 3 }) := by
  have hguard : (s.is (SPT_POLICY_VCS_ACC n) && (s.spout n).swapping == 0) = true := by simp [hacc, hswap]
  exact congrArg Host.Outcome.next ((if_pos hon).trans ((if_neg (attachedGuard hatt)).trans ((if_pos hguard).trans (if_pos hvconn))))
end

/-! ### Answers to the hub's own requests (R329, R330) -/

section
include hon hatt

theorem exec_accept_spec :
    ((s.spout n).mine = 1 → exec (.accept n) s = .next (s.startPr n)) ∧
    ((s.spout n).mine = 2 → exec (.accept n) s = .next (s.flipData n)) ∧
    ((s.spout n).mine = 0 → (s.spout n).sinkReq = 1 → exec (.accept n) s = .next (s.setSpout n { s.spout n with sinkReq := 2 })) := by
  change (_ → execAccept n s = _) ∧ (_ → execAccept n s = _) ∧ (_ → _ → execAccept n s = _)
  rw [execAccept, State.onSpout_on _ hon]
  simp only [if_neg (attachedGuard hatt)]
  exact ⟨fun h => by rw [if_pos h], fun h => by rw [if_neg (by omega), if_pos h],
    fun h hreq => by rw [if_neg (by omega), if_neg (by omega), if_pos hreq]⟩
end

section
include hon

theorem exec_reject_own :
    ((s.spout n).mine = 1 → exec (.reject n) s =
      .next (((s.setSpout n { s.spout n with mine := 0, noPr := true }).swapResult n 1 2).evalWish n)) ∧
    ((s.spout n).mine = 2 → exec (.reject n) s =
      .next (((s.setSpout n { s.spout n with mine := 0, noDr := true }).swapResult n 2 2).evalWish n)) := by
  change (_ → execReject n s = _) ∧ (_ → execReject n s = _)
  rw [execReject, State.onSpout_on _ hon]
  refine ⟨fun h => ?_, fun h => ?_⟩ <;> simp [h]

theorem exec_waitAnswer_spec :
    ((s.spout n).mine ≠ 0 → s.get (SPT_SWAP_STAT_RETRIES n) < 10 → exec (.waitAnswer n) s =
      .next ((s.setSpout n { s.spout n with mine := 0, again := (s.spout n).mine }).swapResult n (s.spout n).mine 3)) ∧
    ((s.spout n).mine = 1 → 10 ≤ s.get (SPT_SWAP_STAT_RETRIES n) → exec (.waitAnswer n) s =
      .next ((s.setSpout n { s.spout n with mine := 0, noPr := true }).swapResult n 1 4)) := by
  change (_ → _ → execWaitAnswer n s = _) ∧ (_ → _ → execWaitAnswer n s = _)
  rw [execWaitAnswer, State.onSpout_on _ hon]
  exact ⟨fun h hfew => by simp only [if_neg h, if_neg (Nat.not_le.mpr hfew)], fun h hmany => by simp [h, hmany]⟩

/-- The repeat after a Wait asks again while the wish stands, and is dropped once it does not. -/
theorem exec_swapRetryTimer_spec :
    ((s.spout n).again = 1 → s.wishPr n = true → s.is (HSW_STAT_FWARN n) = false → exec (.swapRetryTimer n) s =
      .next (((s.setSpout n { s.spout n with again := 0, mine := 1 }).bump (SPT_SWAP_STAT_RETRIES n)).pd n 8 0)) ∧
    ((s.spout n).again = 1 → s.wishPr n = false → exec (.swapRetryTimer n) s =
      .next ((s.setSpout n { s.spout n with again := 0 }).evalWish n)) ∧
    ((s.spout n).again = 0 → exec (.swapRetryTimer n) s = .next s) := by
  change (_ → _ → _ → execSwapRetryTimer n s = _) ∧ (_ → _ → execSwapRetryTimer n s = _) ∧ (_ → execSwapRetryTimer n s = _)
  rw [execSwapRetryTimer, State.onSpout_on _ hon]
  exact ⟨fun h hwish hfw => by simp [h, hwish, hfw], fun h hwish => by simp [h, hwish], fun h => by simp only [if_pos h]⟩

theorem exec_psRdy_spec :
    ((s.spout n).swapping = 1 → s.isSource n = true → exec (.psRdy n) s = .next ((s.setPower n false).swapDone n 1)) ∧
    ((s.spout n).swapping = 1 → s.isSource n = false → (s.spout n).toSource = false → exec (.psRdy n) s =
      .next ((s.setSpout n { s.spout n with toSource := true }).put (HSW_STAT_REQ n) 1)) ∧
    ((s.spout n).swapping = 3 → exec (.psRdy n) s = .next ((s.put (SPT_STAT_VCONN n) 0).swapDone n 3)) ∧
    ((s.spout n).swapping = 0 → (s.spout n).sinkReq = 2 → exec (.psRdy n) s =
      .next ((s.setSpout n { s.spout n with sinkReq := 0 }).showContract n 1 10 0)) := by
  change (_ → _ → execPsRdy n s = _) ∧ (_ → _ → _ → execPsRdy n s = _) ∧ (_ → execPsRdy n s = _) ∧ (_ → _ → execPsRdy n s = _)
  rw [execPsRdy, State.onSpout_on _ hon]
  refine ⟨fun h hsrc => by simp only [if_pos h, if_pos hsrc], fun h hsnk hto => ?_, fun h => by simp [h], fun h hreq => by simp [h, hreq]⟩
  simp only [if_pos h, hsnk, hto, Bool.false_eq_true, if_false]
  rfl
end

/-! ### Hard Reset (R330) -/

theorem State.policyOn_running (hon : s.policyOn n = true) : s.halted = false ∧ n < s.nSpouts := by
  simp only [State.policyOn, State.running, Bool.and_eq_true, Bool.not_eq_true', decide_eq_true_eq] at hon
  obtain ⟨⟨⟨-, hhalt⟩, -⟩, hn⟩ := hon
  exact ⟨hhalt, hn⟩

section
include hon hatt

theorem exec_hardReset_attached : exec (.hardReset n) s = .next (s.hardResetRun n) := by
  obtain ⟨hhalt, hn⟩ := State.policyOn_running hon
  have hguard : ¬(!decide (n < s.nSpouts) || s.halted) = true := by simp [hhalt, hn]
  exact congrArg Host.Outcome.next ((if_neg hguard).trans ((if_pos hon).trans (if_pos hatt)))

theorem exec_hardResetVbusRestore_spec :
    ((s.spout n).restoring = true → exec (.hardResetVbusRestore n) s =
      .next ((s.setSpout n { s.spout n with restoring := false }).put (HSW_STAT_REQ n) 1)) ∧
    ((s.spout n).restoring = false → exec (.hardResetVbusRestore n) s = .next s) :=
  ⟨fun h => congrArg Host.Outcome.next ((if_pos hon).trans (if_pos (by rw [h, hatt]; rfl))),
    fun h => congrArg Host.Outcome.next ((if_pos hon).trans (if_neg (by rw [h]; exact Bool.false_ne_true)))⟩
end
end

/-- Settles O52. -/
theorem spoutPolicyRows : Obligations.SpoutPolicyRows := by
  intro s n hon hatt x src snk
  refine ⟨?granted, fun hsrc o i => (exec_request_source hon hatt hsrc).2, fun hsnk o i => exec_request_sink hon hsnk, ?asked,
    exec_notAsked hon, exec_sourceCapabilities_sink hon hatt, congrArg Host.Outcome.next ((if_pos hon).trans (if_pos hatt)),
    congrArg Host.Outcome.next ((if_pos hon).trans (if_pos hatt)), congrArg Host.Outcome.next ((if_pos hon).trans (if_pos hatt)),
    congrArg Host.Outcome.next ((if_pos hon).trans (if_pos hatt)), (exec_softReset_attached hon hatt).1,
    (exec_softReset_attached hon hatt).2, ?crossed, exec_prSwap_refused hon hatt, ?prTaken, exec_drSwap_taken hon hatt,
    exec_drSwap_refused hon hatt, exec_vconnSwap_refused hon hatt, exec_vconnSwap_given hon hatt, (exec_accept_spec hon hatt).1,
    (exec_accept_spec hon hatt).2.1, (exec_accept_spec hon hatt).2.2, (exec_reject_own hon).1, (exec_reject_own hon).2,
    (exec_waitAnswer_spec hon).1, (exec_waitAnswer_spec hon).2, (exec_swapRetryTimer_spec hon).1, (exec_swapRetryTimer_spec hon).2.1,
    (exec_swapRetryTimer_spec hon).2.2, (exec_psRdy_spec hon).1, (exec_psRdy_spec hon).2.1, (exec_psRdy_spec hon).2.2.1,
    (exec_psRdy_spec hon).2.2.2, exec_hardReset_attached hon hatt, (exec_hardResetVbusRestore_spec hon hatt).1,
    (exec_hardResetVbusRestore_spec hon hatt).2⟩
  case granted =>
    intro hsrc o i v c ho hobj
    rw [(exec_request_source hon hatt hsrc).1 v c ho hobj]
    exact ⟨fun h => by rw [if_pos h], fun h => by rw [if_neg (Nat.not_le.mpr h)]⟩
  case asked =>
    intro o i v hasked
    rw [exec_voutSettled_asked hon hasked]
    exact ⟨fun h => by rw [if_pos h], fun h => by rw [if_neg (by rw [h]; exact Bool.false_ne_true)],
      exec_contractSettleTimeout_asked hon hasked⟩
  case crossed =>
    intro hmine
    rw [exec_prSwap_crossed hon hatt hmine]
    exact ⟨fun hsrc => congrArg Host.Outcome.next (if_pos hsrc),
      fun hsnk => congrArg Host.Outcome.next (if_neg (fun h => Bool.false_ne_true (hsnk.symm.trans h)))⟩
  case prTaken =>
    intro hmine hacc hwant hswap
    rw [exec_prSwap_taken hon hatt hmine hacc hwant hswap]
    have hsink (hsnk : snk) : ¬s.isSource n = true := fun h => Bool.false_ne_true (hsnk.symm.trans h)
    refine ⟨fun hsrc hfw => congrArg Host.Outcome.next ((if_pos hsrc).trans (if_pos hfw)),
      fun hsrc hfw => congrArg Host.Outcome.next ((if_pos hsrc).trans (if_neg (by rw [hfw]; exact Bool.false_ne_true))),
      fun hsnk h => ?_, fun hsnk hsense hrev hst => ?_, fun hsnk hsense hrev h5 h6 _ => ?_⟩
    · have hstop : s.get (HSW_STAT_STATE n) = 6 ∨ (!s.is (HSW_STAT_SENSE_OK n)) = true ∨ s.is HSW_BUS_STAT_REV = true := by
        simpa using h
      exact congrArg Host.Outcome.next ((if_neg (hsink hsnk)).trans (if_pos hstop))
    · rw [if_neg (hsink hsnk), if_neg (by simp [hst, hsense, hrev]), if_pos hst]
    · rw [if_neg (hsink hsnk), if_neg (by simp [h6, hsense, hrev]), if_neg h5]

end Sys2Proof.Machine
end

section
/-! PROOFS. Alternate modes and the Spout Alternate Mode link (R331 to R334). -/
namespace Sys2Proof.Machine

section
variable {s : State} {n : Nat} (hon : s.policyOn n = true)
include hon

/-! ### Modes (R332) -/

theorem exec_enterMode_awaited (h : (s.spout n).entering ≠ 0) :
    exec (.enterModeAck n) s = .next (((((s.setSpout n { s.spout n with entering := 0 }).put (SPT_ALT_STAT_MUX n)
      (s.spout n).entering).raise 0x0A07 n).evalOutput n).modeAnswer n 0) ∧
    exec (.enterModeNak n) s = .next (((s.setSpout n { s.spout n with entering := 0 }).raise 0x0A08 n).modeAnswer n 1) :=
  ⟨congrArg Host.Outcome.next ((if_pos hon).trans (if_neg h)), congrArg Host.Outcome.next ((if_pos hon).trans (if_neg h))⟩

theorem exec_enterMode_unasked (h : (s.spout n).entering = 0) :
    exec (.enterModeAck n) s = .next s ∧ exec (.enterModeNak n) s = .next s :=
  ⟨congrArg Host.Outcome.next ((if_pos hon).trans (if_pos h)), congrArg Host.Outcome.next ((if_pos hon).trans (if_pos h))⟩

theorem exec_exitModeAck_spec :
    ((s.spout n).exiting = true →
      exec (.exitModeAck n) s = .next (((s.setSpout n { s.spout n with exiting := false }).raise 0x0A07 n).modeAnswer n 0)) ∧
    ((s.spout n).exiting = false → exec (.exitModeAck n) s = .next s) :=
  ⟨fun h => congrArg Host.Outcome.next ((if_pos hon).trans (if_pos h)),
    fun h => congrArg Host.Outcome.next ((if_pos hon).trans (if_neg (fun h' => Bool.false_ne_true (h.symm.trans h'))))⟩

/-! ### Discovery (R331) -/

/-- The mode that the hub enters of its own accord: 1 DP, 2 SAM, 0 none. -/
def State.autoMode (s : State) (n : Nat) : Nat :=
  if s.modeOn n (s.get (SPT_ALT_CFG_AUTO_MODE n)) = true then s.get (SPT_ALT_CFG_AUTO_MODE n) else 0

section
variable (hatt : s.attached n = true) (v : List Nat)
include hatt

theorem exec_discoverResponse_identity (hdisc : (s.spout n).disc = 1) :
    exec (.discoverResponse n .identity v) s = .next ((s.setSpout n { s.spout n with partnerVdos := v, disc := 2 }).pd n 17 0) := by
  change execDiscoverResponse n .identity v s = _
  rw [execDiscoverResponse, State.onSpout_on _ hon]
  simp only [if_neg (attachedGuard hatt), if_pos hdisc]

theorem exec_discoverResponse_cable :
    exec (.discoverResponse n .cableIdentity v) s = .next (s.setSpout n { s.spout n with cableVdos := v }) :=
  congrArg Host.Outcome.next ((if_pos hon).trans (if_neg (attachedGuard hatt)))

theorem exec_discoverResponse_svids :
    ((s.spout n).disc = 2 → s.autoMode n = 1 ∨ s.autoMode n = 2 → v.contains (if s.autoMode n = 1 then 0xFF01 else 0x2F1C) = true →
      exec (.discoverResponse n .svids v) s = .next ((s.setSpout n { s.spout n with disc := 3 }).pd n 18 0)) ∧
    ((s.spout n).disc ≠ 2 ∨ s.autoMode n = 0 →
      exec (.discoverResponse n .svids v) s = .next (s.setSpout n { s.spout n with disc := 0 })) := by
  have hrow : exec (.discoverResponse n .svids v) s = .next (
      if (s.spout n).disc = 2 ∧ (s.autoMode n = 1 ∨ s.autoMode n = 2) ∧ v.contains (if s.autoMode n = 1 then 0xFF01 else 0x2F1C) = true
      then (s.setSpout n { s.spout n with disc := 3 }).pd n 18 0 else s.setSpout n { s.spout n with disc := 0 }) :=
    congrArg Host.Outcome.next ((if_pos hon).trans (if_neg (attachedGuard hatt)))
  rw [hrow]
  refine ⟨fun hdisc hmode hsvid => by rw [if_pos ⟨hdisc, hmode, hsvid⟩], fun h => ?_⟩
  rw [if_neg]
  rintro ⟨hdisc, hmode, -⟩
  omega

theorem exec_discoverResponse_modes (hdisc : (s.spout n).disc = 3) (hrole : s.is (SPT_STAT_DATA_ROLE n) = true)
    (hmode : s.autoMode n = 1 ∨ s.autoMode n = 2 ∧ bit (v.headD 0) 0 = true) :
    exec (.discoverResponse n .modes v) s =
      .next ((s.setSpout n { s.spout n with disc := 0, entering := s.autoMode n, byCommand := false }).pd n 19 (s.autoMode n)) :=
  congrArg Host.Outcome.next ((if_pos hon).trans ((if_neg (attachedGuard hatt)).trans (if_pos ⟨hdisc, hrole, hmode⟩)))
end

/-! ### The SAM link (R333, R334) -/

theorem exec_samLinkUp_spec (hn : n < s.nWide) :
    (s.get (SPT_ALT_STAT_MUX n) = 2 → s.is (SPT_ALT_STAT_SAM_UP n) = false → exec (.samLinkUp n) s =
      .next (((s.put (SPT_ALT_STAT_SAM_UP n) 1).raise 0x0A09 n).samGrant n)) ∧
    (s.get (SPT_ALT_STAT_MUX n) ≠ 2 → exec (.samLinkUp n) s = .next s) :=
  ⟨fun hmux hdown => congrArg Host.Outcome.next ((if_pos hon).trans (if_pos ⟨hn, hmux, by rw [hdown]; rfl⟩)),
    fun hmux => congrArg Host.Outcome.next ((if_pos hon).trans (if_neg (fun h => hmux h.2.1)))⟩

section
variable (hn : n < s.nWide) (hup : s.is (SPT_ALT_STAT_SAM_UP n) = true) {r : Bytes}
include hn hup

theorem exec_samFrameReceive_bad {len : Nat} (hlen : bits (beAt r 0 8) 55 42 = len) (hkind : beAt r 0 8 / 2 ^ 60 = 0)
    (hbad : r.length ≠ len + 12 ∨ len = 0 ∨ 16368 < len ∨ crc32c (r.take (8 + len)) ≠ beAt r (8 + len) 4) :
    exec (.samFrameReceive n r) s = .next (s.bump (SPT_ALT_STAT_CRC_ERR n)) := by
  change execSamFrameReceive n r s = _
  rw [execSamFrameReceive, State.onSpout_on _ hon]
  simp only [if_pos (And.intro hn hup), hkind, hlen, if_pos hbad]

/-- A frame that passes its checks lands, with its stream's context, where there is room. -/
theorem exec_samFrameReceive_good {len : Nat} (hlen : bits (beAt r 0 8) 55 42 = len) (hkind : beAt r 0 8 / 2 ^ 60 = 0)
    (hgood : ¬(r.length ≠ len + 12 ∨ len = 0 ∨ 16368 < len ∨ crc32c (r.take (8 + len)) ≠ beAt r (8 + len) 4)) :
    (s.noRoom len = true → exec (.samFrameReceive n r) s = .next s) ∧
    (s.noRoom len = false → exec (.samFrameReceive n r) s = .next (
      let u := s.setSpout n { s.spout n with samOut := (s.spout n).samOut - cellsFor len };
      let k := bits (beAt r 0 8) 59 56;
      let c := u.get (SPT_STREAM_CTX n k);
      let w := u.landStream { data := slice r 8 len, stamp := u.hubTime, src := 12 + n, port := 12 + n, ctx := c,
                              gen := u.sliceGen (u.ctxSlice c), early := u.is (CTX_CFG_EARLY c) && decide (256 < len) };
      (if w.2.is (SPT_STREAM_EN n k) then w.2.pendChain w.1 c else w.2.sump w.1 9).settle)) := by
  change (_ → execSamFrameReceive n r s = _) ∧ (_ → execSamFrameReceive n r s = _)
  rw [execSamFrameReceive, State.onSpout_on _ hon]
  simp only [if_pos (And.intro hn hup), hkind, hlen, if_neg hgood]
  exact ⟨fun h => by rw [if_pos h], fun h => by rw [if_neg (by rw [h]; exact Bool.false_ne_true)]⟩

theorem exec_samFrameReceive_credit (hkind : beAt r 0 8 / 2 ^ 60 = 1) : exec (.samFrameReceive n r) s =
    .next (s.setSpout n { s.spout n with samTx := (s.spout n).samTx + bits (beAt r 0 8) 41 26 }) := by
  change execSamFrameReceive n r s = _
  rw [execSamFrameReceive, State.onSpout_on _ hon]
  simp only [if_pos (And.intro hn hup), hkind]

theorem exec_samFrameReceive_unknown (hkind : 2 ≤ beAt r 0 8 / 2 ^ 60) : exec (.samFrameReceive n r) s = .next s := by
  change execSamFrameReceive n r s = _
  rw [execSamFrameReceive, State.onSpout_on _ hon]
  simp only [if_pos (And.intro hn hup)]
  split
  case h_1 h => omega
  case h_2 h => omega
  case h_3 => rfl
end
end

/-- Settles O53. -/
theorem spoutModeRows : Obligations.SpoutModeRows := by
  intro s n hon x
  refine ⟨exec_enterMode_awaited hon, exec_enterMode_unasked hon, (exec_exitModeAck_spec hon).1, (exec_exitModeAck_spec hon).2,
    fun h l hmux => congrArg Host.Outcome.next ((if_pos hon).trans (if_pos hmux)),
    fun h l hmux => congrArg Host.Outcome.next ((if_pos hon).trans (if_neg hmux)), fun hatt v => ?discovery, fun hn => ?sam⟩
  case discovery =>
    exact ⟨exec_discoverResponse_identity hon hatt v, exec_discoverResponse_cable hon hatt v,
      (exec_discoverResponse_svids hon hatt v).1, (exec_discoverResponse_svids hon hatt v).2, exec_discoverResponse_modes hon hatt v⟩
  case sam =>
    refine ⟨(exec_samLinkUp_spec hon hn).1, (exec_samLinkUp_spec hon hn).2, ?_⟩
    intro hup r h len
    refine ⟨exec_samFrameReceive_bad hon hn hup rfl, fun hkind hwhole hsome hmax hcrc => ?_, exec_samFrameReceive_credit hon hn hup,
      exec_samFrameReceive_unknown hon hn hup⟩
    refine exec_samFrameReceive_good hon hn hup rfl hkind ?_
    rintro (hbad | hbad | hbad | hbad)
    · exact hbad hwhole
    · exact hsome hbad
    · exact absurd hmax (Nat.not_le.mpr hbad)
    · exact hbad hcrc

end Sys2Proof.Machine
end

section
/-! PROOFS. The command ring of a USB bus and its polls (R371 to R373). -/
namespace Sys2Proof.Machine

section
variable {s : State} {k : Nat}

/-! ### The command at the head of the ring (R373) -/

section
variable {d : Desc} {l : List Desc} (hcmds : (s.bus k).cmds = d :: l)
include hcmds

theorem State.endCommand_head (c : Nat) :
    s.endCommand k c = (s.setBus k { s.bus k with cmds := l, cmdBusy := false }).commandRecord k d c := by
  simp only [State.endCommand, hcmds]

theorem State.runCommand_otherType {type : Nat} (pick : Desc → Bool) (f : State → Nat × State) (htype : bits d.ctrl 13 8 ≠ type) :
    s.runCommand k type pick f = s := by
  have hnone : s.command k type = none := by simp [State.command, hcmds, htype]
  simp only [State.runCommand, hnone]

section
variable (hon : s.busOn k = true) (hhalt : (s.bus k).cmdHalt = false)
include hon hhalt

theorem State.command_head {type : Nat} (htype : bits d.ctrl 13 8 = type) : s.command k type = some d := by
  simp [State.command, hcmds, hon, hhalt, htype]

/-- A row for the command at the head acts, and its command leaves the ring with the status that the row gives. -/
theorem State.runCommand_head {type c : Nat} {t : State} {pick : Desc → Bool} {f : State → Nat × State}
    (hbusy : (s.bus k).cmdBusy = false) (htype : bits d.ctrl 13 8 = type) (hpick : pick d = true) (hf : f s = (c, t)) :
    s.runCommand k type pick f = t.endCommand k c := by
  simp only [State.runCommand, State.command_head hcmds hon hhalt htype, hpick, hbusy, Bool.not_false, Bool.and_self, if_true, hf]

theorem State.runCommand_otherSlot {type : Nat} {pick : Desc → Bool} (f : State → Nat × State) (htype : bits d.ctrl 13 8 = type)
    (hpick : pick d = false) : s.runCommand k type pick f = s := by
  simp only [State.runCommand, State.command_head hcmds hon hhalt htype, hpick, Bool.false_and, Bool.false_eq_true, if_false]
end
end

theorem onSlot_iff (e : Nat) (d : Desc) : onSlot e d = true ↔ bits d.ctrl 31 24 = e ∧ e ≠ 0 := by
  simp [onSlot]

section
variable {d : Desc} {l : List Desc} {e : Nat} (hcmds : (s.bus k).cmds = d :: l) (hon : s.busOn k = true)
  (hhalt : (s.bus k).cmdHalt = false) (hbusy : (s.bus k).cmdBusy = false) (hslot : onSlot e d = true)
include hcmds hon hhalt hbusy hslot

theorem exec_epConfig_head (htype : bits d.ctrl 13 8 = 0x10) (r : Bytes) :
    (s.epCheck k e r ≠ 1 → exec (.epConfig k e r) s = .next (s.endCommand k (s.epCheck k e r))) ∧
    (s.epCheck k e r = 1 → exec (.epConfig k e r) s = .next (((((((s.dropOut k e).setSlot k e (epSlot r)).put
      (USB_EP_STAT_STATE k e) 2).put (USB_EP_STAT_MODE k e) (leAt r 9 1 / 128)).put (USB_EP_STAT_ADDR k e) (leAt r 8 1)).put
        (USB_EP_STAT_EPNUM k e) (leAt r 9 1 % 16)).put (USB_EP_STAT_PORT k e) (leAt r 12 1 % 16) |>.endCommand k 1)) :=
  ⟨fun h => congrArg Host.Outcome.next (State.runCommand_head hcmds hon hhalt hbusy htype hslot (if_neg h)),
    fun h => congrArg Host.Outcome.next (State.runCommand_head hcmds hon hhalt hbusy htype hslot (if_pos h))⟩

theorem exec_epDisable_head (htype : bits d.ctrl 13 8 = 0x11) :
    (s.slotSt k e = 0 → exec (.epDisable k e) s = .next (s.endCommand k 0x0C)) ∧
    (s.slotSt k e ≠ 0 → exec (.epDisable k e) s =
      .next (((s.disableSlot k e 0x0A).put (USB_EP_STAT_ADDR k e) (s.get (USB_EP_STAT_ADDR k e))).endCommand k 1)) :=
  ⟨fun h => congrArg Host.Outcome.next (State.runCommand_head hcmds hon hhalt hbusy htype hslot (if_pos h)),
    fun h => congrArg Host.Outcome.next (State.runCommand_head hcmds hon hhalt hbusy htype hslot (if_neg h))⟩

theorem exec_epReset_head (htype : bits d.ctrl 13 8 = 0x12) :
    (s.slotSt k e ≠ 3 → exec (.epReset k e) s = .next (s.endCommand k 0x0C)) ∧
    (s.slotSt k e = 3 → exec (.epReset k e) s = .next (((s.put (USB_EP_STAT_STATE k e) 2).setSlot k e
      { s.slot k e with toggle := false, errs := 0, ping := false, split := false }).endCommand k 1)) :=
  ⟨fun h => congrArg Host.Outcome.next (State.runCommand_head hcmds hon hhalt hbusy htype hslot (if_neg h)),
    fun h => congrArg Host.Outcome.next (State.runCommand_head hcmds hon hhalt hbusy htype hslot (if_pos h))⟩

theorem exec_epStop_idle (htype : bits d.ctrl 13 8 = 0x13) (hst : s.slotSt k e ≠ 1) :
    exec (.epStop k e) s = .next (s.endCommand k 0x0C) :=
  congrArg Host.Outcome.next (State.runCommand_head hcmds hon hhalt hbusy htype hslot (if_neg hst))

theorem exec_epStop_running (htype : bits d.ctrl 13 8 = 0x13) (hst : s.slotSt k e = 1) :
    ((s.slot k e).q = [] → exec (.epStop k e) s = .next ((s.put (USB_EP_STAT_STATE k e) 2).endCommand k 1)) ∧
    (∀ x q, (s.slot k e).q = x :: q → 0 < (s.slot k e).moved → exec (.epStop k e) s =
      .next (((s.put (USB_EP_STAT_STATE k e) 2).transferRecord k e x ((s.slot k e).residual x) 0x0A).endCommand k 1)) := by
  refine ⟨fun hq => congrArg Host.Outcome.next (State.runCommand_head hcmds hon hhalt hbusy htype hslot ?_),
    fun x q hq hmoved => congrArg Host.Outcome.next (State.runCommand_head hcmds hon hhalt hbusy htype hslot ?_)⟩
  · simp only [if_pos hst, hq]
  · simp only [if_pos hst, hq, if_pos hmoved]

theorem exec_setDeq_head (htype : bits d.ctrl 13 8 = 0x14) :
    (s.slotSt k e = 0 ∨ s.slotSt k e = 1 → exec (.setDeq k e d.param) s = .next (s.endCommand k 0x0C)) ∧
    (s.slotSt k e = 2 ∨ s.slotSt k e = 3 → exec (.setDeq k e d.param) s = .next (let w := s.dropBuf k e; (w.setSlot k e { w.slot k e with
      deq := d.param / 16 * 16, cyc := bit d.param 0, fetching := false, q := [], moved := 0, begun := false }).endCommand k 1)) := by
  have hpick : (onSlot e d && d.param == d.param) = true := by rw [hslot, beq_self_eq_true]; rfl
  exact ⟨fun h => congrArg Host.Outcome.next (State.runCommand_head hcmds hon hhalt hbusy htype hpick (if_neg (by omega))),
    fun h => congrArg Host.Outcome.next (State.runCommand_head hcmds hon hhalt hbusy htype hpick (if_pos h))⟩

theorem exec_ttClear_head (htype : bits d.ctrl 13 8 = 0x1A) :
    (s.slotSt k e ≠ 0 → s.slotPort k e = bits d.ctrl 23 20 → (s.slot k e).ttHub = 0 →
      (s.slot k e).kind = 0 ∨ (s.slot k e).kind = 2 →
      exec (.ttClear k e (bits d.ctrl 23 20)) s = .next ((s.setSlot k e { s.slot k e with split := false }).endCommand k 1)) ∧
    (s.slotSt k e = 0 ∨ (s.slot k e).ttHub ≠ 0 → exec (.ttClear k e (bits d.ctrl 23 20)) s = .next (s.endCommand k 1)) := by
  have hpick : (onSlot e d && onPort (bits d.ctrl 23 20) d) = true := by rw [hslot, onPort, beq_self_eq_true]; rfl
  refine ⟨fun hst hport htt hkind =>
      congrArg Host.Outcome.next (State.runCommand_head hcmds hon hhalt hbusy htype hpick (if_pos ⟨hst, hport, htt, hkind⟩)),
    fun h => congrArg Host.Outcome.next (State.runCommand_head hcmds hon hhalt hbusy htype hpick (if_neg ?_))⟩
  rintro ⟨hst, -, htt, -⟩
  exact h.elim hst (fun h => h htt)
end

/-! ### An unknown TYPE (R372) -/

theorem typeKnown_command (t : Nat) : typeKnown true t = true ↔ 0x10 ≤ t ∧ t ≤ 0x1B := by
  simp [typeKnown]

theorem typeKnown_transfer (t : Nat) : typeKnown false t = true ↔ 1 ≤ t ∧ t ≤ 5 := by
  simp [typeKnown]

theorem exec_ringErr_command {d : Desc} {l : List Desc} (hon : s.busOn k = true) (hcmds : (s.bus k).cmds = d :: l)
    (hhalt : (s.bus k).cmdHalt = false) :
    exec (.ringErr k 0) s = .next (if typeKnown true (bits d.ctrl 13 8) then s
      else (s.setBus k { s.bus k with cmdHalt := true }).endCommand k 0x0F) := by
  change execRingErr k 0 s = _
  simp only [execRingErr, hon, Bool.not_true, Bool.false_eq_true, if_false, if_true, hcmds, hhalt, Bool.not_false, Bool.true_and]
  cases typeKnown true (bits d.ctrl 13 8) <;> rfl

theorem exec_ringErr_slot {e : Nat} {d : Desc} {l : List Desc} (hon : s.busOn k = true) (he : e ≠ 0) (hq : (s.slot k e).q = d :: l)
    (hst : s.slotSt k e = 1) (htype : typeKnown false (bits d.ctrl 13 8) = false) :
    exec (.ringErr k e) s = .next (s.haltSlot k e 0x0F) := by
  change execRingErr k e s = _
  simp only [execRingErr, hon, Bool.not_true, Bool.false_eq_true, if_false, if_neg he, hq, hst, beq_self_eq_true, htype, Bool.not_false,
    Bool.and_self, if_true]

/-! ### Descriptors in ring order (R372) -/

theorem takeDescs_nil (a : Nat) (c : Bool) : takeDescs a c [] = ([], a, c, false) := rfl

/-- Reading stops at a descriptor of the other cycle, follows a link, and takes any other descriptor. -/
theorem takeDescs_cons (a : Nat) (c : Bool) (x : Bytes) (l : List Bytes) :
    (bit (leAt x 12 4) 0 ≠ c → takeDescs a c (x :: l) = ([], a, c, true)) ∧
    (bit (leAt x 12 4) 0 = c → bits (leAt x 12 4) 13 8 ≠ 6 →
      takeDescs a c (x :: l) = ((toDesc a x :: (takeDescs (a + 16) c l).1), (takeDescs (a + 16) c l).2)) ∧
    (bit (leAt x 12 4) 0 = c → bits (leAt x 12 4) 13 8 = 6 →
      takeDescs a c (x :: l) = takeDescs (leAt x 0 8 / 16 * 16) (c != bit (leAt x 12 4) 1) l) := by
  have hctrl : (toDesc a x).ctrl = leAt x 12 4 := rfl
  rw [takeDescs]
  simp only [hctrl, bne_iff_ne]
  exact ⟨fun h => if_pos h, fun h htype => (if_neg (not_not.mpr h)).trans (if_neg htype),
    fun h htype => (if_neg (not_not.mpr h)).trans (if_pos htype)⟩

theorem exec_descriptorFetchDone_command {t : Nat} (l : List Bytes) (hon : s.busOn k = true) (haway : s.ringsAway = false)
    (hfetch : (s.bus k).cmdFetching = true) (htag : s.fetchTag k (s.bus k).cmdDeq = some t) :
    exec (.descriptorFetchDone k 0 l) s = .next (
      let r := takeDescs (s.bus k).cmdDeq (s.bus k).cmdCyc l
      let w := s.freeUp t
      let w := w.setBus k { w.bus k with cmds := (w.bus k).cmds ++ r.1, cmdDeq := r.2.1, cmdCyc := r.2.2.1, cmdFetching := false }
      if r.2.2.2 = true ∨ l = [] ∨ w.ringFull k = true then w else w.ringCommand k) := by
  change execDescriptorFetchDone k 0 l s = _
  simp only [execDescriptorFetchDone, hon, haway, Bool.not_true, Bool.or_self, Bool.false_eq_true, if_false, if_true, hfetch, htag,
    Bool.or_eq_true, List.isEmpty_iff, or_assoc]

theorem exec_descriptorFetchDone_idle (l : List Bytes) (hfetch : (s.bus k).cmdFetching = false) :
    exec (.descriptorFetchDone k 0 l) s = .next s := by
  change execDescriptorFetchDone k 0 l s = _
  simp only [execDescriptorFetchDone, hfetch, if_true, ite_self]

/-! ### The poll (R371) -/

/-- The state in which a poll reads the driver's array: the frame index has moved unless the bus polls slowly. -/
def State.polled (s : State) (k : Nat) : State :=
  let u := s.setBus k { s.bus k with told := false }
  if s.slowPoll k then u else u.put (USB_BUS_STAT_FRINDEX k) (u.get (USB_BUS_STAT_FRINDEX k) + 1)

theorem State.get_polled (s : State) {f : Fld} (hf : f.key ≠ (USB_BUS_STAT_FRINDEX k).key) : (s.polled k).get f = s.get f := by
  unfold State.polled
  split
  · rfl
  · exact State.get_put_other _ _ _ _ hf

theorem State.pasid_isSome (s : State) (sl : Nat) : (s.pasid sl).isSome = s.bound sl := by
  unfold State.pasid
  cases s.bound sl <;> rfl

/-- The frame index decides neither where the rings are nor whether the bus's slice is bound. -/
theorem State.polled_reads (s : State) (k : Nat) : (s.polled k).ringsAway = s.ringsAway ∧
    ((s.polled k).pasid ((s.polled k).busSlice k)).isSome = (s.pasid (s.busSlice k)).isSome := by
  have hisl : (s.polled k).get GLB_HUB_STAT_ISLAND = s.get GLB_HUB_STAT_ISLAND :=
    s.get_polled (by simp only [Fld.key, GLB_HUB_STAT_ISLAND, USB_BUS_STAT_FRINDEX]; omega)
  have hrole : (s.polled k).get GLB_HUB_STAT_ROLE = s.get GLB_HUB_STAT_ROLE :=
    s.get_polled (by simp only [Fld.key, GLB_HUB_STAT_ROLE, USB_BUS_STAT_FRINDEX]; omega)
  have hslice : (s.polled k).get (USB_BUS_CFG_SLICE k) = s.get (USB_BUS_CFG_SLICE k) :=
    s.get_polled (by simp only [Fld.key, USB_BUS_CFG_SLICE, USB_BUS_STAT_FRINDEX]; omega)
  have hbound (sl : Nat) : (s.polled k).get (SLC_BIND_BOUND sl) = s.get (SLC_BIND_BOUND sl) :=
    s.get_polled (by simp only [Fld.key, SLC_BIND_BOUND, USB_BUS_STAT_FRINDEX]; omega)
  simp only [State.ringsAway, State.islanded, State.dock, State.is, hisl, hrole, State.pasid_isSome, State.busSlice, hslice, State.bound,
    hbound, and_self]

theorem exec_doorbellPoll_on (a : Bytes) (hon : s.busOn k = true) :
    exec (.doorbellPoll k a) s = .next (
      let reads := !s.ringsAway && (s.pasid (s.busSlice k)).isSome
      let u := s.polled k
      let w := (if reads then u.setBus k { u.bus k with cons := leAt a 256 4 % u.get (USB_EVR_SIZE_SIZE k) } else u).writeRecords k
      if !reads || w.ringFull k then w
      else ((List.range (if s.slowPoll k then 1 else 256)).filter (fun e => leAt a e 1 != assocGet 0 (w.bus k).db e)).foldl
        (fun u e => let v := u.setBus k { u.bus k with db := assocSet 0 e (leAt a e 1) (u.bus k).db };
          if e = 0 then v.ringCommand k else v.ringSlot k e) w) := by
  obtain ⟨haway, hpasid⟩ := s.polled_reads k
  rw [← haway, ← hpasid]
  exact congrArg Host.Outcome.next (if_pos hon)

theorem State.ringCommand_fetches (hfetch : (s.bus k).cmdFetching = false) (hhalt : (s.bus k).cmdHalt = false) :
    s.ringCommand k = (s.setBus k { s.bus k with cmdFetching := true }).fetchFrom k (s.bus k).cmdDeq :=
  if_neg (by rw [hfetch, hhalt]; exact Bool.false_ne_true)
end

/-- Settles O54. -/
theorem usbRingRows : Obligations.UsbRingRows := by
  intro s k hon b
  refine ⟨?head, ?slotErr, fun d l c hcmds => State.endCommand_head hcmds c, takeDescs_nil, fun a c x l => (takeDescs_cons a c x l).1,
    fun a c x l => (takeDescs_cons a c x l).2.1, fun a c x l => (takeDescs_cons a c x l).2.2, ?fetched,
    fun hfetch l => exec_descriptorFetchDone_idle l hfetch, ?poll, rfl, State.ringCommand_fetches⟩
  case head =>
    intro d l hcmds hhalt hbusy type e p st u
    have hslot (he : e ≠ 0) : onSlot e d = true := (onSlot_iff e d).mpr ⟨rfl, he⟩
    refine ⟨fun ht he r => exec_epConfig_head hcmds hon hhalt hbusy (hslot he) ht r,
      fun ht he => exec_epDisable_head hcmds hon hhalt hbusy (hslot he) ht,
      fun ht he => exec_epReset_head hcmds hon hhalt hbusy (hslot he) ht, fun ht he => ?stop,
      fun ht he => exec_setDeq_head hcmds hon hhalt hbusy (hslot he) ht,
      fun ht he => exec_ttClear_head hcmds hon hhalt hbusy (hslot he) ht,
      fun ht e r => congrArg Host.Outcome.next (State.runCommand_otherType hcmds _ _ ht),
      fun ht e => congrArg Host.Outcome.next (State.runCommand_otherType hcmds _ _ ht), fun ht e' he' => ?other, ?unknown, ?known⟩
    case stop =>
      refine ⟨exec_epStop_idle hcmds hon hhalt hbusy (hslot he) ht,
        fun hst => (exec_epStop_running hcmds hon hhalt hbusy (hslot he) ht hst).1,
        fun x q hst => (exec_epStop_running hcmds hon hhalt hbusy (hslot he) ht hst).2 x q⟩
    case other =>
      have hpick : onSlot e' d = false := by
        rw [← Bool.not_eq_true, onSlot_iff]
        exact fun h => he' h.1.symm
      exact congrArg Host.Outcome.next (State.runCommand_otherSlot hcmds hon hhalt _ ht hpick)
    case unknown =>
      intro ht
      rw [exec_ringErr_command hon hcmds hhalt, if_neg]
      rw [typeKnown_command]
      omega
    case known =>
      intro hlo hhi
      rw [exec_ringErr_command hon hcmds hhalt, if_pos ((typeKnown_command _).mpr ⟨hlo, hhi⟩)]
  case slotErr =>
    intro e d l he hq hst htype
    refine exec_ringErr_slot hon he hq hst ?_
    rw [← Bool.not_eq_true, typeKnown_transfer]
    omega
  case fetched => exact fun t l haway hfetch htag => ⟨_, exec_descriptorFetchDone_command l hon haway hfetch htag, rfl⟩
  case poll =>
    intro a u₀ u
    have hrow := exec_doorbellPoll_on a hon
    refine ⟨fun h => ?_, fun pid haway hpid => ?_⟩
    · have hreads : (!s.ringsAway && (s.pasid (s.busSlice k)).isSome) = false := by
        rcases h with h | h <;> simp [h]
      simp only [hreads, Bool.false_eq_true, if_false, Bool.not_false, Bool.true_or, if_true] at hrow
      exact hrow
    · have hreads : (!s.ringsAway && (s.pasid (s.busSlice k)).isSome) = true := by simp [haway, hpid]
      simp only [hreads, if_true, Bool.not_true, Bool.false_or] at hrow
      exact hrow

end Sys2Proof.Machine
end

section
/-! PROOFS. The ports and the transactions of a USB bus (R370, R377 to R384). -/
namespace Sys2Proof.Machine

section
variable {s : State} {k : Nat}

/-! ### Port and bus commands (R382 to R384) -/

/-- The guard of a port's command whose row names the head's port. -/
theorem portGuard (d : Desc) (hbusy : (s.bus k).cmdBusy = false) : (onPort (bits d.ctrl 23 20) d && !(s.bus k).cmdBusy) = true := by
  rw [onPort, beq_self_eq_true, hbusy]
  rfl

section
variable {d : Desc} {l : List Desc} (hcmds : (s.bus k).cmds = d :: l) (hon : s.busOn k = true)
  (hhalt : (s.bus k).cmdHalt = false) (hbusy : (s.bus k).cmdBusy = false)
include hcmds hon hhalt hbusy

theorem exec_portReset_head (htype : bits d.ctrl 13 8 = 0x15) :
    exec (.portReset k (bits d.ctrl 23 20)) s = .next (
      if s.portBit k (bits d.ctrl 23 20) 0 then (s.startReset k (bits d.ctrl 23 20)).holdCommand k else s.endCommand k 0x0C) := by
  change execPortReset k _ s = _
  simp only [execPortReset, State.command_head hcmds hon hhalt htype]
  rw [if_pos (portGuard d hbusy)]

theorem exec_busReset_head (htype : bits d.ctrl 13 8 = 0x1B) :
    exec (.busReset k) s = .next (
      if ((List.range 16).filter (fun p => s.portBit k p 0)).isEmpty then s.endCommand k 1
      else (((List.range 16).filter (fun p => s.portBit k p 0)).foldl (fun s p => s.startReset k p) s).holdCommand k) := by
  change execBusReset k s = _
  simp only [execBusReset, State.command_head hcmds hon hhalt htype, hbusy, Bool.false_eq_true, if_false]

theorem exec_portSuspend_head (htype : bits d.ctrl 13 8 = 0x16) :
    (s.portBit k (bits d.ctrl 23 20) 1 = true → s.portBit k (bits d.ctrl 23 20) 2 = false →
      exec (.portSuspend k (bits d.ctrl 23 20)) s = .next ((s.suspend k [bits d.ctrl 23 20]).endCommand k 1)) ∧
    (s.portBit k (bits d.ctrl 23 20) 1 = false ∨ s.portBit k (bits d.ctrl 23 20) 2 = true →
      exec (.portSuspend k (bits d.ctrl 23 20)) s = .next (s.endCommand k 0x0C)) := by
  have hpick : onPort (bits d.ctrl 23 20) d = true := beq_self_eq_true _
  refine ⟨fun hen hsusp => congrArg Host.Outcome.next (State.runCommand_head hcmds hon hhalt hbusy htype hpick (if_pos ?_)),
    fun h => congrArg Host.Outcome.next (State.runCommand_head hcmds hon hhalt hbusy htype hpick (if_neg ?_))⟩
  · rw [hen, hsusp]
    rfl
  · rcases h with h | h <;> simp [h]

theorem exec_busSuspend_head (htype : bits d.ctrl 13 8 = 0x18) :
    (s.is (USB_BUS_STAT_SUSP k) = true → exec (.busSuspend k) s = .next (s.endCommand k 0x0C)) ∧
    (s.is (USB_BUS_STAT_SUSP k) = false → exec (.busSuspend k) s = .next (
      let ps := (List.range 16).filter (fun p => s.portBit k p 1 && !s.portBit k p 2);
      let u := (s.suspend k ps).put (USB_BUS_STAT_RUN k) 0;
      ((u.setBus k { u.bus k with byBus := ps.foldl (fun m p => setBit m p true) 0 }).put (USB_BUS_STAT_SUSP k) 1).endCommand k 1)) :=
  ⟨fun h => congrArg Host.Outcome.next (State.runCommand_head hcmds hon hhalt hbusy htype rfl (if_pos h)),
    fun h => congrArg Host.Outcome.next (State.runCommand_head hcmds hon hhalt hbusy htype rfl
      (if_neg (by rw [h]; exact Bool.false_ne_true)))⟩

theorem exec_portResume_head (htype : bits d.ctrl 13 8 = 0x17) (hidle : s.resuming k (bits d.ctrl 23 20) = false) :
    exec (.portResume k (bits d.ctrl 23 20)) s = .next (
      if s.portBit k (bits d.ctrl 23 20) 2 then (s.driveResume k true [bits d.ctrl 23 20]).holdCommand k
      else s.endCommand k 0x0C) := by
  change execPortResume k _ s = _
  simp only [execPortResume, State.command_head hcmds hon hhalt htype]
  rw [if_pos (portGuard d hbusy), if_neg (by rw [hidle]; exact Bool.false_ne_true)]

theorem exec_busResume_head (htype : bits d.ctrl 13 8 = 0x19) :
    (s.is (USB_BUS_STAT_SUSP k) = false → exec (.busResume k) s = .next (s.endCommand k 0x0C)) ∧
    (s.is (USB_BUS_STAT_SUSP k) = true → bitList (s.bus k).byBus 16 = [] →
      exec (.busResume k) s = .next (((s.put (USB_BUS_STAT_SUSP k) 0).put (USB_BUS_STAT_RUN k) 1).endCommand k 1)) ∧
    (s.is (USB_BUS_STAT_SUSP k) = true → bitList (s.bus k).byBus 16 ≠ [] → (bitList (s.bus k).byBus 16).any (s.resuming k) = false →
      exec (.busResume k) s = .next ((s.driveResume k true (bitList (s.bus k).byBus 16)).holdCommand k)) := by
  change (_ → execBusResume k s = _) ∧ (_ → _ → execBusResume k s = _) ∧ (_ → _ → _ → execBusResume k s = _)
  simp only [execBusResume, State.command_head hcmds hon hhalt htype, hbusy, Bool.false_eq_true, if_false]
  refine ⟨fun hrun => ?_, fun hsusp hnone => ?_, fun hsusp hsome hidle => ?_⟩
  · rw [if_pos (by rw [hrun]; rfl)]
  · rw [if_neg (by rw [hsusp]; exact Bool.false_ne_true), hnone]
    rfl
  · rw [if_neg (by rw [hsusp]; exact Bool.false_ne_true), if_neg (by rw [hidle]; exact Bool.false_ne_true),
      if_neg (by rw [List.isEmpty_eq_false_iff.mpr hsome]; exact Bool.false_ne_true)]
end

/-! ### What happens at a port (R370, R382 to R384) -/

section
variable {p : Nat} (hon : s.busOn k = true) (hp : p < 16)
include hon hp

/-- A row of a port acts when its own condition holds, and does nothing otherwise. -/
theorem portRow {c : Bool} (t : State) :
    (c = true → (if (s.busOn k && decide (p < 16) && c) = true then t else s) = t) ∧
    (c = false → (if (s.busOn k && decide (p < 16) && c) = true then t else s) = s) := by
  rw [hon, decide_eq_true hp]
  exact ⟨fun h => if_pos h, fun h => if_neg (by rw [h]; exact Bool.false_ne_true)⟩

theorem exec_remoteWake_wakes (hsusp : s.portBit k p 2 = true) (hrun : s.is (USB_BUS_STAT_SUSP k) = false)
    (hidle : s.resuming k p = false) : exec (.remoteWake k p) s = .next ((s.setPort k p 21 true).driveResume k false [p]) := by
  have hkey : (USB_BUS_STAT_SUSP k).key ≠ (USB_PORTSC_STATUS k p).key := by
    simp only [Fld.key, USB_BUS_STAT_SUSP, USB_PORTSC_STATUS]
    omega
  have hrun' : (s.setPort k p 21 true).is (USB_BUS_STAT_SUSP k) = false := by
    rw [State.is, State.setPort, State.get_put_other _ _ _ _ hkey]
    exact hrun
  have hidle' : ¬(s.setPort k p 21 true).resuming k p = true := fun h => Bool.false_ne_true (hidle.symm.trans h)
  refine congrArg Host.Outcome.next (((portRow hon hp _).1 hsusp).trans ((if_neg hidle').trans (if_neg ?_)))
  rw [hrun']
  exact Bool.false_ne_true

theorem exec_usbConnectChange_connects (v : Nat) (hpower : s.portBit k p 5 = true) (hempty : s.portBit k p 0 = false) :
    exec (.usbConnectChange k p true v) s = .next (((s.setPort k p 0 true).portSpeed k p v).setPort k p 16 true) :=
  congrArg Host.Outcome.next (((portRow hon hp _).1 hpower).trans ((if_pos rfl).trans
    (if_neg (by rw [hempty]; exact Bool.false_ne_true))))
end

/-! ### Transactions (R377 to R380) -/

section
variable {e : Nat} (hon : s.busOn k = true) (hen : s.portBit k (s.slotPort k e) 1 = true)
  (hsusp : s.portBit k (s.slotPort k e) 2 = false) (hreset : s.portBit k (s.slotPort k e) 4 = false) (hst : s.slotSt k e = 1)

section
include hon hen hsusp hreset hst

theorem exec_usbTransactionResult_bad (hbad : (s.slot k e).bad = true) (r : UsbResult) :
    exec (.usbTransactionResult k e r) s = .next (((s.setSlot k e { s.slot k e with bad := false }).endDesc k e 9).askOut k e) := by
  have hguard : (s.busOn k && s.portBit k (s.slotPort k e) 1 && !s.portBit k (s.slotPort k e) 2 &&
      !s.portBit k (s.slotPort k e) 4) = true := by rw [hon, hen, hsusp, hreset]; rfl
  have hslot : (s.slotSt k e == 1 && (s.slot k e).bad) = true := by rw [hst, hbad]; rfl
  exact congrArg Host.Outcome.next ((if_pos hguard).trans (if_pos hslot))

theorem exec_usbTransactionResult_busy (hbad : (s.slot k e).bad = false) (hbusy : s.slotBusy k e = true) (r : UsbResult) :
    exec (.usbTransactionResult k e r) s = .next ((s.usbResult k e r).askOut k e) := by
  have hguard : (s.busOn k && s.portBit k (s.slotPort k e) 1 && !s.portBit k (s.slotPort k e) 2 &&
      !s.portBit k (s.slotPort k e) 4) = true := by rw [hon, hen, hsusp, hreset]; rfl
  have hsound : ¬(s.slotSt k e == 1 && (s.slot k e).bad) = true := by rw [hbad, Bool.and_false]; exact Bool.false_ne_true
  have hslot : (s.slotSt k e == 1 && s.slotBusy k e) = true := by rw [hst, hbusy]; rfl
  exact congrArg Host.Outcome.next ((if_pos hguard).trans ((if_neg hsound).trans (if_pos hslot)))
end

theorem exec_usbTransactionResult_off (r : UsbResult) (hoff : s.portBit k (s.slotPort k e) 1 = false) :
    exec (.usbTransactionResult k e r) s = .next s :=
  congrArg Host.Outcome.next (if_neg (by rw [hoff, Bool.and_false]; exact Bool.false_ne_true))

/-- What each result does to a slot whose transaction is under way. -/
theorem State.usbResult_in (s : State) (k e : Nat) (d : Bytes) (sh : Bool) :
    (s.slotIn k e = true → s.inHeld k e d.length = false → (s.bus k).inj = false →
      s.usbResult k e (.inData d sh) = s.dataIn k e d (sh || decide (d.length < (s.slot k e).mps))) ∧
    (s.slotIn k e = true → s.inHeld k e d.length = false → (s.bus k).inj = true →
      s.usbResult k e (.inData d sh) = (s.setBus k { s.bus k with inj := false }).usbError k e) ∧
    (s.slotIn k e = false ∨ s.inHeld k e d.length = true → s.usbResult k e (.inData d sh) = s) := by
  simp only [State.usbResult]
  refine ⟨fun hin hheld hinj => ?_, fun hin hheld hinj => ?_, fun h => if_pos (by rcases h with h | h <;> simp [h])⟩
  · rw [hin, hheld, if_neg (by exact Bool.false_ne_true), if_neg (by rw [hinj]; exact Bool.false_ne_true)]
  · rw [hin, hheld, if_neg (by exact Bool.false_ne_true), if_pos hinj]

theorem State.usbResult_ack (s : State) (k e : Nat) :
    (s.outReady k e = true → s.usbResult k e .ack = s.dataOut k e false) ∧ (s.outReady k e = false → s.usbResult k e .ack = s) :=
  ⟨fun h => if_pos h, fun h => if_neg (by rw [h]; exact Bool.false_ne_true)⟩

/-- An error is counted, and the third in a row halts a slot that is not isochronous. -/
theorem State.usbError_spec (s : State) (k e : Nat) (hkind : (s.slot k e).kind ≠ 1) :
    ((s.slot k e).errs < 2 → s.usbError k e =
      (s.bump (USB_CNT_COUNT k 0)).setSlot k e { s.slot k e with errs := (s.slot k e).errs + 1, split := false }) ∧
    (2 ≤ (s.slot k e).errs → s.usbError k e = ((s.bump (USB_CNT_COUNT k 0)).haltSlot k e 4).detect 0x37 k) := by
  have herror : s.usbError k e = _ := if_neg hkind
  rw [herror]
  exact ⟨fun h => if_neg (by omega), fun h => if_pos (by omega)⟩

theorem State.haltSlot_queued {d : Desc} {q : List Desc} (e c : Nat) (hq : (s.slot k e).q = d :: q) : s.haltSlot k e c = (
    let w := ((s.put (USB_EP_STAT_STATE k e) 3).transferRecord k e d ((s.slot k e).residual d) c).dropBuf k e;
    (w.setSlot k e { w.slot k e with
      q := (w.slot k e).q.drop 1, moved := 0, begun := false, gather := [], errs := 0, split := false }).raise 0x0C03 (k * 256 + e)) := by
  simp only [State.haltSlot, hq]
end
end

/-- Settles O55. -/
theorem usbPortRows : Obligations.UsbPortRows := by
  intro s k hon b
  refine ⟨?commands, ?ports, ?transactions, fun e r => exec_usbTransactionResult_off r, fun e c d q => State.haltSlot_queued e c⟩
  case commands =>
    intro d l hcmds hhalt hbusy type p
    refine ⟨fun ht => ?reset, fun ht => ?busReset, exec_portSuspend_head hcmds hon hhalt hbusy,
      exec_busSuspend_head hcmds hon hhalt hbusy, fun ht hidle => ?resume, exec_busResume_head hcmds hon hhalt hbusy⟩
    case reset =>
      rw [exec_portReset_head hcmds hon hhalt hbusy ht]
      exact ⟨fun h => congrArg Host.Outcome.next (if_pos h), fun h => congrArg Host.Outcome.next (if_neg (by rw [h]; exact Bool.false_ne_true))⟩
    case busReset =>
      rw [exec_busReset_head hcmds hon hhalt hbusy ht]
      exact ⟨fun h => congrArg Host.Outcome.next (if_pos (List.isEmpty_iff.mpr h)),
        fun h => congrArg Host.Outcome.next (if_neg (fun h' => h (List.isEmpty_iff.mp h')))⟩
    case resume =>
      rw [exec_portResume_head hcmds hon hhalt hbusy ht hidle]
      exact ⟨fun h => congrArg Host.Outcome.next (if_pos h), fun h => congrArg Host.Outcome.next (if_neg (by rw [h]; exact Bool.false_ne_true))⟩
  case ports =>
    intro p v hp
    exact ⟨fun h => congrArg Host.Outcome.next ((portRow hon hp _).1 h), fun h => congrArg Host.Outcome.next ((portRow hon hp _).2 h),
      fun h => congrArg Host.Outcome.next ((portRow hon hp _).1 h), fun h => congrArg Host.Outcome.next ((portRow hon hp _).2 h),
      fun h => congrArg Host.Outcome.next ((portRow hon hp _).2 h), fun h => congrArg Host.Outcome.next ((portRow hon hp _).1 h),
      fun h => congrArg Host.Outcome.next ((portRow hon hp _).2 h), exec_remoteWake_wakes hon hp, exec_usbConnectChange_connects hon hp v,
      fun h => congrArg Host.Outcome.next ((portRow hon hp _).1 h), fun h c => congrArg Host.Outcome.next ((portRow hon hp _).2 h)⟩
  case transactions =>
    intro e p u hen hsusp hreset hst
    refine ⟨exec_usbTransactionResult_bad hon hen hsusp hreset hst, fun hbad hbusy => ?_⟩
    have hrow (r : UsbResult) := exec_usbTransactionResult_busy hon hen hsusp hreset hst hbad hbusy r
    have hresult {r : UsbResult} {t : State} (h : s.usbResult k e r = t) :
        exec (.usbTransactionResult k e r) s = .next (t.askOut k e) := by rw [hrow, h]
    exact ⟨hrow .stall, fun h => hresult ((s.usbResult_ack k e).1 h), fun h => hresult ((s.usbResult_ack k e).2 h),
      fun d sh hin hheld hinj => hresult ((s.usbResult_in k e d sh).1 hin hheld hinj),
      fun d sh hin hheld hinj => hresult ((s.usbResult_in k e d sh).2.1 hin hheld hinj),
      fun d sh h => hresult ((s.usbResult_in k e d sh).2.2 h), hrow .nak,
      fun hkind h => hresult ((s.usbError_spec k e hkind).1 h), fun hkind h => hresult ((s.usbError_spec k e hkind).2 h), hrow .babble⟩

end Sys2Proof.Machine
end
